-- ==== Sys2Proof/Word.lean ====
section
/-! DEFINITION. The word types of the model and nothing else: a byte, a byte string, a 32-bit register word and a
64-bit word. Byte order and field extraction stand in Sys2Proof/Machine/Bytes.lean. -/

namespace Sys2Proof

/-- One byte of a memory structure, a flit or a message. -/
abbrev Byte := BitVec 8

/-- A byte string, lowest offset first (00 R12: structures are described by byte offset). -/
abbrev Bytes := List Byte

/-- A register word of the control port (17 R410). -/
abbrev Word := BitVec 32

/-- A 64-bit word: a virtual address, a counter, a descriptor word. -/
abbrev DWord := BitVec 64

end Sys2Proof
end

