-- ==== Sys2Proof/Syntax.lean ====
section
/-! DEFINITION. The commands of the block: one constructor of `Instr` for each row of the table of operations and
events, with the operands the surroundings give it, and the small types those operands are made of. -/

namespace Sys2Proof

/-- The three slices of one block (01 R14): shore, engine and hold. -/
inductive Slice where
  | sh | en | hd
  deriving DecidableEq, Repr, Inhabited

/-- The three slice links (01 R15). -/
inductive Link where
  | slA | slB | slC
  deriving DecidableEq, Repr, Inhabited

/-- The path by which a register access reaches the block (17 R410): the control port, BAR0 through H0 or H1, or a
firmware core. -/
inductive Path where
  | cp
  | bar0 (n : Fin 2)
  | core (c : Fin 7)
  deriving DecidableEq, Repr, Inhabited

/-- What reading a structure in device memory gave: its bytes, a poisoned line, an error answer of the memory port, or
no answer within the limit of 02 R44. Device memory lies outside the block, so the bytes come with the command; those of a poisoned
line mean nothing. (DEDUCED, log 73) -/
inductive ReadResult where
  | ok (b : Bytes)
  | poison (b : Bytes)
  | busError
  | timeout
  deriving DecidableEq, Repr, Inhabited

/-- One entry of the command ring as the scheduler core read it: the fields of the ring entry of 05 whose crc has
passed. `payload` is the 52 bytes from entry offset 0x08. -/
structure CmdEntry where
  seq     : BitVec 32
  length  : BitVec 16
  payload : Bytes
  deriving DecidableEq, Repr, Inhabited

/-- How reading a command entry failed, or that it was read whole with an opcode of no command (05 R111). -/
inductive EntryRead where
  | good (length : BitVec 16) (payload : Bytes)
  | crcFail
  | poison
  | busError
  | timeout
  deriving DecidableEq, Repr, Inhabited

/-- The request signals of an engine port (02, engine port signals) other than the operation. -/
structure EngineReq where
  tag    : BitVec 8
  stream : BitVec 8
  va     : BitVec 57
  len    : BitVec 9
  sem    : BitVec 2
  scope  : BitVec 3
  deriving DecidableEq, Repr, Inhabited

/-- MetaField and MetaValue of a host CXL.mem request (14 R340). -/
inductive MetaValue where
  | a | s | i | noOp
  deriving DecidableEq, Repr, Inhabited

/-- BIRsp kinds (14 R355). -/
inductive BiRsp where
  | i | s | e
  deriving DecidableEq, Repr, Inhabited

/-- IDE stream kinds a KEY_PROG may name (15 R366): the two supported ones of each host port, and any other. -/
inductive IdeStream where
  | cxlIo | cxlCacheMem | other
  deriving DecidableEq, Repr, Inhabited

/-- TAP instructions (02 R54). `instrument k` reads or writes instrument k of the 1687 network; `testReset` is trst_n low, or the
Test-Logic-Reset state. -/
inductive TapInstr where
  | bypass | idcode | samplePreload | extest | testReset
  | instrument (k : Nat) (write : Bool) (value : BitVec 32)
  deriving DecidableEq, Repr, Inhabited

/-- Units that failed self-test, one mask per kind (05 R100, 16 R397, 17 R416). Bits 2 l and 2 l + 1 of `linkEnds` are the two ends of
slice link l, in the order SL-A at SH and HD, SL-B at EN and HD, SL-C at EN and SH. -/
structure UnitSet where
  channels  : BitVec 64
  cells     : BitVec 32
  walkers   : BitVec 32
  lanes     : BitVec 32
  engine    : BitVec 8
  host      : BitVec 2
  peer      : BitVec 4
  memory    : BitVec 4
  cores     : BitVec 7
  monitors  : BitVec 48
  banks     : BitVec 64
  identity  : Bool
  linkEnds  : BitVec 6
  deriving DecidableEq, Repr, Inhabited

/-- A unit of the block, as clock gating (03 R62) and runtime mode changes (05 R117) name units. -/
inductive UnitRef where
  | channel (c : Fin 64)
  | walker (w : Fin 32)
  | cell (n : Fin 32)
  | lane (n : Fin 32)
  | core (c : Fin 7)
  | enginePort (n : Fin 8)
  | hold
  | supply (sl : Slice)
  | clockUnit (sl : Slice)
  deriving DecidableEq, Repr, Inhabited

/-- A function that STOP and ABORT act on and that reports DISABLED when they complete (06 R140, R144). -/
inductive DisableTarget where
  | queue (q : Fin 4096)
  | channel (c : Fin 64)
  | part (p : Fin 16)
  deriving DecidableEq, Repr, Inhabited

/-- Who waits on a tidemark or on journal room (06 R148, 09 R220, 13 R319): a channel's descriptor or an engine request. -/
inductive Waiter where
  | channel (c : Fin 64)
  | engine (e : Fin 8) (tag : BitVec 8)
  deriving DecidableEq, Repr, Inhabited

/-- Where credits arrive (02 R28): a peer port's four class counts, one host-port flit credit, one group credit. -/
inductive CreditSource where
  | peer (p : Fin 4) (counts : BitVec 16)
  | host (n : Fin 2)
  | link (l : Link) (at_ : Slice)
  deriving DecidableEq, Repr, Inhabited

/-- What a translation check of one page found (15 R373): the page's VA, and the leaf that maps it if it translates. -/
structure LeafView where
  va : BitVec 64
  pa : Option (BitVec 60)
  rd : Bool
  deriving DecidableEq, Repr, Inhabited

/-- The commands of the block, one constructor per row of the table of operations and events. -/
inductive Instr where
  /-- POR_N_ASSERT (R73): Cold reset is asserted asynchronously at a slice, which is held in reset with every output idle. -/
  | porNAssert (sl : Slice)
  /-- POR_N_RELEASE (R97): Cold reset is released at a slice; dividers align and a cold start begins at step 1. -/
  | porNRelease (sl : Slice)
  /-- WRST_N_ASSERT (R57): Warm reset is asserted; accepted engine requests end ABORTED, memory ports issue nothing new, and host traffic is held. -/
  | wrstNAssert (sl : Slice)
  /-- WRST_N_RELEASE (R97): Warm reset is released and a warm start runs the steps not marked Skip or Kept. -/
  | wrstNRelease (sl : Slice)
  /-- FUSE_READ (R49): The fuse input is sampled at the first CTRL edge with fuse_valid high after por_n release. -/
  | fuseRead (uds : BitVec 256) (keyHash : BitVec 384) (policy : BitVec 16)
  /-- FUSE_TIMEOUT (R49): fuse_valid is still low 1 ms after por_n release; the start stops with failure 0x01. -/
  | fuseTimeout
  /-- SLICE_LINK_BRING_UP (R56): The far end answers the slice-link bring-up handshake with slx_phy_up high, and the link starts carrying groups. -/
  | sliceLinkBringUp (l : Link)
  /-- SLICE_LINK_BRING_UP_TIMEOUT (R56): A far end has not answered within 20 ms; a slice-link failure is reported and the cold start does not complete. -/
  | sliceLinkBringUpTimeout (l : Link)
  /-- SELF_TEST_COMPLETE (R100): Self-test of all three slices ends; failed units are fenced, or the start stops on an essential unit. -/
  | selfTestComplete (failed : UnitSet)
  /-- HOLD_INITIALISATION (R97): Every hold word is written with zero and its check bits, and the tide counters are zeroed. -/
  | holdInitialisation
  /-- DEVICEID_DERIVATION (R358): The identity engine derives CDI_dev and the DeviceID key pair from the UDS and the boot ROM digest. -/
  | deviceidDerivation
  /-- PORT_READINESS (R97): hn_ready_out and pn_ready_out are raised for the ports that the chart enables, once their links are trained. -/
  | portReadiness
  /-- PEER_KEY_SETUP_COMPLETE (R364): Step 9 ends when every enabled peer port is keyed or FAILED. -/
  | peerKeySetupComplete
  /-- ALIAS_KEY_DERIVATION (R358): The alias key is derived from the new measurements and the alias certificate is issued. -/
  | aliasKeyDerivation (chain : ReadResult)
  /-- SEC_READY (R105): SEC firmware reports ready, and PWR, HARBOUR and the CTL cores are released together. -/
  | secReady
  /-- START_INVALIDATION (R97): Step 14 invalidates every translation cache, the walk cache and the walkers. -/
  | startInvalidation
  /-- START_STATE_RESET (R97): Step 15 resets the queue table, channels, combine slots and engine-port tags. -/
  | startStateReset
  /-- QUEUE_STATE_RECOVERY (R125): At step 16 of a warm start, queue entries are restored from a valid save area, or failure 0x06 is set. -/
  | queueStateRecovery (area : ReadResult)
  /-- SUPPLY_WARN_RISE (R69): supply_warn rises; within 4 root cycles the slice's CORE and STORE phases are stretched into ebb. -/
  | supplyWarnRise (sl : Slice)
  /-- SUPPLY_WARN_FALL (R69): supply_warn falls and the 1,024 cc ebb exit count begins. -/
  | supplyWarnFall (sl : Slice)
  /-- EBB_EXIT (R69): The exit count completes and the slice returns to its non-ebb divisions at the next CORE phase boundary. -/
  | ebbExit (sl : Slice)
  /-- SUPPLY_ACK (R51): supply_ack rises with the new supply_req code in force, completing a supply step. -/
  | supplyAck (sl : Slice)
  /-- SUPPLY_ACK_TIMEOUT (R51): No supply_ack within 100 µs; the previous code is restored and the event is logged. -/
  | supplyAckTimeout (sl : Slice)
  /-- STACK_TEMPERATURE_CODE (R52): A new stack temperature code is taken after two agreeing samples and the throttle state is re-evaluated. -/
  | stackTemperatureCode (t : Fin 4) (code : Byte)
  /-- STACK_STALE_TIMEOUT (R52): A stack shows 0x00 or an unchanged code for more than 8 ms and is treated as above TH_HI. -/
  | stackStaleTimeout (t : Fin 4)
  /-- CLOCK_LOST (R58): CROSS_TIMEOUT passes without a heartbeat edge; the crossing raises CLOCK_LOST, drops the transfer and idles its outputs. -/
  | clockLost (sl : Slice) (crossing : Fin 9)
  /-- UNIT_CLOCK_GATE (R62): A unit idle for 16 consecutive cycles of its clock is gated. -/
  | unitClockGate (u : UnitRef)
  /-- HOST_LINK_UP (R30): hn_link_up rises and the host port returns to service from its post-reset state. -/
  | hostLinkUp (n : Fin 2)
  /-- HOST_LINK_ERR (R30): hn_link_err pulses; hn_ready_out falls, the event is logged and outstanding requests end BUS_ERROR. -/
  | hostLinkErr (n : Fin 2)
  /-- BAR0_INVALID_ACCESS (R33): A BAR0 access of wrong size, alignment or unmapped address completes with Unsupported Request and is dropped. -/
  | bar0InvalidAccess (n : Fin 2) (write : Bool) (addr : BitVec 24) (size : Nat)
  /-- HOST_DOORBELL (R133): An 8-byte write at offset 0 of a queue's BAR2 page is checked and may move the queue's producer index. -/
  | hostDoorbell (n : Fin 2) (page : Fin 4096) (value : BitVec 64)
  /-- BAR2_OTHER_WRITE (R33): Any other BAR2 write is dropped and counted as a mismatching doorbell. -/
  | bar2OtherWrite (n : Fin 2) (offset : BitVec 24) (size : Nat)
  /-- BAR2_READ (R33): A BAR2 read completes with zero data. -/
  | bar2Read (n : Fin 2) (offset : BitVec 24) (size : Nat)
  /-- CONFIGURATION_REQUEST (R32): A host configuration request is served from configuration space with the chart's IDs and BARs. -/
  | configurationRequest (n : Fin 2) (write : Bool) (reg : BitVec 12) (value : BitVec 32)
  /-- IO_REQUEST (R31): An I/O request completes with Unsupported Request. -/
  | ioRequest (n : Fin 2)
  /-- HOST_SNOOP (R30): A CXL.cache snoop from the host is answered RspIHitI. -/
  | hostSnoop (n : Fin 2) (addr : BitVec 64)
  /-- CXL_CACHE_COMPLETION (R225): A CXL.cache completion for a host-window access returns; a write credits the local tide counter. -/
  | cxlCacheCompletion (n : Fin 2) (tag : Nat) (data : Bytes) (poison : Bool)
  /-- ATS_INVALIDATION_REQUEST (R183): An ATS Invalidation Request is taken and drained as a driver invalidation, then the Invalidation Completion is sent. -/
  | atsInvalidationRequest (n : Fin 2) (pasid : Option (BitVec 20)) (va : BitVec 64) (bytes : Nat) (tag : Nat)
  /-- ATS_TRANSLATION_REQUEST (R184): An ATS Translation Request is walked without stalling and answered per the completion table, or with Unsupported Request. -/
  | atsTranslationRequest (n : Fin 2) (pasid : Option (BitVec 20)) (va : BitVec 64) (tag : Nat)
  /-- MEMRD (R340): A host MemRd on a window line sends the snoops its MetaValue needs and returns MemData with Cmp, Cmp-S or Cmp-E. -/
  | memrd (n : Fin 2) (addr : BitVec 48) (mv : MetaValue) (tag : Nat)
  /-- MEMRDDATA (R340): A host MemRdData on a window line is served as a shared read. -/
  | memrddata (n : Fin 2) (addr : BitVec 48) (tag : Nat)
  /-- MEMWR (R340): A host MemWr on a window line is written, snooping other holders unless it comes from the E holder. -/
  | memwr (n : Fin 2) (addr : BitVec 48) (mv : MetaValue) (tag : Nat) (data : Bytes) (be : BitVec 64) (poison : Bool)
  /-- MEMWRPTL (R340): A host partial write on a window line snoops other holders and is merged by byte enable. -/
  | memwrptl (n : Fin 2) (addr : BitVec 48) (tag : Nat) (data : Bytes) (be : BitVec 64) (poison : Bool)
  /-- MEMSPECRD (R340): A host MemSpecRd hint is dropped. -/
  | memspecrd (n : Fin 2) (addr : BitVec 48)
  /-- BICONFLICT (R342): A host BIConflict is answered with BI-ConflictAck ordered around the host's own requests. -/
  | biconflict (n : Fin 2) (addr : BitVec 48)
  /-- BIRSP (R355): A host BIRsp answers a back-invalidation snoop and updates the snoop filter. -/
  | birsp (n : Fin 2) (addr : BitVec 48) (st : BiRsp)
  /-- UNKNOWN_M2S_REQUEST (R340): Another M2S opcode on a window line is answered with poisoned data or Cmp without effect, and an error record is written. -/
  | unknownM2sRequest (n : Fin 2) (isRead : Bool) (addr : BitVec 48) (tag : Nat)
  /-- HDM_H_REQUEST (R355): A host CXL.mem request outside every window is served as HDM-H without tracking or snoops. -/
  | hdmHRequest (n : Fin 2) (write : Bool) (addr : BitVec 48) (tag : Nat) (data : Bytes) (be : BitVec 64) (poison : Bool)
  /-- SNOOP_TIMEOUT (R343): A BISnp without BIRsp in 2^20 cc, or a peer snoop without answer in peer_timeout, treats the holder as lost for that line. -/
  | snoopTimeout (addr : BitVec 48) (cache : Fin 8)
  /-- GET_VERSION (R367): An SPDM GET_VERSION request is answered with version 1.3. -/
  | getVersion (n : Fin 2)
  /-- GET_CAPABILITIES (R367): An SPDM GET_CAPABILITIES request is answered with the supported capabilities. -/
  | getCapabilities (n : Fin 2) (version : Byte)
  /-- NEGOTIATE_ALGORITHMS (R367): An SPDM NEGOTIATE_ALGORITHMS request is answered with the supported algorithms. -/
  | negotiateAlgorithms (n : Fin 2) (version : Byte)
  /-- GET_DIGESTS (R367): An SPDM GET_DIGESTS request is answered for certificate slot 0. -/
  | getDigests (n : Fin 2) (version : Byte)
  /-- GET_CERTIFICATE (R362): An SPDM GET_CERTIFICATE request returns slot 0, the driver's chain and the alias certificate. -/
  | getCertificate (n : Fin 2) (version : Byte) (slot : Nat) (offset : Nat) (length : Nat)
  /-- CHALLENGE (R367): An SPDM CHALLENGE is answered with CHALLENGE_AUTH signed by the alias key. -/
  | challenge (n : Fin 2) (version : Byte) (slot : Nat) (nonce : BitVec 256)
  /-- GET_MEASUREMENTS (R369): An SPDM GET_MEASUREMENTS request returns the manifest's measurement blocks, signed by the alias key. -/
  | getMeasurements (n : Fin 2) (version : Byte) (index : Byte) (signed : Bool) (nonce : BitVec 256)
  /-- KEY_EXCHANGE (R368): An SPDM KEY_EXCHANGE starts a session, or is answered SessionLimitExceeded while one is live or pending. -/
  | keyExchange (n : Fin 2) (version : Byte) (share : Bytes) (random : BitVec 256)
  /-- FINISH (R368): An SPDM FINISH completes the pending key exchange and makes the session live. -/
  | finish (n : Fin 2) (version : Byte) (macOk : Bool)
  /-- HEARTBEAT (R368): An SPDM HEARTBEAT keeps the live session from expiring. -/
  | heartbeat (n : Fin 2) (version : Byte)
  /-- KEY_UPDATE (R367): An SPDM KEY_UPDATE updates the live session's keys. -/
  | keyUpdate (n : Fin 2) (version : Byte)
  /-- END_SESSION (R368): An SPDM END_SESSION ends the live session. -/
  | endSession (n : Fin 2) (version : Byte)
  /-- UNSUPPORTED_SPDM_REQUEST (R367): Any other SPDM request is answered UnsupportedRequest, VersionMismatch or Busy. -/
  | unsupportedSpdmRequest (n : Fin 2) (version : Byte) (code : Byte)
  /-- SPDM_HEARTBEAT_EXPIRY (R368): Two heartbeat periods pass without a message and the session ends. -/
  | spdmHeartbeatExpiry
  /-- QUERY (R366): An IDE_KM QUERY inside the session is answered by the IDE_KM responder. -/
  | query (n : Fin 2)
  /-- KEY_PROG (R366): An IDE_KM KEY_PROG installs a key for a supported stream, or reports unsupported. -/
  | keyProg (n : Fin 2) (stream : IdeStream) (keySet : Fin 2) (tx : Bool) (key : BitVec 256)
  /-- K_SET_GO (R366): An IDE_KM K_SET_GO starts a key set on a stream. -/
  | kSetGo (n : Fin 2) (stream : IdeStream) (keySet : Fin 2) (tx : Bool)
  /-- K_SET_STOP (R366): An IDE_KM K_SET_STOP stops a stream's IDE. -/
  | kSetStop (n : Fin 2) (stream : IdeStream) (keySet : Fin 2) (tx : Bool)
  /-- PEER_LINK_UP (R280): pn_link_up rises on a peer port; key setup runs again and credits are granted afresh. -/
  | peerLinkUp (p : Fin 4)
  /-- PEER_LINK_DOWN (R38): pn_link_up falls; packets in flight on that port are lost. -/
  | peerLinkDown (p : Fin 4)
  /-- PEER_FLIT_RECEIVE (R280): A peer flit is decrypted and accepted in sequence, or discarded with a NAK on tag failure or disorder. -/
  | peerFlitReceive (p : Fin 4) (flit : Bytes) (credit : BitVec 16)
  /-- PEER_NAK (R280): A NAK arrives and the sender replays from the next sequence. -/
  | peerNak (p : Fin 4) (last : BitVec 63)
  /-- PEER_ACK_TIMEOUT (R280): The ack has not advanced for 2,048 port clocks with flits unacknowledged, and the sender replays. -/
  | peerAckTimeout (p : Fin 4)
  /-- PEER_PAD_ACK (R280): A receiver with nothing to send returns its ack in a pad flit at least every 256 port clocks. -/
  | peerPadAck (p : Fin 4)
  /-- PEER_REQUEST_SEND (R275): A peer request takes a tracker entry and leaves by the port chosen from its route mask, or ends at once if no port is usable. -/
  | peerRequestSend (id : Nat)
  /-- ZARIC_READ (R282): A peer READ is served from local memory and answered with RDDATA or COMP with an error. -/
  | zaricRead (p : Fin 4)
  /-- ZARIC_WRITE (R282): A peer WRITE is checked against sealed ranges, written and answered COMP once visible. -/
  | zaricWrite (p : Fin 4)
  /-- WRITEBACK (R341): A WRITE with subop WRITEBACK from the recorded E holder is written and the holder removed; otherwise it is discarded. -/
  | writeback (p : Fin 4)
  /-- ZARIC_ATOMIC (R348): A peer ATOMIC is performed at home after snooping holders, answered ATOMIC_OLD then COMP with OWNABLE and QUIET. -/
  | zaricAtomic (p : Fin 4)
  /-- ZARIC_SIGNAL (R219): A peer SIGNAL adds its amount to a tide counter in range and is answered COMP once applied. -/
  | zaricSignal (p : Fin 4)
  /-- CONTRIB (R294): A CONTRIB packet delivers a contribution piece to a combine slot and is answered once folded or parked. -/
  | contrib (p : Fin 4)
  /-- OWN (R341): An OWN from a permitted attached cache invalidates other holders and returns OWN_DATA, making the requester E holder. -/
  | own (p : Fin 4)
  /-- MGMT_CHART_BEGIN (R285): MGMT CHART_BEGIN takes the staging unit for the manager, or is refused if owned. -/
  | mgmtChartBegin (p : Fin 4)
  /-- MGMT_CHART_DATA (R285): MGMT CHART_DATA stages chart bytes at the given offset. -/
  | mgmtChartData (p : Fin 4)
  /-- MGMT_CHART_COMMIT (R285): MGMT CHART_COMMIT runs the chart checks, or a manager relays the staged chart onward. -/
  | mgmtChartCommit (p : Fin 4)
  /-- MGMT_IMAGE_DATA (R285): MGMT IMAGE_DATA writes image bytes at the placement address. -/
  | mgmtImageData (p : Fin 4)
  /-- MGMT_IMAGE_LOAD (R285): MGMT IMAGE_LOAD acts as a LOAD action on the placed image, or is relayed by a manager. -/
  | mgmtImageLoad (p : Fin 4)
  /-- MGMT_STATUS (R286): MGMT STATUS returns the receiver's parent fields, chart state and start status, asked or unasked. -/
  | mgmtStatus (p : Fin 4)
  /-- SHARE (R363): A KEYX SHARE delivers the far end's ephemeral public key, random value and instance ID. -/
  | share (p : Fin 4)
  /-- IDENTITY (R363): A KEYX IDENTITY delivers the far end's DeviceID key and endorsement signature. -/
  | identity (p : Fin 4)
  /-- ISSUER (R363): A KEYX ISSUER delivers the far end's integrator public key. -/
  | issuer (p : Fin 4)
  /-- PROOF (R364): A KEYX PROOF is verified and, per authentication and fuse_policy, link keys are installed or the port fails. -/
  | proof (p : Fin 4)
  /-- KEYX_RETRY (R363): A KEYX packet not acknowledged within peer_timeout is sent again, at most three times. -/
  | keyxRetry (p : Fin 4)
  /-- KEYX_TIMEOUT (R364): A port that completes no exchange within 20 ms of step 9 becomes FAILED. -/
  | keyxTimeout (p : Fin 4)
  /-- SNP_INV (R351): An SNP_INV at the near-atomic buffer drops the line, answering SNP_DATA if held or SNP_RSP otherwise. -/
  | snpInv (p : Fin 4)
  /-- SNP_SHR (R351): An SNP_SHR at the near-atomic buffer returns the line with SNP_DATA and drops it, or answers SNP_RSP. -/
  | snpShr (p : Fin 4)
  /-- COMP (R283): A COMP completion arrives for an outstanding request and ends it with its status, updating the atomic predictor for a far atomic. -/
  | comp (p : Fin 4)
  /-- SNP_RSP (R341): A peer snoop answer without data lets the waiting home request proceed. -/
  | snpRsp (p : Fin 4)
  /-- MGMT_ACK (R286): A MGMT_ACK answers a MGMT or KEYX packet; a manager reports a child's outcome as CHILD_STATUS. -/
  | mgmtAck (p : Fin 4)
  /-- RDDATA (R282): Returned read data arrives into the requester's reserved buffer, with poison bits per line. -/
  | rddata (p : Fin 4)
  /-- ATOMIC_OLD (R347): The old value of a far atomic arrives for the requester. -/
  | atomicOld (p : Fin 4)
  /-- SNP_DATA (R341): A snoop answer with data is written to memory before the waiting request proceeds. -/
  | snpData (p : Fin 4)
  /-- OWN_DATA (R350): OWN_DATA installs the line in the near-atomic buffer, or on PERMISSION sends the atomic far. -/
  | ownData (p : Fin 4)
  /-- PEER_REQUEST_TIMEOUT (R283): A peer request with no final response within peer_timeout ends REMOTE_UNREACHABLE. -/
  | peerRequestTimeout (tag : BitVec 16)
  /-- PEER_TAG_RELEASE (R283): A timed-out request's tag is freed a further peer_timeout later. -/
  | peerTagRelease (tag : BitVec 16)
  /-- MGMT_RETRY (R286): A MGMT packet without MGMT_ACK within peer_timeout is resent, and after the third failure the child is reported unreachable. -/
  | mgmtRetry (tag : BitVec 16)
  /-- TRANSLATE (R40): An engine TRANSLATE is checked and translated, returning the physical address and rights. -/
  | translate (e : Fin 8) (rq : EngineReq)
  /-- READ (R40): An engine READ is translated and delivers its beats, poisoned where needed, then a status response. -/
  | read (e : Fin 8) (rq : EngineReq)
  /-- WRITE (R40): An engine WRITE is translated and written, responding once visible at its destination. -/
  | write (e : Fin 8) (rq : EngineReq)
  /-- ATOMIC (R349): An engine ATOMIC is performed at home, near in the buffer or far, and returns the old value then a response. -/
  | atomic (e : Fin 8) (rq : EngineReq)
  /-- ENGINE_DOORBELL (R133): An engine DOORBELL is checked as a doorbell and answered with its status. -/
  | engineDoorbell (e : Fin 8) (rq : EngineReq)
  /-- TIDE_WAIT (R325): An engine TIDE_WAIT begins waiting for a tide counter to reach its tidemark, as an acquire. -/
  | tideWait (e : Fin 8) (rq : EngineReq)
  /-- ENGINE_ALLOC (R148): An engine ALLOC allocates pages from the partition's pool and returns the data VA. -/
  | engineAlloc (e : Fin 8) (rq : EngineReq)
  /-- ENGINE_FREE (R151): An engine FREE drops one reference on an object record, freeing the object at zero. -/
  | engineFree (e : Fin 8) (rq : EngineReq)
  /-- ENGINE_UNKNOWN_OP (R40): An engine request with an operation outside the table ends MALFORMED. -/
  | engineUnknownOp (e : Fin 8) (op : BitVec 4) (rq : EngineReq)
  /-- ENGINE_WRITE_BEAT (R39): An engine write beat is taken for its tag and checked against the operation's layout. -/
  | engineWriteBeat (e : Fin 8) (tag : Byte) (data : Bytes) (beHi beLo : BitVec 64)
  /-- MEMORY_READ_RETURN (R44): A memory port returns read data, poison or mn_rd_err for a tag; a late answer is discarded and counted. -/
  | memoryReadReturn (m : Fin 4) (tag : BitVec 10) (data : Bytes) (poison : BitVec 8) (err : Bool)
  /-- MEMORY_WRITE_ACK (R43): A memory port acknowledges a write, marking the moment of visibility, or reports mn_wack_err. -/
  | memoryWriteAck (m : Fin 4) (tag : BitVec 10) (err : Bool)
  /-- MEMORY_PORT_TIMEOUT (R44): A memory-port read or write unanswered after 2^16 cc ends TIMEOUT. -/
  | memoryPortTimeout (m : Fin 4) (tag : BitVec 10)
  /-- SLICE_LINK_GROUP_RECEIVE (R46): A slice-link group is received and checked; a damaged group triggers discard and replay. -/
  | sliceLinkGroupReceive (l : Link) (rx : Slice) (damaged : Bool)
  /-- CONTROL_PORT_INVALID_ACCESS (R47): A control-port access to an unmapped or misaligned address responds with cp_rsp_err. -/
  | controlPortInvalidAccess (write : Bool) (addr : BitVec 24)
  /-- CONTROL_PORT_TARGET_LOST (R47): An access to a slice that lost its link or clock responds with cp_rsp_err within CROSS_TIMEOUT. -/
  | controlPortTargetLost (write : Bool) (addr : BitVec 24)
  /-- TAP_INSTRUCTION (R54): A TAP instruction is executed under IEEE 1149.1, and 1687 instruments respond only after SEC unlock. -/
  | tapInstruction (sl : Slice) (i : TapInstr)
  /-- SH_CHART_BEGIN (R417): A begin action on SH_CHART_CTRL empties the staging unit and enters LOADING, unless it is ignored. -/
  | shChartBegin (path : Path)
  /-- SH_CHART_DATA_WRITE (R91): A write to SH_CHART_DATA stages the next 4 chart bytes while LOADING. -/
  | shChartDataWrite (path : Path) (data : BitVec 32)
  /-- SH_CHART_COMMIT (R91): A commit action moves a staged chart to CHECKING. -/
  | shChartCommit (path : Path)
  /-- CHART_CHECK_COMPLETE (R87): The boot ROM's chart checks end in ACCEPTED, SEED or REJECTED with the first failing code. -/
  | chartCheckComplete
  /-- FW_LOAD (R102): A LOAD action on SH_FW_LOAD_CTRL at step 11 submits an image for verification into the named cores. -/
  | fwLoad (path : Path) (cores : BitVec 7)
  /-- FW_RELOAD (R106): A RELOAD action submits an image for a WATCHDOG core, accepted only with the recorded measurement. -/
  | fwReload (path : Path) (cores : BitVec 7)
  /-- IMAGE_VERIFY_COMPLETE (R104): The boot ROM's image checks end; a verified image is copied and measured, or the failure status is written. -/
  | imageVerifyComplete (image : ReadResult)
  /-- WATCHDOG_KICK (R107): A core writes 0xA5 to its kick register and restarts its watchdog count. -/
  | watchdogKick (path : Path) (c : Fin 7) (value : BitVec 32)
  /-- WATCHDOG_EXPIRY (R107): A watchdog count reaches its period; the core is held in WATCHDOG and the management interrupt is raised. -/
  | watchdogExpiry (c : Fin 7)
  /-- SH_CMD_PROD_WRITE (R110): The driver advances the command producer index, or the write is ignored and counted as an overrun. -/
  | shCmdProdWrite (path : Path) (value : BitVec 32)
  /-- HELLO (R114): HELLO opens a session and agrees the feature word, or is refused, answered with firmware's ABI and offer. -/
  | hello (e : CmdEntry)
  /-- GOODBYE (R114): GOODBYE closes the session, keeping the agreed word in force. -/
  | goodbye (e : CmdEntry)
  /-- NOP (R111): NOP is answered with RESPONSE and has no other effect. -/
  | nop (e : CmdEntry)
  /-- MODE_CHANGE (R118): MODE_CHANGE is checked, answered, and HARBOUR sends PREPARE to every unit of the change. -/
  | modeChange (e : CmdEntry) (words : ReadResult)
  /-- UNIT_PREPARE_ACK (R118): A unit reaches its boundary, stages the new value and acknowledges PREPARE. -/
  | unitPrepareAck (u : UnitRef)
  /-- UNIT_COMMIT_CONFIRM (R119): A unit switches to the new value on COMMIT, releases held traffic, resumes and confirms. -/
  | unitCommitConfirm (u : UnitRef)
  /-- MODE_ROLLBACK (R120): Acknowledgements or confirmations missing mode_timeout after PREPARE or COMMIT cause REVERT and ROLLED_BACK. -/
  | modeRollback
  /-- UNIT_SELF_REVERT (R121): A unit hearing nothing for 2 × mode_timeout after PREPARE or COMMIT reverts by itself. -/
  | unitSelfRevert (u : UnitRef)
  /-- QUEUE_SAVE (R124): QUEUE_SAVE writes the whole queue table to the save area and sets its valid bit. -/
  | queueSave (e : CmdEntry)
  /-- CHART_FORWARD (R284): CHART_FORWARD accepts a chart for relay to a target at or below this manager. -/
  | chartForward (e : CmdEntry) (chart : ReadResult)
  /-- IMAGE_FORWARD (R284): IMAGE_FORWARD accepts a firmware image for relay to targets below this manager. -/
  | imageForward (e : CmdEntry) (image : ReadResult)
  /-- SCRUB (R376): SCRUB checks a span and zeroes it by FILL on channel 63. -/
  | scrub (e : CmdEntry)
  /-- SCRUB_COMPLETE (R376): The last write of a SCRUB is acknowledged and the command is answered OK. -/
  | scrubComplete
  /-- MEASURE (R373): MEASURE checks a region and begins hashing it under a watch, without sealing. -/
  | measure (e : CmdEntry) (leaves : List LeafView)
  /-- MEASURE_AND_SEAL (R373): MEASURE_AND_SEAL installs a sealed range, drains earlier writes, installs the watch and begins hashing. -/
  | measureAndSeal (e : CmdEntry) (leaves : List LeafView)
  /-- MEASUREMENT_COMPLETE (R373): The tree hash ends and the region record is published with its flags and the next sequence number. -/
  | measurementComplete (content : ReadResult)
  /-- UNSEAL (R375): UNSEAL removes a region's sealed range and clears SEALED. -/
  | unseal (e : CmdEntry)
  /-- RETIRE (R375): RETIRE removes a region's seal, watch and record from the manifest. -/
  | retire (e : CmdEntry)
  /-- ALLOC_POOL_CREATE (R146): ALLOC_POOL CREATE initialises the metadata region, pushes the pages and attaches the pool. -/
  | allocPoolCreate (e : CmdEntry) (pages : ReadResult)
  /-- ALLOC_POOL_ADD (R146): ALLOC_POOL ADD pushes further pages onto the pool's stack. -/
  | allocPoolAdd (e : CmdEntry) (pages : ReadResult)
  /-- ALLOC_POOL_ATTACH (R146): ALLOC_POOL ATTACH re-attaches a pool after checking its header. -/
  | allocPoolAttach (e : CmdEntry) (region : ReadResult)
  /-- ALLOC_POOL_DETACH (R146): ALLOC_POOL DETACH detaches a pool with no slot in use. -/
  | allocPoolDetach (e : CmdEntry)
  /-- PARTITION_RELEASE (R155): PARTITION_RELEASE moves a DISABLED pool-less partition to RELEASING while SEC scrubs its state. -/
  | partitionRelease (e : CmdEntry)
  /-- PARTITION_RELEASE_COMPLETE (R155): The release scrub ends; the partition reads DISABLED and the RESPONSE carries OK. -/
  | partitionReleaseComplete
  /-- TELEMETRY (R406): TELEMETRY is answered OK and then with a TELEMETRY_DATA event for the page. -/
  | telemetry (e : CmdEntry)
  /-- AGEING_LOAD (R402): AGEING_LOAD reads the ageing history and restores recorded codes and fallback. -/
  | ageingLoad (e : CmdEntry) (history : ReadResult)
  /-- MARGIN_TEST_SCAN (R401): MARGIN_TEST SCAN scans slice monitors and writes TELEMETRY_DATA page 0 per slice. -/
  | marginTestScan (e : CmdEntry) (samples : List Bytes)
  /-- MARGIN_TEST_ACCEPT_FALLBACK (R401): MARGIN_TEST ACCEPT_FALLBACK moves an offering slice to fallback division as a mode change. -/
  | marginTestAcceptFallback (e : CmdEntry)
  /-- SH_EVT_CONS_WRITE (R112): The driver advances the event consumer index, freeing room for queued events and EVENTS_LOST. -/
  | shEvtConsWrite (path : Path) (value : BitVec 32)
  /-- PARTITION_ENABLE (R127): Writing enable = 1 moves a DISABLED partition to ENABLED. -/
  | partitionEnable (path : Path) (p : Fin 16)
  /-- PARTITION_STOP (R127): A STOP on HD_PART_CTRL applies STOP to the partition's queues, channels and engine streams. -/
  | partitionStop (path : Path) (p : Fin 16)
  /-- PARTITION_ABORT (R423): An ABORT on HD_PART_CTRL applies ABORT to the partition's work, escalating a STOPPING partition. -/
  | partitionAbort (path : Path) (p : Fin 16)
  /-- QUEUE_ENABLE (R130): Writing enable = 1 moves a queue to ENABLED if its conditions hold, or to REFUSED. -/
  | queueEnable (path : Path) (q : Fin 4096) (cfg : BitVec 32)
  /-- QUEUE_STOP (R141): A STOP on a queue lets its running descriptor finish and leaves later slots untouched. -/
  | queueStop (path : Path) (q : Fin 4096)
  /-- QUEUE_ABORT (R142): An ABORT on a queue ends the running descriptor as allowed and ends every unstarted descriptor ABORTED. -/
  | queueAbort (path : Path) (q : Fin 4096)
  /-- CHANNEL_ENABLE (R232): Writing enable = 1 returns a DISABLED channel to ENABLED, subject to a management ring size. -/
  | channelEnable (path : Path) (c : Fin 64)
  /-- CHANNEL_STOP (R232): A STOP on a channel stops every queue bound to it or its management ring. -/
  | channelStop (path : Path) (c : Fin 64)
  /-- CHANNEL_ABORT (R232): An ABORT on a channel aborts every queue bound to it or its management ring. -/
  | channelAbort (path : Path) (c : Fin 64)
  /-- ENGINE_PORT_ENABLE (R143): Writing enable = 1 to an engine port lets it accept requests, if the chart enables it. -/
  | enginePortEnable (path : Path) (e : Fin 8)
  /-- ENGINE_PORT_DISABLE (R143): Writing enable = 0 ends every outstanding request on the engine port ABORTED. -/
  | enginePortDisable (path : Path) (e : Fin 8)
  /-- DISABLE_COMPLETE (R144): A STOP or ABORT of a queue, channel or partition completes and the function reads DISABLED. -/
  | disableComplete (t : DisableTarget)
  /-- COMPLETION_COUNT_WRITE (R231): A driver write sets a channel's completion count between decrements and raises nothing. -/
  | completionCountWrite (path : Path) (c : Fin 64) (value : BitVec 32)
  /-- MANAGEMENT_DOORBELL_LO (R234): A write to HD_CH_MDB_LO stages the low half of a management doorbell. -/
  | managementDoorbellLo (path : Path) (c : Fin 64) (value : BitVec 32)
  /-- MANAGEMENT_DOORBELL_COMMIT (R234): A write to HD_CH_MDB_HI commits and checks a management doorbell, moving MPROD. -/
  | managementDoorbellCommit (path : Path) (c : Fin 64) (value : BitVec 32)
  /-- DESCRIPTOR_BOUNDARY (R134): At a descriptor boundary a channel chooses the next bound queue holding work and fetches its next descriptor. -/
  | descriptorBoundary (c : Fin 64)
  /-- DESCRIPTOR_FETCH_RETURN (R207): A fetched descriptor is checked in order and either refused with its status or started. -/
  | descriptorFetchReturn (c : Fin 64)
  /-- COPY (R213): COPY moves every element from source to destination, through a pipeline and coding as flagged. -/
  | copy (c : Fin 64)
  /-- FILL (R214): FILL writes every destination element with a constant or a PRBS-31 stream. -/
  | fill (c : Fin 64)
  /-- COMPARE (R215): COMPARE reads every source element against the FILL pattern and counts mismatches. -/
  | compare (c : Fin 64)
  /-- REDUCE (R221): REDUCE reads source elements and delivers them as one contribution to a combine slot. -/
  | reduce (c : Fin 64)
  /-- MERGE (R221): MERGE delivers softmax rows as one LSE_MERGE contribution to a combine slot. -/
  | merge (c : Fin 64)
  /-- SIGNAL (R219): SIGNAL adds OPERAND to a tide counter at the named instance once earlier descriptors have ended. -/
  | signal (c : Fin 64)
  /-- WAIT (R220): WAIT waits until a local tide counter reaches its tidemark. -/
  | wait (c : Fin 64)
  /-- HASH (R216): HASH computes the tree hash of the source bytes and writes the 48-byte root. -/
  | hash (c : Fin 64)
  /-- GATHER_SEQ (R218): GATHER_SEQ copies token ranges from a sequence map into packed destination rows. -/
  | gatherSeq (c : Fin 64)
  /-- LINK (R222): LINK writes STATUS OK and continues with NEXT. -/
  | link (c : Fin 64)
  /-- ALLOC (R148): An ALLOC descriptor allocates pages from the pool and writes the data VA to DST. -/
  | alloc (c : Fin 64)
  /-- RELEASE (R151): A RELEASE descriptor subtracts its amount from an object's count, or reclaims it, freeing at zero. -/
  | release (cluster : Fin 4) (k : Fin 16)
  /-- ALLOCATOR_SLOW_PATH (R148): HARBOUR serves an allocation of more than 64 pages through the same steps. -/
  | allocatorSlowPath
  /-- JOURNAL_ROOM (R148): Journal room frees and a waiting allocation or free reserves its entries and proceeds. -/
  | journalRoom
  /-- HD_JNL_CONS_WRITE (R149): The driver advances the journal consumer index after applying records. -/
  | hdJnlConsWrite (path : Path) (value : BitVec 32)
  /-- BURST_GRANT (R230): A cluster's arbitration round grants a ready burst to a channel in class and rotating order. -/
  | burstGrant (k : Fin 4) (wr : Bool)
  /-- READ_BURST_RETURN (R227): A read burst's data arrives in the hold and feeds its elements, poisoned or not, to the pipeline and write bursts. -/
  | readBurstReturn (c : Fin 64) (burst : Nat)
  /-- DESCRIPTOR_END (R224): Once bursts and credits complete, STATUS, fence or pending, and the completion count are written in order. -/
  | descriptorEnd (c : Fin 64)
  /-- PACE_SAMPLE (R228): A paused or waiting paced descriptor samples its level and starts or resumes at PACE_HI. -/
  | paceSample (c : Fin 64)
  /-- PACE_TIMEOUT (R228): A pace pause lasting wait_limit ends the descriptor TIMEOUT. -/
  | paceTimeout (c : Fin 64)
  /-- TIDEMARK_REACHED (R319): A waiter's counter reaches its tidemark and the WAIT or TIDE_WAIT ends OK. -/
  | tidemarkReached (w : Waiter)
  /-- WAIT_LIMIT_EXPIRY (R220): wait_limit passes for a WAIT, TIDE_WAIT or journal-room wait, which ends TIMEOUT. -/
  | waitLimitExpiry (w : Waiter)
  /-- HD_TIDE_LO_WRITE (R321): A write of HD_TIDE_LO stages the low half of a counter on its path. -/
  | hdTideLoWrite (path : Path) (n : Fin 65536) (value : BitVec 32)
  /-- HD_TIDE_HI_WRITE (R321): A write of HD_TIDE_HI commits both halves of a staged counter in one step. -/
  | hdTideHiWrite (path : Path) (n : Fin 65536) (value : BitVec 32)
  /-- HD_TIDE_MODE_WRITE (R334): A write of HD_TIDE_MODE sets counting modes of counters whose partition is DISABLED or absent. -/
  | hdTideModeWrite (path : Path) (w : Fin 2048) (value : BitVec 32)
  /-- CONTRIBUTION_PIECE (R294): A contribution piece reaching a slot is checked, opens or joins a round, and is folded or parked. -/
  | contributionPiece (c : Fin 64)
  /-- COMBINE_FOLD (R297): A sluice cell folds the next contribution's elements into the accumulator in index order. -/
  | combineFold (sl : Fin 4096)
  /-- COMBINE_TIMEOUT (R300): combine_timeout passes for an OPEN round, which ends FAILED with TIMEOUT. -/
  | combineTimeout (sl : Fin 4096)
  /-- WALK_START (R172): A walker frees or a miss arrives and the walker is given to a waiting miss by reservation and rotation. -/
  | walkStart (w : Fin 32)
  /-- WALK_ENTRY_RETURN (R166): A mirror-table entry read returns and the walk checks it, descends, completes or faults. -/
  | walkEntryReturn (w : Fin 32)
  /-- LANDING_RECORD_WRITE (R187): A landing record is written to its ring slot once room exists. -/
  | landingRecordWrite (p : Fin 16)
  /-- EN_LAND_CONS_WRITE (R187): The driver advances the landing consumer index, freeing room for waiting records. -/
  | enLandConsWrite (path : Path) (p : Fin 16) (value : BitVec 32)
  /-- EN_LAND_CFG_WRITE (R186): A write of EN_LAND_CFG sets a landing ring, refused when size or LANDING feature forbid valid. -/
  | enLandCfgWrite (path : Path) (p : Fin 16) (value : BitVec 32)
  /-- RETRY (R190): EN_RESUME with RETRY on a STALLED stream re-walks every faulted miss. -/
  | retry (path : Path) (value : BitVec 32)
  /-- FAIL (R191): EN_RESUME with FAIL ends each faulted access with its resolves status. -/
  | fail (path : Path) (value : BitVec 32)
  /-- FAULT_TIMEOUT (R192): A partition's fault timeout expires on a STALLED stream and acts as FAIL. -/
  | faultTimeout (stream : Fin 316)
  /-- EN_ROOT_WRITE (R161): A write of EN_ROOT sets a DISABLED partition's root, with valid cleared for a foreign instance ID. -/
  | enRootWrite (path : Path) (p : Fin 16) (hi : Bool) (value : BitVec 32)
  /-- EN_HOSTWIN_WRITE (R177): A write of a host window is accepted only while partitions are DISABLED, refusing overlapping or invalid windows. -/
  | enHostwinWrite (path : Path) (k : Fin 4) (reg : Fin 4) (value : BitVec 32)
  /-- INVALIDATE_RANGE (R194): EN_INV_CTRL go with scope RANGE submits a range invalidation and takes a ticket. -/
  | invalidateRange (path : Path) (value : BitVec 32)
  /-- INVALIDATE_PARTITION (R194): EN_INV_CTRL go with scope PARTITION submits a partition invalidation. -/
  | invalidatePartition (path : Path) (value : BitVec 32)
  /-- INVALIDATE_ALL (R194): EN_INV_CTRL go with scope ALL submits an invalidation of every partition. -/
  | invalidateAll (path : Path) (value : BitVec 32)
  /-- INVALIDATION_TAKEN (R196): An invalidation is taken: covered entries are dropped and walks in progress are marked. -/
  | invalidationTaken
  /-- INVALIDATION_COMPLETE (R198): An invalidation's drain finishes in ticket order; its fence, vector or ATS completion is sent. -/
  | invalidationComplete
  /-- INVALIDATION_DEADLINE (R199): An in-flight access passes its deadline and ends TIMEOUT, making a write's command complete TIMEOUT. -/
  | invalidationDeadline (id : Nat)
  /-- HD_WIN_ATTACH_WRITE (R336): A write of an attach register names a peer cache, refused for its own or a duplicate ID. -/
  | hdWinAttachWrite (path : Path) (i : Fin 8) (value : BitVec 32)
  /-- HD_AP_CLEAR (R349): Writing clear to HD_AP_CTRL sets every predictor entry to 3. -/
  | hdApClear (path : Path) (value : BitVec 32)
  /-- SH_ID_ENDORSE_BEGIN (R361): A begin on SH_ID_ENDORSE_CTRL empties the endorsement staging buffer. -/
  | shIdEndorseBegin (path : Path)
  /-- SH_ID_ENDORSE_DATA_WRITE (R361): A write of SH_ID_ENDORSE_DATA stages the next 4 endorsement bytes. -/
  | shIdEndorseDataWrite (path : Path) (data : BitVec 32)
  /-- SH_ID_ENDORSE_COMMIT (R361): A commit checks the staged endorsement's key hash and signature and sets endorsed if both pass. -/
  | shIdEndorseCommit (path : Path)
  /-- ENTROPY_HEALTH_FAIL (R360): The entropy health test fails after READY; randomness-dependent work stops and an error record is written. -/
  | entropyHealthFail
  /-- PATROL_ROW_READ (R383): The patrol reads the next row of every bank at its interval and corrects, zeroes or poisons it. -/
  | patrolRowRead (errors : List (Nat × Nat × Nat))
  /-- RAS_RECORD_WRITE (R392): The record writer writes a waiting error record to the RAS ring once it is valid and has room. -/
  | rasRecordWrite
  /-- HD_RAS_CONS_WRITE (R392): The driver advances the RAS consumer index, freeing room for waiting records. -/
  | hdRasConsWrite (path : Path) (value : BitVec 32)
  /-- PATH_MONITOR_SCAN (R399): Every 2^36 cc, PWR scans a slice's path monitors, logs the history and may step the margin. -/
  | pathMonitorScan (sl : Slice) (samples : Bytes)
  /-- MARGIN_RESCAN (R400): 2^20 cc after a committed step, PWR scans the slice again and repeats the step if still below floor. -/
  | marginRescan (sl : Slice) (samples : Bytes)
  /-- MSIX_SEND (R420): A pending MSI-X vector is sent once a host port can carry it and it and its function are unmasked. -/
  | msixSend (v : Fin 2048)
  /-- SH_IRQ_STATUS_CLEAR (R418): A W1C write clears handled SH_IRQ_STATUS bits. -/
  | shIrqStatusClear (path : Path) (value : BitVec 32)
  /-- SH_IRQ_ENABLE_WRITE (R418): A write of SH_IRQ_ENABLE or valid may make the aggregate non-zero and send the vector. -/
  | shIrqEnableWrite (path : Path) (vectorReg : Bool) (value : BitVec 32)
  /-- REGISTER_WRITE (R412): A write to any register without a row of its own takes effect per its field types or is ignored silently. -/
  | registerWrite (path : Path) (addr : BitVec 24) (value : BitVec 32)
  /-- HOST_LINK_DOWN (R30): hn_link_up falls on a host port, which the port must see before a later rise can return it to service. -/
  | hostLinkDown (n : Fin 2)
  /-- CREDIT_RETURN (R28): Credits arrive on pn_tx_credit, hn_tx_credit or slx_tx_credit, letting a waiting sender send, with a peer count above 8 taken as 8 and counted under R38. -/
  | creditReturn (src : CreditSource)
  /-- TOKEN_BUCKET_REFILL (R404): A throttled stack's token bucket refills at its rate and a memory-port request waiting at issue for tokens proceeds. -/
  | tokenBucketRefill (t : Fin 4)
  /-- UNKNOWN_COMMAND (R111): HARBOUR consumes a command entry with an unknown opcode or a failed read or crc and answers it with a RESPONSE carrying MALFORMED, CHECK_FAIL, BUS_ERROR or TIMEOUT. -/
  | unknownCommand (opcode : BitVec 16) (seq : BitVec 32) (read : EntryRead)
  deriving DecidableEq, Repr, Inhabited

end Sys2Proof
end

