-- ==== Sys2Proof/Decode.lean ====
section
/-! DEFINITION. The table gives its rows no bits (every row's match and mask are empty): no word spells a command, and the
decoder answers none for every word. -/

namespace Sys2Proof

/-- The command a word spells by the table's bits: none, for the table gives no row any. -/
def decodeTableWord (_nbits _w : Nat) : Option Instr := none

end Sys2Proof
end

