-- ==== Sys2Proof/Machine/Types.lean ====
section
/-! DEFINITION. The component types of the state, one group per subject of the spec: status codes, the chart, ports,
queues, channels, translation, faults, combine slots, the peer crossing, coherent windows, identity, firmware and the
records the block writes. Data only; what acts on them stands in the other files of Sys2Proof/Machine. -/

namespace Sys2Proof.Machine

/-- A bank of like entries, held sparsely: index and entry, indices rising, no entry equal to the bank's reset entry
(Sys2Proof/Machine/Tab.lean). -/
abbrev Tab (α : Type) := List (Nat × α)

/-- Fence status codes (06 R135). -/
inductive Status where
  | ok | busError | poison | translationFault | permission | checkFail | timeout | producerGone | aborted
  | remoteUnreachable | sealed | modeRollback | quota | clockLost | malformed
  deriving DecidableEq, Repr, Inhabited

/-! ### The chart (04) -/

/-- PORTS section. -/
structure PortsSec where
  vendorId       : BitVec 16 := 0
  deviceId       : BitVec 16 := 0
  subsysVendorId : BitVec 16 := 0
  subsysId       : BitVec 16 := 0
  revisionId     : BitVec 8 := 0
  hostCarriage   : BitVec 8 := 0
  hostEnable     : BitVec 8 := 0
  peerEnable     : BitVec 8 := 0
  engineEnable   : BitVec 8 := 0
  memoryEnable   : BitVec 8 := 0
  deriving DecidableEq, Repr, Inhabited

/-- One PARTITIONS entry. -/
structure PartEntry where
  partition     : Nat
  flags         : BitVec 8
  faultTimeout  : Nat
  walkerShare   : Nat
  queueFirst    : Nat
  queueCount    : Nat
  tideFirst     : Nat
  combineFirst  : Nat
  tideCount     : Nat
  combineCount  : Nat
  msixFirst     : Nat
  msixCount     : Nat
  landingVector : Nat
  deriving DecidableEq, Repr, Inhabited

/-- One CHANNELS entry. -/
structure ChanEntry where
  partition : Nat
  inUse     : Bool
  vector    : Nat
  deriving DecidableEq, Repr, Inhabited

/-- TRANSLATION section. -/
structure TransSec where
  missLimit       : Nat := 1
  answerAts       : Bool := false
  streamEnable    : List Bool := []
  streamPartition : List Nat := []
  deriving DecidableEq, Repr, Inhabited

/-- One WINDOWS entry. -/
structure WinEntry where
  window     : Nat
  partition  : Nat
  caches     : BitVec 8
  farAtomics : Bool
  base       : Nat
  size       : Nat
  deriving DecidableEq, Repr, Inhabited

/-- One PAIRS entry. -/
structure PairEntry where
  relInst  : BitVec 12
  relAgent : Nat
  relScope : Nat
  acqInst  : BitVec 12
  acqAgent : Nat
  acqScope : Nat
  tide     : Nat
  deriving DecidableEq, Repr, Inhabited

/-- One PIPELINES entry: the route and the operation word of each routed cell. -/
structure PipeEntry where
  pipeline : Nat
  route    : List Nat
  ops      : List (BitVec 32)
  deriving DecidableEq, Repr, Inhabited

/-- One level record of HIERARCHY. -/
structure LevelRec where
  parent   : BitVec 16
  children : List (BitVec 16)
  deriving DecidableEq, Repr, Inhabited

/-- HIERARCHY section: the three managers and the level records PACKAGE, POD, SYSTEM. -/
structure HierSec where
  packageManager : BitVec 16 := 0
  podManager     : BitVec 16 := 0
  systemManager  : BitVec 16 := 0
  levels         : List LevelRec := []
  deriving DecidableEq, Repr, Inhabited

/-- LIMITS section; under a seed the values of 04 R93 stand here. -/
structure LimitsSec where
  modeTimeout    : Nat := 1000
  waitLimit      : Nat := 0
  combineTimeout : Nat := 0
  peerTimeout    : Nat := 1000
  cmdRing        : Nat := 0
  eventRing      : Nat := 0
  journalRing    : Nat := 0
  deriving DecidableEq, Repr, Inhabited

/-- One stack of the THERMAL section. -/
structure StackSec where
  thHi   : Nat
  thLo   : Nat
  share  : Nat
  bucket : Nat
  deriving DecidableEq, Repr, Inhabited

/-- THERMAL section. -/
structure ThermalSec where
  useThrottleReq : Bool := false
  connected      : BitVec 4 := 0
  stackSecs      : List StackSec := []
  deriving DecidableEq, Repr, Inhabited

/-- MARGIN section. -/
structure MarginSec where
  maxCode     : Nat := 0
  initialCode : Nat := 0
  slackFloor  : Nat := 0
  replan      : Bool := false
  history     : Nat := 0
  deriving DecidableEq, Repr, Inhabited

/-- A chart, full or seed, decoded from its image. -/
structure Chart where
  seed         : Bool := false
  role         : BitVec 8 := 0
  instId       : BitVec 12 := 0
  serial       : BitVec 32 := 0
  ports        : PortsSec := {}
  crossTimeout : Nat := 4096
  mayFallback  : Bool := false
  parts        : List PartEntry := []
  quota        : List Nat := []
  mgmtReserve  : Nat := 0
  classWeight  : List Nat := []
  channels     : List ChanEntry := []
  trans        : TransSec := {}
  windows      : List WinEntry := []
  pairs        : List PairEntry := []
  pipes        : List PipeEntry := []
  routes       : List (BitVec 4) := []
  hier         : HierSec := {}
  limits       : LimitsSec := {}
  thermal      : ThermalSec := {}
  margin       : MarginSec := {}
  deriving DecidableEq, Repr, Inhabited

/-- SH_CHART_STATUS.state (17). -/
inductive ChartState where
  | empty | loading | checking | accepted | seed | rejected
  deriving DecidableEq, Repr, Inhabited

/-- Chart delivery and what has been accepted (04 R78-R96, 17 R417). -/
structure ChartUnit where
  state     : ChartState := .empty
  code      : BitVec 8 := 0
  section_  : BitVec 8 := 0
  offset    : BitVec 17 := 0
  source    : BitVec 2 := 0
  staged    : Bytes := []
  overLong  : Bool := false
  chart     : Option Chart := none
  image     : Bytes := []
  m9        : Option Bytes := none
  m10       : Option Bytes := none
  stagedBad : List Nat := []
  imageBad  : Bool := false
  pipesBad  : Bool := false
  deriving DecidableEq, Repr, Inhabited

/-! ### Clocks, reset, start (02, 03, 05) -/

/-- Clock, crossing and supply state of one slice (03). `phase`, `sPhase` and `ctrl` are the root cycles that have passed of the present
CORE phase, STORE phase (HD only) and CTRL cycle, `low` and `sLow` say that the phase is the low one; `ebbNow` and `fbNow` (`sEbb` and `sFb`
for STORE) are the mode in force, which follows what supply_warn and firmware ask at a phase boundary, or for fallback at a rising edge
(R69, R72). `supplyGoal` is the code that steps are being taken to (02 R51), `supplyBack` says that a step was not acknowledged and its code is
to be taken back when no slice is in ebb. `events` are the error events and the path-monitor samples that stand in a CORE-CTRL crossing out
of service (R65, R66). `dead` is the set of crossings in CLOCK_LOST (R68), which the
W1C view `lost` (CK_LOST) does not restore. -/
structure ClockState where
  porN         : Bool := false
  wrstN        : Bool := false
  warnPin      : Bool := false
  warnSync     : Bool := false
  ebbSupply    : Bool := false
  ebbOrdered   : Bool := false
  fallback     : Bool := false
  exitCounting : Bool := false
  crossTimeout : BitVec 17 := 4096
  lost         : BitVec 9 := 0
  dead         : BitVec 9 := 0
  overrun      : BitVec 2 := 0
  overrunCount : BitVec 32 := 0
  ebbCount     : BitVec 32 := 0
  cycles       : BitVec 64 := 0
  phase        : Nat := 0
  low          : Bool := false
  ebbNow       : Bool := false
  fbNow        : Bool := false
  sPhase       : Nat := 0
  sLow         : Bool := false
  sEbb         : Bool := false
  sFb          : Bool := false
  ctrl         : Nat := 0
  ebbStart     : BitVec 64 := 0
  supplyReq    : BitVec 4 := 0
  supplyOld    : BitVec 4 := 0
  supplyWait   : Bool := false
  supplyGoal   : Option (BitVec 4) := none
  supplyBack   : Bool := false
  events       : List Nat := [0, 0]
  deriving DecidableEq, Repr, Inhabited

/-- One slice link (02 R45, R46, R56). `credits` are the group credits that each of its two ends holds, in the order of `linkEnds`. -/
structure LinkState where
  up          : Bool := false
  down        : Bool := false
  failed      : Bool := false
  badReplays  : Nat := 0
  replays     : BitVec 32 := 0
  credits     : List Nat := [0, 0]
  deriving DecidableEq, Repr, Inhabited

/-- The fuse sample (02 R49). (DESIGN CHOICE, log 16) -/
structure Fuses where
  sampled : Bool := false
  uds     : BitVec 256 := 0
  keyHash : BitVec 384 := 0
  policy  : BitVec 16 := 0
  deriving DecidableEq, Repr, Inhabited

/-- The start sequence (05 R97-R100, 17 R416). `unrestored` counts the saved queue entries left reset (05 R125). -/
structure StartState where
  step    : Nat := 0
  ready   : Bool := false
  waiting : Bool := false
  stopped : Bool := false
  failure : BitVec 8 := 0
  warm    : Bool := false
  lost    : Bool := false
  unrestored : Nat := 0
  deriving DecidableEq, Repr, Inhabited

/-- A leaf of the mirror table: the partition, the level that gave its size, page bases and rights (07 R164). -/
structure Leaf where
  part  : Nat
  level : Nat
  vbase : BitVec 64
  pbase : BitVec 60
  rd    : Bool
  wr    : Bool
  at_   : Bool
  cw    : Bool
  deriving DecidableEq, Repr, Inhabited

/-! ### Accesses in flight -/

/-- What an access asks of memory. -/
inductive AccKind where
  | read | write | atomic
  deriving DecidableEq, Repr, Inhabited

/-- The agent an access belongs to (13 R313), for the order of R315. -/
inductive Agent where
  | channel (c : Nat)
  | engine (port stream : Nat)
  | slot (s : Nat)
  | block
  | peer (source : Nat)
  deriving DecidableEq, Repr, Inhabited

/-- Who asked the allocator; `attach` is the ALLOC_POOL ATTACH that resumes an interrupted free. -/
inductive AllocAsker where
  | channel (c : Nat)
  | engine (e : Nat) (tag : BitVec 8)
  | attach (seq : BitVec 32)
  | gone
  deriving DecidableEq, Repr, Inhabited

/-- What goes on when an access ends. -/
inductive Purpose where
  | engine (port tag part : Nat)
  | xlate (port tag : Nat)
  | descFetch (c : Nat)
  | readBurst (c burst : Nat)
  | writeBurst (c : Nat)
  | statusWrite (c : Nat)
  | fenceWrite (c : Nat)
  | seqHeader (c : Nat) (dst : Bool)
  | seqEntry (c : Nat) (dst : Bool) (block : Nat)
  | rangeEntry (c range : Nat)
  | resultProbe (c : Nat) (last : Bool)
  | walkEntry (walk : Nat)
  | landing (p : Nat)
  | ras
  | event
  | journal
  | resultWrite (s : Nat)
  | peerServe (port : Nat) (tag : BitVec 16) (source : BitVec 12)
  | home (txn : Nat)
  | homeWb (n : Nat) (tag : Nat) (line : Nat)
  | hdm (n : Nat) (tag : Nat)
  | nearWb (line : BitVec 60)
  | table (job : Nat)
  | bulk (job : Nat)
  | freeRecord (who : AllocAsker) (amount : Nat)
  | count (job : Nat)
  | contribPiece (c : Nat)
  | signalSend (c : Nat)
  | modeFence
  | invFence
  | image
  | none
  deriving DecidableEq, Repr, Inhabited

/-- Where an access stands. -/
inductive Stage where
  | translating
  | faulted
  | held
  | peerReady
  | memPort (m : Nat) (tag : BitVec 10)
  | peer (tag : BitVec 16)
  | hostWin (n : Nat) (tag : Nat)
  | home
  deriving DecidableEq, Repr, Inhabited

/-- The atomic an access carries (14 R347). -/
structure AtomicOp where
  subop   : BitVec 8
  size    : Nat
  operand : BitVec 64
  swap    : BitVec 64
  deriving DecidableEq, Repr, Inhabited

/-- One access the block makes or serves: translated, held, issued, ended. `va` is none for an untranslated access;
`leaf` is the translation it used (08 R197); `poison` marks
the lines of a write that are poisoned, `bad` its poisoned bytes where they are known. `near` says which way an atomic to
another instance goes next, once chosen, `tried` the ways it has gone (14 R350); `got` are the lines, or the packet, answered so far; `held` is the quota from
which hold space is reserved for what a peer will return (11 R273). -/
structure Access where
  id       : Nat
  agent    : Agent
  purpose  : Purpose
  kind     : AccKind
  part     : Option Nat
  mc       : Bool
  fetch    : Bool
  va       : Option (BitVec 64)
  pa       : BitVec 60
  len      : Nat
  data     : Bytes
  be       : List Bool
  poison   : List Bool
  bad      : List Bool
  tide     : Option Nat
  sem      : BitVec 2
  scope    : BitVec 3
  op       : Option AtomicOp
  stage    : Stage
  leaf     : Option Leaf
  cw       : Bool
  near     : Option Bool
  tried    : List Bool
  got      : List (Nat × Status × Bytes × Bool)
  held     : Option Nat := none
  deriving DecidableEq, Repr, Inhabited

/-- A CXL.cache request in flight: host port, tag, the access and the number of the 64-byte line within it (07 R175). -/
structure CacheTag where
  port   : Nat
  tag    : Nat
  access : Nat
  line   : Nat
  deriving DecidableEq, Repr, Inhabited

/-- How an access ended: its status, the bytes it returned and, per 64-byte line, poison. -/
structure AccResult where
  status : Status
  data   : Bytes
  poison : List Bool
  deriving DecidableEq, Repr, Inhabited

/-! ### Engine ports (02 R39-R41) -/

/-- Operations of an engine port, as en_req_op names them. -/
inductive EngineOp where
  | translate | read | write | atomic | doorbell | tideWait | alloc | free
  deriving DecidableEq, Repr, Inhabited

/-- One outstanding engine request. `beats` are the write beats taken so far with their `enables`, `parts` the accesses, by offset, of a request
that touches two aligned 256-byte windows with their results, `started` says that it is being performed, `waiting` that a TIDE_WAIT
has begun to wait, `bad` the 64-byte pieces of the beats in which the hold found an uncorrectable error. -/
structure EngReq where
  port    : Nat
  op      : EngineOp
  rq      : EngineReq
  part    : Nat
  order   : Nat
  beats   : Bytes
  enables : List Bool
  nBeats  : Nat
  started : Bool
  parts   : List (Nat × Option AccResult)
  waiting : Bool
  bad     : List Nat := []
  deriving DecidableEq, Repr, Inhabited

/-- A write beat that came before its request (02 R39). -/
structure EarlyBeat where
  port : Nat
  tag  : BitVec 8
  data : Bytes
  be   : BitVec 128
  deriving DecidableEq, Repr, Inhabited

/-! ### Ports -/

/-- Configuration space that software can write (02 R32) and the IDE streams of a host port (15 R366): for each of
CXL.io and CXL.cachemem, each direction and key set, the key; and which key set is in force. -/
structure HostPort where
  linkUp     : Bool := false
  needFall   : Bool := false
  readyOut   : Bool := false
  rxCredits  : Nat := 0
  txCredits  : Nat := 0
  bar0       : BitVec 64 := 0
  bar2       : BitVec 64 := 0
  command    : BitVec 16 := 0
  msixEnable : Bool := false
  funcMask   : Bool := false
  hdm        : Tab (BitVec 32) := []
  ideKeys    : Tab (Option (BitVec 256)) := []
  ideActive  : Tab Nat := []
  deriving DecidableEq, Repr, Inhabited

/-- A tag of a memory port (02 R44). -/
structure MemTag where
  tag    : BitVec 10
  access : Nat
  addr   : BitVec 48
  lines  : Nat
  write  : Bool
  deriving DecidableEq, Repr, Inhabited

/-- A memory port: outstanding tags, tags whose answer will be discarded (counted where a limit passed, not counted where a
warm start ended the request), the next tag to use, late answers counted (02 R44, R57). -/
structure MemPort where
  out     : List MemTag := []
  dead    : List (BitVec 10 × Bool) := []
  nextTag : BitVec 10 := 0
  late    : BitVec 32 := 0
  deriving DecidableEq, Repr, Inhabited

/-! ### Zaric packets (11) -/

/-- Packet classes (11 R270). -/
inductive PktClass where
  | req | snp | rsp | dat
  deriving DecidableEq, Repr, Inhabited

/-- A Zaric packet: the header fields of 11 R270 and the payload. -/
structure Packet where
  dst     : BitVec 12
  src     : BitVec 12
  cls     : PktClass
  opcode  : BitVec 6
  part    : BitVec 4
  tide    : BitVec 16
  length  : BitVec 9
  scope   : BitVec 3
  addr    : BitVec 48
  tag     : BitVec 16
  status  : BitVec 8
  poison  : BitVec 4
  sem     : BitVec 2
  hasBe   : Bool
  mc      : Bool
  subop   : BitVec 8
  aux     : BitVec 32
  be      : List Bool
  payload : Bytes
  deriving DecidableEq, Repr, Inhabited

/-- SH_PEER_STATUS_n.state (11 R287). -/
inductive PeerState where
  | down | keying | up | failed | clockLost
  deriving DecidableEq, Repr, Inhabited

/-- The AES-256-GCM key and nonce salt of one direction (11 R279, 15 R365). -/
structure LinkKey where
  key  : Bytes
  salt : Bytes
  deriving DecidableEq, Repr, Inhabited

/-- The key exchange of one port (15 R363-R365): own ephemeral scalar and payloads, what has come from the far end,
which own steps are acknowledged, the tag and tries of the step awaiting its acknowledgement. -/
structure Keyx where
  running   : Bool := false
  secret    : Nat := 0
  ownShare  : Bytes := []
  ownIdent  : Bytes := []
  ownIssuer : Bytes := []
  ownProof  : Bytes := []
  sent      : Nat := 0
  awaitTag  : Option (BitVec 16) := none
  tries     : Nat := 0
  share     : Option Bytes := none
  ident     : Option Bytes := none
  issuer    : Option Bytes := none
  proofOk   : Bool := false
  deriving DecidableEq, Repr, Inhabited

/-- A peer port (02 R36-R38, 11 R268-R287). `room` are the slots of its receive buffer free for each class, `stored` whole packets not yet
checked, which a warm start holds (11 R281), `inbox` the checked ones. -/
structure PeerPort where
  linkUp    : Bool := false
  readyOut  : Bool := false
  state     : PeerState := .down
  txKey     : Option LinkKey := none
  rxKey     : Option LinkKey := none
  auth      : Bool := false
  far       : BitVec 12 := 0
  keyx      : Keyx := {}
  txSeq     : Nat := 0
  replayBuf : List (Nat × Bytes) := []
  badReplay : Nat := 0
  lastReplayAck : Nat := 0
  rxNext    : Nat := 0
  rxDiscard : Bool := false
  owed      : Option Bool := none
  slots     : List Bytes := []
  inbox     : List Packet := []
  stored    : List (List Bytes) := []
  room      : List Nat := [512, 128, 256, 4096]
  credits   : List Nat := [0, 0, 0, 0]
  waiting   : List Packet := []
  replay    : BitVec 32 := 0
  hdrDrop   : BitVec 32 := 0
  misroute  : BitVec 32 := 0
  late      : BitVec 32 := 0
  creditErr : BitVec 32 := 0
  deriving DecidableEq, Repr, Inhabited

/-- A tracker entry (11 R277, R283). `ended` marks one whose tag is only kept until it is released, `own` the near attempt of
an atomic; `got` are the data that have come, `bad` their poison, `comp` the status and subop of the COMP of an ATOMIC whose old
value is still to come. -/
structure Tracker where
  tag    : BitVec 16
  access : Nat
  port   : Nat
  opcode : BitVec 6
  dst    : BitVec 12
  ended  : Bool
  own    : Bool
  got    : Option Bytes
  bad    : Bool
  comp   : Option (Status × Nat)
  deriving DecidableEq, Repr, Inhabited

/-! ### Translation (07) -/

/-- A walk-cache entry: the table a non-leaf entry of `level` names for the VA bits above that level's span. -/
structure WalkPtr where
  part  : Nat
  level : Nat
  vbase : BitVec 64
  table : BitVec 60
  deriving DecidableEq, Repr, Inhabited

/-- Who shares a walk. -/
inductive Asker where
  | access (id : Nat)
  | ats (n : Nat) (tag : Nat)
  deriving DecidableEq, Repr, Inhabited

/-- A walk in progress or waiting for a walker (07 R166, R172, R173). `got` is the entry read that returned. -/
structure Walk where
  id      : Nat
  part    : Nat
  va      : BitVec 64
  stream  : Nat
  askers  : List (Asker × Nat)
  walker  : Option Nat
  level   : Nat
  table   : BitVec 60
  marked  : Bool
  got     : Option AccResult
  pool    : Bool := false
  deriving DecidableEq, Repr, Inhabited

/-- Fault causes (08). -/
inductive Cause where
  | notPresent | permission | malformed | checkFail | seqRange | remoteUnreachable | sealed
  deriving DecidableEq, Repr, Inhabited

/-- A landing record before it is laid out (08 R187); `seq` is given when it joins its ring's order. -/
structure LandRec where
  part     : Nat
  seq      : BitVec 32
  cause    : Cause
  access   : BitVec 8
  resolves : Status
  stream   : Nat
  pending  : Nat
  level    : Nat
  stalled  : Bool
  isMap    : Bool
  port     : BitVec 8
  tag      : BitVec 8
  va       : BitVec 64
  aux      : BitVec 64
  cycles   : BitVec 64
  desc     : BitVec 64
  acc      : Option Nat
  deriving DecidableEq, Repr, Inhabited

/-- States of a stream (08). -/
inductive StreamState where
  | running | stalled | retrying | failing
  deriving DecidableEq, Repr, Inhabited

/-- A stream's stall entry (08 R188): its faulted misses with the record of each. -/
structure Stall where
  state  : StreamState := .running
  misses : List LandRec := []
  latest : BitVec 32 := 0
  timer  : Bool := false
  deriving DecidableEq, Repr, Inhabited

/-- A partition's landing (08 R186-R188). -/
structure Landing where
  base     : BitVec 48 := 0
  valid    : Bool := false
  sizeLog2 : BitVec 5 := 0
  prod     : BitVec 32 := 0
  cons     : BitVec 32 := 0
  lost     : BitVec 32 := 0
  nextSeq  : BitVec 32 := 0
  waiting  : List LandRec := []
  writing  : Option LandRec := none
  deriving DecidableEq, Repr, Inhabited

/-- Sources of an invalidation (08 R194). -/
inductive InvSource where
  | driver
  | ats (n : Nat) (tag : Nat)
  | free_ (w : Nat)
  | release
  | gone
  deriving DecidableEq, Repr, Inhabited

/-- Scope of an invalidation (08 R194). -/
inductive InvScope where
  | range | partition | all
  deriving DecidableEq, Repr, Inhabited

/-- A held invalidation command (08 R195-R199). -/
structure InvCmd where
  source   : InvSource
  ticket   : BitVec 32
  scope    : InvScope
  part     : Nat
  va       : Nat
  pages    : Nat
  drain    : Bool
  taken    : Bool
  inFlight : List Nat
  late     : Bool
  deriving DecidableEq, Repr, Inhabited

/-- Whose answer would bring an access that ended without one to its completion point (08 R197). -/
inductive AckFrom where
  | mem (m : Nat) (tag : BitVec 10)
  | peer (tag : BitVec 16)
  | never
  deriving DecidableEq, Repr, Inhabited

/-- The invalidation unit (08). `unacked` are writes and atomics that held commands had in flight and that have ended at their requester
without the answer that is their completion point: they count as in flight until that answer or their deadline. -/
structure InvUnit where
  va        : BitVec 57 := 0
  pages     : BitVec 32 := 0
  issued    : BitVec 32 := 0
  completed : BitVec 32 := 0
  lastRes   : Status := .ok
  accept    : BitVec 2 := 0
  late      : BitVec 32 := 0
  fence     : BitVec 48 := 0
  vecValid  : Bool := false
  vector    : BitVec 11 := 0
  held      : List InvCmd := []
  atsWait   : List InvCmd := []
  unacked   : List (Nat × AckFrom) := []
  deriving DecidableEq, Repr, Inhabited

/-- A host window (07 R177). -/
structure HostWin where
  enable : Bool := false
  port   : Bool := false
  base   : BitVec 18 := 0
  size   : BitVec 18 := 0
  hpa    : BitVec 64 := 0
  deriving DecidableEq, Repr, Inhabited

/-- A sealed range (07 R178). -/
structure SealRange where
  valid : Bool := false
  base  : BitVec 48 := 0
  size  : BitVec 48 := 0
  deriving DecidableEq, Repr, Inhabited

/-- A mirror-table root (07 R161). -/
structure Root where
  pa    : BitVec 60 := 0
  valid : Bool := false
  deriving DecidableEq, Repr, Inhabited

/-- The translation subsystem (07). -/
structure TransUnit where
  roots     : Tab Root := []
  hostWins  : Tab HostWin := []
  seals     : Tab SealRange := []
  l1        : Tab (List Leaf) := []
  l2        : List Leaf := []
  walkPtrs  : List WalkPtr := []
  walks     : List Walk := []
  nextWalk  : Nat := 0
  rotate    : Nat := 0
  l2Hit     : BitVec 32 := 0
  l2Miss    : BitVec 32 := 0
  walkReads : BitVec 32 := 0
  checkFail : BitVec 32 := 0
  atsInv    : BitVec 32 := 0
  deriving DecidableEq, Repr, Inhabited

/-! ### Partitions, queues, allocator (06) -/

/-- HD_PART_CTRL_p.state (06 R127). -/
inductive PartState where
  | absent | disabled | enabled | stopping | aborting | releasing
  deriving DecidableEq, Repr, Inhabited

/-- HD_Q_STATE_q.state (06) of an owned queue; a queue outside every range of the chart reads UNOWNED. -/
inductive QState where
  | disabled | enabled | stopping | aborting | refused
  deriving DecidableEq, Repr, Inhabited

/-- A queue-table entry (06 R128-R130). `abortProd` is prod at the moment an ABORT was taken (R142); `inList` says that
the list which begins at slot cons is in progress. -/
structure Queue where
  base      : BitVec 57 := 0
  dbEnable  : Bool := false
  enable    : Bool := false
  priority  : BitVec 2 := 0
  channel   : BitVec 8 := 0
  sizeLog2  : BitVec 8 := 0
  pending   : Status := .ok
  state     : QState := .disabled
  prod      : BitVec 32 := 0
  cons      : BitVec 32 := 0
  cursor    : BitVec 64 := 0
  abortProd : BitVec 32 := 0
  deriving DecidableEq, Repr, Inhabited

/-- An attached allocator pool (06 R145-R149): the header fields, the page stack (top first), the slots in use with the
page mapped at each, and the rotating start point. -/
structure Pool where
  arenaBase : BitVec 64
  metaBase  : BitVec 64
  slots     : Nat
  stack     : List (BitVec 60)
  pages     : Tab (BitVec 60)
  used      : List Nat
  start     : Nat
  deriving DecidableEq, Repr, Inhabited

/-- Where an allocation or a free stands (06 R148, R151): waiting for HARBOUR, for journal room, for the count's update; zeroing
pages, finding the L1 tables, writing or clearing leaves, draining, writing the metadata, journalling, zeroing the record, putting pages
back. -/
inductive AllocStage where
  | slow | room | count | zero | tables | writing | drain | freeing | journal | record | undo
  deriving DecidableEq, Repr, Inhabited

/-- An allocation or a free in hand. `tables` are the L1 tables found so far by GiB of the VA space, `seek` the table and level
of the search in hand; `left` counts journal records not yet acknowledged. -/
structure AllocJob where
  id      : Nat
  asker   : AllocAsker
  part    : Nat
  isFree  : Bool
  size    : Nat
  flags   : BitVec 8
  recVa   : BitVec 64
  phys    : Bool
  amount  : Nat
  n       : Nat
  first   : Nat
  pages   : List (BitVec 60)
  stage   : AllocStage
  todo    : List Nat
  tables  : List (Nat × BitVec 60)
  seek    : Nat × BitVec 60
  left    : Nat
  status  : Status
  deriving DecidableEq, Repr, Inhabited

/-- A piece of memory to be written by firmware or the allocator: an address and bytes, or an address and a length of zeros. -/
inductive Chunk where
  | data (addr : Nat) (b : Bytes)
  | zero (addr len : Nat)
  deriving DecidableEq, Repr, Inhabited

/-- A journal record that waits to be written: a run of pages, and the job it is of (06 R149). -/
structure JnlRec where
  map   : Bool
  part  : Nat
  pages : Nat
  va    : Nat
  pa    : BitVec 60
  job   : Nat
  deriving DecidableEq, Repr, Inhabited

/-- Whose writes these are: an allocation's or a free's, a new pool's, a mended pool's leaves and metadata, added pages', a SCRUB's, a QUEUE_SAVE's. -/
inductive BulkOwner where
  | alloc (id : Nat)
  | create (seq : BitVec 32) (p : Nat) (pool : Pool)
  | mend (seq : BitVec 32) (p : Nat) (pool : Pool)
  | attach (seq : BitVec 32) (p : Nat) (pool : Pool)
  | add (seq : BitVec 32)
  | scrub (seq : BitVec 32)
  | save (seq : BitVec 32)
  deriving DecidableEq, Repr, Inhabited

/-- Writes in hand: what is still to be issued, how many await their answers, the first failure. `part` is the partition whose
VAs the addresses are; none for physical addresses. -/
structure BulkJob where
  id     : Nat
  agent  : Agent
  part   : Option Nat
  todo   : List Chunk
  open_  : Nat
  status : Status
  owner  : BulkOwner
  deriving DecidableEq, Repr, Inhabited

/-- The allocator and its mapping journal (06). -/
structure AllocUnit where
  pools     : Tab (Option Pool) := []
  jobs      : List AllocJob := []
  bulks     : List BulkJob := []
  nextId    : Nat := 0
  jnlBase   : BitVec 48 := 0
  jnlProd   : BitVec 32 := 0
  jnlCons   : BitVec 32 := 0
  jnlVecOn  : Bool := false
  jnlVector : BitVec 11 := 0
  jnlSeq    : BitVec 32 := 0
  reserved  : Nat := 0
  jnlQueue  : List JnlRec := []
  torn      : List (AllocJob × Pool) := []
  jnlBusy   : Bool := false
  deriving DecidableEq, Repr, Inhabited

/-! ### Ferry channels (09) and the sluice (10) -/

/-- HD_CH_CTRL_c.state (09 R232). -/
inductive ChState where
  | unused | disabled | enabled | stopping | aborting | fenced
  deriving DecidableEq, Repr, Inhabited

/-- A sequence map in use by a descriptor (07 R180, R181): its header, once read, and the entries read so far. -/
structure SeqMap where
  va         : BitVec 64
  ready      : Bool
  tokenCount : Nat
  blockLog2  : Nat
  tokenBytes : Nat
  entries    : Tab (BitVec 64)
  reading    : Option Nat
  deriving DecidableEq, Repr, Inhabited

/-- A read burst of a running descriptor: its result once it is back, from which physical address, and whether it has entered the hold. -/
structure ReadBurst where
  burst   : Nat
  result  : Option (Status × List (Byte × Bool))
  arrived : Bool
  pa      : BitVec 60 := 0
  deriving DecidableEq, Repr, Inhabited

/-- A destination byte waiting for its write burst, and the read burst its element came from. The address is a logical
offset where the destination is a sequence. -/
structure OutByte where
  addr   : BitVec 64
  val    : Byte
  poison : Bool
  burst  : Nat
  deriving DecidableEq, Repr, Inhabited

/-- Where the running descriptor of a channel stands (09 R223, R224): waiting for its pace level, checked and not started,
reading headers, moving elements, waiting on a tidemark, waiting for an answer, its work done, and the writes that end it. -/
inductive RunPhase where
  | paceWait
  | checked
  | headers
  | active
  | waiting
  | sending
  | drained
  | statusWrite
  | fenceWrite
  deriving DecidableEq, Repr, Inhabited

/-- The contribution of a REDUCE or MERGE (12 R291-R293): the translated ends of the result region, the bytes not yet cut
into pieces with their poison marks, how many bytes have been cut, pieces awaiting their answer, whether any was sent and
whether any source line was poisoned. -/
structure Contribution where
  first   : Option (BitVec 60 × BitVec 64 × Bool) := none
  last    : Option (BitVec 60 × BitVec 64 × Bool) := none
  placed  : Bool := false
  out     : List (Byte × Bool) := []
  cutAt   : Nat := 0
  open_   : Nat := 0
  poison  : Bool := false
  resent  : Bool := false
  deriving DecidableEq, Repr, Inhabited

/-- The zero-run decoder and coder of a descriptor (10 R264-R266): body length once the header is read, body bytes parsed,
elements left in the run and whether they are literals; the run in hand of the coder, body bytes given out, and whether the
header has been written. -/
structure ZeroRun where
  bodyLen : Option Nat := none
  parsed  : Nat := 0
  left    : Nat := 0
  literal : Bool := false
  run     : List (List (Byte × Bool)) := []
  out     : Nat := 0
  closed  : Bool := false
  headed  : Bool := false
  deriving DecidableEq, Repr, Inhabited

/-- The descriptor a channel runs, with its context (09 R204, 10 R236). `unitIx` counts source units (elements, or records of a
block-scaled source) taken whole, `elemIx` elements; `carry` holds the bytes of a unit not yet whole; `group` the elements of
a block-scaled group or of a softmax row being gathered. `quit` says that no more source data is taken, `stopWrites` that no
further write burst is issued. -/
structure Running where
  words      : List (BitVec 64)
  addr       : BitVec 64
  queue      : Option Nat
  cls        : Nat
  phase      : RunPhase
  unstarted  : Bool := true
  paused     : Bool := false
  srcNext    : Nat := 0
  nextBurst  : Nat := 0
  reads      : List ReadBurst := []
  carry      : List (Byte × Bool) := []
  unitIx     : Nat := 0
  elemIx     : Nat := 0
  group      : List (Nat × Option Nat × Bool) := []
  outQ       : List OutByte := []
  quit       : Bool := false
  stopWrites : Bool := false
  early      : Option Status := none
  noFence    : Bool := false
  noFlags    : Bool := false
  noStatus   : Bool := false
  listEnds   : Bool := false
  lfsr       : BitVec 32 := 0
  prbs       : BitVec 31 := 0
  mism       : Nat := 0
  firstMis   : Option Nat := none
  hashed     : Bytes := []
  rootOut    : Bool := false
  seqS       : Option SeqMap := none
  seqD       : Option SeqMap := none
  rangeIx    : Nat := 0
  range      : Option (Nat × Nat) := none
  rangeRead  : Bool := false
  zrc        : ZeroRun := {}
  cmb        : Contribution := {}
  rowHold    : Nat := 0
  fenceLost  : Bool := false
  deriving DecidableEq, Repr, Inhabited

/-- A descriptor fetch (09 R207): the slot it came from and its result once returned; `aborting` marks the fetch of an
unstarted descriptor under ABORT (06 R142). -/
structure Fetch where
  addr     : BitVec 64
  queue    : Option Nat
  aborting : Bool
  result   : Option AccResult
  deriving DecidableEq, Repr, Inhabited

/-- A ferry channel (09). The last eight fields are the management ring of channels 60 to 63 (R233). -/
structure Channel where
  state     : ChState := .unused
  enable    : Bool := false
  count     : BitVec 32 := 0
  under     : BitVec 32 := 0
  paceBase  : BitVec 64 := 0
  paceShift : BitVec 6 := 0
  paceLevel : BitVec 16 := 0
  cmpFirst  : BitVec 64 := 0xFFFFFFFFFFFFFFFF
  wrBytes   : BitVec 64 := 0
  lastQ     : Nat := 4095
  fetch     : Option Fetch := none
  run       : Option Running := none
  pieces    : List Packet := []
  mBase     : BitVec 60 := 0
  mPriority : BitVec 2 := 3
  mSizeLog2 : BitVec 8 := 0
  mCons     : BitVec 32 := 0
  mProd     : BitVec 32 := 0
  mCursor   : BitVec 64 := 0
  mPending  : Status := .ok
  mAbort    : BitVec 32 := 0
  mDbLo     : Option (BitVec 32) := none
  deriving DecidableEq, Repr, Inhabited

/-- One cluster's arbitration of one burst kind (09 R230): the class whose turn it is, the grants it has left, and the
last channel granted per class. -/
structure Arbiter where
  cls  : Nat := 0
  left : Nat := 0
  last : List Nat := [15, 15, 15, 15]
  deriving DecidableEq, Repr, Inhabited

/-- A pipeline in force (10 R267). -/
structure Pipeline where
  route : List Nat := []
  ops   : List (BitVec 32) := []
  elems : BitVec 64 := 0
  deriving DecidableEq, Repr, Inhabited

/-- The sluice (10 R267). -/
structure Sluice where
  pipes  : Tab Pipeline := []
  sat    : BitVec 32 := 0
  ovf    : BitVec 32 := 0
  foldCc : BitVec 32 := 0
  deriving DecidableEq, Repr, Inhabited

/-! ### Combine slots (12) -/

/-- HD_CMB_STATE_s.state. -/
inductive SlotState where
  | free_ | open_ | writing | done | failed
  deriving DecidableEq, Repr, Inhabited

/-- The header of a contribution (12 R292). -/
structure CmbHeader where
  round      : BitVec 16
  slot       : BitVec 16
  index      : Nat
  k          : Nat
  op         : BitVec 8
  type_      : BitVec 8
  norm       : Bool
  failed     : Bool
  dgroups    : Nat
  count      : Nat
  dataBytes  : Nat
  result     : BitVec 64
  tide       : BitVec 16
  part       : BitVec 8
  failStatus : Status
  deriving DecidableEq, Repr, Inhabited

/-- Bytes of one data window of a contribution that wait to be folded (12 R296), with their poison marks; `first` is the offset of
the first in the contribution. -/
structure CmbWindow where
  index : Nat
  first : Nat
  data  : List (Byte × Bool)
  deriving DecidableEq, Repr, Inhabited

/-- A combine slot and the work of its round (12 R288-R302). `acc` holds one entry per result element: its bytes, whether
it is poisoned, and the index of the contribution it awaits next. -/
structure Slot where
  state    : SlotState := .free_
  status   : Status := .ok
  round    : BitVec 16 := 0
  folded   : Nat := 0
  header   : Option CmbHeader := none
  accepted : List Nat := []
  refused  : List (Nat × Status) := []
  served   : List (Nat × Nat) := []
  parked   : List CmbWindow := []
  acc      : List (Bytes × Bool × Nat) := []
  reserved : Nat := 0
  results  : Nat := 0
  poisoned : Bool := false
  deriving DecidableEq, Repr, Inhabited

/-- Combine registers that belong to no one slot (12 R312). -/
structure CmbUnit where
  slots   : Tab Slot := []
  failed  : BitVec 32 := 0
  refused : BitVec 32 := 0
  endStatus : Status := .ok
  endPart : BitVec 4 := 0
  endSlot : BitVec 12 := 0
  deriving DecidableEq, Repr, Inhabited

/-! ### Tide counters (13) -/

/-- What a register path has staged or latched (13 R321, R334; 17 R413): the counter and low half staged, and the high
halves latched by reading CK_CYCLES (per slice), HD_TIDE (per counter) and SH_MEAS_SEQ. -/
structure PathLatch where
  staged  : Option (Nat × BitVec 32) := none
  cyclesHi : List (BitVec 32) := [0, 0, 0]
  tideHi  : Tab (BitVec 32) := []
  measHi  : BitVec 32 := 0
  deriving DecidableEq, Repr, Inhabited

/-- The tide counters (13 R317-R334). -/
structure TideUnit where
  values  : Tab (BitVec 64) := []
  packets : Tab Bool := []
  refused : BitVec 32 := 0
  deriving DecidableEq, Repr, Inhabited

/-! ### Coherent windows (14) -/

/-- What the home agent serves (14 R340, R341); `giveUp` takes a line from its holders for a partition release, `gone` is a request whose
asker is gone and which only awaits what its snoops bring back (R356). -/
inductive HomeReq where
  | hostRead (n : Nat) (tag : Nat) (mv : MetaValue)
  | hostWrite (n : Nat) (tag : Nat) (mv : MetaValue) (partial_ : Bool) (data : Bytes) (be : BitVec 64) (poison : Bool)
  | access (id : Nat)
  | peerOwn (port : Nat) (tag : BitVec 16) (source : BitVec 12)
  | peerWb (tag : BitVec 16) (source : BitVec 12) (data : Bytes) (poison : Bool)
  | giveUp (part : Nat)
  | gone
  deriving DecidableEq, Repr, Inhabited

/-- What a host sends on CXL.cache or CXL.mem: in a warm start it is held, and taken after it (02 R35; 14 R356). -/
inductive HostMsg where
  | read (addr : Nat) (mv : MetaValue) (tag : Nat)
  | write (addr : Nat) (mv : MetaValue) (partial_ : Bool) (tag : Nat) (data : Bytes) (be : BitVec 64) (bad : Bool)
  | conflict (addr : BitVec 48)
  | unknown (isRead : Bool) (addr tag : Nat)
  | hdm (write : Bool) (addr tag : Nat) (data : Bytes) (be : BitVec 64) (bad : Bool)
  | snoop (addr : BitVec 64)
  | answer (line : Nat) (st : BiRsp)
  deriving DecidableEq, Repr, Inhabited

/-- Where a home transaction stands. -/
inductive HomePhase where
  | queued | evicting | snooping | reading | writing
  deriving DecidableEq, Repr, Inhabited

/-- A home-agent transaction: one tracker entry (14 R338). `snoops` are the caches still to answer, each with whether the snoop
invalidates and whether the cache has written the line back; `wbs` the write-backs not yet acknowledged; `quiet` is taken when
the request is ordered; `old` is an atomic's old value, `swapped` the success of its CAS. -/
structure HomeTxn where
  id      : Nat
  line    : BitVec 48
  req     : HomeReq
  phase   : HomePhase
  snoops  : List (Nat × Bool × Bool)
  quiet   : Bool
  victim  : Option (BitVec 48)
  wbs     : Nat
  old     : Nat
  swapped : Bool
  deriving DecidableEq, Repr, Inhabited

/-- A snoop-filter entry (14 R344); the filter's list is ordered, least recently granted first. An entry with no holder keeps
the place of a grant in progress. -/
structure FilterEntry where
  line : BitVec 48
  mask : BitVec 8
  excl : Bool
  deriving DecidableEq, Repr, Inhabited

/-- A line of the near-atomic buffer (14 R351); the list is ordered, least recently used first. `count` are the atomics performed
on it, `wb` its WRITEBACK's access once it is on its way out. -/
structure NearLine where
  line     : BitVec 60
  data     : Bytes
  bad      : Bool
  evicting : Bool
  count    : Nat
  wb       : Nat := 0
  deriving DecidableEq, Repr, Inhabited

/-- The home agent, snoop filter, near-atomic buffer and predictor (14). `hostHeld` is what the hosts sent in a warm start, in order. -/
structure HomeUnit where
  attach    : Tab (BitVec 32) := []
  txns      : List HomeTxn := []
  nextTxn   : Nat := 0
  filter    : List FilterEntry := []
  evict     : BitVec 32 := 0
  stale     : BitVec 32 := 0
  lost      : BitVec 32 := 0
  conflict  : BitVec 32 := 0
  wbBuf     : List Nat := [0, 0]
  conflicts : List (Nat × BitVec 48) := []
  hostHeld  : List (Nat × HostMsg) := []
  near      : List NearLine := []
  predictor : Tab (BitVec 2) := []
  apEnable  : Bool := true
  apNear    : BitVec 32 := 0
  apFar     : BitVec 32 := 0
  deriving DecidableEq, Repr, Inhabited

/-! ### Firmware, rings, mode changes (05) -/

/-- SH_FW_STATUS_c.state. -/
inductive CoreState where
  | held | verified | running | watchdog | fenced
  deriving DecidableEq, Repr, Inhabited

/-- A firmware core (05 R101-R109, R122). `wdt` is the watchdog's count in CTRL cycles; `sram` is what a
verified image put into the core's SRAM from offset 0, and `entry` where it begins (R102, R104). -/
structure Core where
  state    : CoreState := .held
  result   : Status := .ok
  expiries : BitVec 16 := 0
  period   : BitVec 32 := 0x08000000
  measured : Option Bytes := none
  release  : BitVec 32 := 0
  wdt      : Nat := 0
  sram     : Bytes := []
  entry    : BitVec 32 := 0
  shedding : Bool := false
  shed     : BitVec 32 := 0
  deriving DecidableEq, Repr, Inhabited

/-- A load being checked (05 R102-R106). -/
structure FwLoad where
  addr    : BitVec 48 := 0
  busy    : Bool := false
  reload  : Bool := false
  cores   : BitVec 7 := 0
  result  : Status := .ok
  deriving DecidableEq, Repr, Inhabited

end Sys2Proof.Machine
end

