-- ==== Sys2Proof/Machine/Bytes.lean ====
section
/-! DEFINITION. Byte strings: little-endian and big-endian numbers (00 R12), slices, bit fields of numbers, and the three
check codes the spec uses: CRC-8 (07), CRC-16/CCITT-FALSE (06) and CRC-32C (09). -/

namespace Sys2Proof.Machine

/-- The little-endian number a byte string holds. -/
def leNat : Bytes → Nat
  | [] => 0
  | b :: rest => b.toNat + 256 * leNat rest

/-- `n` bytes of `v`, lowest first. -/
def leBytes : Nat → Nat → Bytes
  | 0, _ => []
  | n + 1, v => BitVec.ofNat 8 v :: leBytes n (v / 256)

/-- The big-endian number a byte string holds. -/
def beNat (b : Bytes) : Nat := leNat b.reverse

/-- `n` bytes of `v`, highest first. -/
def beBytes (n v : Nat) : Bytes := (leBytes n v).reverse

/-- `n` zero bytes. -/
def zeros (n : Nat) : Bytes := List.replicate n 0

/-- `n` bytes from offset `off`; bytes beyond the end are left out. -/
def cut (b : Bytes) (off n : Nat) : Bytes := (b.drop off).take n

/-- The byte at `off`, zero beyond the end. -/
def byteAt (b : Bytes) (off : Nat) : Nat := ((b.drop off).headD 0).toNat

/-- The little-endian field of `n` bytes at `off`. -/
def fld (b : Bytes) (off n : Nat) : Nat := leNat (cut b off n)

/-- Every byte is zero. -/
def allZero (b : Bytes) : Bool := b.all (fun x => x == 0)

/-- The bytes, padded with zeros or cut to exactly `n`. -/
def padTo (b : Bytes) (n : Nat) : Bytes := b.take n ++ zeros (n - b.length)

/-- `b` with `v` laid over it from offset `off`; the result keeps the length of `b`. -/
def overlay (b : Bytes) (off : Nat) (v : Bytes) : Bytes :=
  b.take off ++ v.take (b.length - off) ++ b.drop (off + v.length)

/-- Bits [hi:lo] of a number. -/
def bits (v hi lo : Nat) : Nat := (v >>> lo) % 2 ^ (hi + 1 - lo)

/-- Bit `i` of a number. -/
def bit (v i : Nat) : Bool := (v >>> i) % 2 == 1

/-- One if true. -/
def b2n (b : Bool) : Nat := if b then 1 else 0

/-- Bit `i` of the result is the `i`-th entry. -/
def maskOf : List Bool → Nat
  | [] => 0
  | b :: rest => b2n b + 2 * maskOf rest

/-- The lowest `n` bits as a list, bit 0 first. -/
def bitList : Nat → Nat → List Bool
  | 0, _ => []
  | n + 1, v => (v % 2 == 1) :: bitList n (v / 2)

/-- `v` rounded up to a multiple of `m`. -/
def roundUp (v m : Nat) : Nat := (v + m - 1) / m * m

/-- `v` rounded down to a multiple of `m`. -/
def roundDown (v m : Nat) : Nat := v / m * m

/-- The ranges [a, a+n) and [b, b+m) share a number. -/
def overlaps (a n b m : Nat) : Bool := decide (a < b + m) && decide (b < a + n) && decide (0 < n) && decide (0 < m)

/-- [a, a+n) lies inside [b, b+m). -/
def inside (a n b m : Nat) : Bool := decide (b ≤ a) && decide (a + n ≤ b + m)

/-- Saturating increment of a 32-bit counter. -/
def sat32 (v : BitVec 32) (n : Nat := 1) : BitVec 32 := BitVec.ofNat 32 (min (v.toNat + n) 0xFFFFFFFF)

/-! ### Check codes -/

/-- One bit of CRC-32C (polynomial 0x1EDC6F41, reflected). -/
def crc32Bit (c : Nat) : Nat := if c % 2 = 1 then (c >>> 1) ^^^ 0x82F63B78 else c >>> 1

/-- One byte of CRC-32C. -/
def crc32Byte (c : Nat) (b : Byte) : Nat :=
  crc32Bit (crc32Bit (crc32Bit (crc32Bit (crc32Bit (crc32Bit (crc32Bit (crc32Bit (c ^^^ b.toNat))))))))

/-- CRC-32C of a byte string: initial value and final exclusive-or 0xFFFF_FFFF. -/
def crc32c (b : Bytes) : Nat := (b.foldl crc32Byte 0xFFFFFFFF) ^^^ 0xFFFFFFFF

/-- One bit of CRC-16/CCITT-FALSE (polynomial 0x1021). -/
def crc16Bit (c : Nat) : Nat := if c ≥ 0x8000 then ((c * 2) % 0x10000) ^^^ 0x1021 else c * 2

/-- One byte of CRC-16/CCITT-FALSE. -/
def crc16Byte (c : Nat) (b : Byte) : Nat :=
  crc16Bit (crc16Bit (crc16Bit (crc16Bit (crc16Bit (crc16Bit (crc16Bit (crc16Bit (c ^^^ (b.toNat * 256)))))))))

/-- CRC-16/CCITT-FALSE: initial value 0xFFFF, no final exclusive-or. -/
def crc16 (b : Bytes) : Nat := b.foldl crc16Byte 0xFFFF

/-- One bit of the CRC-8 with polynomial 0x07. -/
def crc8Bit (c : Nat) : Nat := if c ≥ 0x80 then ((c * 2) % 0x100) ^^^ 0x07 else c * 2

/-- One byte of the CRC-8. -/
def crc8Byte (c : Nat) (b : Byte) : Nat :=
  crc8Bit (crc8Bit (crc8Bit (crc8Bit (crc8Bit (crc8Bit (crc8Bit (crc8Bit (c ^^^ b.toNat))))))))

/-- CRC-8 with initial value 0 and no final exclusive-or. -/
def crc8 (b : Bytes) : Nat := b.foldl crc8Byte 0

/-- A 64-byte record closed by its CRC-32C: 60 bytes of content, padded, then the crc over them. -/
def sealRecord (b : Bytes) : Bytes := padTo b 60 ++ leBytes 4 (crc32c (padTo b 60))

end Sys2Proof.Machine
end

