-- ==== Sys2Proof/Machine/Crypto.lean ====
section
/-! DEFINITION. The named cryptographic functions the identity engine and the links use: SHA-384, HMAC-SHA-384 and
HKDF-SHA-384 (15 R358, R365), ECDSA and ECDH over P-384 (15 R361, R363), AES-256-GCM (11 R279). The spec names the standards
and not their constants; these are the standards' own (PRESUMED, log 5). -/

namespace Sys2Proof.Machine

/-! ### SHA-384 (FIPS 180-4) -/

/-- A 64-bit word as a number. -/
def w64 (v : Nat) : Nat := v % 0x10000000000000000

/-- Rotate a 64-bit word right. -/
def rotr64 (v n : Nat) : Nat := w64 ((v >>> n) ||| (v <<< (64 - n)))

/-- Round constants 0 to 15. -/
def shaK0 : List Nat :=
  [0x428A2F98D728AE22, 0x7137449123EF65CD, 0xB5C0FBCFEC4D3B2F, 0xE9B5DBA58189DBBC,
   0x3956C25BF348B538, 0x59F111F1B605D019, 0x923F82A4AF194F9B, 0xAB1C5ED5DA6D8118,
   0xD807AA98A3030242, 0x12835B0145706FBE, 0x243185BE4EE4B28C, 0x550C7DC3D5FFB4E2,
   0x72BE5D74F27B896F, 0x80DEB1FE3B1696B1, 0x9BDC06A725C71235, 0xC19BF174CF692694]

/-- Round constants 16 to 31. -/
def shaK1 : List Nat :=
  [0xE49B69C19EF14AD2, 0xEFBE4786384F25E3, 0x0FC19DC68B8CD5B5, 0x240CA1CC77AC9C65,
   0x2DE92C6F592B0275, 0x4A7484AA6EA6E483, 0x5CB0A9DCBD41FBD4, 0x76F988DA831153B5,
   0x983E5152EE66DFAB, 0xA831C66D2DB43210, 0xB00327C898FB213F, 0xBF597FC7BEEF0EE4,
   0xC6E00BF33DA88FC2, 0xD5A79147930AA725, 0x06CA6351E003826F, 0x142929670A0E6E70]

/-- Round constants 32 to 47. -/
def shaK2 : List Nat :=
  [0x27B70A8546D22FFC, 0x2E1B21385C26C926, 0x4D2C6DFC5AC42AED, 0x53380D139D95B3DF,
   0x650A73548BAF63DE, 0x766A0ABB3C77B2A8, 0x81C2C92E47EDAEE6, 0x92722C851482353B,
   0xA2BFE8A14CF10364, 0xA81A664BBC423001, 0xC24B8B70D0F89791, 0xC76C51A30654BE30,
   0xD192E819D6EF5218, 0xD69906245565A910, 0xF40E35855771202A, 0x106AA07032BBD1B8]

/-- Round constants 48 to 63. -/
def shaK3 : List Nat :=
  [0x19A4C116B8D2D0C8, 0x1E376C085141AB53, 0x2748774CDF8EEB99, 0x34B0BCB5E19B48A8,
   0x391C0CB3C5C95A63, 0x4ED8AA4AE3418ACB, 0x5B9CCA4F7763E373, 0x682E6FF3D6B2B8A3,
   0x748F82EE5DEFB2FC, 0x78A5636F43172F60, 0x84C87814A1F0AB72, 0x8CC702081A6439EC,
   0x90BEFFFA23631E28, 0xA4506CEBDE82BDE9, 0xBEF9A3F7B2C67915, 0xC67178F2E372532B]

/-- Round constants 64 to 79. -/
def shaK4 : List Nat :=
  [0xCA273ECEEA26619C, 0xD186B8C721C0C207, 0xEADA7DD6CDE0EB1E, 0xF57D4F7FEE6ED178,
   0x06F067AA72176FBA, 0x0A637DC5A2C898A6, 0x113F9804BEF90DAE, 0x1B710B35131C471B,
   0x28DB77F523047D84, 0x32CAAB7B40C72493, 0x3C9EBE0A15C9BEBC, 0x431D67C49C100D4C,
   0x4CC5D4BECB3E42B6, 0x597F299CFC657E2A, 0x5FCB6FAB3AD6FAEC, 0x6C44198C4A475817]

/-- The 80 round constants. -/
def shaK : List Nat := shaK0 ++ shaK1 ++ shaK2 ++ shaK3 ++ shaK4

/-- The initial hash value. -/
def shaInit : List Nat :=
  [0xCBBB9D5DC1059ED8, 0x629A292A367CD507, 0x9159015A3070DD17, 0x152FECD8F70E5939,
   0x67332667FFC00B31, 0x8EB44A8768581511, 0xDB0C2E0D64F98FA7, 0x47B5481DBEFA4FA4]

/-- The next word of the message schedule from the last sixteen, newest first. -/
def shaNextW (w : List Nat) : Nat :=
  let a := w.getD 14 0
  let b := w.getD 1 0
  let s0 := rotr64 a 1 ^^^ rotr64 a 8 ^^^ (a >>> 7)
  let s1 := rotr64 b 19 ^^^ rotr64 b 61 ^^^ (b >>> 6)
  w64 (w.getD 15 0 + s0 + w.getD 6 0 + s1)

/-- One round on the eight working words with schedule word `w` and constant `k`. -/
def shaRound (h : List Nat) (w k : Nat) : List Nat :=
  match h with
  | [a, b, c, d, e, f, g, i] =>
    let s1 := rotr64 e 14 ^^^ rotr64 e 18 ^^^ rotr64 e 41
    let ch := (e &&& f) ^^^ ((0xFFFFFFFFFFFFFFFF - e) &&& g)
    let t1 := w64 (i + s1 + ch + k + w)
    let s0 := rotr64 a 28 ^^^ rotr64 a 34 ^^^ rotr64 a 39
    let maj := (a &&& b) ^^^ (a &&& c) ^^^ (b &&& c)
    [w64 (t1 + s0 + maj), a, b, c, w64 (d + t1), e, f, g]
  | _ => h

/-- The rounds: the schedule's first sixteen words are the block's, `w` holds the last sixteen, newest first. -/
def shaRounds : List Nat → List Nat → List Nat → List Nat → List Nat
  | [], _, _, h => h
  | k :: ks, b :: bs, w, h => shaRounds ks bs ((b :: w).take 16) (shaRound h b k)
  | k :: ks, [], w, h =>
    let n := shaNextW w
    shaRounds ks [] ((n :: w).take 16) (shaRound h n k)

/-- The sixteen big-endian words of a 128-byte block. -/
def shaWords (b : Bytes) : List Nat := (List.range 16).map (fun i => beNat (cut b (8 * i) 8))

/-- Hash one block into the hash value. -/
def shaBlock (h : List Nat) (b : Bytes) : List Nat :=
  List.zipWith (fun x y => w64 (x + y)) h (shaRounds shaK (shaWords b) [] h)

/-- Hash `n` blocks. -/
def shaBlocks : Nat → List Nat → Bytes → List Nat
  | 0, h, _ => h
  | n + 1, h, b => shaBlocks n (shaBlock h (b.take 128)) (b.drop 128)

/-- The padding of a message of `n` bytes. -/
def shaPad (n : Nat) : Bytes := 0x80 :: zeros ((239 - n % 128) % 128) ++ beBytes 16 (8 * n)

/-- SHA-384. (PRESUMED, log 5) -/
def sha384 (m : Bytes) : Bytes :=
  let p := m ++ shaPad m.length
  ((shaBlocks (p.length / 128) shaInit p).take 6).flatMap (beBytes 8)

/-- HMAC-SHA-384 (RFC 2104). (PRESUMED, log 5) -/
def hmac384 (key msg : Bytes) : Bytes :=
  let k := padTo (if 128 < key.length then sha384 key else key) 128
  sha384 (k.map (fun b => b ^^^ 0x5C) ++ sha384 (k.map (fun b => b ^^^ 0x36) ++ msg))

/-- HKDF-SHA-384 for up to 96 bytes (RFC 5869). (PRESUMED, log 5) -/
def hkdf384 (salt ikm info : Bytes) (n : Nat) : Bytes :=
  let prk := hmac384 salt ikm
  let t1 := hmac384 prk (info ++ [1])
  let t2 := hmac384 prk (t1 ++ info ++ [2])
  (t1 ++ t2).take n

/-- The bytes of an ASCII label. -/
def ascii (s : String) : Bytes := s.toList.map (fun c => BitVec.ofNat 8 c.toNat)

/-! ### The tree hash (15 R371) -/

/-- Bytes in a leaf of the tree hash. -/
def leafBytes : Nat := 2097152

/-- The leaves of the tree hash from leaf `i` on. -/
def treeLeaves : Nat → Nat → Bytes → Bytes
  | 0, _, _ => []
  | n + 1, i, b => sha384 (0x00 :: leBytes 8 i ++ b.take leafBytes) ++ treeLeaves n (i + 1) (b.drop leafBytes)

/-- The root over the leaves. -/
def treeRoot (len : Nat) (leaves : Bytes) : Bytes := sha384 (0x01 :: leBytes 8 len ++ leaves)

/-- The tree hash of a byte string. -/
def treeHash (b : Bytes) : Bytes := treeRoot b.length (treeLeaves ((b.length + leafBytes - 1) / leafBytes) 0 b)

/-! ### P-384 (FIPS 186-5, SP 800-186) -/

/-- The field prime. -/
def p384P : Nat :=
  0xFFFFFFFFFFFFFFFFFFFFFFFFFFFFFFFFFFFFFFFFFFFFFFFFFFFFFFFFFFFFFFFEFFFFFFFF0000000000000000FFFFFFFF

/-- The order of the base point. -/
def p384N : Nat :=
  0xFFFFFFFFFFFFFFFFFFFFFFFFFFFFFFFFFFFFFFFFFFFFFFFFC7634D81F4372DDF581A0DB248B0A77AECEC196ACCC52973

/-- The coefficient b. -/
def p384B : Nat :=
  0xB3312FA7E23EE7E4988E056BE3F82D19181D9C6EFE8141120314088F5013875AC656398D8A2ED19D2A85C8EDD3EC2AEF

/-- The base point's x. -/
def p384Gx : Nat :=
  0xAA87CA22BE8B05378EB1C71EF320AD746E1D3B628BA79B9859F741E082542A385502F25DBF55296C3A545E3872760AB7

/-- The base point's y. -/
def p384Gy : Nat :=
  0x3617DE4A96262C6F5D9E98BF9292DC29F8F41DBD289A147CE9DA3113B5F0B8C00A60B1CE1D7E819D7A431D7C90EA0E5F

/-- `b ^ e` modulo `m`, over the `n` low bits of the exponent. -/
def powMod : Nat → Nat → Nat → Nat → Nat
  | 0, _, _, m => 1 % m
  | n + 1, b, e, m => (if e % 2 = 1 then b else 1) * powMod n (b * b % m) (e / 2) m % m

/-- The inverse modulo a 384-bit prime. -/
def invMod (a m : Nat) : Nat := powMod 384 (a % m) (m - 2) m

/-- A point in Jacobian coordinates; z = 0 is the point at infinity. -/
structure JPoint where
  x : Nat
  y : Nat
  z : Nat
  deriving DecidableEq, Repr, Inhabited

/-- `a - b` in the field. -/
def fsub (a b : Nat) : Nat := (a + p384P - b % p384P) % p384P

/-- Double a point (a = -3). -/
def jDouble (q : JPoint) : JPoint :=
  let zz := q.z * q.z % p384P
  let m := 3 * (fsub q.x zz * ((q.x + zz) % p384P)) % p384P
  let yy := q.y * q.y % p384P
  let s := 4 * q.x * yy % p384P
  let x := fsub (m * m % p384P) (2 * s)
  { x := x, y := fsub (m * fsub s x % p384P) (8 * (yy * yy % p384P)), z := 2 * q.y * q.z % p384P }

/-- Add two points. -/
def jAdd (q r : JPoint) : JPoint :=
  if q.z = 0 then r else if r.z = 0 then q else
  let zz1 := q.z * q.z % p384P
  let zz2 := r.z * r.z % p384P
  let u1 := q.x * zz2 % p384P
  let u2 := r.x * zz1 % p384P
  let s1 := q.y * (zz2 * r.z % p384P) % p384P
  let s2 := r.y * (zz1 * q.z % p384P) % p384P
  if u1 = u2 then (if s1 = s2 then jDouble q else { x := 1, y := 1, z := 0 }) else
  let h := fsub u2 u1
  let r' := fsub s2 s1
  let hh := h * h % p384P
  let hhh := h * hh % p384P
  let v := u1 * hh % p384P
  let x := fsub (fsub (r' * r' % p384P) hhh) (2 * v)
  { x := x, y := fsub (r' * fsub v x % p384P) (s1 * hhh % p384P), z := h * (q.z * r.z % p384P) % p384P }

/-- Multiply a point by the `n` low bits of a scalar. -/
def jMul : Nat → Nat → JPoint → JPoint
  | 0, _, _ => { x := 1, y := 1, z := 0 }
  | n + 1, k, q =>
    let r := jMul n (k / 2) (jDouble q)
    if k % 2 = 1 then jAdd r q else r

/-- The affine x and y of a point; zeros at infinity. -/
def affine (q : JPoint) : Nat × Nat :=
  if q.z = 0 then (0, 0) else
  let i := invMod q.z p384P
  let ii := i * i % p384P
  (q.x * ii % p384P, q.y * (ii * i % p384P) % p384P)

/-- The base point. -/
def p384G : JPoint := { x := p384Gx, y := p384Gy, z := 1 }

/-- A public key, X then Y, 48 bytes each, big-endian. -/
def pubBytes (q : JPoint) : Bytes := beBytes 48 (affine q).1 ++ beBytes 48 (affine q).2

/-- The point a 96-byte public key names, if it lies on the curve. -/
def pubPoint (k : Bytes) : Option JPoint :=
  let x := beNat (k.take 48)
  let y := beNat ((k.drop 48).take 48)
  if k.length = 96 ∧ x < p384P ∧ y < p384P ∧ y * y % p384P = (fsub (x * x % p384P * x) (3 * x) + p384B) % p384P
  then some { x := x, y := y, z := 1 } else none

/-- The key pair of a private scalar: its public key. -/
def pubOf (d : Nat) : Bytes := pubBytes (jMul 384 d p384G)

/-- ECDSA over a SHA-384 digest with per-signature secret `k`; r then s, 48 bytes each, big-endian. (PRESUMED, log 5) -/
def ecdsaSign (d k : Nat) (digest : Bytes) : Bytes :=
  let r := (affine (jMul 384 k p384G)).1 % p384N
  let s := invMod k p384N * ((beNat digest + r * d) % p384N) % p384N
  beBytes 48 r ++ beBytes 48 s

/-- ECDSA verification of a 96-byte signature over a SHA-384 digest. -/
def ecdsaVerify (pub digest sig : Bytes) : Bool :=
  match pubPoint pub with
  | none => false
  | some q =>
    let r := beNat (sig.take 48)
    let s := beNat ((sig.drop 48).take 48)
    if sig.length = 96 ∧ 0 < r ∧ r < p384N ∧ 0 < s ∧ s < p384N then
      let w := invMod s p384N
      let t := jAdd (jMul 384 (beNat digest * w % p384N) p384G) (jMul 384 (r * w % p384N) q)
      decide (t.z ≠ 0) && (affine t).1 % p384N == r
    else false

/-- ECDH: the x coordinate of the shared point, 48 bytes (none where the far key is no point of the curve). -/
def ecdh (d : Nat) (pub : Bytes) : Option Bytes :=
  (pubPoint pub).map (fun q => beBytes 48 (affine (jMul 384 d q)).1)

/-- The key pair of a 48-byte CDI (15 R358): the private scalar. -/
def keypair (cdi : Bytes) : Nat :=
  let t := hmac384 cdi (ascii "KEY" ++ [1]) ++ hmac384 cdi (ascii "KEY" ++ [2])
  beNat (t.take 56) % (p384N - 1) + 1

/-! ### AES-256-GCM (FIPS 197, SP 800-38D) -/

/-- Multiply by x in GF(2^8). -/
def xtime (a : Nat) : Nat := if a ≥ 0x80 then ((a * 2) % 256) ^^^ 0x1B else a * 2

/-- Multiply in GF(2^8) over the `n` low bits of `b`. -/
def gmul8 : Nat → Nat → Nat → Nat
  | 0, _, _ => 0
  | n + 1, a, b => (if b % 2 = 1 then a else 0) ^^^ gmul8 n (xtime a) (b / 2)

/-- Square in GF(2^8). -/
def gsq (a : Nat) : Nat := gmul8 8 a a

/-- The inverse in GF(2^8): the 254th power. -/
def ginv (a : Nat) : Nat :=
  let a2 := gsq a
  let a4 := gsq a2
  let a8 := gsq a4
  let a16 := gsq a8
  let a32 := gsq a16
  let a64 := gsq a32
  gmul8 8 (gmul8 8 (gmul8 8 a2 a4) (gmul8 8 a8 a16)) (gmul8 8 (gmul8 8 a32 a64) (gsq a64))

/-- Rotate a byte left. -/
def rotl8 (a n : Nat) : Nat := ((a <<< n) ||| (a >>> (8 - n))) % 256

/-- The AES substitution box. -/
def sbox (a : Nat) : Nat :=
  let b := ginv a
  b ^^^ rotl8 b 1 ^^^ rotl8 b 2 ^^^ rotl8 b 3 ^^^ rotl8 b 4 ^^^ 0x63

/-- The next key word: `prev` is the word before, `back` the word eight before, `i` its index. -/
def keyWord (i rcon : Nat) (prev back : List Nat) : List Nat :=
  let t := if i % 8 = 0 then
      match prev with
      | [a, b, c, d] => [sbox b ^^^ rcon, sbox c, sbox d, sbox a]
      | _ => prev
    else if i % 8 = 4 then prev.map sbox else prev
  List.zipWith (fun x y => x ^^^ y) t back

/-- Expand the key: `ws` newest first. -/
def keyExpand : Nat → Nat → Nat → List (List Nat) → List (List Nat)
  | 0, _, _, ws => ws
  | n + 1, i, rcon, ws =>
    keyExpand n (i + 1) (if i % 8 = 0 then xtime rcon else rcon) (keyWord i rcon (ws.getD 0 []) (ws.getD 7 []) :: ws)

/-- The 60 words of an AES-256 key schedule. -/
def aesKeys (key : Bytes) : List (List Nat) :=
  (keyExpand 52 8 1 ((List.range 8).map (fun i => (cut key (4 * i) 4).map BitVec.toNat)).reverse).reverse

/-- Add a round key to a state of sixteen bytes. -/
def addKey (st : List Nat) (ks : List (List Nat)) : List Nat := List.zipWith (fun x y => x ^^^ y) st ks.flatten

/-- Shift the rows of a state held by columns. -/
def shiftRows (st : List Nat) : List Nat :=
  (List.range 16).map (fun i => st.getD ((i + 4 * (i % 4)) % 16) 0)

/-- Mix one column. -/
def mixCol (c : List Nat) : List Nat :=
  match c with
  | [a, b, d, e] =>
    [xtime a ^^^ xtime b ^^^ b ^^^ d ^^^ e, a ^^^ xtime b ^^^ xtime d ^^^ d ^^^ e,
     a ^^^ b ^^^ xtime d ^^^ xtime e ^^^ e, xtime a ^^^ a ^^^ b ^^^ d ^^^ xtime e]
  | _ => c

/-- Mix the columns. -/
def mixCols (st : List Nat) : List Nat := (List.range 4).flatMap (fun i => mixCol ((st.drop (4 * i)).take 4))

/-- The middle and last rounds. -/
def aesRounds : Nat → List Nat → List (List Nat) → List Nat
  | 0, st, ks => addKey (shiftRows (st.map sbox)) (ks.take 4)
  | n + 1, st, ks => aesRounds n (addKey (mixCols (shiftRows (st.map sbox))) (ks.take 4)) (ks.drop 4)

/-- Encrypt one block under an expanded key. -/
def aesBlock (ks : List (List Nat)) (b : Bytes) : Bytes :=
  (aesRounds 13 (addKey (b.map BitVec.toNat) (ks.take 4)) (ks.drop 4)).map (BitVec.ofNat 8)

/-- Multiply in GF(2^128) by GCM's rule, over the `n` bits of `x` still to take, highest first. -/
def ghashMul : Nat → Nat → Nat → Nat → Nat
  | 0, _, _, z => z
  | n + 1, x, v, z =>
    ghashMul n x (if v % 2 = 1 then (v >>> 1) ^^^ (0xE1 <<< 120) else v >>> 1)
      (if bit x n then z ^^^ v else z)

/-- GHASH over `n` blocks. -/
def ghash : Nat → Nat → Nat → Bytes → Nat
  | 0, _, y, _ => y
  | n + 1, h, y, b => ghash n h (ghashMul 128 (y ^^^ beNat (b.take 16)) h 0) (b.drop 16)

/-- Counter-mode encryption of `n` blocks from counter `c`. -/
def gctr : Nat → List (List Nat) → Bytes → Nat → Bytes → Bytes
  | 0, _, _, _, _ => []
  | n + 1, ks, iv, c, b =>
    List.zipWith (fun x y => x ^^^ y) (b.take 16) (aesBlock ks (iv ++ beBytes 4 c)) ++ gctr n ks iv (c + 1) (b.drop 16)

/-- The tag of a ciphertext with additional data. -/
def gcmTag (ks : List (List Nat)) (iv aad ct : Bytes) : Bytes :=
  let h := beNat (aesBlock ks (zeros 16))
  let m := padTo aad (roundUp aad.length 16) ++ padTo ct (roundUp ct.length 16)
    ++ beBytes 8 (8 * aad.length) ++ beBytes 8 (8 * ct.length)
  List.zipWith (fun x y => x ^^^ y) (beBytes 16 (ghash (m.length / 16) h 0 m)) (aesBlock ks (iv ++ beBytes 4 1))

/-- AES-256-GCM encryption with a 96-bit nonce: the ciphertext and the tag. -/
def gcmSeal (key iv aad pt : Bytes) : Bytes × Bytes :=
  let ks := aesKeys key
  let ct := gctr ((pt.length + 15) / 16) ks iv 2 pt
  (ct, gcmTag ks iv aad ct)

/-- AES-256-GCM decryption: the plaintext if the tag is right. -/
def gcmOpen (key iv aad ct tag : Bytes) : Option Bytes :=
  let ks := aesKeys key
  if gcmTag ks iv aad ct = tag then some (gctr ((ct.length + 15) / 16) ks iv 2 ct) else none

end Sys2Proof.Machine
end

