-- ==== Sys2Proof/Config.lean ====
section
/-! DEFINITION. What an implementation fixes and what the spec leaves open: constants and functions with no body, so that
no proof can rest on a value of theirs. -/

namespace Sys2Proof

/-- M1, the SHA-384 digest of the 64 KiB boot ROM, whose bytes the spec does not give (15 R358). (DESIGN CHOICE, log 18) -/
opaque Config.bootRomDigest : BitVec 384

/-- The firmware-key hash in the SEC boot ROM (05 R104 check 5), which the spec does not give. (DESIGN CHOICE, log 18) -/
opaque Config.firmwareKeyHash : BitVec 384

/-- The feature bits the firmware build supports (05 R114): bits 0 to 11 of it are offered. (DESIGN CHOICE, log 18) -/
opaque Config.firmwareFeatures : BitVec 128

/-- The `n`-th value of the deterministic random bit generator (15 R360). (DESIGN CHOICE, log 13) -/
opaque Config.drbg : Nat → BitVec 448

/-- EXP2 before it is held to the bound of 10 R260: significand bits of the FP32 result for an argument.
(DESIGN CHOICE, log 14) -/
opaque Config.exp2Choice : BitVec 32 → BitVec 32

/-- RCP before it is held to the bound of 10 R261. (DESIGN CHOICE, log 14) -/
opaque Config.rcpChoice : BitVec 32 → BitVec 32

/-- The DER Name of the alias certificate's issuer, from the DeviceID public key, and of its subject, from the alias public key: 15 R362
gives neither. (PRESUMED, log 19) -/
opaque Config.certName : Bytes → Bytes

/-- The DER of the alias certificate's extensions beside DiceTcbInfo, in front of it: 15 R362 names none. (DESIGN CHOICE, log 19) -/
opaque Config.certExtensions : Bytes

/-- The transcript hash an SPDM signature covers, from the response's own fields (15 R367 names SPDM 1.3 only).
(PRESUMED, log 20) -/
opaque Config.spdmTranscript : Bytes → BitVec 384

/-- Word `j` of the DOE mailbox's response object number `k` (17 R420; SPDM and DOE message layouts are the standards').
(PRESUMED, log 20) -/
opaque Config.doeWord : Nat → Nat → BitVec 32

/-- What a read of instrument `k` of slice `n`'s IEEE 1687 network returns once unlocked (02 R54). (DESIGN CHOICE, log 21) -/
opaque Config.instrument : Nat → Nat → BitVec 32 → BitVec 32

/-- SEC firmware of a measured image writes the unlock of the IEEE 1687 network, which the spec leaves to it (02 R54).
(DESIGN CHOICE, log 21) -/
opaque Config.secUnlocks : Bytes → Bool

/-- The destination ID of the KEYX packets a port sends before the far end's SHARE has told its ID (15 R363), which the spec does
not give. (DESIGN CHOICE, log 22) -/
opaque Config.keyxTo : Nat → BitVec 12

/-- Which child of its POD tree an instance relays to for a package further down: a chart names only an instance's own children
(04, HIERARCHY; 11 R284). (DESIGN CHOICE, log 23) -/
opaque Config.podChild : BitVec 12 → BitVec 12 → BitVec 12

/-- What the block puts under a poison mark at an address: such a byte carries no data (09 R227). (DESIGN CHOICE, log 17) -/
opaque Config.poisonByte : BitVec 64 → BitVec 8

/-- The reason byte of a unit's HEALTH record after self-test, by unit (16 R397). (DEDUCED, log 24) -/
opaque Config.healthReason : Nat → BitVec 8

/-- The configuration-space offset of the MSI-X capability, which the spec does not give (02 R32). (PRESUMED, log 25) -/
opaque Config.msixCap : BitVec 12

/-- A capability header stands at this offset of configuration space: the list is the implementation's, within 02 R31.
(PRESUMED, log 25) -/
opaque Config.capHeader : BitVec 12 → Bool

/-- The configuration-space offset at which the words of the four HDM decoders stand: the spec names the decoders and gives them no
place (02, CXL features). (PRESUMED, log 25) -/
opaque Config.hdmBase : BitVec 12

/-- Which live line of the hold a bank's word belongs to, as a number: the spec does not say where in the banks data stand
(16 R383). (DESIGN CHOICE, log 26) -/
opaque Config.holdLine : Nat → Nat

/-- The longer phase of a CORE period of 5 root cycles is the high one: edges lie on root edges (03 R59), so its phases last 2 and 3, and
the spec does not say which is which. (DESIGN CHOICE, log 96) -/
opaque Config.coreHighLong : Bool

/-- The longer phase of a STORE period of 3 root cycles is the high one (03 R59). (DESIGN CHOICE, log 96) -/
opaque Config.storeHighLong : Bool

/-- A fresh 64-bit value the spec leaves open, by draw number. (DESIGN CHOICE, log 13) -/
opaque Config.freeValue : Nat → BitVec 64

end Sys2Proof
end

