-- ==== Sys2Proof/Machine/Units.lean ====
section
/-! DEFINITION. More component types of the state: rings and mode changes, interrupts, error records, health and thermal
state, identity and sessions, the management relay, and what the block drives on its ports. Data only. -/

namespace Sys2Proof.Machine

/-! ### Management rings and mode changes (05) -/

/-- An event not yet written: opcode, payload bytes in use, payload (05, ring entry). -/
structure Event where
  opcode  : BitVec 16
  length  : BitVec 16
  payload : Bytes
  deriving DecidableEq, Repr, Inhabited

/-- Where a mode change stands (05 R118). -/
inductive ModePhase where
  | prepare | commit
  deriving DecidableEq, Repr, Inhabited

/-- A runtime mode change (05 R117, R118). `waitFor` are the units whose acknowledgement, then confirmation, is missing;
`switched` those that took the new value; `gone` those that reverted by themselves. `heldBy` are the channels whose elements a
cell that has not switched holds back; `orphan` says that HARBOUR was lost during the change. -/
structure ModeChange where
  seq       : BitVec 32
  kind      : BitVec 8
  target    : BitVec 8
  value     : BitVec 32
  words     : List (BitVec 32)
  fence     : BitVec 48
  fenceVal  : BitVec 64
  fallback  : Bool
  phase     : ModePhase
  units     : List UnitRef
  waitFor   : List UnitRef
  switched  : List UnitRef
  gone      : List UnitRef
  heldBy    : List Nat
  orphan    : Bool
  old       : BitVec 32
  oldWords  : List (BitVec 32)
  deriving DecidableEq, Repr, Inhabited

/-- The rings, the session and mode changes (05 R110-R121). `queue` are the events written to no slot yet, oldest first;
`writing` says that the front one's write awaits its acknowledgement. -/
structure MgmtUnit where
  cmdBase    : BitVec 48 := 0
  cmdProd    : BitVec 32 := 0
  cmdCons    : BitVec 32 := 0
  evtBase    : BitVec 48 := 0
  evtProd    : BitVec 32 := 0
  evtCons    : BitVec 32 := 0
  vecValid   : Bool := false
  vector     : BitVec 11 := 0
  overrun    : BitVec 32 := 0
  agreed     : BitVec 128 := 0
  saveBase   : BitVec 48 := 0
  saveValid  : Bool := false
  session    : Bool := false
  sessionNo  : BitVec 16 := 0
  prevSeq    : BitVec 32 := 0xFFFFFFFF
  nextEvt    : BitVec 32 := 0
  queue      : List Event := []
  writing    : Bool := false
  dropped    : BitVec 32 := 0
  droppedTel : BitVec 32 := 0
  change     : Option ModeChange := none
  changes    : List ModeChange := []
  deriving DecidableEq, Repr, Inhabited

/-! ### Interrupts (17) -/

/-- An MSI-X table entry (17 R420). -/
structure MsixEntry where
  addr : BitVec 64 := 0
  data : BitVec 32 := 0
  mask : Bool := true
  deriving DecidableEq, Repr, Inhabited

/-- The MSI-X table, the pending bits and the SH interrupt registers (17 R418, R420). -/
structure IrqUnit where
  msix     : Tab MsixEntry := []
  pba      : Tab Bool := []
  status   : BitVec 10 := 0
  enable   : BitVec 10 := 0
  vecValid : Bool := false
  vector   : BitVec 11 := 0
  deriving DecidableEq, Repr, Inhabited

/-! ### Error records, the hold, health, thermal (16) -/

/-- An error record before it is laid out (16 R391). -/
structure ErrRec where
  seq      : BitVec 32
  cls      : BitVec 8
  status   : Status
  slice    : Slice
  unit_    : BitVec 8
  index    : BitVec 16
  part     : BitVec 8
  flags    : BitVec 8
  inst     : BitVec 16
  origin   : BitVec 8
  region   : BitVec 8
  address  : BitVec 64
  cycles   : BitVec 64
  detail0  : BitVec 64
  detail1  : BitVec 64
  deriving DecidableEq, Repr, Inhabited

/-- The RAS ring, its buffer and the SH error log (16 R391-R394, 17 R419). `recent` are the last 16 distinct poisoned lines
reported with the HD CK_CYCLES of their last record, newest first; `ctl` are the records of a cluster's channels that wait
while its CTL core is held (05, watchdog behaviour of CTL0-CTL3). -/
structure RasUnit where
  base     : BitVec 48 := 0
  valid    : Bool := false
  sizeLog2 : BitVec 5 := 0
  prod     : BitVec 32 := 0
  cons     : BitVec 32 := 0
  vecValid : Bool := false
  vector   : BitVec 11 := 0
  lost     : BitVec 32 := 0
  waiting  : List ErrRec := []
  writing  : Option ErrRec := none
  nextSeq  : BitVec 32 := 0
  recent   : List (BitVec 64 × BitVec 64) := []
  logCount : BitVec 32 := 0
  log      : Tab Bytes := []
  ctl      : Tab (List ErrRec) := []
  ctlLost  : Tab (BitVec 32) := []
  deriving DecidableEq, Repr, Inhabited

/-- Per hold bank: when its last CORRECTED record was written and how many corrections no record has told (16 R382). -/
structure BankNote where
  last   : Option (BitVec 64) := none
  missed : BitVec 32 := 0
  deriving DecidableEq, Repr, Inhabited

/-- The hold's code, poison counts, patrol and quotas (16 R381-R384; 04 R81). `used` is the hold quota in use per
partition in bytes, 16 standing for mgmt_reserve. -/
structure HoldUnit where
  corr1     : BitVec 32 := 0
  corr2     : BitVec 32 := 0
  uncorr    : BitVec 32 := 0
  lastBank  : BitVec 6 := 0
  lastKind  : BitVec 2 := 0
  lastWord  : BitVec 18 := 0
  poisonIn  : BitVec 32 := 0
  poisonOut : BitVec 32 := 0
  poisonDup : BitVec 32 := 0
  patrolOn  : Bool := true
  interval  : BitVec 16 := 16
  passes    : BitVec 32 := 0
  row       : Nat := 0
  banks     : Tab BankNote := []
  used      : Tab Nat := []
  deriving DecidableEq, Repr, Inhabited

/-- One slice's path monitors and margin point (16 R399-R402): slack per monitor, first ever and latest; the minimum; steps since the
start and in all; AGEING_LIMIT reported, in this session, and with fallback offered; ebb entries; the log reason of a scan that is
due; a rescan due after a step; when the last SUPPLY record was written. -/
structure MarginState where
  first     : List Byte := []
  latest    : List Byte := []
  minimum   : BitVec 8 := 0
  steps     : BitVec 8 := 0
  allSteps  : BitVec 16 := 0
  limit     : Bool := false
  told      : Bool := false
  offered   : Bool := false
  ebbs      : BitVec 32 := 0
  due       : Option Nat := none
  rescan    : Bool := false
  supplyRec : Option (BitVec 64) := none
  deriving DecidableEq, Repr, Inhabited

/-- Path monitors and what the ageing history counts: scans, lifetime cc and the SH count at the last scan, next log index
(16 R399-R402). -/
structure HealthUnit where
  slices   : Tab MarginState := []
  scans    : BitVec 32 := 0
  allScans : BitVec 64 := 0
  lifetime : BitVec 64 := 0
  shMark   : BitVec 64 := 0
  logNext  : BitVec 32 := 0
  deriving DecidableEq, Repr, Inhabited

/-- One stack input and its token bucket (02 R52, 16 R404). `tokens` is in 1024ths of a token. -/
structure StackState where
  code      : Byte := 0
  reported  : Bool := false
  stale     : Bool := false
  throttled : Bool := false
  tokens    : Nat := 0
  deriving DecidableEq, Repr, Inhabited

/-- Thermal state (16 R403, R404; 02 R53). -/
structure ThermalUnit where
  stackStates : Tab StackState := []
  mode        : BitVec 2 := 0
  bit1        : BitVec 6 := 9
  bit0        : BitVec 6 := 9
  cc          : BitVec 32 := 0
  throttleReq : Bool := false
  deriving DecidableEq, Repr, Inhabited

/-! ### Identity, sessions, regions (15) -/

/-- The SPDM session (15 R368): none, awaiting FINISH on a port, or live on a port. -/
inductive Session where
  | none | awaiting (n : Fin 2) | live (n : Fin 2)
  deriving DecidableEq, Repr, Inhabited

/-- Capabilities of SPDM 1.3 that the responder offers (15 R367); it offers no others. -/
inductive SpdmCap where
  | cert | chal | measSigned | keyEx | encrypt | mac | hbeat | keyUpd
  deriving DecidableEq, Repr, Inhabited

/-- Algorithms that the responder selects (15 R367). -/
inductive SpdmAlgo where
  | ecdsaP384 | sha384 | dheSecp384r1 | aes256Gcm | spdmKeySchedule | dmtfMeasurement | measurementSha384
  deriving DecidableEq, Repr, Inhabited

/-- SPDM responses, with the fields 15 states (R367-R369). (PRESUMED, log 20) -/
inductive SpdmRsp where
  | version (versions : List Byte)
  | capabilities (caps : List SpdmCap)
  | algorithms (algos : List SpdmAlgo)
  | digests (slot0 : Bytes)
  | certificate (portion : Bytes) (remainder : Nat)
  | challengeAuth (slot0 : Bytes) (random : Bytes) (signature : Bytes)
  | measurements (total : Nat) (blocks : List (Nat × Byte × Bytes)) (random : Bytes) (signature : Option Bytes)
  | keyExchangeRsp (heartbeat : Nat) (random : Bytes) (share : Bytes) (signature : Bytes)
  | finishRsp
  | heartbeatAck
  | keyUpdateAck
  | endSessionAck
  | unsupportedRequest
  | versionMismatch
  | sessionLimitExceeded
  | unspecified
  | invalidRequest
  | unexpectedRequest
  deriving DecidableEq, Repr, Inhabited

/-- IDE_KM responses (15 R366). -/
inductive IdeRsp where
  | queryResp | kpAck (ok : Bool) | kGoStopAck
  deriving DecidableEq, Repr, Inhabited

/-- A measured region (15 R369, R374). -/
structure Region where
  part   : Nat
  va     : BitVec 64
  len    : BitVec 64
  base   : BitVec 48
  root   : Bytes
  seq    : BitVec 64
  intact : Bool
  sealed : Bool
  deriving DecidableEq, Repr, Inhabited

/-- A measurement (15 R372, R373): the command, whether SEC has begun it, the accesses whose end it awaits, whether the watch has fired, and
the write-backs whose end it awaits. -/
structure MeasureJob where
  seq    : BitVec 32
  k      : Nat
  doSeal : Bool
  part   : Nat
  va     : BitVec 64
  len    : BitVec 64
  base   : BitVec 48
  started : Bool
  waits  : List Nat
  fired  : Bool
  txns   : List Nat := []
  deriving DecidableEq, Repr, Inhabited

/-- A SCRUB (15 R376): whether SEC has begun it, and how its last write ended. -/
structure ScrubJob where
  seq     : BitVec 32
  base    : Nat
  len     : Nat
  started : Bool
  done    : Option Status
  deriving DecidableEq, Repr, Inhabited

/-- Work SEC runs one at a time, in order (15 R372, R376). -/
inductive SecJob where
  | measure (m : MeasureJob)
  | scrub (m : ScrubJob)
  | unseal (seq : BitVec 32) (k : Nat)
  | retire (seq : BitVec 32) (k : Nat)
  deriving DecidableEq, Repr, Inhabited

/-- The identity engine, endorsement, SPDM and regions (15). `negotiated` is how far a port's connection has come, `doeNo` the number of
the DOE mailbox's latest response object, `doeReady` the port whose mailbox has it ready. -/
structure IdUnit where
  cdiDev      : Option Bytes := none
  devKey      : Nat := 0
  devPub      : Bytes := []
  cdiAlias    : Option Bytes := none
  aliasKey    : Nat := 0
  aliasPub    : Bytes := []
  cert        : Bytes := []
  chain       : Bytes := []
  chainOk     : Bool := false
  entropyFail : Bool := false
  staging     : Bytes := []
  endorsed    : Bool := false
  endorsement : Option Bytes := none
  chainAddr   : BitVec 48 := 0
  chainLen    : BitVec 16 := 0
  session     : Session := .none
  missed      : Nat := 0
  sessionKey  : Nat := 0
  negotiated  : Tab Nat := []
  doeNo       : Nat := 0
  doeReady    : Option Nat := none
  measSeq     : BitVec 64 := 0
  regions     : Tab (Option Region) := []
  jobs        : List SecJob := []
  secReady    : Bool := false
  deriving DecidableEq, Repr, Inhabited

/-! ### The management relay (11 R284-R286, 04 R95) -/

/-- A chart or image on its way to a target below this manager. `next` is the index of the MGMT step to send next. -/
structure Relay where
  isChart : Bool
  target  : BitVec 12
  child   : BitVec 12
  data    : Bytes
  place   : BitVec 48
  cores   : BitVec 7
  next    : Nat
  held    : Nat := 0
  deriving DecidableEq, Repr, Inhabited

/-- A MGMT packet awaiting its MGMT_ACK. -/
structure MgmtWait where
  tag    : BitVec 16
  pkt    : Packet
  tries  : Nat
  deriving DecidableEq, Repr, Inhabited

/-- What an intermediate manager stages for a target until COMMIT or LOAD arrives (11 R285). -/
structure RelayStage where
  isChart : Bool
  target  : BitVec 12
  bytes   : Bytes
  place   : BitVec 48
  deriving DecidableEq, Repr, Inhabited

/-- Management traffic of this instance. `asked` are the children whose parent field has been confirmed, `badKids` those
that named another parent; `moved` are the staged deliveries that have moved on, each with whether it is a chart. -/
structure RelayUnit where
  relays  : List Relay := []
  waits   : List MgmtWait := []
  stages  : List RelayStage := []
  asked   : List (BitVec 12) := []
  badKids : List (BitVec 12) := []
  moved   : List (Bool × BitVec 12) := []
  deriving DecidableEq, Repr, Inhabited

/-! ### Partition release (06 R155) -/

/-- A PARTITION_RELEASE in hand. -/
structure ReleaseJob where
  part : Nat
  seq  : BitVec 32
  deriving DecidableEq, Repr, Inhabited

/-! ### What the block drives on its ports (02) -/

/-- CXL.cache requests of the block (02, CXL features). -/
inductive CacheReq where
  | rdCurr | itoMWr | woWrInv
  deriving DecidableEq, Repr, Inhabited

/-- How a CXL.mem request is completed (14 R340, R355). -/
inductive MemCmp where
  | cmp | cmpS | cmpE
  deriving DecidableEq, Repr, Inhabited

/-- One thing the block drove on a port. (DESIGN CHOICE, log 7) -/
inductive Out where
  | engineRsp (port : Nat) (tag : BitVec 8) (status : Status) (pa : BitVec 60) (attr : BitVec 8)
  | engineBeat (port : Nat) (tag : BitVec 8) (data : Bytes) (last poison : Bool)
  | memReq (m : Nat) (write : Bool) (addr : BitVec 48) (lines : Nat) (tag : BitVec 10) (part : BitVec 4)
      (data : Bytes) (be : List Bool) (poison : List Bool)
  | cacheReq (n : Nat) (tag : Nat) (op : CacheReq) (hpa : BitVec 64) (data : Bytes) (be : List Bool)
  | memData (n : Nat) (tag : Nat) (data : Bytes) (poison : Bool)
  | memCmp (n : Nat) (tag : Nat) (kind : MemCmp)
  | snoopMiss (n : Nat) (addr : BitVec 64)
  | biSnp (n : Nat) (addr : BitVec 48) (inv : Bool)
  | biConflictAck (n : Nat) (addr : BitVec 48)
  | cplUr (n : Nat)
  | cplData (n : Nat) (data : BitVec 64)
  | cplOk (n : Nat)
  | msix (n : Nat) (v : Nat) (addr : BitVec 64) (data : BitVec 32)
  | atsInvDone (n : Nat) (tag : Nat)
  | atsRsp (n : Nat) (tag : Nat) (pa : BitVec 64) (sizeLog2 : Nat) (rd wr cxlMem : Bool)
  | atsUr (n : Nat) (tag : Nat)
  | spdm (n : Nat) (r : SpdmRsp)
  | ideKm (n : Nat) (r : IdeRsp)
  | hostRwd (n : Nat) (count : Nat)
  | peerFlit (p : Nat) (flit : Bytes)
  | peerCredit (p : Nat) (counts : BitVec 16)
  | peerGrant (p : Nat) (depths : List Nat)
  | hostCredit (n : Nat) (count : Nat)
  | linkGrant (l : Link) (at_ : Slice) (count : Nat)
  | linkCredit (l : Link) (at_ : Slice)
  | linkReplay (l : Link) (at_ : Slice)
  | cpRsp (data : BitVec 32) (err : Bool)
  | cpWritten
  | supplyReq (sl : Slice) (code : BitVec 4)
  | throttle (on : Bool)
  | tdo (sl : Slice) (value : BitVec 32)
  | boundary (sl : Slice) (cells : BitVec 64)
  deriving DecidableEq, Repr, Inhabited

end Sys2Proof.Machine
end

