-- ==== Sys2Proof/Machine/State.lean ====
section
/-! DEFINITION. The state of one instance, its value right after reset, and the closed lists of faults and refusals. -/

namespace Sys2Proof.Machine

/-- Everything the spec gives the machine, and the queue of waiting commands. Banks of like entries are sparse tables.
The model's own fields, which are no state of the spec: `pending` (commands not yet taken), `ended` (accesses that have
ended and whose owner has not been told yet: empty between commands), `out` (what the block has driven on its ports, newest
first), `nextId` (the name of the next access), `fresh` and `rand` (how many free values and random values were drawn). -/
structure State where
  pending    : List Instr := []
  -- clocks, links, fuses, start
  clocks     : Tab ClockState := []
  links      : Tab LinkState := []
  gated      : List UnitRef := []
  fuses      : Fuses := {}
  start      : StartState := {}
  fenced     : UnitSet := { channels := 0, cells := 0, walkers := 0, lanes := 0, engine := 0, host := 0, peer := 0,
                            memory := 0, cores := 0, monitors := 0, banks := 0, identity := false, linkEnds := 0 }
  chart      : ChartUnit := {}
  tearBurst  : Tab Bool := []
  tapUnlock  : Bool := false
  tap        : Tab TapInstr := []
  tapData    : Tab (Tab (BitVec 32)) := []
  -- firmware and rings
  cores      : Tab Core := []
  fw         : FwLoad := {}
  mgmt       : MgmtUnit := {}
  relay      : RelayUnit := {}
  irq        : IrqUnit := {}
  -- ports
  hosts      : Tab HostPort := []
  cacheTags  : List CacheTag := []
  nextCache  : Nat := 0
  peers      : Tab PeerPort := []
  tracker    : List Tracker := []
  nextTag    : BitVec 16 := 0
  unreach    : BitVec 32 := 0
  portEnable : Tab Bool := []
  engReqs    : List EngReq := []
  beats      : List EarlyBeat := []
  owedBeats  : List (Nat × BitVec 8 × Nat) := []
  nextOrder  : Nat := 0
  mems       : Tab MemPort := []
  -- accesses in flight
  accesses   : List Access := []
  ended      : List (Access × AccResult) := []
  nextId     : Nat := 0
  -- translation, faults, invalidation
  trans      : TransUnit := {}
  landings   : Tab Landing := []
  stalls     : Tab Stall := []
  stale      : BitVec 32 := 0
  inv        : InvUnit := {}
  -- partitions, queues, allocator
  parts      : Tab PartState := []
  releases   : List ReleaseJob := []
  queues     : Tab Queue := []
  dbCheck    : BitVec 32 := 0
  dbState    : BitVec 32 := 0
  dbLast     : BitVec 12 := 0
  alloc      : AllocUnit := {}
  -- channels, sluice, combine, tide
  chans      : Tab Channel := []
  arbR       : Tab Arbiter := []
  arbW       : Tab Arbiter := []
  sluice     : Sluice := {}
  cmb        : CmbUnit := {}
  tide       : TideUnit := {}
  latches    : Tab PathLatch := []
  -- coherence
  home       : HomeUnit := {}
  -- identity, health
  ident      : IdUnit := {}
  ras        : RasUnit := {}
  hold       : HoldUnit := {}
  health     : HealthUnit := {}
  thermal    : ThermalUnit := {}
  -- the model's own
  out        : List Out := []
  fresh      : Nat := 0
  rand       : Nat := 0
  deriving DecidableEq, Repr, Inhabited

/-- The machine held in cold reset, just before por_n rises: every register at the reset value of 17 (R415), every bank at its
reset entry, every input inactive, nothing waiting; step 1 of the start begins with POR_N_RELEASE. (DESIGN CHOICE, log 2) -/
def State.reset : State := {}

/-- Faults of the model. No command of this block ends in one: errors of the block are status codes, records and counters,
all of them next states. The one constructor is for completeness and is raised by no one (safe). -/
inductive Fault where
  /-- Raised by no command; safe, as nothing stops with it. -/
  | none
  deriving DecidableEq, Repr, Inhabited

/-- Refusals of the model. -/
inductive Refusal where
  /-- A command of the table that has no meaning in this model yet, rejected by name in Dispatch.lean; safe, since the
  machine stops where the hardware goes on. -/
  | notModelled (mnemonic : String)
  deriving DecidableEq, Repr, Inhabited

end Sys2Proof.Machine
end

