-- ==== Sys2Proof/Machine/Tab.lean ====
section
/-! DEFINITION. Sparse tables: reading an index, writing an index, and the canonical form that every write keeps. -/

namespace Sys2Proof.Machine

/-- The entry at index `k`; an unlisted index reads as `d`. -/
def tabGet {α : Type} (d : α) : Tab α → Nat → α
  | [], _ => d
  | (i, v) :: rest, k => if i = k then v else tabGet d rest k

/-- The table without entries at `k`. -/
def tabErase {α : Type} : Tab α → Nat → Tab α
  | [], _ => []
  | (i, v) :: rest, k => if i = k then tabErase rest k else (i, v) :: tabErase rest k

/-- The table with the entry `v` listed at `k`, indices rising. -/
def tabPut {α : Type} : Tab α → Nat → α → Tab α
  | [], k, v => [(k, v)]
  | (i, w) :: rest, k, v =>
    if k < i then (k, v) :: (i, w) :: rest
    else if k = i then (k, v) :: rest
    else (i, w) :: tabPut rest k v

/-- The table after writing `v` at `k`. Writing what an unlisted index reads as removes the entry. -/
def tabSet {α : Type} [DecidableEq α] (d : α) (t : Tab α) (k : Nat) (v : α) : Tab α :=
  if v = d then tabErase t k else tabPut t k v

/-- Write the result of `f` at `k`. -/
def tabMod {α : Type} [DecidableEq α] (d : α) (t : Tab α) (k : Nat) (f : α → α) : Tab α :=
  tabSet d t k (f (tabGet d t k))

/-- The table with `f` applied to every listed entry; what becomes the reset entry is not listed. -/
def tabMap {α : Type} [DecidableEq α] (d : α) : Tab α → (α → α) → Tab α
  | [], _ => []
  | (i, v) :: rest, f => tabSet d (tabMap d rest f) i (f v)

/-- The indices of a table rise strictly from above `lo`. -/
def tabRising {α : Type} : Nat → Tab α → Bool
  | _, [] => true
  | lo, (i, _) :: rest => decide (lo ≤ i) && tabRising (i + 1) rest

/-- The canonical form: indices strictly rising, no entry equal to the reset entry. -/
def tabWf {α : Type} [DecidableEq α] (d : α) (t : Tab α) : Bool :=
  tabRising 0 t && t.all (fun e => decide (e.2 ≠ d))

end Sys2Proof.Machine
end

