-- ==== Sys2Proof/Machine/Banks.lean ====
section
/-! DEFINITION. Reading and writing the banks of the state, the values the chart puts in force, and status codes. -/

namespace Sys2Proof.Machine

/-- Index of a slice: 0 SH, 1 EN, 2 HD (16 R391). -/
def sliceIx : Slice → Nat
  | .sh => 0
  | .en => 1
  | .hd => 2

/-- Index of a slice link: 0 SL-A, 1 SL-B, 2 SL-C. -/
def linkIx : Link → Nat
  | .slA => 0
  | .slB => 1
  | .slC => 2

/-- Index of a register path (17 R410): the control port, H0, H1, then the seven cores. -/
def pathIx : Path → Nat
  | .cp => 0
  | .bar0 n => 1 + n.val
  | .core c => 3 + c.val

/-! ### Banks -/

/-- The clock state of a slice. -/
def State.clock (s : State) (k : Slice) : ClockState := tabGet ({} : ClockState) s.clocks (sliceIx k)

/-- Write the clock state of a slice. -/
def State.setClock (s : State) (k : Slice) (v : ClockState) : State :=
  { s with clocks := tabSet ({} : ClockState) s.clocks (sliceIx k) v }

/-- Change the clock state of a slice. -/
def State.modClock (s : State) (k : Slice) (f : ClockState → ClockState) : State := s.setClock k (f (s.clock k))

/-- The state of a slice link. -/
def State.link (s : State) (k : Link) : LinkState := tabGet ({} : LinkState) s.links (linkIx k)

/-- Write the state of a slice link. -/
def State.setLink (s : State) (k : Link) (v : LinkState) : State :=
  { s with links := tabSet ({} : LinkState) s.links (linkIx k) v }

/-- Change the state of a slice link. -/
def State.modLink (s : State) (k : Link) (f : LinkState → LinkState) : State := s.setLink k (f (s.link k))

/-- The firmware core. -/
def State.core (s : State) (k : Nat) : Core := tabGet ({} : Core) s.cores k

/-- Write the firmware core. -/
def State.setCore (s : State) (k : Nat) (v : Core) : State :=
  { s with cores := tabSet ({} : Core) s.cores k v }

/-- Change the firmware core. -/
def State.modCore (s : State) (k : Nat) (f : Core → Core) : State := s.setCore k (f (s.core k))

/-- The host port. -/
def State.host (s : State) (k : Nat) : HostPort := tabGet ({} : HostPort) s.hosts k

/-- Write the host port. -/
def State.setHost (s : State) (k : Nat) (v : HostPort) : State :=
  { s with hosts := tabSet ({} : HostPort) s.hosts k v }

/-- Change the host port. -/
def State.modHost (s : State) (k : Nat) (f : HostPort → HostPort) : State := s.setHost k (f (s.host k))

/-- The peer port. -/
def State.peer (s : State) (k : Nat) : PeerPort := tabGet ({} : PeerPort) s.peers k

/-- Write the peer port. -/
def State.setPeer (s : State) (k : Nat) (v : PeerPort) : State :=
  { s with peers := tabSet ({} : PeerPort) s.peers k v }

/-- Change the peer port. -/
def State.modPeer (s : State) (k : Nat) (f : PeerPort → PeerPort) : State := s.setPeer k (f (s.peer k))

/-- The memory port. -/
def State.mem (s : State) (k : Nat) : MemPort := tabGet ({} : MemPort) s.mems k

/-- Write the memory port. -/
def State.setMem (s : State) (k : Nat) (v : MemPort) : State :=
  { s with mems := tabSet ({} : MemPort) s.mems k v }

/-- Change the memory port. -/
def State.modMem (s : State) (k : Nat) (f : MemPort → MemPort) : State := s.setMem k (f (s.mem k))

/-- The enable bit of an engine port. -/
def State.portOn (s : State) (k : Nat) : Bool := tabGet (false : Bool) s.portEnable k

/-- Write the enable bit of an engine port. -/
def State.setPortOn (s : State) (k : Nat) (v : Bool) : State :=
  { s with portEnable := tabSet (false : Bool) s.portEnable k v }

/-- Change the enable bit of an engine port. -/
def State.modPortOn (s : State) (k : Nat) (f : Bool → Bool) : State := s.setPortOn k (f (s.portOn k))

/-- The landing of a partition. -/
def State.landing (s : State) (k : Nat) : Landing := tabGet ({} : Landing) s.landings k

/-- Write the landing of a partition. -/
def State.setLanding (s : State) (k : Nat) (v : Landing) : State :=
  { s with landings := tabSet ({} : Landing) s.landings k v }

/-- Change the landing of a partition. -/
def State.modLanding (s : State) (k : Nat) (f : Landing → Landing) : State := s.setLanding k (f (s.landing k))

/-- The stall entry of a stream. -/
def State.stall (s : State) (k : Nat) : Stall := tabGet ({} : Stall) s.stalls k

/-- Write the stall entry of a stream. -/
def State.setStall (s : State) (k : Nat) (v : Stall) : State :=
  { s with stalls := tabSet ({} : Stall) s.stalls k v }

/-- Change the stall entry of a stream. -/
def State.modStall (s : State) (k : Nat) (f : Stall → Stall) : State := s.setStall k (f (s.stall k))

/-- The state of a partition. -/
def State.part (s : State) (k : Nat) : PartState := tabGet (.absent : PartState) s.parts k

/-- Write the state of a partition. -/
def State.setPart (s : State) (k : Nat) (v : PartState) : State :=
  { s with parts := tabSet (.absent : PartState) s.parts k v }

/-- Change the state of a partition. -/
def State.modPart (s : State) (k : Nat) (f : PartState → PartState) : State := s.setPart k (f (s.part k))

/-- The queue-table entry. -/
def State.queue (s : State) (k : Nat) : Queue := tabGet ({} : Queue) s.queues k

/-- Write the queue-table entry. -/
def State.setQueue (s : State) (k : Nat) (v : Queue) : State :=
  { s with queues := tabSet ({} : Queue) s.queues k v }

/-- Change the queue-table entry. -/
def State.modQueue (s : State) (k : Nat) (f : Queue → Queue) : State := s.setQueue k (f (s.queue k))

/-- The ferry channel. -/
def State.chan (s : State) (k : Nat) : Channel := tabGet ({} : Channel) s.chans k

/-- Write the ferry channel. -/
def State.setChan (s : State) (k : Nat) (v : Channel) : State :=
  { s with chans := tabSet ({} : Channel) s.chans k v }

/-- Change the ferry channel. -/
def State.modChan (s : State) (k : Nat) (f : Channel → Channel) : State := s.setChan k (f (s.chan k))

/-- The read arbitration of a cluster. -/
def State.readArb (s : State) (k : Nat) : Arbiter := tabGet ({} : Arbiter) s.arbR k

/-- Write the read arbitration of a cluster. -/
def State.setReadArb (s : State) (k : Nat) (v : Arbiter) : State :=
  { s with arbR := tabSet ({} : Arbiter) s.arbR k v }

/-- Change the read arbitration of a cluster. -/
def State.modReadArb (s : State) (k : Nat) (f : Arbiter → Arbiter) : State := s.setReadArb k (f (s.readArb k))

/-- The write arbitration of a cluster. -/
def State.writeArb (s : State) (k : Nat) : Arbiter := tabGet ({} : Arbiter) s.arbW k

/-- Write the write arbitration of a cluster. -/
def State.setWriteArb (s : State) (k : Nat) (v : Arbiter) : State :=
  { s with arbW := tabSet ({} : Arbiter) s.arbW k v }

/-- Change the write arbitration of a cluster. -/
def State.modWriteArb (s : State) (k : Nat) (f : Arbiter → Arbiter) : State := s.setWriteArb k (f (s.writeArb k))

/-- The latches of a register path. -/
def State.latch (s : State) (k : Nat) : PathLatch := tabGet ({} : PathLatch) s.latches k

/-- Write the latches of a register path. -/
def State.setLatch (s : State) (k : Nat) (v : PathLatch) : State :=
  { s with latches := tabSet ({} : PathLatch) s.latches k v }

/-- Change the latches of a register path. -/
def State.modLatch (s : State) (k : Nat) (f : PathLatch → PathLatch) : State := s.setLatch k (f (s.latch k))

/-- The tear mode in force of a partition, true for BURST. -/
def State.burstTear (s : State) (k : Nat) : Bool := tabGet (false : Bool) s.tearBurst k

/-- Write the tear mode in force of a partition, true for BURST. -/
def State.setBurstTear (s : State) (k : Nat) (v : Bool) : State :=
  { s with tearBurst := tabSet (false : Bool) s.tearBurst k v }

/-- Change the tear mode in force of a partition, true for BURST. -/
def State.modBurstTear (s : State) (k : Nat) (f : Bool → Bool) : State := s.setBurstTear k (f (s.burstTear k))

/-- The combine slot. -/
def State.slot (s : State) (k : Nat) : Slot := tabGet ({} : Slot) s.cmb.slots k

/-- Write the combine slot. -/
def State.setSlot (s : State) (k : Nat) (v : Slot) : State :=
  { s with cmb := { s.cmb with slots := tabSet ({} : Slot) s.cmb.slots k v } }

/-- Change the combine slot. -/
def State.modSlot (s : State) (k : Nat) (f : Slot → Slot) : State := s.setSlot k (f (s.slot k))

/-- The tide counter. -/
def State.tideVal (s : State) (k : Nat) : BitVec 64 := tabGet (0 : BitVec 64) s.tide.values k

/-- Write the tide counter. -/
def State.setTideVal (s : State) (k : Nat) (v : BitVec 64) : State :=
  { s with tide := { s.tide with values := tabSet (0 : BitVec 64) s.tide.values k v } }

/-- Change the tide counter. -/
def State.modTideVal (s : State) (k : Nat) (f : BitVec 64 → BitVec 64) : State := s.setTideVal k (f (s.tideVal k))

/-- The counting mode of a tide counter, true for PACKETS. -/
def State.tidePkt (s : State) (k : Nat) : Bool := tabGet (false : Bool) s.tide.packets k

/-- Write the counting mode of a tide counter, true for PACKETS. -/
def State.setTidePkt (s : State) (k : Nat) (v : Bool) : State :=
  { s with tide := { s.tide with packets := tabSet (false : Bool) s.tide.packets k v } }

/-- Change the counting mode of a tide counter, true for PACKETS. -/
def State.modTidePkt (s : State) (k : Nat) (f : Bool → Bool) : State := s.setTidePkt k (f (s.tidePkt k))

/-- The MSI-X table entry. -/
def State.msixEntry (s : State) (k : Nat) : MsixEntry := tabGet ({} : MsixEntry) s.irq.msix k

/-- Write the MSI-X table entry. -/
def State.setMsixEntry (s : State) (k : Nat) (v : MsixEntry) : State :=
  { s with irq := { s.irq with msix := tabSet ({} : MsixEntry) s.irq.msix k v } }

/-- Change the MSI-X table entry. -/
def State.modMsixEntry (s : State) (k : Nat) (f : MsixEntry → MsixEntry) : State := s.setMsixEntry k (f (s.msixEntry k))

/-- The MSI-X pending bit. -/
def State.pendingBit (s : State) (k : Nat) : Bool := tabGet (false : Bool) s.irq.pba k

/-- Write the MSI-X pending bit. -/
def State.setPendingBit (s : State) (k : Nat) (v : Bool) : State :=
  { s with irq := { s.irq with pba := tabSet (false : Bool) s.irq.pba k v } }

/-- Change the MSI-X pending bit. -/
def State.modPendingBit (s : State) (k : Nat) (f : Bool → Bool) : State := s.setPendingBit k (f (s.pendingBit k))

/-- The mirror-table root of a partition. -/
def State.root (s : State) (k : Nat) : Root := tabGet ({} : Root) s.trans.roots k

/-- Write the mirror-table root of a partition. -/
def State.setRoot (s : State) (k : Nat) (v : Root) : State :=
  { s with trans := { s.trans with roots := tabSet ({} : Root) s.trans.roots k v } }

/-- Change the mirror-table root of a partition. -/
def State.modRoot (s : State) (k : Nat) (f : Root → Root) : State := s.setRoot k (f (s.root k))

/-- The host window. -/
def State.hostWin (s : State) (k : Nat) : HostWin := tabGet ({} : HostWin) s.trans.hostWins k

/-- Write the host window. -/
def State.setHostWin (s : State) (k : Nat) (v : HostWin) : State :=
  { s with trans := { s.trans with hostWins := tabSet ({} : HostWin) s.trans.hostWins k v } }

/-- Change the host window. -/
def State.modHostWin (s : State) (k : Nat) (f : HostWin → HostWin) : State := s.setHostWin k (f (s.hostWin k))

/-- The sealed range. -/
def State.sealRange (s : State) (k : Nat) : SealRange := tabGet ({} : SealRange) s.trans.seals k

/-- Write the sealed range. -/
def State.setSealRange (s : State) (k : Nat) (v : SealRange) : State :=
  { s with trans := { s.trans with seals := tabSet ({} : SealRange) s.trans.seals k v } }

/-- Change the sealed range. -/
def State.modSealRange (s : State) (k : Nat) (f : SealRange → SealRange) : State := s.setSealRange k (f (s.sealRange k))

/-- The level-1 translation cache. -/
def State.l1 (s : State) (k : Nat) : List Leaf := tabGet ([] : List Leaf) s.trans.l1 k

/-- Write the level-1 translation cache. -/
def State.setL1 (s : State) (k : Nat) (v : List Leaf) : State :=
  { s with trans := { s.trans with l1 := tabSet ([] : List Leaf) s.trans.l1 k v } }

/-- Change the level-1 translation cache. -/
def State.modL1 (s : State) (k : Nat) (f : List Leaf → List Leaf) : State := s.setL1 k (f (s.l1 k))

/-- The attached pool of a partition. -/
def State.pool (s : State) (k : Nat) : Option Pool := tabGet (none : Option Pool) s.alloc.pools k

/-- Write the attached pool of a partition. -/
def State.setPool (s : State) (k : Nat) (v : Option Pool) : State :=
  { s with alloc := { s.alloc with pools := tabSet (none : Option Pool) s.alloc.pools k v } }

/-- Change the attached pool of a partition. -/
def State.modPool (s : State) (k : Nat) (f : Option Pool → Option Pool) : State := s.setPool k (f (s.pool k))

/-- The pipeline in force. -/
def State.pipe (s : State) (k : Nat) : Pipeline := tabGet ({} : Pipeline) s.sluice.pipes k

/-- Write the pipeline in force. -/
def State.setPipe (s : State) (k : Nat) (v : Pipeline) : State :=
  { s with sluice := { s.sluice with pipes := tabSet ({} : Pipeline) s.sluice.pipes k v } }

/-- Change the pipeline in force. -/
def State.modPipe (s : State) (k : Nat) (f : Pipeline → Pipeline) : State := s.setPipe k (f (s.pipe k))

/-- The measured region. -/
def State.region (s : State) (k : Nat) : Option Region := tabGet (none : Option Region) s.ident.regions k

/-- Write the measured region. -/
def State.setRegion (s : State) (k : Nat) (v : Option Region) : State :=
  { s with ident := { s.ident with regions := tabSet (none : Option Region) s.ident.regions k v } }

/-- Change the measured region. -/
def State.modRegion (s : State) (k : Nat) (f : Option Region → Option Region) : State := s.setRegion k (f (s.region k))

/-- The stack input. -/
def State.stackState (s : State) (k : Nat) : StackState := tabGet ({} : StackState) s.thermal.stackStates k

/-- Write the stack input. -/
def State.setStackState (s : State) (k : Nat) (v : StackState) : State :=
  { s with thermal := { s.thermal with stackStates := tabSet ({} : StackState) s.thermal.stackStates k v } }

/-- Change the stack input. -/
def State.modStackState (s : State) (k : Nat) (f : StackState → StackState) : State := s.setStackState k (f (s.stackState k))

/-- The margin state of a slice. -/
def State.marginOf (s : State) (k : Nat) : MarginState := tabGet ({} : MarginState) s.health.slices k

/-- Write the margin state of a slice. -/
def State.setMarginOf (s : State) (k : Nat) (v : MarginState) : State :=
  { s with health := { s.health with slices := tabSet ({} : MarginState) s.health.slices k v } }

/-- Change the margin state of a slice. -/
def State.modMarginOf (s : State) (k : Nat) (f : MarginState → MarginState) : State := s.setMarginOf k (f (s.marginOf k))

/-- The hold bank's record note. -/
def State.bankNote (s : State) (k : Nat) : BankNote := tabGet ({} : BankNote) s.hold.banks k

/-- Write the hold bank's record note. -/
def State.setBankNote (s : State) (k : Nat) (v : BankNote) : State :=
  { s with hold := { s.hold with banks := tabSet ({} : BankNote) s.hold.banks k v } }

/-- Change the hold bank's record note. -/
def State.modBankNote (s : State) (k : Nat) (f : BankNote → BankNote) : State := s.setBankNote k (f (s.bankNote k))

/-- The hold quota in use of a partition, 16 for mgmt_reserve. -/
def State.holdUsed (s : State) (k : Nat) : Nat := tabGet (0 : Nat) s.hold.used k

/-- Write the hold quota in use of a partition, 16 for mgmt_reserve. -/
def State.setHoldUsed (s : State) (k : Nat) (v : Nat) : State :=
  { s with hold := { s.hold with used := tabSet (0 : Nat) s.hold.used k v } }

/-- Change the hold quota in use of a partition, 16 for mgmt_reserve. -/
def State.modHoldUsed (s : State) (k : Nat) (f : Nat → Nat) : State := s.setHoldUsed k (f (s.holdUsed k))

/-- The cache attach register. -/
def State.attach (s : State) (k : Nat) : BitVec 32 := tabGet (0 : BitVec 32) s.home.attach k

/-- Write the cache attach register. -/
def State.setAttach (s : State) (k : Nat) (v : BitVec 32) : State :=
  { s with home := { s.home with attach := tabSet (0 : BitVec 32) s.home.attach k v } }

/-- Change the cache attach register. -/
def State.modAttach (s : State) (k : Nat) (f : BitVec 32 → BitVec 32) : State := s.setAttach k (f (s.attach k))


/-! ### Status codes (06 R135) -/

/-- The code of a status. -/
def statusCode : Status → Nat
  | .ok => 0x00
  | .busError => 0x01
  | .poison => 0x02
  | .translationFault => 0x03
  | .permission => 0x04
  | .checkFail => 0x05
  | .timeout => 0x07
  | .producerGone => 0x08
  | .aborted => 0x09
  | .remoteUnreachable => 0x0A
  | .sealed => 0x0B
  | .modeRollback => 0x0C
  | .quota => 0x0D
  | .clockLost => 0x0E
  | .malformed => 0x0F

/-- The status a code names; 0x06 and codes above 0x0F are never written (06) and are read as MALFORMED. -/
def statusOf (c : Nat) : Status :=
  match c with
  | 0x00 => .ok
  | 0x01 => .busError
  | 0x02 => .poison
  | 0x03 => .translationFault
  | 0x04 => .permission
  | 0x05 => .checkFail
  | 0x07 => .timeout
  | 0x08 => .producerGone
  | 0x09 => .aborted
  | 0x0A => .remoteUnreachable
  | 0x0B => .sealed
  | 0x0C => .modeRollback
  | 0x0D => .quota
  | 0x0E => .clockLost
  | _ => .malformed

end Sys2Proof.Machine
end

