-- ==== Sys2Proof/Machine/Ops.lean ====
section
/-! DEFINITION. Operations every family shares: what the block drives, interrupts, error records, events, and what the
accepted chart says. -/

namespace Sys2Proof.Machine

/-- Record one thing the block drove on a port. (DESIGN CHOICE, log 7) -/
def State.drive (s : State) (o : Out) : State := { s with out := o :: s.out }

/-- Change each entry of a list of indices by a state function, in order. -/
def eachOf {α : Type} (f : α → State → State) : List α → State → State
  | [], s => s
  | x :: xs, s => eachOf f xs (f x s)

/-! ### What the chart puts in force (04) -/

/-- A chart, full or seed, has been accepted (04 R78). -/
def State.charted (s : State) : Bool := s.chart.chart.isSome

/-- A full chart has been accepted. -/
def State.fullChart (s : State) : Bool :=
  match s.chart.chart with
  | some c => !c.seed
  | none => false

/-- The instance is in SEED (04 R92). -/
def State.inSeed (s : State) : Bool :=
  match s.chart.chart with
  | some c => c.seed
  | none => false

/-- The chart in force; before one is accepted, a chart in which nothing is in use. -/
def State.theChart (s : State) : Chart := s.chart.chart.getD {}

/-- The instance ID in force (01 R18). -/
def State.ownId (s : State) : Nat := s.theChart.instId.toNat

/-- The PARTITIONS entry of a partition. -/
def State.partEntry (s : State) (p : Nat) : Option PartEntry := s.theChart.parts.find? (fun e => e.partition == p)

/-- `n` lies in [first, first + count). -/
def inRange (n first count : Nat) : Bool := decide (first ≤ n) && decide (n < first + count)

/-- The partition that owns a queue. -/
def State.queueOwner (s : State) (q : Nat) : Option Nat :=
  (s.theChart.parts.find? (fun e => inRange q e.queueFirst e.queueCount)).map (·.partition)

/-- The partition that owns a tide counter (13). -/
def State.tideOwner (s : State) (n : Nat) : Option Nat :=
  (s.theChart.parts.find? (fun e => inRange n e.tideFirst e.tideCount)).map (·.partition)

/-- The partition that owns a combine slot (12). -/
def State.slotOwner (s : State) (n : Nat) : Option Nat :=
  (s.theChart.parts.find? (fun e => inRange n e.combineFirst e.combineCount)).map (·.partition)

/-- The partition that owns an MSI-X vector (04 R88). -/
def State.vectorOwner (s : State) (v : Nat) : Option Nat :=
  (s.theChart.parts.find? (fun e => inRange v e.msixFirst e.msixCount)).map (·.partition)

/-- The CHANNELS entry of a channel. -/
def State.chanEntry (s : State) (c : Nat) : ChanEntry :=
  s.theChart.channels.getD c { partition := 0xFF, inUse := false, vector := 0 }

/-- A channel of the management class (09 R233). -/
def mgmtChan (c : Nat) : Bool := decide (60 ≤ c)

/-- The partition of a channel's work; none for the management class. -/
def State.chanPart (s : State) (c : Nat) : Option Nat := if mgmtChan c then none else some (s.chanEntry c).partition

/-- A vector register may not name a vector of a partition's range or of a management-class channel in use
(05, SH_MGMT_VECTOR). -/
def State.vectorRefused (s : State) (v : Nat) : Bool :=
  (s.vectorOwner v).isSome ||
    [60, 61, 62, 63].any (fun c => (s.chanEntry c).inUse && (s.chanEntry c).vector == v)

/-- A stream of the engine ports is in use, and its partition (04, TRANSLATION). -/
def State.streamUse (s : State) (st : Nat) : Bool := s.theChart.trans.streamEnable.getD st false

/-- The partition of an engine-port stream. -/
def State.streamPart (s : State) (st : Nat) : Nat := s.theChart.trans.streamPartition.getD st 0

/-- The partition reads ENABLED (06 R127). -/
def State.partOn (s : State) (p : Nat) : Bool := s.part p == .enabled

/-- The partition has an entry in the chart. -/
def State.partExists (s : State) (p : Nat) : Bool := (s.partEntry p).isSome

/-- Every existing partition reads DISABLED. -/
def State.allPartsDisabled (s : State) : Bool := s.theChart.parts.all (fun e => s.part e.partition == .disabled)

/-- The route mask of a destination (04 R84). -/
def State.routeMask (s : State) (d : Nat) : BitVec 4 := s.theChart.routes.getD d 0

/-- The memory ports in force, ascending: enabled and not fenced off (07 R175). -/
def State.memPorts (s : State) : List Nat :=
  (List.range 4).filter (fun k => s.theChart.ports.memoryEnable.getLsbD k && !s.fenced.memory.getLsbD k)

/-- Feature bit `i` is in the agreed word in force (05 R115). -/
def State.feature (s : State) (i : Nat) : Bool := s.mgmt.agreed.getLsbD i

/-- The coherent window that holds a local address (14). -/
def State.windowAt (s : State) (a : Nat) : Option WinEntry := s.theChart.windows.find? (fun w => inRange a w.base w.size)

/-- The enabled host window, with its index, that holds a local address (07 R175). -/
def State.hostWinAt (s : State) (a : Nat) : Option HostWin :=
  (([0, 1, 2, 3].map s.hostWin).find? (fun w => w.enable && inRange a (w.base.toNat <<< 30) (w.size.toNat <<< 30)))

/-- [a, a + n) touches a valid sealed range other than `but` (07 R178). -/
def State.sealHit (s : State) (a n : Nat) (but : Nat := 64) : Bool :=
  s.trans.seals.any (fun e => e.1 != but && e.2.valid && overlaps a n e.2.base.toNat e.2.size.toNat)

/-! ### Ports -/

/-- The first host port that reads hn_ready_out high. -/
def State.readyHost (s : State) : Option Nat := [0, 1].find? (fun n => (s.host n).readyOut)

/-- A slice is in warm reset or the start that follows it has not yet reached READY (05 R97; 02 R57). -/
def State.warmStart (s : State) : Bool := s.start.warm && !s.start.ready

/-- Some slice's wrst_n is held low. -/
def State.warmReset (s : State) : Bool := [Slice.sh, .en, .hd].any (fun k => (s.clock k).wrstN)

/-! ### Interrupts (17 R418, R420) -/

/-- Send a vector, or set its pending bit where it is masked or no host port can carry it. -/
def State.raiseVector (s : State) (v : Nat) : State :=
  match s.readyHost with
  | some n =>
    if (s.msixEntry v).mask || (s.host n).funcMask then s.setPendingBit v true
    else s.drive (.msix n v (s.msixEntry v).addr (s.msixEntry v).data)
  | none => s.setPendingBit v true

/-- The status and enable registers and their valid bit after a change; the vector is sent when their AND goes from zero to
non-zero while valid is set. -/
def State.shIrqSet (s : State) (status enable : BitVec 10) (valid : Bool) (vector : BitVec 11) : State :=
  let was := (s.irq.status &&& s.irq.enable) != 0 && s.irq.vecValid
  let t := { s with irq := { s.irq with status := status, enable := enable, vecValid := valid, vector := vector } }
  if !was && (status &&& enable) != 0 && valid then t.raiseVector vector.toNat else t

/-- An event of bit `i` of SH_IRQ_STATUS. -/
def State.shIrq (s : State) (i : Nat) : State :=
  s.shIrqSet (s.irq.status ||| BitVec.ofNat 10 (2 ^ i)) s.irq.enable s.irq.vecValid s.irq.vector

/-- The interrupt of SH_MGMT_VECTOR. -/
def State.mgmtIrq (s : State) : State := if s.mgmt.vecValid then s.raiseVector s.mgmt.vector.toNat else s

/-! ### Error records (16 R391-R394) -/

/-- The layout of an error record. -/
def errBytes (r : ErrRec) : Bytes :=
  sealRecord (leBytes 4 r.seq.toNat ++ [r.cls, BitVec.ofNat 8 (statusCode r.status), BitVec.ofNat 8 (sliceIx r.slice), r.unit_]
    ++ leBytes 2 r.index.toNat ++ [r.part, r.flags] ++ leBytes 2 r.inst.toNat ++ [r.origin, r.region]
    ++ leBytes 8 r.address.toNat ++ leBytes 8 r.cycles.toNat ++ leBytes 8 r.detail0.toNat ++ leBytes 8 r.detail1.toNat)

/-- A record with no address, no partition, no region, own instance. -/
def State.errRec (s : State) (cls : Nat) (st : Status) (sl : Slice) (unit_ index : Nat) : ErrRec :=
  { seq := s.ras.nextSeq, cls := BitVec.ofNat 8 cls, status := st, slice := sl, unit_ := BitVec.ofNat 8 unit_,
    index := BitVec.ofNat 16 index, part := 0xFF, flags := 0, inst := BitVec.ofNat 16 s.ownId, origin := 0,
    region := 0xFF, address := 0, cycles := (s.clock sl).cycles, detail0 := 0, detail1 := 0 }

/-- Count one lost record (16 R393). -/
def State.rasLose (s : State) : State :=
  State.shIrq { s with ras := { s.ras with lost := sat32 s.ras.lost } } 7

/-- The list without its first CORRECTED record, if it holds one. -/
def dropCorrected : List ErrRec → Option (List ErrRec)
  | [] => none
  | r :: rest => if r.cls = 1 then some rest else (dropCorrected rest).map (r :: ·)

/-- Put a record into the buffer of 64 (16 R393). -/
def State.rasBuffer (s : State) (r : ErrRec) : State :=
  if s.ras.waiting.length < 64 then { s with ras := { s.ras with waiting := s.ras.waiting ++ [r] } }
  else match dropCorrected s.ras.waiting with
    | some rest => State.rasLose { s with ras := { s.ras with waiting := rest ++ [r] } }
    | none => s.rasLose

/-- Copy a record of class LINK, CONFIG or HEALTH into the SH error log (17 R419). -/
def State.errLog (s : State) (r : ErrRec) : State :=
  if r.cls = 4 ∨ r.cls = 5 ∨ r.cls = 7 then
    State.shIrq { s with ras := { s.ras with
      log := tabSet [] s.ras.log (s.ras.logCount.toNat % 16) (errBytes r), logCount := s.ras.logCount + 1 } } 3
  else s

/-- The CORE-CTRL boundary of a slice is out of service (03 R66): nothing passes between its firmware cores, its control port and its events'
composition on the one side and its CORE domain on the other. (DESIGN CHOICE, log 112) -/
def State.ctrlLost (s : State) (sl : Slice) : Bool := (s.clock sl).dead.getLsbD 8

/-- An error event (`i` = 0) or a path-monitor sample (1) meets a CORE-CTRL crossing out of service: the first stays in the crossing, the
second in its waiting register, and each further one overruns (03 R65, R66). (DESIGN CHOICE, log 112) -/
def State.eventLost (s : State) (sl : Slice) (i : Nat) : State :=
  let k := s.clock sl
  if k.events.getD i 0 < 2 then s.setClock sl { k with events := k.events.set i (k.events.getD i 0 + 1) }
  else (s.setClock sl { k with overrun := k.overrun ||| BitVec.ofNat 2 (2 ^ i), overrunCount := sat32 k.overrunCount }).shIrq 5

/-- Compose a record: it takes the next sequence, is copied to the log by its class, and waits for the writer. An event that cannot cross
makes none (16 R393). (DESIGN CHOICE, log 112) -/
def State.record (s : State) (r : ErrRec) : State :=
  if s.ctrlLost r.slice then s.eventLost r.slice 0
  else
  let r := { r with seq := s.ras.nextSeq }
  State.rasBuffer (State.errLog { s with ras := { s.ras with nextSeq := s.ras.nextSeq + 1 } } r) r

/-- Compose a record of a channel's work: while the cluster's CTL core is held by its watchdog it waits in a buffer of 64,
beyond which it is counted and lost (05, the firmware cores; 16 R392). -/
def State.recordFor (s : State) (ag : Agent) (r : ErrRec) : State :=
  match ag with
  | .channel c =>
    let k := c / 16
    if (s.core (3 + k)).state = .watchdog then
      let held := tabGet [] s.ras.ctl k
      if held.length < 64 then { s with ras := { s.ras with ctl := tabSet [] s.ras.ctl k (held ++ [r]) } }
      else { s with ras := { s.ras with ctlLost := tabMod 0 s.ras.ctlLost k (fun v => sat32 v) } }
    else s.record r
  | _ => s.record r

/-- The measured region whose span holds a local address (15 R374). -/
def State.regionAt (s : State) (a n : Nat) : Option Nat :=
  (s.ident.regions.find? (fun e => match e.2 with
    | some r => overlaps a n r.base.toNat (roundUp r.len.toNat leafBytes')
    | none => false)).map (·.1)
where
  /-- 2 MiB. -/
  leafBytes' : Nat := 0x200000

/-- Clear INTACT of every valid region whose span shares a byte with [a, a + n), and note it in a measurement in hand whose
span does (15 R374). -/
def State.clearIntact (s : State) (a n : Nat) : State :=
  { s with ident := { s.ident with
    regions := s.ident.regions.map (fun e => (e.1, e.2.map (fun r =>
      if overlaps a n r.base.toNat (roundUp r.len.toNat 0x200000) then { r with intact := false } else r))),
    jobs := s.ident.jobs.map (fun j => match j with
      | .measure m => .measure (if m.started && overlaps a n m.base.toNat (roundUp m.len.toNat 0x200000) then { m with fired := true } else m)
      | j => j) } }

/-- A record with the address of a line or page: the regions and sealed ranges are those of this instance, at an address it owns
(16 R391). -/
def State.errAt (s : State) (r : ErrRec) (pa : BitVec 60) : ErrRec :=
  let lo := pa.toNat % 2 ^ 48
  let own := pa.toNat >>> 48 == s.ownId
  let k := if own then s.regionAt lo 64 else none
  { r with address := pa.zeroExtend 64, region := BitVec.ofNat 8 (k.getD 0xFF),
           flags := BitVec.ofNat 8 (1 + 2 * b2n k.isSome + 4 * b2n (own && s.sealHit lo 64)) }

/-- A line arrived poisoned, or an uncorrectable error was found in it: counted for origins other than the hold, INTACT of
the regions over it cleared where it was read or stood in the hold (15 R374), and one POISON record per line unless one was written for it within 2^24 cc
(16 R384, R394, R395). -/
def State.poisonLine (s : State) (origin unit_ index : Nat) (pa : BitVec 60) (p : Option Nat) (inst : Nat)
    (ag : Agent) (persistent : Bool) : State :=
  let line := BitVec.ofNat 64 (roundDown pa.toNat 64)
  let lo := line.toNat % 2 ^ 48
  let own := line.toNat >>> 48 == s.ownId
  let s := if origin = 2 then s else { s with hold := { s.hold with poisonIn := sat32 s.hold.poisonIn } }
  let k := if own then s.regionAt lo 64 else none
  let sealed := own && s.sealHit lo 64
  let s := if own && (origin == 1 || origin == 2) then s.clearIntact lo 64 else s
  let now := (s.clock .hd).cycles
  match s.ras.recent.find? (fun e => e.1 == line) with
  | some e =>
    if now.toNat - e.2.toNat < 2 ^ 24 then { s with hold := { s.hold with poisonDup := sat32 s.hold.poisonDup } }
    else rec' s line now k sealed
  | none => rec' s line now k sealed
where
  /-- The record and the writer's note of the line. What detail0 holds is the origin's own, which the spec does not state: a
  free value. -/
  rec' (s : State) (line now : BitVec 64) (k : Option Nat) (sealed : Bool) : State :=
    let sl := if unit_ = 3 ∨ unit_ = 4 then Slice.sh else .hd
    let s := { s with fresh := s.fresh + 1, ras := { s.ras with
      recent := ((line, now) :: s.ras.recent.filter (fun e => e.1 != line)).take 16 } }
    s.recordFor ag { s.errRec 2 .poison sl unit_ index with
      part := BitVec.ofNat 8 (p.getD 0xFF), inst := BitVec.ofNat 16 inst, origin := BitVec.ofNat 8 origin,
      region := BitVec.ofNat 8 (k.getD 0xFF), address := line, detail0 := Config.freeValue s.fresh,
      flags := BitVec.ofNat 8 (1 + 2 * b2n k.isSome + 4 * b2n sealed + 8 * b2n persistent) }

/-! ### Events and responses (05 R110-R113) -/

/-- HARBOUR runs, and reaches the CORE domain. (DESIGN CHOICE, log 112) -/
def State.harbour (s : State) : Bool := (s.core 2).state == .running && !s.ctrlLost .sh

/-- The event ring is full, or holds no entries yet. -/
def State.evtFull (s : State) : Bool :=
  decide (s.theChart.limits.eventRing ≤ (s.mgmt.evtProd - s.mgmt.evtCons).toNat)

/-- Queue an event that answers a command. -/
def State.pushEvent (s : State) (e : Event) : State := { s with mgmt := { s.mgmt with queue := s.mgmt.queue ++ [e] } }

/-- Count one dropped event, as TELEMETRY_DATA or not (05 R112, R113). -/
def State.dropEvent (s : State) (tel : Bool) : State :=
  { s with mgmt := { s.mgmt with dropped := sat32 s.mgmt.dropped,
                                 droppedTel := if tel then sat32 s.mgmt.droppedTel else s.mgmt.droppedTel } }

/-- The first TELEMETRY_DATA event of a list taken out. -/
def dropTelemetry : List Event → Option (List Event)
  | [] => none
  | e :: rest => if e.opcode = 0x8050 then some rest else (dropTelemetry rest).map (e :: ·)

/-- Queue an unsolicited event: beyond 256 of them while the ring is full, TELEMETRY_DATA is dropped first (05 R112). -/
def State.pushUnsolicited (s : State) (e : Event) : State :=
  if s.evtFull && decide (256 ≤ s.mgmt.queue.countP (fun x => x.opcode != 0x8001)) then
    match dropTelemetry s.mgmt.queue with
    | some rest => State.pushEvent (State.dropEvent { s with mgmt := { s.mgmt with queue := rest } } true) e
    | none => s.dropEvent (e.opcode == 0x8050)
  else s.pushEvent e

/-- A RESPONSE with its command-specific part (05, RESPONSE payload). -/
def State.respond (s : State) (seq : BitVec 32) (st : Status) (extra : Bytes := []) (length : Nat := 8) : State :=
  s.pushEvent { opcode := 0x8001, length := BitVec.ofNat 16 length,
                payload := padTo (leBytes 4 seq.toNat ++ [BitVec.ofNat 8 (statusCode st), 0, 0, 0] ++ extra) 52 }

/-- The next value of the random generator (15 R360). (DESIGN CHOICE, log 13) -/
def State.draw (s : State) : BitVec 448 × State := (Config.drbg s.rand, { s with rand := s.rand + 1 })

/-- A value the spec leaves open. (DESIGN CHOICE, log 13) -/
def State.freeVal (s : State) : BitVec 64 × State := (Config.freeValue s.fresh, { s with fresh := s.fresh + 1 })

/-! ### Mode changes in progress (05 R118, R119) -/

/-- The slice of a firmware core: SEC, PWR and HARBOUR are the shore slice's, the CTL cores the hold slice's (01 R14). -/
def coreSlice (c : Nat) : Slice := if c < 3 then .sh else .hd

/-- Elements of the descriptor are on their way through its pipeline: it has given the first and its work is not done. -/
def Running.flowing (r : Running) : Bool :=
  (r.unitIx != 0 || r.elemIx != 0 || !r.carry.isEmpty || !r.group.isEmpty) && (r.phase == .headers || r.phase == .active)

/-- The access has been issued: it can reach memory. -/
def Access.issued (a : Access) : Bool :=
  match a.stage with
  | .memPort _ _ | .peer _ | .hostWin _ _ | .home => true
  | _ => false

/-- The response in the mailbox of a port that leaves service is gone (17 R420). (DESIGN CHOICE, log 20) -/
def State.doeGone (s : State) (n : Nat) : State :=
  if s.ident.doeReady = some n then { s with ident := { s.ident with doeReady := none } } else s

/-- A data burst of a channel or of an engine port, one that a peer asks for, or one of a combine result. -/
def Access.isBurst (a : Access) : Bool :=
  match a.purpose with
  | .readBurst _ _ => true
  | .writeBurst _ => true
  | .engine _ _ _ => true
  | .peerServe _ _ _ => true
  | .resultWrite _ => true
  | _ => false

/-- A unit of a mode change is at its boundary (05 R117): a channel between descriptors, an engine port with no request of the
partition outstanding, the hold with no burst of the partition issued and none to come of a descriptor or request that has begun, a cell
with no descriptor's elements on their way, a supply controller with no step in hand. (DEDUCED, log 53) -/
def State.unitReady (s : State) (m : ModeChange) (u : UnitRef) : Bool :=
  match u with
  | .channel c => (s.chan c.val).run.isNone && (s.chan c.val).fetch.isNone
  | .enginePort e => !s.engReqs.any (fun r => r.port == e.val && r.part == m.target.toNat)
  | .hold => !s.accesses.any (fun a => a.isBurst && a.part == some m.target.toNat && a.issued)
    && !s.chans.any (fun e => e.2.run.isSome && m.units.any (fun u => match u with
      | .channel c => c.val == e.1
      | _ => false))
    && !s.engReqs.any (fun r => r.part == m.target.toNat && r.started)
  | .cell _ => !s.chans.any (fun e => e.2.run.elim false (fun r => bits (r.words.headD 0).toNat 15 8 == m.target.toNat && r.flowing))
  | .supply sl => !(s.clock sl).supplyWait
  | _ => true

/-- A unit holds its work from its first boundary after PREPARE, where it acknowledges, to its switch (05 R118, R119). -/
def State.modeHeld (s : State) (u : UnitRef) : Bool :=
  match s.mgmt.change with
  | some m => m.units.contains u && !m.gone.contains u
      && (match m.phase with
        | .prepare => !m.waitFor.contains u || s.unitReady m u
        | .commit => m.waitFor.contains u)
  | none => false

/-- An engine port holds a request of the partition whose tear mode changes. -/
def State.portHeld (s : State) (r : EngReq) : Bool :=
  (match s.mgmt.change with
    | some m => m.kind == 1 && m.target.toNat == r.part
    | none => false) && (if h : r.port < 8 then s.modeHeld (.enginePort ⟨r.port, h⟩) else false)

/-- A pipeline admits no element of a further descriptor while its words change (05 R118, R119; 10 R243). (DEDUCED, log 53) -/
def State.pipeHeld (s : State) (p : Nat) : Bool :=
  match s.mgmt.change with
  | some m => m.kind == 2 && m.target.toNat == p && (m.phase == .prepare || m.units.any s.modeHeld)
  | none => false

/-- The hold starts no burst of a partition whose tear mode changes, from its boundary to its switch (05 R118). -/
def State.holdPaused (s : State) (part : Option Nat) : Bool :=
  match s.mgmt.change with
  | some m => m.kind == 1 && part == some m.target.toNat && s.modeHeld .hold
  | none => false

/-- A write that a unit in the new tear mode sends waits in a hold that has not switched. -/
def State.tearWait (s : State) (ag : Agent) (part : Option Nat) : Bool :=
  match s.mgmt.change with
  | some m => m.kind == 1 && m.phase == .commit && m.waitFor.contains .hold && part == some m.target.toNat
      && m.switched.any (fun u => match u, ag with
        | .channel x, .channel c => x.val == c
        | .enginePort x, .engine p _ => x.val == p
        | _, _ => false)
  | none => false

/-! ### Hold quota (04 R81, 09 R212) -/

/-- The quota a partition's work draws on: its own, or mgmt_reserve under number 16. -/
def quotaOf (p : Option Nat) : Nat := p.getD 16

/-- Bytes of a quota. -/
def State.quotaBytes (s : State) (q : Nat) : Nat :=
  65536 * (if q = 16 then s.theChart.mgmtReserve else s.theChart.quota.getD q 0)

/-- `n` bytes of a quota are free. (DEDUCED, log 68) -/
def State.holdFree (s : State) (q n : Nat) : Bool := decide (s.holdUsed q + n ≤ s.quotaBytes q)

/-- Take bytes of a quota. (DEDUCED, log 68) -/
def State.holdTake (s : State) (q n : Nat) : State := s.modHoldUsed q (· + n)

/-- Give bytes of a quota back. -/
def State.holdGive (s : State) (q n : Nat) : State := s.modHoldUsed q (· - n)

end Sys2Proof.Machine
end

