-- ==== Sys2Proof/Machine/Numbers.lean ====
section
/-! DEFINITION. Numbers of the sluice (10): formats, exact values, one rounding, FP32 arithmetic, EXP2 and RCP inside their
bounds, and block-scaled groups. -/

namespace Sys2Proof.Machine

/-- The value of a code: a NaN, a signed infinity, or a signed `m * 2^e`. -/
inductive Num where
  | nan
  | inf (neg : Bool)
  | fin (neg : Bool) (m : Nat) (e : Int)
  deriving DecidableEq, Repr, Inhabited

/-! ### Formats (10 R238) -/

/-- Width of a format in bits. -/
def fmtBits : Nat → Nat
  | 1 => 64
  | 2 => 32
  | 3 => 16
  | 4 => 16
  | 5 => 8
  | 6 => 8
  | 7 => 6
  | 8 => 6
  | 9 => 4
  | 10 => 8
  | 11 => 32
  | 12 => 64
  | _ => 0

/-- Mantissa width. -/
def fmtMan : Nat → Nat
  | 1 => 52
  | 2 => 23
  | 3 => 10
  | 4 => 7
  | 5 => 3
  | 6 => 2
  | 7 => 2
  | 8 => 3
  | 9 => 1
  | _ => 0

/-- Exponent bias. -/
def fmtBias : Nat → Nat
  | 1 => 1023
  | 2 => 127
  | 3 => 15
  | 4 => 127
  | 5 => 7
  | 6 => 15
  | 7 => 3
  | 8 => 1
  | 9 => 1
  | _ => 0

/-- Exponent field width. -/
def fmtExp (f : Nat) : Nat := fmtBits f - 1 - fmtMan f

/-- Exponent of the smallest normal. -/
def fmtEmin (f : Nat) : Int := 1 - (fmtBias f : Int)

/-- The format has infinities. -/
def fmtInf (f : Nat) : Bool := f == 1 || f == 2 || f == 3 || f == 4 || f == 6

/-- The largest finite value, as a mantissa and an exponent. -/
def fmtMax : Nat → Nat × Int
  | 1 => (2 ^ 53 - 1, 971)
  | 2 => (2 ^ 24 - 1, 104)
  | 3 => (2 ^ 11 - 1, 5)
  | 4 => (2 ^ 8 - 1, 120)
  | 5 => (7, 6)
  | 6 => (7, 13)
  | 7 => (7, 2)
  | 8 => (15, -1)
  | 9 => (3, 1)
  | 10 => (127, -6)
  | _ => (0, 0)

/-- The canonical NaN (10 R249). -/
def fmtNan : Nat → Nat
  | 1 => 0x7FF8000000000000
  | 2 => 0x7FC00000
  | 3 => 0x7E00
  | 4 => 0x7FC0
  | 5 => 0x7F
  | 6 => 0x7E
  | _ => 0

/-- The code of an infinity. -/
def fmtInfCode (f : Nat) (neg : Bool) : Nat :=
  (if neg then 2 ^ (fmtBits f - 1) else 0) + (2 ^ fmtExp f - 1) * 2 ^ fmtMan f

/-- Split a floating-point code into its value, infinities and NaNs apart. -/
def finDecode (f c : Nat) : Num :=
  let man := c % 2 ^ fmtMan f
  let ex := (c >>> fmtMan f) % 2 ^ fmtExp f
  let neg := bit c (fmtBits f - 1)
  if ex = 0 then .fin neg man (fmtEmin f - fmtMan f)
  else .fin neg (2 ^ fmtMan f + man) ((ex : Int) - fmtBias f - fmtMan f)

/-- The value of a code. -/
def numOf (f c : Nat) : Num :=
  if f = 10 then
    if bit c 7 then .fin true (256 - c % 256) (-6) else .fin false (c % 256) (-6)
  else
    let man := c % 2 ^ fmtMan f
    let ex := (c >>> fmtMan f) % 2 ^ fmtExp f
    if fmtInf f && ex == 2 ^ fmtExp f - 1 then
      if man = 0 then .inf (bit c (fmtBits f - 1)) else .nan
    else if f = 5 && c % 128 == 127 then .nan
    else finDecode f c

/-! ### One rounding (10 R247, R257) -/

/-- The larger of two integers' exponents against which a magnitude is spaced: floor(log2 v) or the smallest normal's. -/
def spacing (f : Nat) (m : Nat) (e : Int) : Int :=
  if f = 10 then -6 else max ((m.log2 : Int) + e) (fmtEmin f) - fmtMan f

/-- `m * 2^e` as a whole number of `2^q`, rounded to nearest, ties to even, or by a stochastic draw. -/
def roundAt (m : Nat) (e q : Int) (draw : Option Nat) : Nat :=
  if q ≤ e then m * 2 ^ (e - q).toNat
  else
    let k := (q - e).toNat
    let n := m >>> k
    let rem := m % 2 ^ k
    match draw with
    | some r => if r < (rem <<< 32) >>> k then n + 1 else n
    | none =>
      if 2 ^ k < 2 * rem then n + 1
      else if 2 * rem < 2 ^ k then n
      else n + n % 2

/-- `m * 2^e` is greater than `n * 2^q`. -/
def magGt (m : Nat) (e : Int) (n : Nat) (q : Int) : Bool :=
  if q ≤ e then decide (n < m * 2 ^ (e - q).toNat) else decide (n * 2 ^ (q - e).toNat < m)

/-- The code of a magnitude `n * 2^q` that the format holds exactly. -/
def packMag (f n : Nat) (q : Int) : Nat :=
  if n = 0 then 0
  else if f = 10 then n * 2 ^ (q + 6).toNat
  else
    let e : Int := (n.log2 : Int) + q
    if e < fmtEmin f then n * 2 ^ (q - (fmtEmin f - fmtMan f)).toNat
    else
      let man := if n.log2 ≤ fmtMan f then n * 2 ^ (fmtMan f - n.log2) else n >>> (n.log2 - fmtMan f)
      (e + fmtBias f).toNat * 2 ^ fmtMan f + (man - 2 ^ fmtMan f)

/-- Put the sign on a magnitude's code. -/
def withSign (f : Nat) (neg : Bool) (c : Nat) : Nat :=
  if f = 10 then (if neg then (256 - c) % 256 else c)
  else if neg then c + 2 ^ (fmtBits f - 1) else c

/-- A converted code, and how many results saturated and how many finite inputs overflowed. -/
structure Conv where
  code : Nat
  sat  : Nat := 0
  ovf  : Nat := 0
  deriving DecidableEq, Repr, Inhabited

/-- Convert a value to a format other than an MX element's (10 R246-R249). -/
def convert (f : Nat) (sat : Bool) (draw : Option Nat) (v : Num) : Conv :=
  let top := withSign f false (packMag f (fmtMax f).1 (fmtMax f).2)
  match v with
  | .nan => { code := fmtNan f }
  | .inf neg =>
    if fmtInf f then { code := fmtInfCode f neg }
    else if sat then { code := withSign f neg top, sat := 1 } else { code := fmtNan f }
  | .fin neg m e =>
    if m = 0 then { code := withSign f neg 0 }
    else
      let q := spacing f m e
      let n := roundAt m e q draw
      if magGt n q (fmtMax f).1 (fmtMax f).2 then
        if sat then { code := withSign f neg top, sat := 1 }
        else if fmtInf f then { code := fmtInfCode f neg, ovf := 1 }
        else { code := fmtNan f, ovf := 1 }
      else { code := withSign f neg (packMag f n q) }

/-! ### FP32 arithmetic (10 R259) -/

/-- Round a value to FP32, to nearest, ties to even. -/
def toF32 (v : Num) : Nat := (convert 2 false none v).code

/-- The exact sum of two finite values; an exact zero sum of unlike signs is +0. -/
def finAdd (sa : Bool) (ma : Nat) (ea : Int) (sb : Bool) (mb : Nat) (eb : Int) : Num :=
  let q := min ea eb
  let a := ma * 2 ^ (ea - q).toNat
  let b := mb * 2 ^ (eb - q).toNat
  if sa = sb then .fin sa (a + b) q
  else if b < a then .fin sa (a - b) q
  else if a < b then .fin sb (b - a) q
  else .fin false 0 q

/-- FP32 addition. -/
def f32Add (x y : Nat) : Nat :=
  match numOf 2 x, numOf 2 y with
  | .nan, _ => fmtNan 2
  | _, .nan => fmtNan 2
  | .inf a, .inf b => if a = b then fmtInfCode 2 a else fmtNan 2
  | .inf a, _ => fmtInfCode 2 a
  | _, .inf b => fmtInfCode 2 b
  | .fin sa ma ea, .fin sb mb eb => toF32 (finAdd sa ma ea sb mb eb)

/-- FP32 negation. -/
def f32Neg (x : Nat) : Nat := if bit x 31 then x - 2 ^ 31 else x + 2 ^ 31

/-- FP32 subtraction. -/
def f32Sub (x y : Nat) : Nat := if numOf 2 y = .nan then fmtNan 2 else f32Add x (f32Neg y)

/-- FP32 multiplication. -/
def f32Mul (x y : Nat) : Nat :=
  match numOf 2 x, numOf 2 y with
  | .nan, _ => fmtNan 2
  | _, .nan => fmtNan 2
  | .inf a, .inf b => fmtInfCode 2 (a != b)
  | .inf a, .fin b m _ => if m = 0 then fmtNan 2 else fmtInfCode 2 (a != b)
  | .fin a m _, .inf b => if m = 0 then fmtNan 2 else fmtInfCode 2 (a != b)
  | .fin a m e, .fin b n q => toF32 (.fin (a != b) (m * n) (e + q))

/-- One FP32 value is greater than another; false where either is a NaN. Zeros are equal. -/
def f32Gt (x y : Nat) : Bool :=
  match numOf 2 x, numOf 2 y with
  | .nan, _ => false
  | _, .nan => false
  | .inf a, .inf b => !a && b
  | .inf a, _ => !a
  | _, .inf b => b
  | .fin sa ma ea, .fin sb mb eb =>
    match finAdd sa ma ea (!sb) mb eb with
    | .fin neg m _ => !neg && m != 0
    | _ => false

/-! ### EXP2 (10 R260) -/

/-- The 96-bit fractions of 2^(2^-i), i = 1 to 16. -/
def expRoot0 : List Nat :=
  [0x16A09E667F3BCC908B2FB1366, 0x1306FE0A31B7152DE8D5A462F,
   0x1172B83C7D517ADCDF7C8C50E, 0x10B5586CF9890F6298B92B717,
   0x1059B0D31585743AE7C548EB5, 0x102C9A3E778060EE6F7CACA4E,
   0x10163DA9FB33356D84A66AE32, 0x100B1AFA5ABCBED6129AB13EB,
   0x10058C86DA1C09EA1FF19D294, 0x1002C605E2E8CEC506D21BFC8,
   0x100162F3904051FA128BCA9C5, 0x1000B175EFFDC76BA38E31671,
   0x100058BA01FB9F96D6CACD4B1, 0x10002C5CC37DA9491D0985C34,
   0x1000162E525EE054754457D59, 0x10000B17255775C040618BF4A]

/-- The 96-bit fractions of 2^(2^-i), i = 17 to 32. -/
def expRoot1 : List Nat :=
  [0x1000058B91B5BC9AE2EED81E9, 0x100002C5C89D5EC6CA4D7C8AC,
   0x10000162E43F4F831060E02D7, 0x100000B1721BCFC99D9F890E9,
   0x10000058B90CF1E6D97F9CA14, 0x1000002C5C863B73F016468F6,
   0x100000162E430E5A18F6119E3, 0x1000000B1721835514B86E6D9,
   0x100000058B90C0B48C6BE5DF8, 0x10000002C5C8601CC6B9E9421,
   0x1000000162E42FFF037DF38AA, 0x10000000B17217FBA9C739AA5,
   0x1000000058B90BFCDEE5ACD3B, 0x100000002C5C85FE31F35A6A2,
   0x10000000162E42FF0999CE353, 0x100000000B17217F80F4EF5AA]

/-- The 96-bit fractions of 2^(2^-i), i = 33 to 48. -/
def expRoot2 : List Nat :=
  [0x10000000058B90BFBF8479BD5, 0x1000000002C5C85FDF84BD62A,
   0x100000000162E42FEFB2FED25, 0x1000000000B17217F7D5A7716,
   0x100000000058B90BFBE9DDBAC, 0x10000000002C5C85FDF4B15DE,
   0x1000000000162E42FEFA494F1, 0x10000000000B17217F7D20CF9,
   0x1000000000058B90BFBE8F71C, 0x100000000002C5C85FDF477B6,
   0x10000000000162E42FEFA3AE5, 0x100000000000B17217F7D1D35,
   0x10000000000058B90BFBE8E8B, 0x1000000000002C5C85FDF4741,
   0x100000000000162E42FEFA39F, 0x1000000000000B17217F7D1CF]

/-- The 96-bit fractions of 2^(2^-i), i = 49 to 64. -/
def expRoot3 : List Nat :=
  [0x100000000000058B90BFBE8E7, 0x10000000000002C5C85FDF473,
   0x1000000000000162E42FEFA39, 0x10000000000000B17217F7D1C,
   0x1000000000000058B90BFBE8D, 0x100000000000002C5C85FDF46,
   0x10000000000000162E42FEFA2, 0x100000000000000B17217F7D0,
   0x10000000000000058B90BFBE7, 0x1000000000000002C5C85FDF3,
   0x100000000000000162E42FEF9, 0x1000000000000000B17217F7C,
   0x100000000000000058B90BFBD, 0x10000000000000002C5C85FDE,
   0x1000000000000000162E42FEE, 0x10000000000000000B17217F6]

/-- The fractions of 2^(2^-i), i = 1 to 64. -/
def expRoots : List Nat := expRoot0 ++ expRoot1 ++ expRoot2 ++ expRoot3

/-- 2^f in 96-bit fixed point, f given by its 64 fraction bits, highest first. -/
def expFrac : List Nat → Nat → Nat → Nat
  | [], _, acc => acc
  | r :: rest, f, acc =>
    expFrac rest ((2 * f) % 2 ^ 64) (if 2 ^ 64 ≤ 2 * f then (acc * r) >>> 96 else acc)

/-- The integer part and the 64-bit fraction of `m * 2^e` with a sign, rounded down. -/
def floorFrac (neg : Bool) (m : Nat) (e : Int) : Int × Nat :=
  let x : Nat := if 0 ≤ e + 64 then m * 2 ^ (e + 64).toNat else m >>> (-(e + 64)).toNat
  let v : Int := if neg then -(x : Int) else x
  (v / 2 ^ 64, (v % 2 ^ 64).toNat)

/-- A normal FP32 code `c` lies within 2^-22, relative, of every value that is within 2^-62 of `ref * 2^q`.
(DESIGN CHOICE, log 14) -/
def nearRef (c ref : Nat) (q : Int) : Bool :=
  match numOf 2 c with
  | .fin false m e =>
    let b := min e q
    let x := m * 2 ^ (e - b).toNat
    let y := ref * 2 ^ (q - b).toNat
    decide (2 ^ 23 ≤ m) && decide (y * (2 ^ 22 - 1) * (2 ^ 62 + 1) ≤ x * 2 ^ 84)
      && decide (x * 2 ^ 84 ≤ y * (2 ^ 22 + 1) * (2 ^ 62 - 1))
  | _ => false

/-- EXP2: exact where R260 fixes it; elsewhere the implementation's own choice where that meets the bound, and the nearest
FP32 number where it does not. (DESIGN CHOICE, log 14) -/
def exp2 (x : Nat) : Nat :=
  match numOf 2 x with
  | .nan => fmtNan 2
  | .inf neg => if neg then 0 else fmtInfCode 2 false
  | .fin neg m e =>
    if m = 0 then 0x3F800000
    else
      let p := floorFrac neg m e
      if p.1 < -126 then 0
      else if 128 ≤ p.1 then fmtInfCode 2 false
      else if p.2 = 0 ∧ (0 ≤ e ∨ m % 2 ^ (-e).toNat = 0) then (p.1 + 127).toNat * 2 ^ 23
      else
        let ref := expFrac expRoots p.2 (2 ^ 96)
        let own := (Config.exp2Choice (BitVec.ofNat 32 x)).toNat
        if nearRef own ref (p.1 - 96) then own else toF32 (.fin false ref (p.1 - 96))

/-! ### RCP (10 R261) -/

/-- A normal FP32 code of sign `neg` is within 2^-23 of the reciprocal of `m * 2^e`, relative. -/
def nearRcp (c : Nat) (neg : Bool) (m : Nat) (e : Int) : Bool :=
  match numOf 2 c with
  | .fin s n q =>
    let p := n * m
    let k := -(e + q)
    let one := if 0 ≤ k then 2 ^ k.toNat else 0
    let d := if p ≤ one then one - p else p - one
    s == neg && decide (2 ^ 23 ≤ n) && decide (0 ≤ k) && decide (d * 2 ^ 23 ≤ one)
  | _ => false

/-- The reciprocal of `m * 2^e` rounded to FP32: 120 quotient bits and a sticky one. -/
def rcpRound (neg : Bool) (m : Nat) (e : Int) : Nat :=
  toF32 (.fin neg (2 * (2 ^ 120 / m) + (if 2 ^ 120 % m = 0 then 0 else 1)) (-121 - e))

/-- RCP: exact where R261 fixes it; elsewhere the implementation's own choice where that meets the bound, and the nearest
FP32 number where it does not. (DESIGN CHOICE, log 14) -/
def rcp (x : Nat) : Nat :=
  match numOf 2 x with
  | .nan => fmtNan 2
  | .inf neg => if neg then 2 ^ 31 else 0
  | .fin neg m e =>
    if m = 0 then fmtInfCode 2 neg
    else if magGt m e 1 126 then (if neg then 2 ^ 31 else 0)
    else if magGt 1 0 (m * (2 ^ 24 - 1)) (e + 104) then fmtInfCode 2 neg
    else if m = 2 ^ m.log2 then rcpRound neg m e
    else
      let own := (Config.rcpChoice (BitVec.ofNat 32 x)).toNat
      if nearRcp own neg m e then own else rcpRound neg m e

/-! ### Block-scaled groups (10 R251-R254) -/

/-- The exponent of an element format's largest finite value. -/
def mxEmax : Nat → Int
  | 5 => 8
  | 6 => 15
  | 7 => 4
  | 8 => 2
  | 9 => 2
  | _ => 0

/-- floor(log2) of the largest finite magnitude of a group; none where every value is zero. -/
def groupLog : List Num → Option Int
  | [] => none
  | v :: rest =>
    let r := groupLog rest
    match v with
    | .fin _ m e =>
      if m = 0 then r
      else
        let l : Int := (m.log2 : Int) + e
        match r with
        | some x => some (max x l)
        | none => some l
    | _ => r

/-- The shared exponent of a group (10 R251). -/
def sharedExp (f : Nat) (g : List Num) : Int :=
  match groupLog g with
  | none => -127
  | some l => max (-127) (min 127 (l - mxEmax f))

/-- One element of a group under shared exponent `x` (10 R252). -/
def mxElem (f : Nat) (x : Int) (v : Num) (draw : Option Nat) : Conv :=
  match v with
  | .fin neg m e =>
    if m = 0 then { code := withSign f neg 0 }
    else
      let q := spacing f m (e - x)
      let n := roundAt m (e - x) q draw
      if magGt n q (fmtMax f).1 (fmtMax f).2 then
        { code := withSign f neg (packMag f (fmtMax f).1 (fmtMax f).2), sat := 1 }
      else { code := withSign f neg (packMag f n q) }
  | _ => { code := 0 }

/-- The record size of an MX element format (10 R253). -/
def recordSize (f : Nat) : Nat := 4 * fmtBits f + 1

/-- Codes packed as one little-endian bit string. -/
def packCodes (b : Nat) : List Nat → Nat
  | [] => 0
  | c :: rest => c + 2 ^ b * packCodes b rest

/-- Encode a group of 32 values with their draws: the record's bytes and the elements clamped. -/
def mxEncode (f : Nat) (g : List (Num × Option Nat)) : Bytes × Nat :=
  if g.any (fun v => match v.1 with
    | .fin _ _ _ => false
    | _ => true) then (zeros (4 * fmtBits f) ++ [0xFF], 0)
  else
    let x := sharedExp f (g.map (·.1))
    let cs := g.map (fun v => mxElem f x v.1 v.2)
    (leBytes (4 * fmtBits f) (packCodes (fmtBits f) (cs.map (·.code))) ++ [BitVec.ofNat 8 (x + 127).toNat],
      (cs.map (·.sat)).sum)

/-- The values of a record's 32 elements (10 R254). -/
def mxDecode (f : Nat) (r : Bytes) : List Num :=
  let k := byteAt r (recordSize f - 1)
  let all := leNat (r.take (recordSize f - 1))
  (List.range 32).map (fun j =>
    if k = 0xFF then .nan
    else match numOf f ((all >>> (fmtBits f * j)) % 2 ^ fmtBits f) with
      | .fin neg m e => .fin neg m (e + (k : Int) - 127)
      | v => v)

/-! ### Stochastic rounding (10 R256) -/

/-- One Galois step. -/
def stoStep (v : Nat) : Nat := if v % 2 = 1 then (v >>> 1) ^^^ 0x80200003 else v >>> 1

/-- `n` Galois steps. -/
def stoSteps : Nat → Nat → Nat
  | 0, v => v
  | n + 1, v => stoSteps n (stoStep v)

/-- A draw: the generator after 32 steps. -/
def stoDraw (v : Nat) : Nat := stoSteps 32 v

end Sys2Proof.Machine
end

