-- ==== Sys2Proof/Machine/Sluice.lean ====
section
/-! DEFINITION. The sluice (10): operation words and their typing, elements through a pipeline, block-scaled groups, softmax
rows and zero-run coding. Functions of bytes and words only. -/

namespace Sys2Proof.Machine

/-! ### Operation words (10 R237, R238, R245) -/

/-- The op field. -/
def opField (w : BitVec 32) : Nat := w.toNat >>> 24

/-- A format byte is block-scaled. -/
def fmtMx (b : Nat) : Bool := bit b 4

/-- The element format code of a format byte. -/
def fmtCode (b : Nat) : Nat := b % 16

/-- A valid format byte. -/
def fmtOk (b : Nat) : Bool :=
  decide (b < 32) && decide (1 ≤ fmtCode b) && decide (fmtCode b ≤ 12)
    && (if fmtMx b then decide (5 ≤ fmtCode b) && decide (fmtCode b ≤ 10)
        else decide (fmtCode b ≤ 6) || decide (11 ≤ fmtCode b))

/-- Bytes of an element of a format, or of a record of a block-scaled one. -/
def fmtBytes (b : Nat) : Nat := if fmtMx b then recordSize (fmtCode b) else fmtBits (fmtCode b) / 8

/-- The input format byte of a word. -/
def opIn (w : BitVec 32) : Nat :=
  match opField w with
  | 1 => bits w.toNat 7 0
  | 2 => bits w.toNat 15 8
  | _ => 2

/-- The output format byte of a word. -/
def opOut (w : BitVec 32) : Nat :=
  match opField w with
  | 1 => bits w.toNat 7 0
  | 2 => bits w.toNat 7 0
  | _ => 2

/-- The pair is an exact widening. -/
def widens (i o : Nat) : Bool :=
  match i with
  | 3 => o == 2 || o == 1
  | 4 => o == 2 || o == 1
  | 2 => o == 1
  | 5 => o == 3 || o == 4 || o == 2 || o == 1
  | 6 => o == 3 || o == 4 || o == 2 || o == 1
  | _ => false

/-- FP32, FP16 or BF16. -/
def scaledPeer (b : Nat) : Bool := b == 2 || b == 3 || b == 4

/-- The conversion is one of the supported pairs. -/
def convertOk (i o : Nat) : Bool :=
  i != o && (if fmtMx o then scaledPeer i
    else if fmtMx i then scaledPeer o
    else decide (i ≤ 6) && decide (o ≤ 6))

/-- A valid operation word. -/
def opWordOk (w : BitVec 32) : Bool :=
  let v := w.toNat
  match opField w with
  | 1 => bits v 23 8 == 0 && fmtOk (opIn w) && !fmtMx (opIn w)
  | 2 => bits v 23 16 == 0 && fmtOk (opIn w) && fmtOk (opOut w) && convertOk (opIn w) (opOut w)
  | 3 => bits v 23 16 == 0 && bits v 14 7 != 0xFF
  | 4 => bits v 23 16 == 0 && bits v 14 7 != 0xFF
  | 5 => bits v 23 0 == 0
  | 6 => bits v 23 0 == 0
  | 7 => bits v 23 1 == 0
  | _ => false

/-- The word is ROW_SOFTMAX. -/
def isSoftmax (w : BitVec 32) : Bool := opField w == 7

/-- Each cell takes what the cell before it gives. -/
def typedChain : List (BitVec 32) → Bool
  | [] => true
  | [_] => true
  | a :: b :: rest => opOut a == opIn b && !fmtMx (opOut a) && !isSoftmax a && typedChain (b :: rest)

/-- Valid words, typed along the route (10 R239). -/
def pipeTyped (ops : List (BitVec 32)) : Bool :=
  !ops.isEmpty && ops.all opWordOk && typedChain ops && ops.tail.all (fun w => !fmtMx (opIn w))

/-- The input format of a pipeline. -/
def pipeIn (ops : List (BitVec 32)) : Nat := (ops.head?.map opIn).getD 0

/-- The output format of a pipeline. -/
def pipeOut (ops : List (BitVec 32)) : Nat := (ops.getLast?.map opOut).getD 0

/-- The last cell is ROW_SOFTMAX. -/
def pipeSoftmax (ops : List (BitVec 32)) : Bool := (ops.getLast?.map isSoftmax).getD false

/-- The pipeline carries 32 elements per cc and not 64 (10 R240). -/
def pipeSlow (ops : List (BitVec 32)) : Bool := ops.any (fun w => opIn w == 1 || opOut w == 1 || isSoftmax w)

/-! ### Elements (10 R246-R261) -/

/-- What the cells leave for later elements of the same descriptor, and what they count: the generator, results saturated
and inputs overflowed. -/
structure CellSt where
  lfsr : Nat
  sat  : Nat := 0
  ovf  : Nat := 0
  deriving DecidableEq, Repr, Inhabited

/-- Take a draw, if the cell rounds under STOCH. -/
def cellDraw (take : Bool) (k : CellSt) : Option Nat × CellSt :=
  if take then (some (stoDraw k.lfsr), { k with lfsr := stoDraw k.lfsr }) else (none, k)

/-- Convert a value to an output format other than a block-scaled one. -/
def cellConvert (o : Nat) (sat take : Bool) (v : Num) (k : CellSt) : Nat × CellSt :=
  let d := cellDraw take k
  let c := convert o sat d.1 v
  (c.code, { d.2 with sat := d.2.sat + c.sat, ovf := d.2.ovf + c.ovf })

/-- PASS: a NaN leaves in its canonical form (10 R249). (DEDUCED, log 15) -/
def passCode (f c : Nat) : Nat := if decide (f ≤ 6) && numOf f c == .nan then fmtNan f else c

/-- One cell on one element, block-scaled sides and ROW_SOFTMAX apart. -/
def cellApply (sat stoch : Bool) (w : BitVec 32) (x : Nat × CellSt) : Nat × CellSt :=
  let c := x.1
  match opField w with
  | 1 => (passCode (fmtCode (opIn w)) c, x.2)
  | 2 => cellConvert (opOut w) sat (stoch && !widens (opIn w) (opOut w)) (numOf (opIn w) c) x.2
  | 3 => (f32Mul c (bits w.toNat 15 0 * 2 ^ 16), x.2)
  | 4 => (f32Add c (bits w.toNat 15 0 * 2 ^ 16), x.2)
  | 5 => (exp2 c, x.2)
  | 6 => (rcp c, x.2)
  | _ => x

/-- The cells between a block-scaled input and a block-scaled output or a ROW_SOFTMAX. -/
def innerCells (ops : List (BitVec 32)) : List (BitVec 32) :=
  ops.filter (fun w => !fmtMx (opIn w) && !fmtMx (opOut w) && !isSoftmax w)

/-- An element through the inner cells. -/
def runCells (ops : List (BitVec 32)) (sat stoch : Bool) (c : Nat) (k : CellSt) : Nat × CellSt :=
  (innerCells ops).foldl (fun x w => cellApply sat stoch w x) (c, k)

/-- The values of a block-scaled record, each through the first cell; decoding to FP32 takes no draw. -/
def decodeRecord (w : BitVec 32) (sat stoch : Bool) (r : Bytes) (k : CellSt) : List Nat × CellSt :=
  (mxDecode (fmtCode (opIn w)) r).foldl (fun x v =>
    let y := cellConvert (opOut w) sat (stoch && opOut w != 2) v x.2
    (x.1 ++ [y.1], y.2)) ([], k)

/-- The draw an element takes for its place in a block-scaled group. -/
def groupDraw (ops : List (BitVec 32)) (stoch : Bool) (k : CellSt) : Option Nat × CellSt :=
  cellDraw (stoch && fmtMx (pipeOut ops)) k

/-- Encode a group of 32 codes with their draws. -/
def encodeGroup (ops : List (BitVec 32)) (g : List (Nat × Option Nat)) : Bytes × Nat :=
  match ops.getLast? with
  | some w => mxEncode (fmtCode (opOut w)) (g.map (fun x => (numOf (opIn w) x.1, x.2)))
  | none => ([], 0)

/-! ### Softmax rows (10 R262, R263) -/

/-- The largest of FP32 entries; of equal ones the first. -/
def f32Largest : List Nat → Nat → Nat
  | [], m => m
  | x :: rest, m => f32Largest rest (if f32Gt x m then x else m)

/-- Plus infinity. -/
def f32Inf : Nat := 0x7F800000

/-- Minus infinity. -/
def f32NegInf : Nat := 0xFF800000

/-- A row's outputs: one code per entry, then m, l and the flags of its tail. -/
structure SoftRow where
  out   : List Nat
  m     : Nat
  l     : Nat
  flags : Nat
  deriving DecidableEq, Repr, Inhabited

/-- ROW_SOFTMAX of one row. (DEDUCED, log 15) -/
def softmaxRow (norm : Bool) (row : List Nat) : SoftRow :=
  if row.any (fun x => numOf 2 x == .nan) then
    { out := row.map (fun _ => fmtNan 2), m := fmtNan 2, l := fmtNan 2, flags := 2 }
  else if row.any (fun x => x == f32Inf) then
    let l := toF32 (.fin false (row.countP (fun x => x == f32Inf)) 0)
    let one := if norm then rcp l else 0x3F800000
    { out := row.map (fun x => if x = f32Inf then one else 0), m := f32Inf, l := l, flags := 0 }
  else if row.all (fun x => x == f32NegInf) then
    { out := row.map (fun _ => 0), m := f32NegInf, l := 0, flags := 1 }
  else
    let m := f32Largest row.tail (row.headD 0)
    let es := row.map (fun x => exp2 (f32Sub x m))
    let l := es.tail.foldl f32Add (es.headD 0)
    { out := if norm then es.map (fun e => f32Mul e (rcp l)) else es, m := m, l := l, flags := 0 }

/-- The tail of a row, 16 bytes. -/
def softTail (r : SoftRow) : Bytes := leBytes 4 r.m ++ leBytes 4 r.l ++ leBytes 4 r.flags ++ zeros 4

/-! ### Zero-run coding (10 R264-R266) -/

/-- Bytes with their poison marks. -/
abbrev MarkedBytes := List (Byte × Bool)

/-- Mark bytes. -/
def mark (bad : Bool) (b : Bytes) : MarkedBytes := b.map (fun x => (x, bad))

/-- An element is coded in a zero run. -/
def zeroElem (e : MarkedBytes) : Bool := e.all (fun x => x.1 == 0 && !x.2)

/-- The coded form of a run of like elements. -/
def zrcRun (run : List MarkedBytes) : MarkedBytes :=
  match run with
  | [] => []
  | e :: _ =>
    if zeroElem e then [(BitVec.ofNat 8 (run.length - 1), false)]
    else (BitVec.ofNat 8 (run.length + 0x7F), false) :: run.flatten

/-- Add an element to the run in hand; what the coder then gives out, and the run in hand after it. -/
def zrcPush (run : List MarkedBytes) (e : MarkedBytes) : MarkedBytes × List MarkedBytes :=
  match run with
  | [] => ([], [e])
  | f :: _ => if zeroElem f = zeroElem e ∧ run.length < 128 then ([], run ++ [e]) else (zrcRun run, [e])

/-- The header of a coded stream. -/
def zrcHeaderBytes (elem count len : Nat) : Bytes :=
  let b := leBytes 4 0x3143525A ++ leBytes 2 elem ++ leBytes 2 0 ++ leBytes 8 count ++ leBytes 8 len ++ leBytes 4 0
  b ++ leBytes 4 (crc32c b)

/-- What a stream header says, or the status that refuses it (10 R266): the length of the body. -/
def zrcHeaderCheck (b : Bytes) (elem count : Nat) : Status ⊕ Nat :=
  if crc32c (b.take 28) ≠ fld b 28 4 then .inl .checkFail
  else if fld b 0 4 ≠ 0x3143525A ∨ fld b 6 2 ≠ 0 ∨ fld b 24 4 ≠ 0 ∨ fld b 4 2 ≠ elem ∨ fld b 8 8 ≠ count
      ∨ fld b 8 8 = 0 ∨ 2 ^ 48 < fld b 8 8 then .inl .malformed
  else .inr (fld b 16 8)

end Sys2Proof.Machine
end

