-- ==== Sys2Proof/Machine/Desc.lean ====
section
/-! DEFINITION. Descriptors (09 R205-R208): the fields of the sixteen words and the checks made on them before one starts. -/

namespace Sys2Proof.Machine

/-- The sixteen words of a descriptor. -/
abbrev Words := List (BitVec 64)

/-- The words that 128 bytes hold. -/
def wordsOf (b : Bytes) : Words := (List.range 16).map (fun i => BitVec.ofNat 64 (fld b (8 * i) 8))

/-- Word `i`. -/
def dW (d : Words) (i : Nat) : Nat := (d.getD i 0).toNat

/-- OP. -/
def dOp (d : Words) : Nat := bits (dW d 0) 7 0

/-- PIPE. -/
def dPipe (d : Words) : Nat := bits (dW d 0) 15 8

/-- FLAGS. -/
def dFlags (d : Words) : Nat := bits (dW d 0) 31 16

/-- Flag bit `i`. -/
def dFlag (d : Words) (i : Nat) : Bool := bit (dFlags d) i

/-- ELEM. -/
def dElem (d : Words) : Nat := bits (dW d 0) 47 32

/-- SRC. -/
def dSrc (d : Words) : Nat := dW d 1

/-- DST. -/
def dDst (d : Words) : Nat := dW d 2

/-- N0. -/
def dN0 (d : Words) : Nat := bits (dW d 3) 31 0

/-- N1. -/
def dN1 (d : Words) : Nat := bits (dW d 3) 63 32

/-- N2. -/
def dN2 (d : Words) : Nat := bits (dW d 4) 31 0

/-- SEQ_START. -/
def dSeqStart (d : Words) : Nat := bits (dW d 4) 55 32

/-- A two's-complement number of `n` bits. -/
def signed (n v : Nat) : Int := if bit v (n - 1) then (v : Int) - 2 ^ n else v

/-- S0, S1, S2. -/
def dS (d : Words) (k : Nat) : Int :=
  match k with
  | 0 => signed 32 (bits (dW d 5) 31 0)
  | 1 => signed 64 (dW d 6)
  | _ => signed 64 (dW d 7)

/-- D0, D1, D2. -/
def dD (d : Words) (k : Nat) : Int :=
  match k with
  | 0 => signed 32 (bits (dW d 5) 63 32)
  | 1 => signed 64 (dW d 8)
  | _ => signed 64 (dW d 9)

/-- OPERAND. -/
def dOperand (d : Words) : Nat := dW d 10

/-- FENCE address. -/
def dFence (d : Words) : Nat := dW d 11

/-- FENCE value. -/
def dFenceVal (d : Words) : Nat := dW d 12

/-- TIDE. -/
def dTide (d : Words) : Nat := bits (dW d 13) 15 0

/-- The tide counter credited, if any. -/
def dTideOpt (d : Words) : Option Nat := if dTide d = 0xFFFF then none else some (dTide d)

/-- PACE_SRC. -/
def dPaceSrc (d : Words) : Nat := bits (dW d 13) 31 16

/-- PACE_HI. -/
def dPaceHi (d : Words) : Nat := bits (dW d 13) 47 32

/-- PACE_LO. -/
def dPaceLo (d : Words) : Nat := bits (dW d 13) 63 48

/-- NEXT. -/
def dNext (d : Words) : Nat := dW d 14

/-- The number of elements the three loops visit. -/
def dCount (d : Words) : Nat := dN0 d * dN1 d * dN2 d

/-- The descriptor's crc. -/
def dCrcOk (b : Bytes) : Bool := crc32c (b.take 120) == fld b 124 4

/-! ### Pipelines -/

/-- The operation words of the descriptor's pipeline; none without one. -/
def State.pipeOps (s : State) (d : Words) : List (BitVec 32) := if dPipe d = 0xFF then [] else (s.pipe (dPipe d)).ops

/-- The source is block-scaled. -/
def mxIn (ops : List (BitVec 32)) : Bool := !ops.isEmpty && fmtMx (pipeIn ops)

/-- The destination is block-scaled. -/
def mxOut (ops : List (BitVec 32)) : Bool := !ops.isEmpty && fmtMx (pipeOut ops)

/-- DELEM: the size of a destination element, or of a record (09 R209, 10 R241). -/
def delem (ops : List (BitVec 32)) (d : Words) : Nat := if ops.isEmpty then dElem d else fmtBytes (pipeOut ops)

/-- The constraints of the pipeline on the descriptor (10 R241). -/
def pipeFits (ops : List (BitVec 32)) (d : Words) : Bool :=
  dElem d == fmtBytes (pipeIn ops)
    && (!mxIn ops || (dN0 d % 32 == 0 && dS d 0 == 0 && !dFlag d 8))
    && (!mxOut ops || (dN0 d % 32 == 0 && dD d 0 == 0 && !dFlag d 9))
    && (!pipeSoftmax ops || (decide (1 ≤ dN0 d) && decide (dN0 d ≤ 4096) && dD d 0 == 4))

/-! ### Checks -/

/-- A loop opcode. -/
def isLoop (op : Nat) : Bool := op == 1 || op == 2 || op == 3 || op == 4 || op == 5 || op == 8 || op == 9

/-- Steps keep 48 significant bits. -/
def stepOk (v : Nat) : Bool := v >>> 47 == 0 || v >>> 47 == 0x1FFFF

/-- The flags an opcode allows (09 R208), COUNT and STOP_AFTER included. -/
def flagsAllowed (op : Nat) : Nat :=
  match op with
  | 1 => 0x03 + 0x0C + 0x10 + 0x60 + 0x300
  | 2 => 0x03 + 0x08 + 0x10 + 0x80
  | 3 => 0x03 + 0x04 + 0x10 + 0x80
  | 4 => 0x03 + 0x04 + 0x10
  | 5 => 0x03 + 0x04 + 0x10
  | 8 => 0x03 + 0x04 + 0x10
  | 9 => 0x03 + 0x10 + 0x20
  | 10 => 0
  | _ => 0x03

/-- Steps of the source are all zero. -/
def noSrcSteps (d : Words) : Bool := dS d 0 == 0 && dS d 1 == 0 && dS d 2 == 0

/-- Steps of the destination are all zero. -/
def noDstSteps (d : Words) : Bool := dD d 0 == 0 && dD d 1 == 0 && dD d 2 == 0

/-- ELEM and words W3 to W9 are zero. -/
def noLoop (d : Words) : Bool := dElem d == 0 && (List.range 7).all (fun i => dW d (3 + i) == 0)

/-- ELEM and OPERAND of FILL and COMPARE (09 R214, R215). -/
def patternOk (d : Words) : Bool :=
  if dFlag d 7 then dOperand d >>> 31 == 0 && dOperand d != 0
  else dElem d == 1 || dElem d == 2 || dElem d == 4 || dElem d == 8

/-! OPERAND of REDUCE and MERGE (12 R289). -/

/-- round. -/
def oRound (d : Words) : Nat := bits (dOperand d) 63 48

/-- dgroups. -/
def oGroups (d : Words) : Nat := bits (dOperand d) 47 42

/-- NORM. -/
def oNorm (d : Words) : Bool := bit (dOperand d) 41

/-- type. -/
def oType (d : Words) : Nat := bits (dOperand d) 40 38

/-- op. -/
def oOp (d : Words) : Nat := bits (dOperand d) 37 36

/-- K. -/
def oK (d : Words) : Nat := bits (dOperand d) 35 24 + 1

/-- index. -/
def oIndex (d : Words) : Nat := bits (dOperand d) 23 12

/-- slot. -/
def oSlot (d : Words) : Nat := bits (dOperand d) 11 0

/-- Input element size of a type; a row where `groups` is not zero (12 R289). -/
def cmbInSize (type_ groups : Nat) : Nat :=
  if groups ≠ 0 then 16 + 64 * groups
  else match type_ with
    | 1 => 8
    | 2 => 2
    | 5 => 8
    | 6 => 8
    | _ => 4

/-- Result element size. -/
def cmbOutSize (type_ groups : Nat) : Nat :=
  if groups ≠ 0 then 16 + 64 * groups
  else match type_ with
    | 1 => 8
    | 5 => 8
    | 6 => 8
    | _ => 4

/-- Result alignment. -/
def cmbAlign (type_ groups : Nat) : Nat := if groups ≠ 0 then 16 else cmbOutSize type_ 0

/-- The input format of a type, as a format byte; none for integers. -/
def cmbFormat (type_ : Nat) : Option Nat :=
  match type_ with
  | 0 => some 2
  | 1 => some 1
  | 2 => some 4
  | _ => none

/-- The parameters of a contribution lie in their ranges (12 R289). -/
def cmbRange (merge : Bool) (groups : Nat) (norm : Bool) (type_ op k index : Nat) : Bool :=
  decide (index < k) && decide (type_ ≤ 6)
    && (if merge then op == 3 && type_ == 0 && decide (1 ≤ groups) && decide (groups ≤ 32)
        else decide (op ≤ 2) && groups == 0 && !norm)

/-- REDUCE and MERGE (12 R290). -/
def combineOk (ops : List (BitVec 32)) (d : Words) (mgmt : Bool) : Bool :=
  let merge := dOp d == 5
  let n := dCount d
  cmbRange merge (oGroups d) (oNorm d) (oType d) (oOp d) (oK d) (oIndex d)
    && (if merge then dPipe d == 0xFF && dElem d == 16 + 64 * oGroups d
        else if dPipe d == 0xFF then dElem d == cmbInSize (oType d) 0
        else cmbFormat (oType d) == some (pipeOut ops) && !pipeSoftmax ops)
    && noDstSteps d
    && decide (n * cmbInSize (oType d) (oGroups d) ≤ 16777152)
    && decide (n * cmbOutSize (oType d) (oGroups d) ≤ 16777216)
    && dDst d % cmbAlign (oType d) (oGroups d) == 0 && !mgmt

/-- The features the descriptor uses are in the agreed word in force (05 R115, R116). -/
def State.featuresOk (s : State) (d : Words) : Bool :=
  let ops := s.pipeOps d
  let need (used : Bool) (f : Nat) : Bool := !used || s.feature f
  let op := dOp d
  need (dFlag d 2 || dFlag d 3 || op == 9) 1 && need (op == 5 || pipeSoftmax ops) 2 && need (mxIn ops || mxOut ops) 3
    && need (dFlag d 8 || dFlag d 9) 4 && need (dFlag d 6) 5 && need (op == 11 || op == 12) 8 && need (op == 4) 10
    && need (dFlag d 7) 11

/-- What each opcode asks of its own fields (09 R208, R213-R222). -/
def State.opcodeOk (s : State) (d : Words) (mgmt : Bool) : Bool :=
  let noPipe := dPipe d == 0xFF
  let ops := s.pipeOps d
  match dOp d with
  | 1 => (if dFlag d 6 then bits (dOperand d) 31 0 != 0 else bits (dOperand d) 31 0 == 0)
      && (dFlag d 9 || bits (dOperand d) 63 32 == 0) && (!dFlag d 8 || noSrcSteps d) && (!dFlag d 9 || noDstSteps d)
  | 2 => noPipe && dSrc d == 0 && noSrcSteps d && patternOk d
  | 3 => noPipe && dDst d == 0 && noDstSteps d && patternOk d && dTide d == 0xFFFF
  | 4 => combineOk ops d mgmt
  | 5 => combineOk ops d mgmt
  | 6 => noPipe && dSrc d == 0 && decide (dDst d < 4096) && noLoop d && dTide d != 0xFFFF
  | 7 => noPipe && dSrc d == 0 && dDst d == 0 && noLoop d && dTide d != 0xFFFF
  | 8 => noPipe && dDst d % 64 == 0 && noDstSteps d && dOperand d == 0
  | 9 => dN1 d == 1 && dS d 0 == dElem d && dS d 1 == 0 && dS d 2 == 0 && dD d 2 == 0 && dSeqStart d == 0
      && dSrc d % 64 == 0 && dOperand d % 8 == 0
  | 10 => noPipe && dSrc d == 0 && dDst d == 0 && noLoop d && dOperand d == 0 && dTide d == 0xFFFF && dFence d == 0
  | 11 => noPipe && dSrc d == 0 && noLoop d && dTide d == 0xFFFF && !mgmt && bits (dOperand d) 63 56 == 0
      && bits (dOperand d) 55 51 == 0 && decide (1 ≤ bits (dOperand d) 47 0) && decide (bits (dOperand d) 47 0 ≤ 2 ^ 41)
  | 12 => noPipe && dDst d == 0 && noLoop d && dTide d == 0xFFFF && bits (dOperand d) 63 32 == 0
  | _ => false

/-- Check 6 of 09 R207, with the constraints of the pipeline. -/
def State.descOk (s : State) (d : Words) (mgmt : Bool) : Bool :=
  let op := dOp d
  let ops := s.pipeOps d
  s.opcodeOk d mgmt && s.featuresOk d
    && dFlags d &&& flagsAllowed op == dFlags d
    && bits (dW d 0) 63 48 == 0 && bits (dW d 4) 63 56 == 0
    && (dPipe d == 0xFF || (decide (dPipe d < 32) && !(s.pipe (dPipe d)).ops.isEmpty && pipeFits ops d))
    && (!(dFlag d 5 || dFlag d 6) || dPipe d != 0xFF)
    && stepOk (dW d 6) && stepOk (dW d 7) && stepOk (dW d 8) && stepOk (dW d 9)
    && (if isLoop op then decide (1 ≤ dElem d) && decide (dElem d ≤ 4096) && decide (1 ≤ dN0 d) && decide (1 ≤ dN1 d)
          && decide (1 ≤ dN2 d) else true)
    && (dFlag d 2 || dFlag d 3 || dSeqStart d == 0)
    && (!dFlag d 2 || dSrc d % 64 == 0) && (!dFlag d 3 || dDst d % 64 == 0)
    && (if dFlag d 4 then decide (dPaceLo d < dPaceHi d) && (bit (dPaceSrc d) 15 || bits (dPaceSrc d) 14 12 == 0)
        else dW d 13 >>> 16 == 0)

end Sys2Proof.Machine
end

