-- ==== Sys2Proof/Machine/Nest.lean ====
section
/-! DEFINITION. Where the bytes of a descriptor lie: the three loops (09 R209), block-scaled records (10 R242), sequences
(07 R180; 09 R217, R218), bursts (09 R211), and the pattern of FILL and COMPARE (09 R214). -/

namespace Sys2Proof.Machine

/-! ### The nest -/

/-- The offset of item `e` of a nest with `n0` items in the inner loop and `n1` in the middle one. -/
def nestOff (n0 n1 : Nat) (s0 s1 s2 : Int) (e : Nat) : Int :=
  ((e / (n0 * n1) : Nat) : Int) * s2 + ((e / n0 % n1 : Nat) : Int) * s1 + ((e % n0 : Nat) : Int) * s0

/-- Source units in one inner run: elements, or records of a block-scaled source. -/
def srcPerRow (ops : List (BitVec 32)) (d : Words) : Nat := if mxIn ops then dN0 d / 32 else dN0 d

/-- The offset of source unit `u`. -/
def srcOff (ops : List (BitVec 32)) (d : Words) (u : Nat) : Int :=
  nestOff (srcPerRow ops d) (dN1 d) (if mxIn ops then (dElem d : Int) else dS d 0) (dS d 1) (dS d 2) u

/-- Items per inner run of the destination: elements, or records of a block-scaled destination. -/
def dstPerRow (ops : List (BitVec 32)) (d : Words) : Nat := if mxOut ops then dN0 d / 32 else dN0 d

/-- Runs of the middle loop; a GATHER_SEQ has one run per token. -/
def dstRows (d : Words) : Nat := if dOp d = 9 then 2 ^ 64 else dN1 d

/-- The offset of destination item `u`. -/
def dstOff (ops : List (BitVec 32)) (d : Words) (u : Nat) : Int :=
  nestOff (dstPerRow ops d) (dstRows d) (if mxOut ops then (delem ops d : Int) else dD d 0) (dD d 1) (dD d 2) u

/-- The offset of the tail of softmax row `row` (10 R262). -/
def tailOff (d : Words) (row : Nat) : Int := nestOff 1 (dstRows d) 0 (dD d 1) (dD d 2) row + 4 * (dN0 d : Int)

/-- The source base: a VA, or the logical offset at which a sequence side begins (09 R217). -/
def srcBase (r : Running) : Int :=
  match r.seqS with
  | some m => (dSeqStart r.words * m.tokenBytes : Nat)
  | none => (dSrc r.words : Int)

/-- The destination base. -/
def dstBase (r : Running) : Int :=
  match r.seqD with
  | some m => (dSeqStart r.words * m.tokenBytes : Nat)
  | none => (dDst r.words : Int)

/-- Source bytes are one run without steps: a coded stream, or the present range of a GATHER_SEQ. -/
def srcLinear (r : Running) : Bool := dFlag r.words 8 || dOp r.words == 9

/-- The place of source byte `pos`: an address, or a logical offset. -/
def srcAt (ops : List (BitVec 32)) (r : Running) (pos : Nat) : Int :=
  if dOp r.words = 9 then
    (((r.range.getD (0, 0)).1 * (r.seqS.elim 0 (·.tokenBytes)) + pos : Nat) : Int)
  else if dFlag r.words 8 then srcBase r + (pos : Int)
  else srcBase r + srcOff ops r.words (pos / dElem r.words) + ((pos % dElem r.words : Nat) : Int)

/-- Source bytes known so far: all of them, or a coded body whose header has been read, or the present range. -/
def srcLimit (ops : List (BitVec 32)) (r : Running) : Nat :=
  if dOp r.words = 9 then (r.range.getD (0, 0)).2 * (r.seqS.elim 0 (·.tokenBytes))
  else if dFlag r.words 8 then 0x20 + r.zrc.bodyLen.getD 0
  else if isLoop (dOp r.words) && dOp r.words != 2 then srcPerRow ops r.words * dN1 r.words * dN2 r.words * dElem r.words
  else 0

/-- How many bytes from `pos` lie contiguously, at most `want`; steps of `unit` bytes are followed while the places join.
(DEDUCED, log 86) -/
def contigLen (place : Nat → Int) (unit limit : Nat) : Nat → Nat → Nat → Nat
  | 0, _, _ => 0
  | fuel + 1, pos, want =>
    let stop := min (roundDown pos unit + unit) limit
    let n := min want (stop - pos)
    if stop - pos < want ∧ stop < limit ∧ place stop = place pos + (n : Int)
    then n + contigLen place unit limit fuel stop (want - n) else n

/-! ### Sequences (07 R180) -/

/-- What resolving a logical offset gives: the VA and the bytes left in its block, the block whose entry must be read first,
or a fault; `range` marks the fault of an offset beyond the map. -/
inductive Resolved where
  | va (a : BitVec 64) (room : Nat)
  | need (block : Nat)
  | fault (c : Cause) (range : Bool) (block : Nat)
  deriving DecidableEq, Repr, Inhabited

/-- The entry of a block, if it has been read. -/
def SeqMap.entry (m : SeqMap) (b : Nat) : Option (BitVec 64) := (m.entries.find? (fun e => e.1 == b)).map (·.2)

/-- Resolve a logical offset. -/
def SeqMap.resolve (m : SeqMap) (l : Int) : Resolved :=
  if l < 0 then .fault .seqRange true 0
  else
    let n := l.toNat
    let t := n / m.tokenBytes
    if m.tokenCount ≤ t then .fault .seqRange true 0
    else
      let b := t >>> m.blockLog2
      match m.entry b with
      | none => .need b
      | some e =>
        if e = 0 then .fault .seqRange false b
        else if e.toNat >>> 57 ≠ 0 then .fault .malformed false b
        else .va (BitVec.ofNat 64 (e.toNat + (t % 2 ^ m.blockLog2) * m.tokenBytes + n % m.tokenBytes))
          (min ((b + 1) * 2 ^ m.blockLog2) m.tokenCount * m.tokenBytes - n)

/-- The fields of a map header that passes its checks, or the cause of the fault it gives (07 R181). -/
def seqHeaderCheck (va : BitVec 64) (b : Bytes) : Cause ⊕ SeqMap :=
  let tc := fld b 8 4
  let bl := byteAt b 0x0C
  let tb := fld b 0x10 4
  if crc32c (b.take 60) ≠ fld b 60 4 then .inl .checkFail
  else if fld b 0 4 ≠ 0x5145534D ∨ fld b 4 2 ≠ 1 ∨ fld b 6 2 ≠ 0 ∨ fld b 0x0D 3 ≠ 0 ∨ allZero (cut b 0x18 36) = false
    ∨ tc = 0 ∨ 16777216 < tc ∨ bl < 4 ∨ 16 < bl ∨ tb = 0 ∨ 65536 < tb ∨ fld b 0x14 4 ≠ (tc + 2 ^ bl - 1) / 2 ^ bl
    then .inl .malformed
  else .inr { va := va, ready := true, tokenCount := tc, blockLog2 := bl, tokenBytes := tb, entries := [], reading := none }

/-- The VA of a place, with the bytes that may follow it: a sequence side resolves it, any other side has it. -/
def placeOf (m : Option SeqMap) (l : Int) : Resolved :=
  match m with
  | some k => k.resolve l
  | none => .va (BitVec.ofInt 64 l) (2 ^ 64)

/-! ### Write bursts (09 R211) -/

/-- The bytes at the head of the waiting bytes that one write burst may carry: contiguous, inside `room` bytes.
(DEDUCED, log 86) -/
def burstPrefix : Nat → List OutByte → List OutByte
  | 0, _ => []
  | _, [] => []
  | _ + 1, [b] => [b]
  | n + 1, b :: c :: rest => if n ≠ 0 ∧ c.addr = b.addr + 1 then b :: burstPrefix n (c :: rest) else [b]

/-- The bytes cut into the write bursts that will carry them. (DEDUCED, log 86) -/
def burstsOf : Nat → List OutByte → List (List OutByte)
  | 0, _ => []
  | _, [] => []
  | fuel + 1, b :: rest =>
    let p := burstPrefix (256 - b.addr.toNat % 256) (b :: rest)
    p :: burstsOf fuel ((b :: rest).drop p.length)

/-! ### The pattern of FILL and COMPARE (09 R214) -/

/-- One PRBS-31 bit and the state after it. -/
def prbsBit (st : BitVec 31) : Bool × BitVec 31 :=
  let b := st.getLsbD 30 ^^ st.getLsbD 27
  (b, (st <<< 1) ||| (if b then 1 else 0))

/-- `n` bits, the first in bit 0. -/
def prbsBits : Nat → BitVec 31 → Nat × BitVec 31
  | 0, st => (0, st)
  | n + 1, st =>
    let x := prbsBit st
    let y := prbsBits n x.2
    (b2n x.1 + 2 * y.1, y.2)

/-- `n` bytes of the stream. -/
def prbsBytes : Nat → BitVec 31 → Bytes × BitVec 31
  | 0, st => ([], st)
  | n + 1, st =>
    let x := prbsBits 8 st
    let y := prbsBytes n x.2
    (BitVec.ofNat 8 x.1 :: y.1, y.2)

/-- The next element FILL writes. -/
def fillElem (d : Words) (st : BitVec 31) : Bytes × BitVec 31 :=
  if dFlag d 7 then prbsBytes (dElem d) st else (leBytes (dElem d) (dOperand d), st)

end Sys2Proof.Machine
end

