-- ==== Sys2Proof/Machine/Tide.lean ====
section
/-! DEFINITION. Tide counters (13 R317-R334): credits, tidemarks, levels, and the driver's writes. -/

namespace Sys2Proof.Machine

/-- The counter lies in the range of the partition number, or the work is the management class's and is not checked
(09 R219, R225; 11 R282). -/
def State.tideInRange (s : State) (n : Nat) (p : Option Nat) : Bool :=
  match p with
  | none => true
  | some q => s.tideOwner n == some q

/-- Count a refused credit (13 R318). -/
def State.tideRefuse (s : State) : State := { s with tide := { s.tide with refused := sat32 s.tide.refused } }

/-- Add an amount to a counter, or refuse it. The partition is none for the management class. -/
def State.tideAdd (s : State) (n : Nat) (p : Option Nat) (amount : Nat) : Bool × State :=
  if s.tideInRange n p then (true, s.modTideVal n (fun v => v + BitVec.ofNat 64 amount)) else (false, s.tideRefuse)

/-- The credit of a write of `bytes` enabled bytes: bytes or one, by the counter's mode (13 R317). -/
def State.tideCredit (s : State) (n : Nat) (p : Option Nat) (bytes : Nat) : Bool × State :=
  s.tideAdd n p (if s.tidePkt n then 1 else bytes)

/-- The counter has reached a tidemark (13 R319). -/
def State.tideReached (s : State) (n : Nat) (mark : BitVec 64) : Bool := decide ((s.tideVal n - mark).toNat < 2 ^ 63)

/-- The level of a counter over a pace base (09 R229). -/
def paceTideLevel (v base : BitVec 64) (shift : Nat) : Nat :=
  let d := (v - base).toNat
  if 2 ^ 63 ≤ d then 0 else min (d >>> min shift 48) 0xFFFF

/-- The driver may write the counter: its partition reads DISABLED or it has none (13 R321). -/
def State.tideWritable (s : State) (n : Nat) : Bool :=
  match s.tideOwner n with
  | some p => s.part p == .disabled
  | none => true

/-- A write of HD_TIDE_LO stages the low half on its path (13 R321). -/
def State.tideLoWrite (s : State) (path : Path) (n : Nat) (v : BitVec 32) : State :=
  if s.tideWritable n then s.modLatch (pathIx path) (fun l => { l with staged := some (n, v) }) else s

/-- A write of HD_TIDE_HI commits both halves if the path has staged this counter (13 R321). -/
def State.tideHiWrite (s : State) (path : Path) (n : Nat) (v : BitVec 32) : State :=
  match (s.latch (pathIx path)).staged with
  | some (m, lo) =>
    if m = n ∧ s.tideWritable n = true then
      (s.modLatch (pathIx path) (fun l => { l with staged := none })).setTideVal n (v ++ lo)
    else s
  | none => s

/-- A write of HD_TIDE_MODE sets the modes of the counters that may be written (13 R334). -/
def State.tideModeWrite (s : State) (w : Nat) (v : BitVec 32) : State :=
  eachOf (fun j t => if t.tideWritable (32 * w + j) then t.setTidePkt (32 * w + j) (v.getLsbD j) else t) (List.range 32) s

end Sys2Proof.Machine
end

