-- ==== Sys2Proof/Machine/Access.lean ====
section
/-! DEFINITION. Accesses in flight: starting one, the order of one agent's accesses to one line (13 R315), tear modes
(13 R328), the way a physical address takes (07 R175), memory-port requests (02 R42-R44), and ending. -/

namespace Sys2Proof.Machine

/-- An access before it is started. -/
def mkAccess (ag : Agent) (pu : Purpose) (k : AccKind) (part : Option Nat) (pa : BitVec 60) (len : Nat) : Access :=
  { id := 0, agent := ag, purpose := pu, kind := k, part := part, mc := false, fetch := false, va := none, pa := pa,
    len := len, data := [], be := [], poison := [], bad := [], tide := none, sem := 0, scope := 0, op := none, stage := .held,
    leaf := none, cw := false, near := none, tried := [], got := [] }

/-- A write before it is started, every byte enabled, with a poison mark per line. -/
def mkWrite (ag : Agent) (pu : Purpose) (part : Option Nat) (pa : BitVec 60) (data : Bytes) (poison : List Bool := []) :
    Access :=
  { mkAccess ag pu .write part pa data.length with
    data := data, be := List.replicate data.length true, poison := poison }

/-- An untranslated access of the block itself to a local address. -/
def State.localPa (s : State) (a : Nat) : BitVec 60 := BitVec.ofNat 60 (s.ownId * 2 ^ 48 + a % 2 ^ 48)

/-- Start an access: it takes the next name. -/
def State.launch (s : State) (a : Access) : State :=
  { s with accesses := s.accesses ++ [{ a with id := s.nextId }], nextId := s.nextId + 1 }

/-- The access of a name. -/
def State.acc (s : State) (id : Nat) : Option Access := s.accesses.find? (fun a => a.id == id)

/-- Change one access. -/
def State.modAcc (s : State) (id : Nat) (f : Access → Access) : State :=
  { s with accesses := s.accesses.map (fun a => if a.id = id then f a else a) }

/-- Forget one access without telling its owner. -/
def State.dropAcc (s : State) (id : Nat) : State :=
  { s with accesses := s.accesses.filter (fun a => a.id != id) }

/-- End one access: its owner is told the result, and hold space reserved for its data is given back (11 R273). -/
def State.finish (s : State) (id : Nat) (r : AccResult) : State :=
  match s.acc id with
  | some a =>
    let s := match a.held with
      | some q => s.modHoldUsed q (· - 256)
      | none => s
    { s.dropAcc id with ended := s.ended ++ [(a, r)] }
  | none => s

/-- End one access with a status and no data. -/
def State.fail (s : State) (id : Nat) (st : Status) : State := s.finish id { status := st, data := [], poison := [] }

/-- End one access whose answer has not come. A write or atomic that a taken invalidation had in flight has not reached its
completion point (08 R197). -/
def State.lose (s : State) (id : Nat) (st : Status) (w : AckFrom) : State :=
  let open_ := s.inv.held.any (fun c => c.taken && c.inFlight.contains id) && s.accesses.any (fun a => a.id == id && a.kind != .read && a.issued)
  let s := if open_ then { s with inv := { s.inv with unacked := s.inv.unacked ++ [(id, w)] } } else s
  s.fail id st

/-- An answer has come after all. -/
def State.acked (s : State) (w : AckFrom) : State :=
  { s with inv := { s.inv with unacked := s.inv.unacked.filter (fun e => e.2 != w) } }

/-- The local part of a physical address. -/
def localOf (pa : BitVec 60) : Nat := pa.toNat % 2 ^ 48

/-- The instance of a physical address. -/
def instOf (pa : BitVec 60) : Nat := pa.toNat >>> 48

/-- The number of 64-byte lines that `len` bytes from `a` touch. -/
def lineCount (a len : Nat) : Nat := if len = 0 then 0 else (a + len - 1) / 64 + 1 - a / 64

/-- The access's translation is done. -/
def Access.placed (a : Access) : Bool := a.stage != .translating && a.stage != .faulted

/-- Two accesses of one agent may touch one line: by physical address once translated, by page offset before that. -/
def sameLine (e a : Access) : Bool :=
  if e.placed && a.placed then
    overlaps (e.pa.toNat / 64) (lineCount e.pa.toNat e.len) (a.pa.toNat / 64) (lineCount a.pa.toNat a.len)
  else
    let off (x : Access) : Nat := (match x.va with
      | some v => v.toNat
      | none => x.pa.toNat) % 2 ^ 21
    overlaps (off e / 64) (lineCount (off e) e.len) (off a / 64) (lineCount (off a) a.len)

/-- An earlier access of the same agent to the same line is still in flight (13 R315). -/
def State.lineBusy (s : State) (a : Access) : Bool :=
  (s.accesses.takeWhile (fun e => e.id != a.id)).any (fun e => e.agent == a.agent
    && (a.agent != .block || a.kind != .read || e.kind != .read) && sameLine e a)

/-- The write is governed by tear mode BURST at this instance (13 R328). -/
def State.burstWrite (s : State) (a : Access) : Bool :=
  a.kind != .read && (match a.part with
    | some p => s.burstTear p
    | none => false)

/-- The access is out on a memory port. -/
def Access.atMem (a : Access) : Bool :=
  match a.stage with
  | .memPort _ _ => true
  | _ => false

/-- A BURST write over the access's 256-byte window awaits its acknowledgement, or the access is one and another access of
the window is out (13 R329). -/
def State.windowBusy (s : State) (a : Access) : Bool :=
  s.accesses.any (fun e => e.id != a.id && e.atMem && e.pa.toNat / 256 == a.pa.toNat / 256
    && (s.burstWrite e || s.burstWrite a))

/-! ### Thermal tokens (16 R403, R404) -/

/-- The stack a local address belongs to. -/
def State.stackOf (s : State) (a : Nat) : Nat :=
  let b0 := max 9 s.thermal.bit0.toNat
  let b1 := max 9 s.thermal.bit1.toNat
  match s.thermal.mode.toNat with
  | 1 => b2n (bit a b0)
  | 2 => 2 * b2n (bit a b1) + b2n (bit a b0)
  | _ => 0

/-- Tokens of one memory-port request, in 1024ths. -/
def tokenCost (a : Access) : Nat := (lineCount (localOf a.pa) a.len + 3) / 4 * 1024

/-- The request must wait at issue for tokens. -/
def State.tokenWait (s : State) (a : Access) : Bool :=
  let t := s.stackOf (localOf a.pa)
  !s.theChart.thermal.useThrottleReq && s.theChart.thermal.connected.getLsbD t && (s.stackState t).throttled
    && decide ((s.stackState t).tokens < tokenCost a)

/-- Take the tokens of a request to a throttled stack. -/
def State.takeTokens (s : State) (a : Access) : State :=
  let t := s.stackOf (localOf a.pa)
  if !s.theChart.thermal.useThrottleReq && s.theChart.thermal.connected.getLsbD t && (s.stackState t).throttled then
    s.modStackState t (fun x => { x with tokens := x.tokens - tokenCost a })
  else s

/-! ### Memory ports -/

/-- The memory port of a local address (07 R175). -/
def State.memPortOf (s : State) (a : Nat) : Option Nat :=
  let l := s.memPorts
  l[(a / 512) % l.length]?

/-- The first free tag from `t` on, within `n` tries. -/
def freeTag (p : MemPort) : Nat → BitVec 10 → Option (BitVec 10)
  | 0, _ => none
  | n + 1, t =>
    if p.out.any (fun e => e.tag == t) || p.dead.any (fun e => e.1 == t) then freeTag p n (t + 1) else some t

/-- The bytes of a write laid into whole lines, with their enables. -/
def wholeLines (a : Access) : Bytes × List Bool :=
  let off := localOf a.pa % 64
  let n := 64 * lineCount (localOf a.pa) a.len
  (padTo (zeros off ++ a.data) n,
    (List.replicate off false ++ a.be ++ List.replicate n false).take n)

/-- Issue an access on its memory port: one request, never across an aligned 512-byte boundary (02 R42). The access waits
where no tag is free. (DEDUCED, log 8) -/
def State.issueMem (s : State) (a : Access) : State :=
  match s.memPortOf (localOf a.pa) with
  | none => s.fail a.id .busError
  | some m =>
    match freeTag (s.mem m) 1024 (s.mem m).nextTag with
    | none => s
    | some tag =>
      let addr := BitVec.ofNat 48 (roundDown (localOf a.pa) 64)
      let lines := lineCount (localOf a.pa) a.len
      let isWrite := a.kind != .read
      let bad := if isWrite then (a.poison ++ List.replicate lines false).take lines else []
      let body := if isWrite then wholeLines a else ([], [])
      let s := s.takeTokens a
      let s := s.modMem m (fun p => { p with nextTag := tag + 1, out := p.out ++
        [{ tag := tag, access := a.id, addr := addr, lines := lines, write := isWrite }] })
      let s := { s with hold := { s.hold with poisonOut := sat32 s.hold.poisonOut (bad.countP (· == true)) } }
      let s := s.modAcc a.id (fun x => { x with stage := .memPort m tag })
      s.drive (.memReq m isWrite addr lines tag (BitVec.ofNat 4 (a.part.getD 0)) body.1 body.2 bad)

/-- The slices at the two ends of a slice link (01 R15). -/
def linkEnds (l : Link) : List Slice :=
  match l with
  | .slA => [.sh, .hd]
  | .slB => [.en, .hd]
  | .slC => [.en, .sh]

/-- The crossing bit of a slice link at one of its ends (03, CK_LOST); 9 for a slice the link does not join. -/
def linkBit (l : Link) (sl : Slice) : Nat :=
  match l, sl with
  | .slA, .sh => 6
  | .slA, .hd => 0
  | .slB, .en => 0
  | .slB, .hd => 1
  | .slC, .en => 1
  | .slC, .sh => 7
  | _, _ => 9

/-- The end of a slice link has lost its clock (02 R58). -/
def State.endLost (s : State) (l : Link) (sl : Slice) : Bool := (s.clock sl).dead.getLsbD (linkBit l sl)

/-- The status that an operation ends with which needs a slice link out of service (02 R46, R58; 03 R66).
(DEDUCED, log 76; DESIGN CHOICE, log 103) -/
def State.linkFault (s : State) (l : Link) : Option Status :=
  if (linkEnds l).any (s.endLost l) then some .clockLost
  else if (s.link l).down then some .busError
  else none

/-! ### Host windows (07 R175, R177; 02 CXL.cache) -/

/-- The bytes of the access that lie in its `i`-th line: the first and the count. -/
def linePart (a : Access) (i : Nat) : Nat × Nat :=
  let off := localOf a.pa % 64
  let lo := if i = 0 then 0 else 64 * i - off
  (lo, min a.len (64 * (i + 1) - off) - lo)

/-- The byte enables of the `i`-th line of a write to a host window: a poisoned byte is not written, nor a line that comes poisoned as a
whole (09 R227; 11 R282). -/
def lineEnables (a : Access) (i : Nat) : List Bool :=
  let p := linePart a i
  let be := (a.be.drop p.1).take p.2
  if a.bad.isEmpty then be.map (fun e => e && !a.poison.getD i false) else List.zipWith (fun e b => e && !b) be ((a.bad.drop p.1).take p.2)

/-- Send the CXL.cache request of line `i` of an access. -/
def State.issueCacheLine (n : Nat) (hpa : Nat) (a : Access) (i : Nat) (s : State) : State :=
  let p := linePart a i
  let be := lineEnables a i
  let op := if a.kind = .read then CacheReq.rdCurr
    else if p.2 = 64 ∧ be.all (· == true) then .itoMWr else .woWrInv
  State.drive { s with
    cacheTags := s.cacheTags ++ [{ port := n, tag := s.nextCache, access := a.id, line := i }],
    nextCache := s.nextCache + 1 }
    (.cacheReq n s.nextCache op (BitVec.ofNat 64 (roundDown (hpa + p.1) 64)) (cut a.data p.1 p.2) be)

/-- The bytes a write enables where it goes: a host window takes no poisoned byte (09 R225, R227; 13 R317). -/
def Access.enabledBytes (a : Access) : Nat :=
  match a.stage with
  | .hostWin _ _ => ((List.range (lineCount (localOf a.pa) a.len)).map (fun i => (lineEnables a i).countP (· == true))).sum
  | _ => a.be.countP (· == true)

/-- Issue an access to a host window, across SL-A. A port that is not ready ends it BUS_ERROR, one that lost its clock CLOCK_LOST. -/
def State.issueHost (s : State) (a : Access) (w : HostWin) : State :=
  let n := if w.port then 1 else 0
  match s.linkFault .slA with
  | some st => s.fail a.id st
  | none =>
  if (s.clock .sh).dead.getLsbD n then s.fail a.id .clockLost
  else if !(s.host n).readyOut then s.fail a.id .busError
  else if s.warmStart then s
  else
    let hpa := w.hpa.toNat + (localOf a.pa - (w.base.toNat <<< 30))
    let lines := (List.range (lineCount (localOf a.pa) a.len)).filter
      (fun i => a.kind == .read || (lineEnables a i).any (· == true))
    if lines.isEmpty then (s.modAcc a.id (fun x => { x with stage := .hostWin n s.nextCache })).finish a.id
      { status := .ok, data := [], poison := [] }
    else eachOf (State.issueCacheLine n hpa a) lines (s.modAcc a.id (fun x => { x with stage := .hostWin n s.nextCache }))

/-! ### The way of a physical address (07 R175) -/

/-- Checked against sealed ranges and watches: translated here, a peer's request without MC, or a combine slot's result
(07 R178; 12 R298; 15 R374). -/
def Access.checked (a : Access) : Bool :=
  a.va.isSome || (match a.purpose with
    | .peerServe _ _ _ => !a.mc
    | .resultWrite _ => true
    | _ => false)

/-- The home agent serves the access: its local address lies in a coherent window (14 R337) and in no host window, which comes
before it (07 R175), or it is an atomic, which is performed
indivisibly at the instance that owns the address (14 R348). The home agent's own accesses go to the memory ports. -/
def State.homed (s : State) (a : Access) : Bool :=
  (match a.purpose with
    | .home _ => false
    | .homeWb _ _ _ => false
    | _ => true) && ((s.windowAt (localOf a.pa)).isSome && (s.hostWinAt (localOf a.pa)).isNone || a.kind == .atomic)

/-- One transaction of an access for its `i`-th line. -/
def State.homeOpen (a : Access) (i : Nat) (s : State) : State :=
  { s with home := { s.home with nextTxn := s.home.nextTxn + 1, txns := s.home.txns ++
    [{ id := s.home.nextTxn, line := BitVec.ofNat 48 (roundDown (localOf a.pa) 64 + 64 * i), req := .access a.id,
       phase := .queued, snoops := [], quiet := false, victim := none, wbs := 0, old := 0, swapped := false }] } }

/-- The status that an access ends with because it cannot cross a slice link to or from the hold (01 R15; 02 R46, R58): a walker's read and
an engine's data cross SL-B, a host's and a peer's requests SL-A. None reaches the hold over a lost CORE-STORE boundary (03 R66).
(DESIGN CHOICE, log 103) -/
def State.wayFault (s : State) (a : Access) : Option Status :=
  if (s.clock .hd).dead.getLsbD 2 && a.agent != .block then some .clockLost
  else match a.agent, a.purpose with
  | .engine _ _, _ => s.linkFault .slB
  | _, .walkEntry _ => s.linkFault .slB
  | _, .hdm _ _ => s.linkFault .slA
  | _, .peerServe _ _ _ => s.linkFault .slA
  | _, _ => none

/-- A far atomic of a peer on a line of a window without far atomics is refused where it is ordered, with no effect (14 R350). -/
def State.farRefused (s : State) (a : Access) : Bool :=
  a.kind == .atomic && (match a.purpose with
    | .peerServe _ _ _ => true
    | _ => false) && (s.windowAt (roundDown (localOf a.pa) 64)).elim false (fun w => !w.farAtomics)

/-- Route an access that may be issued now. -/
def State.route (s : State) (a : Access) : State :=
  match s.wayFault a with
  | some st => s.fail a.id st
  | none =>
  if instOf a.pa ≠ s.ownId then
    match s.linkFault .slA with
    | some st => s.fail a.id st
    | none => s.modAcc a.id (fun x => { x with stage := .peerReady })
  else if a.checked && a.kind != .read && s.sealHit (localOf a.pa) a.len then s.fail a.id .sealed
  else
    let s := if a.checked && a.kind != .read && !s.farRefused a then s.clearIntact (localOf a.pa) a.len else s
    if s.homed a then
      eachOf (State.homeOpen a) (List.range (lineCount (localOf a.pa) a.len)) (s.modAcc a.id (fun x => { x with stage := .home }))
    else match s.hostWinAt (localOf a.pa) with
    | some w => s.issueHost a w
    | none => s.issueMem a

/-- A line of the access is held by an atomic in progress outside every window (14 R348). -/
def State.atomBusy (s : State) (a : Access) : Bool :=
  s.home.txns.any (fun t => (t.phase == .reading || t.phase == .writing) && a.purpose != .home t.id
    && (s.windowAt t.line.toNat).isNone && overlaps t.line.toNat 64 (localOf a.pa) a.len)

/-- An access that a host or a peer asked for. -/
def Access.fromOutside (a : Access) : Bool :=
  match a.purpose with
  | .hdm _ _ => true
  | .peerServe _ _ _ => true
  | .home _ => true
  | .homeWb _ _ _ => true
  | _ => false

/-- The access may be issued: no earlier access of its agent to its lines is in flight, its window is free, no warm reset holds
it back, nor a warm start what a host or a peer asked for (02 R35, R57), nor the hold a burst while a tear mode changes (05 R118), the home agent has a transaction free for each of its lines
(14 R338), and its stack has tokens. -/
def State.mayIssue (s : State) (a : Access) : Bool :=
  a.stage == .held && !s.lineBusy a && !s.windowBusy a && !s.warmReset && !(s.warmStart && a.fromOutside)
    && !(a.kind != .read && s.tearWait a.agent a.part) && !(a.isBurst && s.holdPaused a.part)
    && !(instOf a.pa == s.ownId && s.homed a && decide (2048 < s.home.txns.length + lineCount (localOf a.pa) a.len))
    && !(instOf a.pa == s.ownId && !s.homed a
      && (s.atomBusy a || ((s.hostWinAt (localOf a.pa)).isNone && s.tokenWait a)))

/-- Issue one held access if it may be issued. -/
def State.tryIssue (id : Nat) (s : State) : State :=
  match s.acc id with
  | some a => if s.mayIssue a then s.route a else s
  | none => s

/-- Issue every held access that may be issued, in order. -/
def State.issueHeld (s : State) : State :=
  eachOf State.tryIssue ((s.accesses.filter (fun a => a.stage == .held)).map (·.id)) s

/-! ### Answers of a memory port -/

/-- An OPERATION record, unit memory port, for a memory-port error (16 R391; 02 R44). The failure of an error record's own
write makes none (16 R422). -/
def State.memRecord (s : State) (m : Nat) (st : Status) (a : Access) : State :=
  if a.purpose = .ras then s
  else s.recordFor a.agent { s.errAt (s.errRec 3 st .hd 2 m) (BitVec.ofNat 60 (roundDown a.pa.toNat 64)) with
    part := BitVec.ofNat 8 (a.part.getD 0xFF) }

/-- The bytes of the access within the lines a port returned. -/
def ownBytes (a : Access) (data : Bytes) : Bytes := cut data (localOf a.pa % 64) a.len

/-- Note each poisoned line of a read's answer. -/
def State.notePoison (origin unit_ index : Nat) (a : Access) (inst : Nat) (persistent : Bool) (i : Nat × Bool) (s : State) :
    State :=
  if i.2 then
    s.poisonLine origin unit_ index (BitVec.ofNat 60 (roundDown a.pa.toNat 64 + 64 * i.1)) a.part inst a.agent persistent
  else s

/-- Note the poisoned lines of a list of marks. -/
def State.notePoisons (s : State) (origin unit_ index : Nat) (a : Access) (inst : Nat) (persistent : Bool)
    (marks : List Bool) : State :=
  eachOf (State.notePoison origin unit_ index a inst persistent) ((List.range marks.length).zip marks) s

end Sys2Proof.Machine
end

