-- ==== Sys2Proof/Machine/Faults.lean ====
section
/-! DEFINITION. Translation faults: landing records, the stall table and the life of a stalled stream (08). -/

namespace Sys2Proof.Machine

/-- The stream of an agent (07, streams); what belongs to no stream counts under number 316. -/
def streamOf : Agent → Nat
  | .channel c => 256 + c
  | .engine _ st => st
  | _ => 316

/-- The code of a fault cause. -/
def causeCode : Cause → Nat
  | .notPresent => 1
  | .permission => 2
  | .malformed => 3
  | .checkFail => 4
  | .seqRange => 5
  | .remoteUnreachable => 6
  | .sealed => 7

/-- The status a faulted access ends with if it is failed (08, fault causes). -/
def resolvesTo : Cause → Status
  | .notPresent => .translationFault
  | .permission => .permission
  | .malformed => .malformed
  | .checkFail => .checkFail
  | .seqRange => .translationFault
  | .remoteUnreachable => .remoteUnreachable
  | .sealed => .sealed

/-- The accesses that ask a walk, of one stream. -/
def Walk.misses (w : Walk) (st : Nat) : List Nat :=
  w.askers.filterMap (fun x => match x.1 with
    | .access id => if x.2 = st then some id else none
    | .ats _ _ => none)

/-- Misses of a stream outstanding: accesses that ask walks and belong to it (07 R173). -/
def State.missCount (s : State) (st : Nat) : Nat := (s.trans.walks.map (fun w => (w.misses st).length)).sum

/-- A stream has a miss outstanding whose access has not ended. -/
def State.missLive (s : State) (st : Nat) : Bool := s.trans.walks.any (fun w => (w.misses st).any (fun id => (s.acc id).isSome))

/-- The access byte of a landing record (08 R187). (DESIGN CHOICE, log 117) -/
def accessByte (a : Access) : Nat :=
  match a.purpose with
  | .xlate _ _ => 0
  | _ => (match a.kind with
    | .read => 1
    | .write => 2
    | .atomic => 4) + 8 * b2n a.fetch

/-- The VA of the descriptor a channel runs, or fetches where none runs. (DESIGN CHOICE, log 117) -/
def State.descOf (s : State) (ag : Agent) : BitVec 64 :=
  match ag with
  | .channel c =>
    match (s.chan c).run with
    | some r => r.addr
    | none => match (s.chan c).fetch with
      | some f => f.addr
      | none => 0
  | _ => 0

/-- The engine port and tag of a landing record: those of the request that the access serves, an ALLOC's or FREE's among
them; 0xFF and 0 for a channel (08 R187). -/
def State.askerOf (s : State) (a : Access) : Nat × Nat :=
  match a.purpose with
  | .engine port tag _ => (port, tag)
  | .xlate port tag => (port, tag)
  | .count j =>
    match s.alloc.jobs.find? (fun (x : AllocJob) => x.id == j) with
    | some k => (match k.asker with
      | .engine e tag => (e, tag.toNat)
      | _ => (0xFF, 0))
    | none => (0xFF, 0)
  | .freeRecord (.engine e tag) _ => (e, tag.toNat)
  | _ => (0xFF, 0)

/-- The record of a fault of an access, before it takes its sequence (08 R187). -/
def State.landRec (s : State) (a : Access) (p : Nat) (cause : Cause) (level : Nat) (stalled isMap : Bool)
    (va aux : BitVec 64) : LandRec :=
  let pt := s.askerOf a
  { part := p, seq := (s.landing p).nextSeq, cause := cause, access := BitVec.ofNat 8 (accessByte a),
    resolves := resolvesTo cause, stream := streamOf a.agent, pending := s.missCount (streamOf a.agent), level := level,
    stalled := stalled, isMap := isMap,
    port := BitVec.ofNat 8 pt.1, tag := BitVec.ofNat 8 pt.2, va := va, aux := aux,
    cycles := (s.clock .en).cycles, desc := s.descOf a.agent, acc := some a.id }

/-- Count one fault that leaves no record (08 R188). -/
def State.landLose (s : State) (p : Nat) : State := s.modLanding p (fun l => { l with lost := sat32 l.lost })

/-- Give a record its sequence and let it wait for its slot. -/
def State.landQueue (s : State) (r : LandRec) : State :=
  s.modLanding r.part (fun l => { l with waiting := l.waiting ++ [r], nextSeq := l.nextSeq + 1 })

/-- The fetch of an unstarted descriptor under ABORT: its fault leaves no record and stalls no stream (06 R142).
(DEDUCED, log 91) -/
def State.quietFetch (s : State) (a : Access) : Bool :=
  match a.purpose with
  | .descFetch c => (s.chan c).fetch.elim false (·.aborting)
  | _ => false

/-- A stalling fault of an access (08 R188, states of a stream): recorded, the access waits, the stream is STALLED; with no
valid landing, or while the stream is FAILING, the access ends at once with the status it resolves to.
(DEDUCED, log 91; DESIGN CHOICE, log 118) -/
def State.faultAcc (s : State) (id : Nat) (cause : Cause) (level : Nat) (va : BitVec 64) (aux : BitVec 64 := 0) : State :=
  match s.acc id with
  | none => s
  | some a =>
    let p := a.part.getD 0
    let st := streamOf a.agent
    let isMap := match a.purpose with
      | .seqHeader _ _ => true
      | .seqEntry _ _ _ => true
      | _ => false
    let stalls := match a.agent with
      | .channel _ => !s.quietFetch a
      | .engine _ _ => true
      | _ => false
    if !stalls then s.fail id (resolvesTo cause)
    else if !(s.landing p).valid then (s.landLose p).fail id (resolvesTo cause)
    else if (s.stall st).state = .failing then
      (s.landQueue (s.landRec a p cause level false isMap va aux)).fail id (resolvesTo cause)
    else
      let r := s.landRec a p cause level true isMap va aux
      let s := s.landQueue r
      let s := s.modAcc id (fun x => { x with stage := .faulted })
      s.modStall st (fun x =>
        { x with state := .stalled, latest := r.seq, timer := true,
                 misses := x.misses.filter (fun m => m.acc != some id) ++ [r] })

/-- The record of a write that met a sealed range, written when the answer has returned (07 R178, 08 R188). -/
def State.sealedFault (s : State) (a : Access) : State :=
  match a.va, a.part with
  | some va, some p =>
    if !(s.landing p).valid then s.landLose p
    else if 32 ≤ (s.landing p).waiting.countP (fun r => r.cause == .sealed) then s.landLose p
    else s.landQueue { s.landRec a p .sealed 0 false false va (BitVec.ofNat 64 a.pa.toNat) with acc := none }
  | _, _ => s

/-- A stalled stream whose faulted misses are all gone runs again (08, states of a stream). (DEDUCED, log 34) -/
def State.stallSettle (s : State) (st : Nat) : State :=
  if (s.stall st).misses.isEmpty then s.setStall st {} else s

/-- An access of a stream has translated: a retried miss leaves the stall entry. -/
def State.stallDone (s : State) (st id : Nat) : State :=
  if (s.stall st).misses.any (fun m => m.acc == some id) then
    (s.modStall st (fun x => { x with misses := x.misses.filter (fun m => m.acc != some id) })).stallSettle st
  else s

/-- The layout of a landing record (08 R187). -/
def landBytes (r : LandRec) : Bytes :=
  sealRecord (leBytes 4 r.seq.toNat ++ [BitVec.ofNat 8 r.part, BitVec.ofNat 8 (causeCode r.cause), r.access,
    BitVec.ofNat 8 (statusCode r.resolves)] ++ leBytes 2 r.stream ++ [BitVec.ofNat 8 r.pending, BitVec.ofNat 8 r.level,
    BitVec.ofNat 8 (b2n r.stalled + 2 * b2n r.isMap), r.port, r.tag, 0] ++ leBytes 8 r.va.toNat ++ leBytes 8 r.aux.toNat
    ++ leBytes 8 r.cycles.toNat ++ leBytes 8 r.desc.toNat)

/-- The ring of a partition's landing has room for another record. -/
def Landing.room (l : Landing) : Bool := decide ((l.prod - l.cons).toNat < 2 ^ l.sizeLog2.toNat)

/-- Write the oldest waiting record of a partition to its slot once there is room (08 R187). -/
def State.writeLanding (s : State) (p : Nat) : State :=
  let l := s.landing p
  match l.waiting, l.writing with
  | r :: rest, none =>
    if l.valid && l.room then
      let r := { r with pending := s.missCount r.stream }
      let s := s.setLanding p { l with waiting := rest, writing := some r }
      s.launch (mkWrite .block (.landing p) none
        (s.localPa (l.base.toNat + 64 * (l.prod.toNat % 2 ^ l.sizeLog2.toNat))) (landBytes r))
    else s
  | _, _ => s

/-- A landing record's write was acknowledged, or failed (08 R187, 16 R422): the producer advances and the vector is raised
where producer and consumer were equal and SL-C carries it (01 R15); a lost record of a stalled stream ends its access as if failed.
(DESIGN CHOICE, log 118) -/
def State.landingWritten (s : State) (p : Nat) (st : Status) : State :=
  let l := s.landing p
  match l.writing with
  | none => s
  | some r =>
    if st = .ok then
      let s := s.setLanding p { l with writing := none, prod := l.prod + 1 }
      if l.prod = l.cons ∧ s.linkFault .slC = none then
        match s.partEntry p with
        | some e => s.raiseVector e.landingVector
        | none => s
      else s
    else
      let s := s.setLanding p { l with writing := none, lost := sat32 l.lost }
      match r.acc with
      | some id =>
        if r.stalled then
          ((s.fail id r.resolves).modStall r.stream (fun x =>
            { x with misses := x.misses.filter (fun m => m.acc != some id) })).stallSettle r.stream
        else s
      | none => s

/-- A FAILING stream runs again once none of its misses is outstanding, a RETRYING one once every faulted miss has translated or
its access has gone (08, states of a stream; R193). (DEDUCED, log 34) -/
def State.stallGo (st : Nat) (s : State) : State :=
  match (s.stall st).state with
  | .failing => if s.missLive st then s else s.setStall st {}
  | .retrying =>
    (s.modStall st (fun x =>
      { x with misses := x.misses.filter (fun m => m.acc.elim false (fun id => (s.acc id).isSome)) })).stallSettle st
  | _ => s

/-- Every stalled stream goes on as far as it can. -/
def State.stallPump (s : State) : State := eachOf State.stallGo (s.stalls.map (·.1)) s

/-- End every faulted access of a stream with the status it resolves to; the stream is FAILING while a miss of it is still
outstanding (08 R191). (DEDUCED, log 34) -/
def State.failStream (s : State) (st : Nat) : State :=
  let ms := (s.stall st).misses
  let s := s.modStall st (fun x => { x with state := .failing, misses := [], timer := false })
  (eachOf (fun (m : LandRec) t => match m.acc with
    | some id => t.fail id m.resolves
    | none => t) ms s).stallGo st

/-- The resume a write of EN_RESUME names is accepted (08 R189). -/
def State.resumeOk (s : State) (v : BitVec 32) : Bool :=
  let st := bits v.toNat 8 0
  decide (st < 316) && (s.stall st).state == .stalled
    && (s.stall st).misses.all (fun m => (s.landing m.part).valid) && (s.stall st).latest.toNat % 2 ^ 16 == bits v.toNat 31 16

/-- Count a resume that was ignored. -/
def State.resumeStale (s : State) : State := { s with stale := sat32 s.stale }

end Sys2Proof.Machine
end

