-- ==== Sys2Proof/Machine/Translate.lean ====
section
/-! DEFINITION. Translation: leaves and rights, the caches, misses and walkers, the walk's checks (07). -/

namespace Sys2Proof.Machine

/-- Bytes a leaf of a level maps. -/
def leafSize (level : Nat) : Nat := 2 ^ (21 + 9 * (level - 1))

/-- The page-size code of a level: 0 2 MiB, 1 1 GiB, 2 512 GiB. -/
def sizeCode (level : Nat) : Nat := level - 1

/-- The leaf maps this VA of this partition. -/
def leafHits (p va : Nat) (l : Leaf) : Bool := l.part == p && inRange va l.vbase.toNat (leafSize l.level)

/-- A leaf permits an access (07 R164); TRANSLATE needs no right, and the update of an object's count those of the metadata region
(06 R145). -/
def permitted (l : Leaf) (a : Access) : Bool :=
  match a.purpose with
  | .xlate _ _ => true
  | .count _ => l.rd && l.wr
  | _ => match a.kind with
    | .read => l.rd
    | .write => l.wr
    | .atomic => l.at_

/-- The level-1 cache an agent's accesses use: one per engine port, one per ferry cluster (07, translation caches). -/
def cacheOf : Agent → Nat
  | .engine port _ => port
  | .channel c => 8 + c / 16
  | _ => 12

/-- The attributes a TRANSLATE returns (02, en_rsp_attr). -/
def leafAttr (l : Leaf) : BitVec 8 :=
  BitVec.ofNat 8 (sizeCode l.level + 4 * b2n l.rd + 8 * b2n l.wr + 16 * b2n l.at_ + 32 * b2n l.cw)

/-- A part of an engine request that crosses an aligned 256-byte window goes on, once translated, as two, the second right behind the
first. (DEDUCED, log 68) -/
def State.splitWindow (s : State) (id : Nat) : State :=
  match s.acc id with
  | none => s
  | some a =>
    match a.purpose with
    | .engine port tag part =>
      let n := 256 - a.pa.toNat % 256
      if a.len ≤ n then s
      else
        let m := lineCount a.pa.toNat n
        let hd := { a with len := n, data := a.data.take n, be := a.be.take n, poison := a.poison.take m }
        let tl := { a with
          id := s.nextId, purpose := .engine port tag (part + n), va := a.va.map (· + BitVec.ofNat 64 n),
          pa := a.pa + BitVec.ofNat 60 n, len := a.len - n, data := a.data.drop n, be := a.be.drop n, poison := a.poison.drop m }
        { s with
          nextId := s.nextId + 1,
          accesses := s.accesses.flatMap (fun x => if x.id == id then [hd, tl] else [x]),
          engReqs := s.engReqs.map (fun r => if r.port == port && r.rq.tag.toNat == tag then
            { r with parts := r.parts.flatMap (fun x => if x.1 == part then [x, (part + n, none)] else [x]) } else r) }
    | _ => s

/-- Use a leaf for an access: the permission check, repeated on every use (07 R166), then the physical address. `level` is
the level at which a walk stopped, 0 for a cached leaf. -/
def State.useLeaf (s : State) (id : Nat) (l : Leaf) (level : Nat) : State :=
  match s.acc id with
  | none => s
  | some a =>
    match a.va with
    | none => s
    | some va =>
      if permitted l a then
        let pa := BitVec.ofNat 60 (l.pbase.toNat + (va.toNat - l.vbase.toNat))
        let s := s.stallDone (streamOf a.agent) id
        match a.purpose with
        | .xlate _ _ => s.finish id { status := .ok, data := leBytes 8 pa.toNat ++ [leafAttr l], poison := [] }
        | .resultProbe _ _ =>
          s.finish id { status := .ok, data := leBytes 8 pa.toNat ++ leBytes 8 l.vbase.toNat ++ [leafAttr l], poison := [] }
        | _ => (s.modAcc id (fun x => { x with pa := pa, cw := l.cw, leaf := some l, stage := .held })).splitWindow id
      else s.faultAcc id .permission level va

/-- Make room among the entries of one set: the oldest of them goes where all its ways are taken. (DESIGN CHOICE, log 31) -/
def makeRoom {α : Type} (set : α → Bool) (ways : Nat) (c : List α) : List α :=
  if ways ≤ c.countP set then c.eraseP set else c

/-- Put an entry into a cache of sets of `ways` entries. (DESIGN CHOICE, log 31) -/
def cacheFill {α : Type} [BEq α] (set : α → Bool) (ways : Nat) (c : List α) (x : α) : List α :=
  if c.contains x then c else makeRoom set ways c ++ [x]

/-- Leaves that a level-1 cache holds: 64 for an engine port, 128 for a cluster (07, translation caches). -/
def l1Size (k : Nat) : Nat := if k < 8 then 64 else 128

/-- Put a leaf into the level-1 cache of an agent. (DESIGN CHOICE, log 31) -/
def State.fillL1 (s : State) (ag : Agent) (l : Leaf) : State :=
  s.modL1 (cacheOf ag) (fun c => cacheFill (fun _ => true) (l1Size (cacheOf ag)) c l)

/-- The set of a leaf in the L2 cache of its page size: 2,048 sets of 2 MiB leaves, 256 of 1 GiB leaves, one of 512 GiB leaves
(07, translation caches). -/
def l2Set (l : Leaf) : Nat := l.vbase.toNat / leafSize l.level % (if l.level = 1 then 2048 else if l.level = 2 then 256 else 1)

/-- Put a leaf into the L2 cache: 8 ways, or 64 for 512 GiB leaves. (DESIGN CHOICE, log 31) -/
def fillL2 (c : List Leaf) (l : Leaf) : List Leaf :=
  cacheFill (fun x => x.level == l.level && l2Set x == l2Set l) (if l.level = 3 then 64 else 8) c l

/-- The set of a walk-cache entry, of 256. -/
def ptrSet (w : WalkPtr) : Nat := w.vbase.toNat / leafSize w.level % 256

/-- Put an entry into the walk cache, 4 ways. (DESIGN CHOICE, log 31) -/
def fillPtr (c : List WalkPtr) (w : WalkPtr) : List WalkPtr := cacheFill (fun x => ptrSet x == ptrSet w) 4 c w

/-- The walk-cache entry that lets a walk start lowest. -/
def State.walkPtr (s : State) (p va : Nat) : Option WalkPtr :=
  let hits := s.trans.walkPtrs.filter (fun w => w.part == p && w.vbase.toNat == roundDown va (leafSize w.level))
  [2, 3, 4].findSome? (fun k => hits.find? (fun w => w.level == k))

/-- Start a new walk for an asker; it waits for a walker. -/
def State.newWalk (s : State) (p : Nat) (va : BitVec 64) (who : Asker) (st : Nat) : State :=
  { s with trans := { s.trans with nextWalk := s.trans.nextWalk + 1, walks := s.trans.walks ++
    [{ id := s.trans.nextWalk, part := p, va := va, stream := st, askers := [(who, st)], walker := none, level := 0,
       table := 0, marked := false, got := none }] } }

/-- A walk that a miss joins: same partition and VA[56:21], not marked, and begun with the name `since` or after it
(07 R169, R173; 08 R190). -/
def joins (p va since : Nat) (w : Walk) : Bool :=
  w.part == p && w.va.toNat / 2 ^ 21 == va / 2 ^ 21 && !w.marked && decide (since ≤ w.id)

/-- A miss: it joins a walk of its page begun since `since`, or starts one. -/
def State.missTo (s : State) (p : Nat) (va : BitVec 64) (who : Asker) (st since : Nat) : State :=
  if s.trans.walks.any (joins p va.toNat since) then
    { s with trans := { s.trans with walks := joinFirst p va.toNat since who st s.trans.walks } }
  else s.newWalk p va who st
where
  /-- Add the asker to the first walk it joins. -/
  joinFirst (p va since : Nat) (who : Asker) (st : Nat) : List Walk → List Walk
    | [] => []
    | w :: rest => if joins p va since w then { w with askers := w.askers ++ [(who, st)] } :: rest
      else w :: joinFirst p va since who st rest

/-- Count an L2 hit or miss. -/
def State.countL2 (s : State) (hit : Bool) : State :=
  if hit then { s with trans := { s.trans with l2Hit := sat32 s.trans.l2Hit } }
  else { s with trans := { s.trans with l2Miss := sat32 s.trans.l2Miss } }

/-- The access has a walk in progress or waiting. -/
def State.asked (s : State) (id : Nat) : Bool :=
  s.trans.walks.any (fun w => w.askers.any (fun x => x.1 == .access id))

/-- Look an access up in the caches and use the leaf, or miss (07 R166-R173). A miss of a cluster's cache crosses SL-B to the engine slice,
whose own ports' caches and walkers stand there (01 R14, R15). A retried miss walks again, and joins a
walk only where it is named in `since` or later, after the resume (08 R190). -/
def State.lookup (s : State) (a : Access) (p : Nat) (va : BitVec 64) (since : Option Nat) : State :=
  if 2 ^ 57 ≤ va.toNat then s.faultAcc a.id .malformed 0 va
  else if !(s.root p).valid then s.faultAcc a.id .notPresent 0 va
  else match since with
  | some n => s.missTo p va (.access a.id) (streamOf a.agent) n
  | none => match (s.l1 (cacheOf a.agent)).find? (leafHits p va.toNat) with
    | some l => s.useLeaf a.id l 0
    | none => match (match a.agent with
        | .engine _ _ => none
        | _ => s.linkFault .slB) with
    | some st => s.fail a.id st
    | none => match s.trans.l2.find? (leafHits p va.toNat) with
      | some l => ((s.countL2 true).fillL1 a.agent l).useLeaf a.id l 0
      | none => (s.countL2 false).missTo p va (.access a.id) (streamOf a.agent) 0

/-- Present an access to translation if its stream may present one: running, and below its miss limit (07 R173; 08). A link
that is out of service ends the access. -/
def State.present (id : Nat) (s : State) : State :=
  match s.acc id with
  | none => s
  | some a =>
    match a.stage, a.va, a.part with
    | .translating, some va, some p =>
      if s.asked id then s
      else match (match a.agent, a.purpose with
          | .engine _ _, .xlate _ _ => none
          | .engine _ _, _ => s.linkFault .slB
          | _, _ => none) with
        | some st => s.fail id st
        | none =>
          if (s.stall (streamOf a.agent)).state != .running || s.warmReset
            || decide (max 1 s.theChart.trans.missLimit ≤ s.missCount (streamOf a.agent)) then s
          else s.lookup a p va none
    | _, _, _ => s

/-- Present every access that waits for translation, in order. -/
def State.presentAll (s : State) : State :=
  eachOf State.present ((s.accesses.filter (fun a => a.stage == .translating)).map (·.id)) s

/-- Start a translated access. -/
def State.launchVa (s : State) (a : Access) (va : BitVec 64) : State :=
  (s.launch { a with va := some va, stage := .translating }).present s.nextId

/-! ### Walkers (07 R172) -/

/-- Walkers not fenced off. -/
def State.usableWalkers (s : State) : Nat := ((List.range 32).filter (fun k => !s.fenced.walkers.getLsbD k)).length

/-- Walkers reserved to a partition. -/
def State.share (s : State) (p : Nat) : Nat := (s.partEntry p).elim 0 (·.walkerShare)

/-- Walkers in the pool: those that no partition of the chart reserves; none while no chart reserves any. -/
def State.poolSize (s : State) : Nat :=
  if s.chart.chart.isSome then s.usableWalkers - (s.theChart.parts.map (·.walkerShare)).sum else 0

/-- Walks of a partition that hold one of its reserved walkers. -/
def State.ownHeld (s : State) (p : Nat) : Nat := s.trans.walks.countP (fun w => w.part == p && w.walker.isSome && !w.pool)

/-- Pool walkers a partition holds. -/
def State.poolHeld (s : State) (p : Nat) : Nat := s.trans.walks.countP (fun w => w.part == p && w.walker.isSome && w.pool)

/-- Pool walkers in use. -/
def State.poolBusy (s : State) : Nat := s.trans.walks.countP (fun w => w.walker.isSome && w.pool)

/-- The partitions with a waiting miss, in rotating order. -/
def State.waitingParts (s : State) : List Nat :=
  ((List.range 16).map (fun i => (s.trans.rotate + i) % 16)).filter
    (fun p => s.trans.walks.any (fun w => w.part == p && w.walker.isNone))

/-- The partition whose waiting miss gets the next walker, and whether from the pool: one with a reserved walker free; else,
from the pool, one that holds no pool walker; else the next in rotation. (DEDUCED, log 37) -/
def State.nextWalkPart (s : State) : Option (Nat × Bool) :=
  match s.waitingParts.find? (fun p => decide (s.ownHeld p < s.share p)) with
  | some p => some (p, false)
  | none =>
    if s.poolSize ≤ s.poolBusy then none
    else match s.waitingParts.find? (fun p => s.poolHeld p == 0) with
      | some p => some (p, true)
      | none => s.waitingParts.head?.map (fun p => (p, true))

/-- Change one walk. -/
def State.modWalk (s : State) (id : Nat) (f : Walk → Walk) : State :=
  { s with trans := { s.trans with walks := s.trans.walks.map (fun w => if w.id = id then f w else w) } }

/-- End one walk; its walker is free. -/
def State.dropWalk (s : State) (id : Nat) : State :=
  { s with trans := { s.trans with walks := s.trans.walks.filter (fun w => w.id != id) } }

/-- The index of a walk's entry in the table of its present level (07 R166). -/
def Walk.index (w : Walk) : Nat := (w.va.toNat >>> (21 + 9 * (w.level - 1))) % 512

/-- Read the entry of a walk's present level. -/
def State.readEntry (s : State) (w : Walk) : State :=
  let s := { s with trans := { s.trans with walkReads := sat32 s.trans.walkReads } }
  s.launch (mkAccess .block (.walkEntry w.id) .read (some w.part) (BitVec.ofNat 60 (w.table.toNat + 8 * w.index)) 8)

/-- Give a walker to the first waiting walk of a partition and read its first entry; a walker of the pool moves the rotation.
(DEDUCED, log 37) -/
def State.giveWalker (s : State) (p : Nat) (pool : Bool) (k : Nat) : State :=
  match s.trans.walks.find? (fun w => w.part == p && w.walker.isNone) with
  | none => s
  | some w =>
    let start : Nat × BitVec 60 := match s.walkPtr p w.va.toNat with
      | some q => (q.level - 1, q.table)
      | none => (4, (s.root p).pa)
    let w' := { w with walker := some k, level := start.1, table := start.2, pool := pool }
    let s := (s.modWalk w.id (fun _ => w')).readEntry w'
    if pool then { s with trans := { s.trans with rotate := (p + 1) % 16 } } else s

/-! ### The walk's checks (07 R166) -/

/-- What one entry gives a walk. -/
inductive WalkStep where
  | fault (c : Cause)
  | descend (table : BitVec 60)
  | leaf (l : Leaf)
  deriving DecidableEq, Repr, Inhabited

/-- A leaf agrees with the coherent windows (07 R165). -/
def State.windowConsistent (s : State) (p inst pa size : Nat) (cw : Bool) : Bool :=
  if cw then inst == s.ownId && s.theChart.windows.any (fun w => w.partition == p && inside pa size w.base w.size)
  else inst != s.ownId || !s.theChart.windows.any (fun w => overlaps pa size w.base w.size)

/-- The checks on one entry at one level, permission apart. -/
def State.walkCheck (s : State) (p va level e : Nat) : WalkStep :=
  if crc8 (leBytes 7 e) ≠ e >>> 56 then .fault .checkFail
  else if !bit e 0 then .fault .notPresent
  else if !bit e 1 then
    if level = 1 then .fault .malformed
    else if e &&& 0xFC ≠ 0 then .fault .malformed
    else
      let t := bits e 55 8 * 4096
      if t >>> 48 ≠ s.ownId then .fault .malformed else .descend (BitVec.ofNat 60 t)
  else if level = 4 then .fault .malformed
  else if e &&& 0x1C0 ≠ 0 then .fault .malformed
  else
    let pa := bits e 47 9 * 2 ^ 21
    let size := leafSize level
    if pa % size ≠ 0 then .fault .malformed
    else if bit e 4 && (!bit e 2 || !bit e 3) then .fault .malformed
    else if !s.windowConsistent p (pa >>> 48) (pa % 2 ^ 48) size (bit e 5) then .fault .malformed
    else if pa >>> 48 ≠ s.ownId ∧ s.routeMask (pa >>> 48) = 0 then .fault .remoteUnreachable
    else .leaf { part := p, level := level, vbase := BitVec.ofNat 64 (roundDown va size), pbase := BitVec.ofNat 60 pa,
                 rd := bit e 2, wr := bit e 3, at_ := bit e 4, cw := bit e 5 }

/-! ### ATS translation completions (07 R184) -/

/-- The host physical address at which one of the host's HDM decoders maps a local address. A decoder `d` is held in the
configuration words `hdm` of its port: base at 4d, size at 4d + 1 (in 256 MiB units), local base at 4d + 2, enable at 4d + 3.
(DESIGN CHOICE, log 115) -/
def State.hdmAddr (s : State) (n a : Nat) : Option Nat :=
  [0, 1, 2, 3].findSome? (fun d =>
    let w (i : Nat) : Nat := (tabGet 0 (s.host n).hdm (4 * d + i)).toNat
    if bit (w 3) 0 ∧ inRange a (w 2 <<< 28) (w 1 <<< 28) then some ((w 0 <<< 28) + (a - (w 2 <<< 28))) else none)

/-- Answer an ATS Translation Request from a leaf. (DESIGN CHOICE, log 115) -/
def State.atsAnswer (s : State) (n tag : Nat) (l : Leaf) : State :=
  if instOf l.pbase = s.ownId ∧ l.cw = false then
    match s.hdmAddr n (localOf l.pbase) with
    | some h => s.drive (.atsRsp n tag (BitVec.ofNat 64 h) (21 + 9 * (l.level - 1)) l.rd l.wr false)
    | none => s.drive (.atsRsp n tag 0 21 false false false)
  else s.drive (.atsRsp n tag 0 21 false false false)

/-! ### The end of a walk -/

/-- Tell every asker of a walk that it faulted. -/
def tellFault (c : Cause) (level : Nat) (x : Asker × Nat) (s : State) : State :=
  match x.1 with
  | .access id => match s.acc id with
    | some a => s.faultAcc id c level (a.va.getD 0)
    | none => s
  | .ats n tag => s.drive (.atsRsp n tag 0 21 false false false)

/-- Tell every asker of a walk that its entry read ended with an error: no fault (07 R166). (DESIGN CHOICE, log 115) -/
def tellError (st : Status) (x : Asker × Nat) (s : State) : State :=
  match x.1 with
  | .access id => match s.acc id with
    | some a => (s.stallDone (streamOf a.agent) id).fail id st
    | none => s
  | .ats n tag => s.drive (.atsRsp n tag 0 21 false false false)

/-- Tell an asker of a walk its leaf. -/
def tellLeaf (l : Leaf) (x : Asker × Nat) (s : State) : State :=
  match x.1 with
  | .access id => match s.acc id with
    | some a => (s.fillL1 a.agent l).useLeaf id l l.level
    | none => s
  | .ats n tag => s.atsAnswer n tag l

/-- An asker of a marked walk walks again (07 R169). -/
def walkAgain (w : Walk) (x : Asker × Nat) (s : State) : State :=
  match x.1 with
  | .access id => match s.acc id with
    | some a => s.missTo w.part (a.va.getD 0) x.1 x.2 w.id
    | none => s
  | .ats _ _ => s.missTo w.part w.va x.1 x.2 w.id

/-- A walk ended in a leaf: the caches are filled and every asker is told; a marked walk fills nothing. -/
def State.walkLeaf (s : State) (w : Walk) (l : Leaf) : State :=
  let s := s.dropWalk w.id
  if w.marked then eachOf (walkAgain w) w.askers s
  else eachOf (tellLeaf l) w.askers { s with trans := { s.trans with l2 := fillL2 s.trans.l2 l } }

/-- A walk ended in a fault. -/
def State.walkFault (s : State) (w : Walk) (c : Cause) : State :=
  let s := s.dropWalk w.id
  let s := if c = .checkFail then { s with trans := { s.trans with checkFail := sat32 s.trans.checkFail } } else s
  if w.marked then eachOf (walkAgain w) w.askers s
  else eachOf (tellFault c w.level) w.askers s

/-- A walk goes down one level; an unmarked walk fills the walk cache. -/
def State.walkDown (s : State) (w : Walk) (t : BitVec 60) : State :=
  let ptr : WalkPtr :=
    { part := w.part, level := w.level, vbase := BitVec.ofNat 64 (roundDown w.va.toNat (leafSize w.level)), table := t }
  let s := if w.marked then s
    else { s with trans := { s.trans with walkPtrs := fillPtr (s.trans.walkPtrs.filter (fun q =>
      !(q.part == ptr.part && q.level == ptr.level && q.vbase == ptr.vbase))) ptr } }
  let w' := { w with level := w.level - 1, table := t, got := none }
  (s.modWalk w.id (fun _ => w')).readEntry w'

/-- The entry a walk read has returned (07 R166): checked, and the walk descends, ends in a leaf, faults, or ends with the
error of its read. (DESIGN CHOICE, log 115) -/
def State.walkReturn (s : State) (w : Walk) (r : AccResult) : State :=
  if r.status ≠ .ok then eachOf (tellError r.status) w.askers (s.dropWalk w.id)
  else if r.poison.any (· == true) then s.walkFault w .checkFail
  else match s.walkCheck w.part w.va.toNat w.level (leNat r.data) with
    | .fault c => s.walkFault w c
    | .descend t => s.walkDown w t
    | .leaf l => s.walkLeaf w l

/-- Forget every cached translation and every walk; an access that waited for a walk waits anew (05 step 14).
(DESIGN CHOICE, log 31) -/
def State.dropTranslations (s : State) : State :=
  { s with trans := { s.trans with l1 := [], l2 := [], walkPtrs := [], walks := [] } }

end Sys2Proof.Machine
end

