-- ==== Sys2Proof/Machine/Ferry.lean ====
section
/-! DEFINITION. A channel's running descriptor (09): its accesses, its early end, pacing, hold quota, elements through the
pipeline, and the bursts it reads and writes. -/

namespace Sys2Proof.Machine

/-- Change the running descriptor of a channel. -/
def State.modRun (s : State) (c : Nat) (f : Running → Running) : State :=
  s.modChan c (fun ch => { ch with run := ch.run.map f })

/-- An address of a management-class channel that no physical address can be (09 R209). -/
def badPhysical (c : Nat) (addr : BitVec 64) : Bool := mgmtChan c && addr.toNat >>> 60 != 0

/-- The list goes on at an address. -/
def State.setCursor (s : State) (c : Nat) (q : Option Nat) (a : BitVec 64) : State :=
  match q with
  | some q => s.modQueue q (fun x => { x with cursor := a })
  | none => s.modChan c (fun ch => { ch with mCursor := a })

/-- The descriptor of a channel has started: with its first access, or as a WAIT begins (09 R223). From then on the cursor holds the
VA of its list's next descriptor (06 R128). -/
def State.markStart (s : State) (c : Nat) : State :=
  match (s.chan c).run with
  | some r =>
    if r.unstarted then (s.modRun c (fun r => { r with unstarted := false })).setCursor c r.queue (BitVec.ofNat 64 (dNext r.words)) else s
  | none => s

/-- The access is part of a descriptor's work, not its fetch or one of the writes that end it. -/
def Purpose.isWork : Purpose → Bool
  | .descFetch _ => false
  | .statusWrite _ => false
  | .fenceWrite _ => false
  | _ => true

/-- Start an access of a channel to an address of its own space: translated, or physical for the management class
(07 R160); a physical address that cannot be ends it MALFORMED. -/
def State.chanAccess (s : State) (c : Nat) (a : Access) (addr : BitVec 64) : State :=
  let s := if a.purpose.isWork then s.markStart c else s
  if badPhysical c addr then (s.launch a).fail s.nextId .malformed
  else if mgmtChan c then s.launch { a with pa := addr.truncate 60, mc := true, part := none }
  else s.launchVa { a with part := s.chanPart c } addr

/-- Accesses of a channel still in flight. -/
def State.chanBusy (s : State) (c : Nat) : Bool := s.accesses.any (fun a => a.agent == .channel c)

/-- Write bursts of a channel in flight. -/
def State.chanWrites (s : State) (c : Nat) : Nat := s.accesses.countP (fun a => a.purpose == .writeBurst c)

/-- A started descriptor ends early: the first event gives its status; no further burst is issued, and those in flight run
to their ends (09 R226). -/
def State.endEarly (s : State) (c : Nat) (st : Status) : State :=
  s.modRun c (fun r => { r with
    early := some (r.early.getD st), quit := true, stopWrites := true, paused := false, outQ := [], carry := [], group := [],
    reads := r.reads.filter (fun b => b.result.isNone),
    phase := (match r.phase with
      | .drained => .drained
      | .statusWrite => .statusWrite
      | .fenceWrite => .fenceWrite
      | _ => .active) })

/-! ### Ends of engine requests (02 R39, R40) -/

/-- Write beats of an operation. -/
def beatsNeeded (op : EngineOp) (len : Nat) : Nat :=
  match op with
  | .translate => 0
  | .read => 0
  | .write => (len + 127) / 128
  | _ => 1

/-- The bytes of hold quota that a request takes: 256 for each aligned 256-byte window it touches. (DEDUCED, log 68) -/
def EngReq.holdBytes (r : EngReq) : Nat := 256 * ((r.rq.va.toNat % 256 + r.rq.len.toNat + 255) / 256)

/-- An engine request ends: its hold bytes are given back, write beats still to come for it will be discarded, and its response is
sent. -/
def State.engDone (s : State) (r : EngReq) (st : Status) (pa : BitVec 60) (attr : BitVec 8) : State :=
  let owed := beatsNeeded r.op r.rq.len.toNat - r.nBeats
  let s := s.holdGive (quotaOf (some r.part)) (if r.parts.isEmpty then 0 else r.holdBytes)
  State.drive { s with
    engReqs := s.engReqs.filter (fun x => !(x.port == r.port && x.rq.tag == r.rq.tag)),
    owedBeats := if owed = 0 then s.owedBeats else s.owedBeats ++ [(r.port, r.rq.tag, owed)] }
    (.engineRsp r.port r.rq.tag st pa attr)

/-- The outstanding request of a port and tag. -/
def State.engReq (s : State) (port : Nat) (tag : BitVec 8) : Option EngReq :=
  s.engReqs.find? (fun r => r.port == port && r.rq.tag == tag)

/-- End the request of a port and tag; one that has gone is not answered. -/
def State.engEnd (s : State) (port : Nat) (tag : BitVec 8) (st : Status) (pa : BitVec 60) (attr : BitVec 8) : State :=
  match s.engReq port tag with
  | some r => s.engDone r st pa attr
  | none => s

/-! ### Pacing (09 R228, R229) -/

/-- The counter a paced descriptor watches, if it watches one. -/
def State.paceCounter (s : State) (c : Nat) (d : Words) : Option Nat :=
  if bit (dPaceSrc d) 15 then
    let k := bits (dPaceSrc d) 14 0
    if mgmtChan c then some k
    else some (((s.chanPart c).bind s.partEntry).elim 0 (·.tideFirst) + k)
  else none

/-- The watched queue or counter lies in the descriptor's partition; not checked for the management class (09 R233). -/
def State.paceOwned (s : State) (c : Nat) (d : Words) : Bool :=
  mgmtChan c || (match s.paceCounter c d with
    | some n => s.tideOwner n == s.chanPart c
    | none => s.queueOwner (bits (dPaceSrc d) 11 0) == s.chanPart c)

/-- The level. -/
def State.paceLevel (s : State) (c : Nat) (d : Words) : Nat :=
  match s.paceCounter c d with
  | some n => paceTideLevel (s.tideVal n) (s.chan c).paceBase (s.chan c).paceShift.toNat
  | none =>
    let q := s.queue (bits (dPaceSrc d) 11 0)
    (q.prod - q.cons).toNat

/-- ABORT covers the queue, or the ring, that a descriptor came from (06 R142). -/
def State.aborting (s : State) (c : Nat) (q : Option Nat) : Bool :=
  match q with
  | some q => (s.queue q).state == .aborting
  | none => (s.chan c).state == .aborting

/-- Sample the level of a running paced descriptor before a burst: at PACE_LO or below it pauses, or ends where an ABORT covers it. -/
def State.paceBurst (c : Nat) (s : State) : State :=
  match (s.chan c).run with
  | some r =>
    if dFlag r.words 4 && r.phase == .active && !r.paused && !r.quit then
      let l := s.paceLevel c r.words
      let s := s.modChan c (fun ch => { ch with paceLevel := BitVec.ofNat 16 (min l 0xFFFF) })
      if dPaceLo r.words < l then s
      else if s.aborting c r.queue then s.endEarly c .aborted
      else s.modRun c (fun r => { r with paused := true })
    else s
  | none => s

/-- A paused or waiting descriptor samples its level: at PACE_HI it starts or resumes. -/
def State.paceSample (s : State) (c : Nat) : State :=
  match (s.chan c).run with
  | some r =>
    if r.phase == .paceWait || r.paused then
      let l := s.paceLevel c r.words
      let s := s.modChan c (fun ch => { ch with paceLevel := BitVec.ofNat 16 (min l 0xFFFF) })
      if dPaceHi r.words ≤ l then
        s.modRun c (fun r => { r with paused := false, phase := if r.phase == .paceWait then .checked else r.phase })
      else s
    else s
  | none => s

/-- The pace base advances with a read burst issued (09 R229). -/
def State.paceAdvance (s : State) (c : Nat) (d : Words) (n : Nat) : State :=
  if !dFlag d 4 then s
  else match s.paceCounter c d with
    | some k => s.modChan c (fun ch => { ch with paceBase := ch.paceBase + BitVec.ofNat 64 (if s.tidePkt k then 1 else n) })
    | none => s

/-! ### Sequence sides -/

/-- Read the header of a sequence map. -/
def State.readSeqHeader (s : State) (c : Nat) (dst : Bool) (va : BitVec 64) : State :=
  if badPhysical c va then s.endEarly c .malformed
  else s.chanAccess c { mkAccess (.channel c) (.seqHeader c dst) .read none 0 64 with fetch := true } va

/-- Change the map of one side. -/
def State.modSeq (s : State) (c : Nat) (dst : Bool) (f : SeqMap → SeqMap) : State :=
  s.modRun c (fun r => if dst then { r with seqD := r.seqD.map f } else { r with seqS := r.seqS.map f })

/-- Read the entry of a block of a sequence map. -/
def State.readSeqEntry (s : State) (c : Nat) (dst : Bool) (m : SeqMap) (b : Nat) : State :=
  (s.modSeq c dst (fun m => { m with reading := some b })).chanAccess c
    { mkAccess (.channel c) (.seqEntry c dst b) .read none 0 8 with fetch := true } (m.va + BitVec.ofNat 64 (0x40 + 8 * b))

/-- A sequence map gives a fault: its stream stalls at the map, or a management-class descriptor ends (07 R180, R181;
08 R188). `b` names the entry that a RETRY reads again; an offset beyond the map has none. (DESIGN CHOICE, log 118) -/
def State.seqFault (s : State) (c : Nat) (dst : Bool) (va : BitVec 64) (cause : Cause) (b : Nat) (l : Int) : State :=
  let s := s.modSeq c dst (fun m => { m with reading := some b })
  if mgmtChan c then (s.modRun c (fun r => { r with listEnds := true, noFence := true })).endEarly c (resolvesTo cause)
  else
    let id := s.nextId
    let s := s.launch { mkAccess (.channel c) (.seqEntry c dst b) .read (s.chanPart c) 0 8 with
      fetch := true, va := some (va + BitVec.ofNat 64 (if b < 2 ^ 24 then 0x40 + 8 * b else 0)) }
    s.faultAcc id cause 0 va (if cause = .seqRange then BitVec.ofInt 64 l else 0)

/-- The place of a byte on one side, as far as it is known: the VA and the room behind it. A needed map entry is read, a
place beyond the map faults. -/
def State.resolveSide (s : State) (c : Nat) (dst : Bool) (m : Option SeqMap) (l : Int) : Option (BitVec 64 × Nat) × State :=
  match m with
  | none => (some (BitVec.ofInt 64 l, 2 ^ 64), s)
  | some k =>
    if k.reading.isSome then (none, s)
    else match k.resolve l with
      | .va a room => (some (a, room), s)
      | .need b => (none, s.readSeqEntry c dst k b)
      | .fault cause range b => (none, s.seqFault c dst k.va cause (if range then 2 ^ 24 else b) l)

/-! ### Elements to the destination -/

/-- What a poisoned byte's place is written with: no data of the descriptor. -/
def poisonBytes (place : Int) (n : Nat) : MarkedBytes :=
  (List.range n).map (fun (i : Nat) => (Config.poisonByte (BitVec.ofInt 64 (place + (i : Int))), true))

/-- Queue destination bytes at a place. -/
def Running.putAt (r : Running) (b : Nat) (place : Int) (bs : MarkedBytes) : Running :=
  { r with outQ := r.outQ ++ ((List.range bs.length).zip bs).map (fun x =>
      { addr := BitVec.ofInt 64 (place + (x.1 : Int)), val := x.2.1, poison := x.2.2, burst := b }) }

/-- Queue bytes of the coded stream; beyond the capacity the descriptor ends with QUOTA (09 R213). -/
def Running.putCoded (r : Running) (b : Nat) (bs : MarkedBytes) : Running :=
  if bits (dOperand r.words) 63 32 * 256 < 0x20 + r.zrc.out + bs.length then
    { r with early := some (r.early.getD .quota), quit := true, stopWrites := true, outQ := [] }
  else { (r.putAt b (dstBase r + 0x20 + (r.zrc.out : Int)) bs) with zrc := { r.zrc with out := r.zrc.out + bs.length } }

/-- Deliver one destination item: to the coder, to the contribution, or to its place. -/
def Running.emit (r : Running) (b : Nat) (place : Int) (bs : MarkedBytes) : Running :=
  if r.stopWrites then r
  else if dFlag r.words 9 then
    let p := zrcPush r.zrc.run bs
    let r := { r with zrc := { r.zrc with run := p.2 } }
    if p.1.isEmpty then r else r.putCoded b p.1
  else if dOp r.words = 4 ∨ dOp r.words = 5 then { r with cmb := { r.cmb with out := r.cmb.out ++ bs } }
  else r.putAt b place bs

/-- The counts of the sluice after elements have left a pipeline: saturated, overflowed, elements (10 R267). -/
structure SluiceNote where
  sat   : Nat := 0
  ovf   : Nat := 0
  elems : Nat := 0
  deriving DecidableEq, Repr, Inhabited

/-- The running descriptor and what the sluice has counted. -/
abbrev Work := Running × SluiceNote

/-- A gathered group or row is whole: it leaves the last cell. A group or row that holds a poisoned element leaves as
poisoned bytes only. -/
def Work.flushGroup (w : Work) (ops : List (BitVec 32)) (b : Nat) : Work :=
  let r := w.1
  let bad := r.group.any (fun g => g.2.2)
  let done := { r with group := [] }
  if mxOut ops then
    let place := dstBase r + dstOff ops r.words (r.elemIx / 32 - 1)
    if bad then (done.emit b place (poisonBytes place (delem ops r.words)), w.2)
    else
      let e := encodeGroup ops (r.group.map (fun g => (g.1, g.2.1)))
      (done.emit b place (mark false e.1), { w.2 with sat := w.2.sat + e.2, elems := w.2.elems + 32 })
  else
    let n0 := dN0 r.words
    let row := r.elemIx / n0 - 1
    let cellNorm := (ops.getLast?.map (fun x => bit x.toNat 0)).getD false
    let sr := softmaxRow cellNorm (r.group.map (·.1))
    let outs : List MarkedBytes := (List.range n0).map (fun i =>
      if bad then poisonBytes (dstBase r + dstOff ops r.words (row * n0 + i)) 4
      else mark false (leBytes 4 (sr.out.getD i 0)))
    let put := ((List.range n0).zip outs).foldl
      (fun (t : Running) x => t.emit b (dstBase r + dstOff ops r.words (row * n0 + x.1)) x.2) done
    let tail := dstBase r + tailOff r.words row
    (put.emit b tail (if bad then poisonBytes tail 16 else mark false (softTail sr)),
      if bad then w.2 else { w.2 with elems := w.2.elems + n0 })

/-- One element, past the inner cells, to the end of the pipeline. `code` is none for a poisoned element. -/
def Work.emitElem (w : Work) (ops : List (BitVec 32)) (b : Nat) (code : Option Nat) : Work :=
  let r := { w.1 with elemIx := w.1.elemIx + 1 }
  if mxOut ops then
    let k := groupDraw ops (dFlag r.words 6 && code.isSome) { lfsr := r.lfsr.toNat }
    let r := { r with lfsr := BitVec.ofNat 32 k.2.lfsr, group := r.group ++ [(code.getD 0, k.1, code.isNone)] }
    if r.group.length = 32 then Work.flushGroup (r, w.2) ops b else (r, w.2)
  else if pipeSoftmax ops then
    let r := { r with group := r.group ++ [(code.getD 0, none, code.isNone)] }
    if r.group.length = dN0 r.words then Work.flushGroup (r, w.2) ops b else (r, w.2)
  else
    let place := dstBase r + dstOff ops r.words (r.elemIx - 1)
    match code with
    | some c => (r.emit b place (mark false (leBytes (delem ops r.words) c)), { w.2 with elems := w.2.elems + 1 })
    | none => (r.emit b place (poisonBytes place (delem ops r.words)), w.2)

/-- One code through the inner cells and on. -/
def Work.runElem (w : Work) (ops : List (BitVec 32)) (b : Nat) (code : Nat) : Work :=
  let x := runCells ops (dFlag w.1.words 5) (dFlag w.1.words 6) code { lfsr := w.1.lfsr.toNat }
  Work.emitElem ({ w.1 with lfsr := BitVec.ofNat 32 x.2.lfsr },
    { w.2 with sat := w.2.sat + x.2.sat, ovf := w.2.ovf + x.2.ovf }) ops b (some x.1)

/-- COMPARE of one element (09 R215); a poisoned one is not taken as data (09 R227). -/
def Running.compareElem (r : Running) (bs : MarkedBytes) : Running :=
  let p := fillElem r.words r.prbs
  let miss := !bs.any (·.2) && bs.map (·.1) != p.1
  { r with prbs := p.2, elemIx := r.elemIx + 1, mism := if miss then r.mism + 1 else r.mism,
           firstMis := if miss ∧ r.firstMis = none then some r.elemIx else r.firstMis }

/-- Bring a decoded block-scaled record's elements through the cells, one after the other: within one element the cells
take their draws in route order (10 R257). -/
def Work.runRecord (w : Work) (ops : List (BitVec 32)) (b : Nat) (v : Num) : Work :=
  match ops with
  | [] => w
  | first :: _ =>
    let k := cellConvert (opOut first) (dFlag w.1.words 5) (dFlag w.1.words 6 && opOut first != 2) v { lfsr := w.1.lfsr.toNat }
    Work.runElem ({ w.1 with lfsr := BitVec.ofNat 32 k.2.lfsr },
      { w.2 with sat := w.2.sat + k.2.sat, ovf := w.2.ovf + k.2.ovf }) ops b k.1

/-- One whole source unit. -/
def Work.unit (w : Work) (ops : List (BitVec 32)) (b : Nat) (bs : MarkedBytes) : Work :=
  let bad := bs.any (·.2)
  let r := { w.1 with unitIx := w.1.unitIx + 1 }
  if dOp r.words = 3 then (r.compareElem bs, w.2)
  else if dOp r.words = 8 then ({ r with hashed := r.hashed ++ bs.map (·.1), elemIx := r.elemIx + 1 }, w.2)
  else if ops.isEmpty then
    let place := dstBase r + dstOff ops r.words r.elemIx
    (Running.emit { r with elemIx := r.elemIx + 1 } b place (if bad then poisonBytes place bs.length else bs), w.2)
  else if mxIn ops then
    if bad then (List.range 32).foldl (fun t _ => Work.emitElem t ops b none) (r, w.2)
    else (mxDecode (fmtCode (pipeIn ops)) (bs.map (·.1))).foldl (fun t v => Work.runRecord t ops b v) (r, w.2)
  else if bad then Work.emitElem (r, w.2) ops b none
  else Work.runElem (r, w.2) ops b (leNat (bs.map (·.1)))

/-- Take whole units from the bytes in hand. -/
def Work.units (ops : List (BitVec 32)) (b : Nat) : Nat → Work → Work
  | 0, w => w
  | fuel + 1, w =>
    let n := dElem w.1.words
    if w.1.carry.length < n then w
    else Work.units ops b fuel (Work.unit ({ w.1 with carry := w.1.carry.drop n }, w.2) ops b (w.1.carry.take n))

/-- A coded body that breaks its rules ends the descriptor (10 R266). -/
def Running.codedBad (r : Running) : Running := { r with early := some (r.early.getD .malformed), quit := true, carry := [] }

/-- Take the header of the coded stream, then its runs, from the bytes in hand (10 R264, R266). -/
def Work.coded (ops : List (BitVec 32)) (b : Nat) : Nat → Work → Work
  | 0, w => w
  | fuel + 1, w =>
    let r := w.1
    let n := dElem r.words
    if r.quit then w
    else match r.zrc.bodyLen with
    | none =>
      if (r.carry.take 0x20).any (·.2) then
        ({ r with early := some (r.early.getD .checkFail), quit := true, stopWrites := true, carry := [] }, w.2)
      else if r.carry.length < 0x20 then w
      else match zrcHeaderCheck ((r.carry.take 0x20).map (·.1)) n (dCount r.words) with
        | .inl st => ({ r with early := some (r.early.getD st), quit := true, stopWrites := true, carry := [] }, w.2)
        | .inr len =>
          Work.coded ops b fuel ({ r with carry := r.carry.drop 0x20, zrc := { r.zrc with bodyLen := some len } }, w.2)
    | some len =>
      if r.unitIx = dCount r.words then if r.zrc.parsed = len then w else (r.codedBad, w.2)
      else if r.zrc.left = 0 then
        match r.carry with
        | [] => if len ≤ r.zrc.parsed then (r.codedBad, w.2) else w
        | (_, true) :: _ => ({ r with carry := [] }, w.2)
        | x :: rest =>
          let k := x.1.toNat
          let run := if k < 128 then k + 1 else k - 0x7F
          if dCount r.words < r.unitIx + run then (r.codedBad, w.2)
          else Work.coded ops b fuel
            ({ r with carry := rest, zrc := { r.zrc with parsed := r.zrc.parsed + 1, left := run, literal := 128 ≤ k } }, w.2)
      else if r.zrc.literal then
        if r.carry.length < n then if len < r.zrc.parsed + n then (r.codedBad, w.2) else w
        else Work.coded ops b fuel (Work.unit ({ r with
          carry := r.carry.drop n, zrc := { r.zrc with parsed := r.zrc.parsed + n, left := r.zrc.left - 1 } }, w.2) ops b
          (r.carry.take n))
      else Work.coded ops b fuel (Work.unit ({ r with zrc := { r.zrc with left := r.zrc.left - 1 } }, w.2) ops b
          (mark false (zeros n)))

/-- The bytes of a read burst enter: whole units go on. -/
def Work.feed (w : Work) (ops : List (BitVec 32)) (b : Nat) (bs : MarkedBytes) : Work :=
  let w : Work := ({ w.1 with carry := w.1.carry ++ bs }, w.2)
  if dFlag w.1.words 8 then Work.coded ops b (200 * (w.1.carry.length + 1)) w
  else Work.units ops b (w.1.carry.length + 1) w

/-- The elements gathered of a group or row that will not be whole leave as poisoned bytes where one of them is poisoned; bytes of
elements not yet read are left out (09 R227). -/
def Work.cutGroup (w : Work) (ops : List (BitVec 32)) (b : Nat) : Work :=
  let r := w.1
  let done := { r with group := [] }
  let n := r.group.length
  if !r.group.any (fun g => g.2.2) then w
  else if mxOut ops then
    let place := dstBase r + dstOff ops r.words (r.elemIx / 32)
    (done.emit b place (poisonBytes place ((n * fmtBits (fmtCode (pipeOut ops)) + 7) / 8)), w.2)
  else
    ((List.range n).foldl (fun (t : Running) i =>
      let place := dstBase r + dstOff ops r.words (r.elemIx - n + i)
      t.emit b place (poisonBytes place 4)) done, w.2)

/-- A read burst held a poisoned line: an element of which only some bytes have come is poisoned if one of these is, and what is gathered
leaves (09 R227); of a coded stream, only the bytes of a literal are an element's. What writes no elements is left as it is. -/
def Work.cutShort (w : Work) (ops : List (BitVec 32)) (b : Nat) : Work :=
  let op := dOp w.1.words
  if op = 3 ∨ op = 4 ∨ op = 5 ∨ op = 8 then w
  else
    let z := w.1.zrc
    let bs := if dFlag w.1.words 8 && !(z.bodyLen.isSome && z.literal && z.left != 0) then [] else w.1.carry
    let w := if bs.any (·.2) then Work.unit ({ w.1 with carry := [] }, w.2) ops b (bs ++ List.replicate (dElem w.1.words - bs.length) (0, true))
      else w
    Work.cutGroup w ops b

/-- A read burst held a poisoned line (09 R227): only the write bursts that carry its elements are issued yet, and then
none. REDUCE and MERGE go on and end with POISON later. -/
def Running.poisonStop (r : Running) (b : Nat) : Running :=
  if dOp r.words = 4 ∨ dOp r.words = 5 then { r with cmb := { r.cmb with poison := true } }
  else
    let r := if dFlag r.words 9 && !r.zrc.run.isEmpty then
        Running.putCoded { r with zrc := { r.zrc with run := [] } } b (zrcRun r.zrc.run)
      else r
    { r with
      early := some (r.early.getD .poison), quit := true, carry := [], group := [],
      reads := r.reads.filter (fun x => x.result.isNone),
      outQ := ((burstsOf r.outQ.length r.outQ).filter (fun p => p.any (fun x => x.burst == b))).flatten }

/-- Count what the sluice has done. -/
def State.sluiceNote (s : State) (d : Words) (n : SluiceNote) : State :=
  let s := { s with sluice := { s.sluice with sat := sat32 s.sluice.sat n.sat, ovf := sat32 s.sluice.ovf n.ovf } }
  if n.elems = 0 then s else s.modPipe (dPipe d) (fun p => { p with elems := p.elems + BitVec.ofNat 64 n.elems })

/-- Take the front read bursts that have entered the hold, in loop order (10 R240; 09 R227). -/
def State.takeReads (c : Nat) : Nat → State → State
  | 0, s => s
  | fuel + 1, s =>
    match (s.chan c).run with
    | some r =>
      match r.reads with
      | b :: rest =>
        match b.arrived, b.result with
        | true, some (_, bs) =>
          if r.quit || (s.pipeHeld (dPipe r.words) && !r.flowing) then s
          else
            let ops := s.pipeOps r.words
            let w := Work.feed ({ r with reads := rest }, {}) ops b.burst bs
            let w := if bs.any (·.2) then Work.cutShort w ops b.burst else w
            let r' := if bs.any (·.2) then w.1.poisonStop b.burst else w.1
            State.takeReads c fuel
              ((s.modRun c (fun _ => r')).sluiceNote r.words w.2)
        | _, _ => s
      | [] => s
    | none => s

/-! ### Forming bursts -/

/-- The next read burst: the place of its first byte and its length, if it is known (09 R211). -/
def State.nextRead (s : State) (c : Nat) (r : Running) : Option (BitVec 64 × Nat) × State :=
  let ops := s.pipeOps r.words
  let limit := srcLimit ops r
  if limit ≤ r.srcNext then (none, s)
  else
    let l := srcAt ops r r.srcNext
    let x := s.resolveSide c false r.seqS l
    match x.1 with
    | none => (none, x.2)
    | some (a, room) =>
      let want := min (256 - a.toNat % 256) room
      (some (a, contigLen (srcAt ops r) (if srcLinear r then limit else dElem r.words) limit 257 r.srcNext want), x.2)

/-- The descriptor has given all its destination bytes. -/
def Running.srcDone (ops : List (BitVec 32)) (r : Running) : Bool :=
  r.quit || (r.reads.isEmpty && (match dOp r.words with
    | 2 => r.elemIx == dCount r.words
    | 9 => r.rangeIx == dN2 r.words && decide (srcLimit ops r ≤ r.srcNext)
    | _ => decide (srcLimit ops r ≤ r.srcNext)))

/-- The bytes of the next write burst, if that burst is closed: full to its window's end, broken, or the last. -/
def Running.nextWrite (ops : List (BitVec 32)) (r : Running) : List OutByte :=
  match r.outQ with
  | [] => []
  | b :: _ =>
    let room := if r.seqD.isSome then 256 else 256 - b.addr.toNat % 256
    let p := burstPrefix room r.outQ
    if p.length < r.outQ.length || p.length == room || r.srcDone ops then p else []

/-- A burst of the channel may be granted: its descriptor moves elements, is not paused, and its stream is not stalled
(09 R230). -/
def State.burstOpen (s : State) (c : Nat) (r : Running) : Bool :=
  r.phase == .active && !r.paused && (mgmtChan c || (s.stall (256 + c)).state == .running)

/-- A read burst of the channel's descriptor stands next. -/
def State.readAtHand (s : State) (c : Nat) (r : Running) : Bool :=
  !r.quit && decide (r.reads.length < 32) && (s.nextRead c r).1.isSome

/-- The channel has a read burst ready. -/
def State.readReady (s : State) (c : Nat) : Bool :=
  match (s.chan c).run with
  | some r => s.burstOpen c r && s.readAtHand c r && s.holdFree (quotaOf (s.chanPart c)) 256
  | none => false

/-- A write burst of the channel's descriptor stands next. -/
def State.writeAtHand (s : State) (c : Nat) (r : Running) : Bool :=
  !r.stopWrites && decide (s.chanWrites c < 32) && !(r.nextWrite (s.pipeOps r.words)).isEmpty
    && (match r.outQ with
      | b :: _ => (s.resolveSide c true r.seqD (if r.seqD.isSome then b.addr.toInt else (b.addr.toNat : Int))).1.isSome
      | [] => false)

/-- The channel has a write burst ready. -/
def State.writeReady (s : State) (c : Nat) : Bool :=
  match (s.chan c).run with
  | some r => s.burstOpen c r && s.writeAtHand c r && s.holdFree (quotaOf (s.chanPart c)) 256
  | none => false

/-- Issue the next read burst. -/
def State.issueRead (s : State) (c : Nat) : State :=
  match (s.chan c).run with
  | some r =>
    match (s.nextRead c r).1 with
    | some (a, n) =>
      if badPhysical c a then s.endEarly c .malformed
      else
        let s := s.modRun c (fun r => { r with
          srcNext := r.srcNext + n, nextBurst := r.nextBurst + 1,
          reads := r.reads ++ [{ burst := r.nextBurst, result := none, arrived := false }] })
        let s := (s.holdTake (quotaOf (s.chanPart c)) 256).paceAdvance c r.words n
        s.chanAccess c (mkAccess (.channel c) (.readBurst c r.nextBurst) .read none 0 n) a
    | none => s
  | none => s

/-- Poison marks of the lines that a burst's bytes touch. -/
def linePoison (a : Nat) (bs : List OutByte) : List Bool :=
  (List.range (lineCount a bs.length)).map (fun i =>
    ((List.range bs.length).zip bs).any (fun x => (a + x.1) / 64 == a / 64 + i && x.2.poison))

/-- Issue the next write burst. -/
def State.issueWrite (s : State) (c : Nat) : State :=
  match (s.chan c).run with
  | some r =>
    match r.nextWrite (s.pipeOps r.words) with
    | [] => s
    | b :: rest =>
      match (s.resolveSide c true r.seqD (if r.seqD.isSome then b.addr.toInt else (b.addr.toNat : Int))).1 with
      | some (a, room) =>
        if badPhysical c a then s.endEarly c .malformed
        else
          let p := (b :: rest).take (min room (256 - a.toNat % 256))
          let s := s.modRun c (fun r => { r with outQ := r.outQ.drop p.length })
          let s := s.holdTake (quotaOf (s.chanPart c)) 256
          s.chanAccess c { mkWrite (.channel c) (.writeBurst c) none 0 (p.map (·.val)) (linePoison a.toNat p) with
            tide := dTideOpt r.words, sem := if dTide r.words = 0xFFFF then 0 else 2,
            scope := if dTide r.words = 0xFFFF then 0 else 4, bad := p.map (·.poison) } a
      | none => s
  | none => s

/-! ### Arbitration (09 R230) -/

/-- The class of the descriptor a channel runs. -/
def State.chanClass (s : State) (c : Nat) : Nat := ((s.chan c).run.map (·.cls)).getD 0

/-- The first ready channel of a class after the last granted, within cluster `k`. (DESIGN CHOICE, log 83) -/
def State.pickChannel (s : State) (k cls last : Nat) (ready : Nat → Bool) : Option Nat :=
  (((List.range 16).map (fun i => 16 * k + (last + 1 + i) % 16)).find? (fun c => ready c && s.chanClass c == cls))

/-- One grant of an arbiter: the rest of its turn, then the classes below, then a new round. (DESIGN CHOICE, log 83) -/
def State.arbitrate (s : State) (k : Nat) (ready : Nat → Bool) : Nat → Arbiter → Option (Nat × Arbiter)
  | 0, _ => none
  | fuel + 1, a =>
    match (if a.left = 0 then none else s.pickChannel k a.cls (a.last.getD a.cls 15) ready) with
    | some c => some (c, { a with left := a.left - 1, last := a.last.set a.cls (c % 16) })
    | none =>
      let cls := (a.cls + 3) % 4
      State.arbitrate s k ready fuel { a with cls := cls, left := s.theChart.classWeight.getD cls 1 }

/-- The running descriptor paces its write bursts: a FILL does, every other its read bursts (09 R228). -/
def State.pacesWrites (s : State) (c : Nat) : Bool := ((s.chan c).run.map (fun r => dOp r.words == 2)).getD false

/-- Grant one burst of cluster `k`. (DESIGN CHOICE, log 83) -/
def State.grantBurst (s : State) (k : Nat) (wr : Bool) : State :=
  let cs := (List.range 16).map (16 * k + ·)
  let s := eachOf (fun c t => if t.pacesWrites c == wr && (if wr then t.writeReady c else t.readReady c) then t.paceBurst c else t)
    cs s
  if wr then
    match s.arbitrate k s.writeReady 5 (s.writeArb k) with
    | some (c, a) => (s.setWriteArb k a).issueWrite c
    | none => s
  else
    match s.arbitrate k s.readReady 5 (s.readArb k) with
    | some (c, a) => (s.setReadArb k a).issueRead c
    | none => s

end Sys2Proof.Machine
end

