-- ==== Sys2Proof/Machine/Channel.lean ====
section
/-! DEFINITION. The life of a descriptor on its channel (09 R213-R231): beginning each opcode, headers and map entries,
contributions, the end of the work, and the writes that end the descriptor in order. -/

namespace Sys2Proof.Machine

/-! ### Beginning -/

/-- A sequence side before its header has been read. -/
def openSeq (va : Nat) : SeqMap :=
  { va := BitVec.ofNat 64 va, ready := false, tokenCount := 0, blockLog2 := 0, tokenBytes := 1, entries := [], reading := none }

/-- The hold bytes a softmax row is gathered in (10 R262). -/
def rowBytes (ops : List (BitVec 32)) (d : Words) : Nat := if pipeSoftmax ops then roundUp (4 * dN0 d) 256 else 0

/-- Bytes of the result region of a REDUCE or MERGE. -/
def resultBytes (d : Words) : Nat := dCount d * cmbOutSize (oType d) (oGroups d)

/-- Translate the first and the last byte of the result region, with the right to write (12 R291). -/
def State.probeResult (s : State) (c : Nat) (d : Words) : State :=
  let probe (last : Bool) (a : Nat) (t : State) : State :=
    t.chanAccess c (mkAccess (.channel c) (.resultProbe c last) .write none 0 1) (BitVec.ofNat 64 a)
  probe true (dDst d + resultBytes d - 1) (probe false (dDst d) s)

/-- The class of a queue's or a ring's bursts now (06 R134; 09 R230). -/
def State.classNow (s : State) (c : Nat) (q : Option Nat) : Nat :=
  match q with
  | some q => (s.queue q).priority.toNat
  | none => (s.chan c).mPriority.toNat

/-- A loop descriptor starts: its generators at their seeds, its map headers and result region asked for. It waits for the
hold where a softmax row finds no room. (DEDUCED, log 68) -/
def State.beginLoop (s : State) (c : Nat) : State :=
  match (s.chan c).run with
  | none => s
  | some r =>
    let d := r.words
    let ops := s.pipeOps d
    let q := quotaOf (s.chanPart c)
    if !s.holdFree q (rowBytes ops d) then s
    else
      let src := dFlag d 2 || dOp d == 9
      let s := s.modRun c (fun r => { r with
        phase := .headers, cls := s.classNow c r.queue, rowHold := rowBytes ops d,
        lfsr := BitVec.ofNat 32 (dOperand d), prbs := BitVec.ofNat 31 (dOperand d),
        seqS := if src then some (openSeq (dSrc d)) else none, seqD := if dFlag d 3 then some (openSeq (dDst d)) else none })
      let s := s.holdTake q (rowBytes ops d)
      let s := if src then s.readSeqHeader c false (BitVec.ofNat 64 (dSrc d)) else s
      let s := if dFlag d 3 then s.readSeqHeader c true (BitVec.ofNat 64 (dDst d)) else s
      if dOp d = 4 ∨ dOp d = 5 then s.probeResult c d else s

/-- The channel holds a checked descriptor of an opcode, ready to begin. -/
def State.mayBegin (s : State) (c op : Nat) : Bool :=
  match (s.chan c).run with
  | some r => r.phase == .checked && dOp r.words == op
  | none => false

/-- Begin a loop opcode. -/
def State.beginOp (s : State) (c op : Nat) : State := if s.mayBegin c op then s.beginLoop c else s

/-- A descriptor without a loop has done its work, but for its writes. -/
def State.workDone (s : State) (c : Nat) : State :=
  (s.modRun c (fun r => { r with phase := .active, quit := true })).markStart c

/-- LINK performs nothing (09 R222). -/
def State.beginLink (s : State) (c : Nat) : State := if s.mayBegin c 10 then s.workDone c else s

/-- WAIT (09 R220): a counter outside the partition ends it PERMISSION; one at its tidemark ends it OK; else it waits. -/
def State.beginWait (s : State) (c : Nat) : State :=
  if !s.mayBegin c 7 then s
  else match (s.chan c).run with
    | some r =>
      if !s.tideInRange (dTide r.words) (s.chanPart c) then s.endEarly c .permission
      else if s.tideReached (dTide r.words) (BitVec.ofNat 64 (dOperand r.words)) then s.workDone c
      else (s.modRun c (fun r => { r with phase := .waiting })).markStart c
    | none => s

/-- SIGNAL (09 R219): applied at once at this instance; to another it goes as a packet, or ends REMOTE_UNREACHABLE where no
route is. (DEDUCED, log 84) -/
def State.beginSignal (s : State) (c : Nat) : State :=
  if !s.mayBegin c 6 then s
  else match (s.chan c).run with
    | some r =>
      let d := r.words
      if dDst d = s.ownId then
        let t := s.tideAdd (dTide d) (s.chanPart c) (dOperand d)
        if t.1 then t.2.workDone c else t.2.endEarly c .permission
      else if s.routeMask (dDst d) = 0 then s.endEarly c .remoteUnreachable
      else
        let a := mkWrite (.channel c) (.signalSend c) (s.chanPart c) (BitVec.ofNat 60 (dDst d * 2 ^ 48)) (leBytes 8 (dOperand d))
        ((s.modRun c (fun r => { r with phase := .sending })).markStart c).launch
          { a with tide := some (dTide d), sem := 2, scope := 4, mc := mgmtChan c, stage := .peerReady }
    | none => s

/-! ### Headers and entries that come back -/

/-- A failed sequence-map fetch ends the descriptor and its list; pending takes the status (08 R191; 09 R226). -/
def State.seqFailed (s : State) (c : Nat) (st : Status) : State :=
  (s.modRun c (fun r => { r with listEnds := true, noFence := true })).endEarly c st

/-- Whether a read came back poisoned. -/
def AccResult.bad (r : AccResult) : Bool := r.poison.any (· == true)

/-- A sequence-map header has been read. A poisoned one is a header that fails its check (16 R387). (DEDUCED, log 84) -/
def State.seqHeaderBack (s : State) (c : Nat) (dst : Bool) (res : AccResult) : State :=
  match (s.chan c).run with
  | none => s
  | some r =>
    let va := ((if dst then r.seqD else r.seqS).map (·.va)).getD 0
    if r.quit then s
    else if res.status ≠ .ok then s.seqFailed c res.status
    else match (if res.bad then Sum.inl Cause.checkFail else seqHeaderCheck va res.data) with
      | .inr m => s.modRun c (fun r => if dst then { r with seqD := some m } else { r with seqS := some m })
      | .inl cause =>
        if mgmtChan c then s.seqFailed c (resolvesTo cause)
        else
          let id := s.nextId
          (s.launch { mkAccess (.channel c) (.seqHeader c dst) .read (s.chanPart c) 0 64 with
            fetch := true, va := some va }).faultAcc id cause 0 va

/-- A fault with cause CHECK_FAIL of a map entry or a range entry that was read poisoned (16 R387): the stream stalls at it, or a
management-class descriptor ends. -/
def State.entryPoison (s : State) (c : Nat) (pu : Purpose) (va : BitVec 64) : State :=
  if mgmtChan c then s.seqFailed c .checkFail
  else
    let id := s.nextId
    let map : Bool := match pu with
      | .rangeEntry _ _ => false
      | _ => true
    (s.launch { mkAccess (.channel c) pu .read (s.chanPart c) 0 8 with fetch := map, va := some va }).faultAcc id .checkFail 0 va

/-- A sequence-map entry has been read. (DEDUCED, log 84) -/
def State.seqEntryBack (s : State) (c : Nat) (dst : Bool) (b : Nat) (res : AccResult) : State :=
  match (s.chan c).run with
  | none => s
  | some r =>
    if r.quit then s
    else if res.status ≠ .ok then s.seqFailed c res.status
    else if res.bad then
      s.entryPoison c (.seqEntry c dst b) (((if dst then r.seqD else r.seqS).elim 0 (·.va)) + BitVec.ofNat 64 (0x40 + 8 * b))
    else
      let e := BitVec.ofNat 64 (leNat res.data)
      s.modSeq c dst (fun m => { m with
        reading := none, entries := m.entries.filter (fun x => x.1 != b) ++ [(b, e)] })

/-- An entry of a GATHER_SEQ range list has been read (09 R218). -/
def State.rangeBack (s : State) (c : Nat) (res : AccResult) : State :=
  match (s.chan c).run with
  | none => s
  | some r =>
    if r.quit then s
    else if res.status ≠ .ok then s.endEarly c res.status
    else if res.bad then s.entryPoison c (.rangeEntry c r.rangeIx) (BitVec.ofNat 64 (dOperand r.words + 8 * r.rangeIx))
    else
      let v := leNat res.data
      if bits v 63 48 ≠ 0 ∨ bits v 47 24 = 0 then
        s.modRun c (fun r => { r with early := some (r.early.getD .malformed), quit := true })
      else s.modRun c (fun r => { r with range := some (bits v 23 0, bits v 47 24), srcNext := 0, rangeRead := false })

/-- One end of a result region has been translated. -/
def State.probeBack (s : State) (c : Nat) (last : Bool) (res : AccResult) : State :=
  if res.status ≠ .ok then s.endEarly c res.status
  else
    let x : BitVec 60 × BitVec 64 × Bool :=
      (BitVec.ofNat 60 (fld res.data 0 8), BitVec.ofNat 64 (fld res.data 8 8), bit (byteAt res.data 16) 5)
    s.modRun c (fun r => { r with cmb := if last then { r.cmb with last := some x } else { r.cmb with first := some x } })

/-! ### Contributions (12 R291-R293) -/

/-- The header of a contribution. -/
def cmbHeaderBytes (d : Words) (resultAddr part : Nat) (fail : Option Status) : Bytes :=
  let n := dCount d
  sealRecord (leBytes 4 0x31424D43 ++ leBytes 2 (oRound d) ++ leBytes 2 (oSlot d) ++ leBytes 2 (oIndex d) ++ leBytes 2 (oK d)
    ++ [BitVec.ofNat 8 (oOp d), BitVec.ofNat 8 (oType d), BitVec.ofNat 8 (b2n (oNorm d) + 2 * b2n fail.isSome),
        BitVec.ofNat 8 (oGroups d)]
    ++ leBytes 4 n ++ leBytes 4 (n * cmbInSize (oType d) (oGroups d)) ++ leBytes 8 resultAddr ++ leBytes 2 (dTide d)
    ++ [BitVec.ofNat 8 part, BitVec.ofNat 8 ((fail.map statusCode).getD 0)])

/-- The packet of a piece at a byte offset of the contribution (11 R272; 12 R292). -/
def cmbPiece (d : Words) (dst src part offset : Nat) (bs : MarkedBytes) : Packet :=
  { dst := BitVec.ofNat 12 dst, src := BitVec.ofNat 12 src, cls := .req, opcode := 0x05, part := BitVec.ofNat 4 part,
    tide := BitVec.ofNat 16 (dTide d), length := BitVec.ofNat 9 bs.length, scope := 4,
    addr := BitVec.ofNat 48 (oSlot d + oIndex d * 2 ^ 12 + offset * 2 ^ 24), tag := 0, status := 0,
    poison := BitVec.ofNat 4 (maskOf ((List.range 4).map (fun i => ((bs.drop (64 * i)).take 64).any (·.2)))),
    sem := 2, hasBe := false, mc := false, subop := 0, aux := BitVec.ofNat 32 (oRound d), be := [], payload := bs.map (·.1) }

/-- Send one piece: inside the instance it waits for its slot, to another instance it goes by peer port. (DEDUCED, log 84) -/
def State.sendPiece (s : State) (c : Nat) (r : Running) (inst offset : Nat) (bs : MarkedBytes) : State :=
  let p := cmbPiece r.words inst s.ownId ((s.chanPart c).getD 0) offset bs
  if inst = s.ownId then s.modChan c (fun ch => { ch with pieces := ch.pieces ++ [p] })
  else
    let a := mkWrite (.channel c) (.contribPiece c) (s.chanPart c) (BitVec.ofNat 60 (inst * 2 ^ 48 + p.addr.toNat)) p.payload
      (bitList 4 p.poison.toNat)
    s.launch { a with tide := dTideOpt r.words, sem := 2, scope := 4, stage := .peerReady }

/-- Both ends of the region are known: the contribution is placed, or the descriptor ends MALFORMED (12 R291). -/
def State.placeContribution (s : State) (c : Nat) (r : Running) : State :=
  match r.cmb.first, r.cmb.last with
  | some f, some l =>
    if r.cmb.placed || r.quit then s
    else if f.2.1 ≠ l.2.1 ∨ l.1.toNat ≠ f.1.toNat + (resultBytes r.words - 1) ∨ f.2.2 = true then s.endEarly c .malformed
    else
      let h := cmbHeaderBytes r.words (localOf f.1) ((s.chanPart c).getD 0) none
      s.modRun c (fun r => { r with cmb := { r.cmb with placed := true, out := mark false h ++ r.cmb.out } })
  | _, _ => s

/-- Cut one piece off the contribution and send it, if a whole window of it is there or it is the last. -/
def State.cutPiece (s : State) (c : Nat) : State :=
  match (s.chan c).run with
  | some r =>
    let n := r.cmb.out.length
    if r.cmb.placed && !r.stopWrites && decide (r.cmb.open_ < 32) && decide (0 < n)
        && (decide (256 ≤ n) || r.srcDone (s.pipeOps r.words)) then
      let bs := r.cmb.out.take 256
      let inst := (r.cmb.first.map (fun f => instOf f.1)).getD 0
      (s.modRun c (fun r => { r with cmb := { r.cmb with
        out := r.cmb.out.drop 256, cutAt := r.cmb.cutAt + bs.length, open_ := r.cmb.open_ + 1 } })).sendPiece c r inst r.cmb.cutAt bs
    else s
  | none => s

/-- A descriptor that ended early after sending a piece sends its header once more with FAILED set (12 R293). -/
def State.resendHeader (s : State) (c : Nat) (r : Running) : State :=
  match r.early with
  | some st =>
    if r.cmb.placed && decide (0 < r.cmb.cutAt) && !r.cmb.resent && r.stopWrites then
      let inst := (r.cmb.first.map (fun f => instOf f.1)).getD 0
      let addr := (r.cmb.first.map (fun f => localOf f.1)).getD 0
      let h := cmbHeaderBytes r.words addr ((s.chanPart c).getD 0) (some st)
      (s.modRun c (fun r => { r with cmb := { r.cmb with resent := true, open_ := r.cmb.open_ + 1 } })).sendPiece c r inst 0
        (mark false h)
    else s
  | none => s

/-- A piece has ended. Its slot's refusal ends the descriptor, and no further piece is sent; where no answer came the descriptor ends early
under 09 R226, which its header then tells (12 R293). -/
def State.pieceBack (s : State) (c : Nat) (st : Status) (answered : Bool) : State :=
  let s := s.modRun c (fun r => { r with cmb := { r.cmb with open_ := r.cmb.open_ - 1 } })
  match (s.chan c).run with
  | some r =>
    if st = .ok ∨ r.early.isSome then s
    else (s.modRun c (fun r => { r with cmb := { r.cmb with resent := r.cmb.resent || answered, out := [] } })).endEarly c st
  | none => s

/-! ### Going on -/

/-- Keep a FILL's next elements waiting. -/
def fillUp : Nat → Running → Running
  | 0, r => r
  | fuel + 1, r =>
    if r.elemIx < dCount r.words ∧ r.outQ.length < 512 ∧ r.quit = false then
      let p := fillElem r.words r.prbs
      fillUp fuel (Running.putAt { r with prbs := p.2, elemIx := r.elemIx + 1 } 0 (dstBase r + dstOff [] r.words r.elemIx)
        (mark false p.1))
    else r

/-- Headers are in: the descriptor moves elements. A GATHER_SEQ row must be one token (09 R218). -/
def State.headersIn (s : State) (c : Nat) (r : Running) : State :=
  let ready (m : Option SeqMap) : Bool := m.elim true (·.ready)
  if !(ready r.seqS && ready r.seqD) then s
  else if dOp r.words = 9 ∧ dN0 r.words * dElem r.words ≠ r.seqS.elim 0 (·.tokenBytes) then s.endEarly c .malformed
  else s.modRun c (fun r => { r with phase := .active })

/-- Read the next range of a GATHER_SEQ once the last is read out. -/
def State.nextRange (s : State) (c : Nat) (r : Running) : State :=
  if dOp r.words ≠ 9 ∨ r.quit = true ∨ r.rangeRead = true then s
  else
    let spent := r.range.isSome && decide (srcLimit [] r ≤ r.srcNext)
    let ix := if spent then r.rangeIx + 1 else r.rangeIx
    if r.range.isSome && !spent then s
    else if dN2 r.words ≤ ix then s.modRun c (fun r => { r with rangeIx := ix })
    else
      (s.modRun c (fun r => { r with rangeIx := ix, range := none, srcNext := 0, rangeRead := true })).chanAccess c
        (mkAccess (.channel c) (.rangeEntry c ix) .read none 0 8) (BitVec.ofNat 64 (dOperand r.words + 8 * ix))

/-- A coded source that has been read whole must have given every element (10 R266). -/
def Running.codedEnd (r : Running) : Running :=
  if dFlag r.words 8 && !r.quit && r.zrc.bodyLen.isSome && decide (0x20 + r.zrc.bodyLen.getD 0 ≤ r.srcNext) && r.reads.isEmpty
      && decide (r.unitIx < dCount r.words) then r.codedBad else r

/-- The source is exhausted: the root of a HASH and the last run and the header of a coded stream are given out. The header
waits until every body byte has reached its completion point (09 R216; 10 R265). -/
def State.lastBytes (s : State) (c : Nat) (r : Running) : State :=
  if !r.srcDone (s.pipeOps r.words) || r.quit then s
  else if dOp r.words = 8 then
    if r.rootOut then s
    else s.modRun c (fun r => Running.putAt { r with rootOut := true } 0 (dstBase r) (mark false (treeHash r.hashed)))
  else if dFlag r.words 9 then
    if !r.zrc.closed then
      s.modRun c (fun r =>
        let r' := { r with zrc := { r.zrc with run := [], closed := true } }
        if r.zrc.run.isEmpty then r' else r'.putCoded 0 (zrcRun r.zrc.run))
    else if !r.zrc.headed && r.outQ.isEmpty && s.chanWrites c == 0 then
      s.modRun c (fun r => Running.putAt { r with zrc := { r.zrc with headed := true } } 0 (dstBase r)
        (mark false (zrcHeaderBytes (delem (s.pipeOps r.words) r.words) (dCount r.words) r.zrc.out)))
    else s
  else s

/-- Every burst has reached its completion point and nothing is left to give out (09 R224, steps 1 and 2). -/
def State.allDone (s : State) (c : Nat) (r : Running) : Bool :=
  r.srcDone (s.pipeOps r.words) && r.outQ.isEmpty && !s.chanBusy c && (s.chan c).pieces.isEmpty
    && (r.stopWrites || r.quit || (dOp r.words != 8 || r.rootOut) && (!dFlag r.words 9 || r.zrc.headed))
    && (dOp r.words != 4 && dOp r.words != 5
      || (r.cmb.open_ == 0 && (r.stopWrites || r.cmb.out.isEmpty && r.cmb.placed)))

/-- Go on with a channel's descriptor as far as it goes without a command. -/
def State.advanceChan (c : Nat) (s : State) : State :=
  match (s.chan c).run with
  | none => s
  | some r =>
    match r.phase with
    | .headers =>
      let s := s.headersIn c r
      match (s.chan c).run with
      | some r => s.placeContribution c r
      | none => s
    | .active =>
      let s := s.modRun c (fun r => Running.codedEnd (if dOp r.words = 2 then fillUp 600 r else r))
      let s := ((s.chan c).run.elim s (s.placeContribution c)).cutPiece c
      let s := (s.chan c).run.elim s (s.nextRange c)
      let s := (s.chan c).run.elim s (s.lastBytes c)
      let s := (s.chan c).run.elim s (s.resendHeader c)
      let s := (s.chan c).run.elim s (fun r => if r.quit then s else (s.nextRead c r).2)
      let s := (s.chan c).run.elim s (fun r => match r.outQ with
        | b :: _ => if r.seqD.isSome && !r.stopWrites then (s.resolveSide c true r.seqD b.addr.toInt).2 else s
        | [] => s)
      (s.chan c).run.elim s (fun r =>
        if r.phase == .active && s.allDone c r then s.modRun c (fun r => { r with phase := .drained }) else s)
    | _ => s

/-! ### Ending (09 R224) -/

/-- The status a descriptor ends with. -/
def Running.code (r : Running) : Status :=
  match r.early with
  | some st => st
  | none => if dOp r.words = 3 ∧ 0 < r.mism then .checkFail else if r.cmb.poison then .poison else .ok

/-- The STATUS word (09 R206). -/
def Running.statusWord (r : Running) : Nat :=
  let code := statusCode r.code
  code + 2 ^ 8 + 2 ^ 9 * b2n (code != 0) + 2 ^ 10 * (if dOp r.words = 3 then min r.mism 0x3FFFFF else 0)

/-- The pending status of the queue or ring a descriptor came from (06 R139; 09 R233). -/
def State.pendingOf (s : State) (c : Nat) (q : Option Nat) : Status :=
  match q with
  | some q => (s.queue q).pending
  | none => (s.chan c).mPending

/-- Set the pending status. -/
def State.setPending (s : State) (c : Nat) (q : Option Nat) (st : Status) : State :=
  match q with
  | some q => s.modQueue q (fun x => { x with pending := st })
  | none => s.modChan c (fun ch => { ch with mPending := st })

/-- Attach a failure: the earliest unreported one wins (06 R139). -/
def State.attach_ (s : State) (c : Nat) (q : Option Nat) (st : Status) : State :=
  if s.pendingOf c q = .ok then s.setPending c q st else s

/-- The list has ended: the consumer index advances and the cursor returns to 0 (06 R128). -/
def State.endList (s : State) (c : Nat) (q : Option Nat) : State :=
  match q with
  | some q => s.modQueue q (fun x => { x with cons := x.cons + 1, cursor := 0 })
  | none => s.modChan c (fun ch => { ch with mCons := ch.mCons + 1, mCursor := 0 })

/-- STOP_AFTER stops the queue, or the ring (09 R222). -/
def State.stopAfter (s : State) (c : Nat) (q : Option Nat) : State :=
  match q with
  | some q => if (s.queue q).state = .enabled then s.modQueue q (fun x => { x with state := .stopping, enable := false }) else s
  | none => if (s.chan c).state = .enabled then s.modChan c (fun ch => { ch with state := .stopping, enable := false }) else s

/-- Decrement the completion count (09 R231); no interrupt reports a fence write that was not acknowledged (13 R331). -/
def State.countDown (s : State) (c : Nat) (fenceLost : Bool) : State :=
  let n := (s.chan c).count
  if n = 0 then s.modChan c (fun ch => { ch with under := sat32 ch.under })
  else
    let s := s.modChan c (fun ch => { ch with count := ch.count - 1 })
    if n = 1 ∧ fenceLost = false then s.raiseVector (s.chanEntry c).vector else s

/-- Step 5, then the list advances and the channel is at a boundary (09 R222, R224). -/
def State.finishDesc (s : State) (c : Nat) : State :=
  match (s.chan c).run with
  | none => s
  | some r =>
    let s := s.holdGive (quotaOf (s.chanPart c)) r.rowHold
    let s := if dOp r.words = 3 ∧ r.noFlags = false ∧ r.unstarted = false then
        s.modChan c (fun ch => { ch with cmpFirst := BitVec.ofNat 64 (min (r.firstMis.getD (2 ^ 64 - 1)) (2 ^ 64 - 1)) })
      else s
    let s := if dFlag r.words 0 && !r.noFlags && r.code != .aborted then s.countDown c r.fenceLost else s
    let s := if r.listEnds ∨ dNext r.words = 0 then s.endList c r.queue
      else s.setCursor c r.queue (BitVec.ofNat 64 (dNext r.words))
    let s := if dFlag r.words 1 && !r.noFlags && r.code != .aborted then s.stopAfter c r.queue else s
    s.modChan c (fun ch => { ch with run := none })

/-- Step 4: the fence, or pending (06 R139). (DEDUCED, log 67) -/
def State.fenceStep (s : State) (c : Nat) : State :=
  match (s.chan c).run with
  | none => s
  | some r =>
    if dFence r.words ≠ 0 ∧ r.noFence = false then
      let p := s.pendingOf c r.queue
      let st := if p = .ok then r.code else p
      (s.modRun c (fun r => { r with phase := .fenceWrite })).chanAccess c
        (mkWrite (.channel c) (.fenceWrite c) none 0
          (leBytes 8 (dFenceVal r.words) ++ [BitVec.ofNat 8 (statusCode st)] ++ zeros 7))
        (BitVec.ofNat 64 (dFence r.words))
    else (s.attach_ c r.queue r.code).finishDesc c

/-- A fence's write has ended: pending is clear, or takes the status a fence not written leaves (08 R191). -/
def State.fenceBack (s : State) (c : Nat) (st : Status) : State :=
  match (s.chan c).run with
  | none => s
  | some r =>
    if st = .ok then (s.setPending c r.queue .ok).finishDesc c
    else ((s.attach_ c r.queue (if r.code = .ok then st else r.code)).modRun c (fun r => { r with fenceLost := true })).finishDesc c

/-- DESCRIPTOR_END: step 3, the STATUS write, where the work is done. (DEDUCED, log 67) -/
def State.endDesc (s : State) (c : Nat) : State :=
  match (s.chan c).run with
  | none => s
  | some r =>
    if r.phase ≠ .drained then s
    else if r.noStatus then s.fenceStep c
    else
      (s.modRun c (fun r => { r with phase := .statusWrite })).chanAccess c
        (mkWrite (.channel c) (.statusWrite c) none 0 (leBytes 4 r.statusWord)) (r.addr + 0x78)

/-! ### Bursts that come back -/

/-- The bytes a read returned, each with the poison of its line. -/
def markedData (a : Access) (r : AccResult) : MarkedBytes :=
  ((List.range r.data.length).zip r.data).map (fun x => (x.2, r.poison.getD ((a.pa.toNat % 64 + x.1) / 64) false))

/-- A read burst has ended: its data wait to enter the hold, or its error ends the descriptor. -/
def State.readBack (s : State) (a : Access) (c b : Nat) (res : AccResult) : State :=
  let s := s.holdGive (quotaOf (s.chanPart c)) 256
  match (s.chan c).run with
  | none => s
  | some r =>
    if r.quit then s.modRun c (fun r => { r with reads := r.reads.filter (fun x => x.burst != b) })
    else if res.status ≠ .ok then
      (s.modRun c (fun r => { r with reads := r.reads.filter (fun x => x.burst != b) })).endEarly c res.status
    else s.modRun c (fun r => { r with reads := r.reads.map (fun x =>
      if x.burst = b then { x with result := some (.ok, markedData a res), pa := a.pa } else x) })

/-- READ_BURST_RETURN: a burst's data enter the hold; those in front feed the elements (09 R227; 10 R240). -/
def State.burstArrive (s : State) (c b : Nat) : State :=
  let s := s.modRun c (fun r => { r with reads := r.reads.map (fun x =>
    if x.burst = b ∧ x.result.isSome = true then { x with arrived := true } else x) })
  s.takeReads c 33

/-- A write burst has reached its completion point: it counts its bytes and credits its TIDE; a refused credit or a failed
write ends the descriptor (09 R225, R226). -/
def State.writeBack (s : State) (a : Access) (c : Nat) (res : AccResult) : State :=
  let s := s.holdGive (quotaOf (s.chanPart c)) 256
  if res.status ≠ .ok then s.endEarly c res.status
  else
    let n := a.enabledBytes
    let s := s.modChan c (fun ch => { ch with wrBytes := ch.wrBytes + BitVec.ofNat 64 n })
    match a.tide with
    | some k =>
      if instOf a.pa = s.ownId ∧ n ≠ 0 then
        let t := s.tideCredit k (s.chanPart c) n
        if t.1 then t.2 else t.2.endEarly c .permission
      else s
    | none => s

/-- A waiting descriptor's tidemark has been reached (13 R319). -/
def State.waitReached (s : State) (c : Nat) : State :=
  match (s.chan c).run with
  | some r =>
    if r.phase == .waiting && s.tideReached (dTide r.words) (BitVec.ofNat 64 (dOperand r.words)) then s.workDone c else s
  | none => s

/-- wait_limit has passed for a waiting descriptor (09 R220). -/
def State.waitExpired (s : State) (c : Nat) : State :=
  match (s.chan c).run with
  | some r => if r.phase == .waiting && s.theChart.limits.waitLimit != 0 then s.endEarly c .timeout else s
  | none => s

/-- A pause has lasted wait_limit (09 R228). -/
def State.paceExpired (s : State) (c : Nat) : State :=
  match (s.chan c).run with
  | some r => if r.paused && s.theChart.limits.waitLimit != 0 then s.endEarly c .timeout else s
  | none => s

end Sys2Proof.Machine
end

