-- ==== Sys2Proof/Machine/Invalidate.lean ====
section
/-! DEFINITION. Resuming stalled streams (08 R189-R193), the invalidation unit (08 R194-R199), ATS requests (07 R183,
R184), and the writes of landing, root and host-window registers (07 R161, R177; 08 R186, R187). -/

namespace Sys2Proof.Machine

/-! ### Resume -/

/-- A faulted miss that a RETRY finds unchanged: a map header, an offset beyond the map, or a malformed map entry, none of
which is read again (07 R181). (DEDUCED, log 34) -/
def sameFault (a : Access) (m : LandRec) : Bool :=
  m.level == 0 && (match a.purpose with
    | .seqHeader _ _ => m.cause == .checkFail || (m.cause == .malformed && decide (m.va.toNat < 2 ^ 57))
    | .seqEntry _ _ b => decide (2 ^ 24 ≤ b) || m.cause == .malformed
    | _ => false)

/-- Walk one faulted miss again; it joins only walks begun since the resume, named `since` or later (08 R190; 07 R173).
(DEDUCED, log 34) -/
def State.retryMiss (since : Nat) (m : LandRec) (s : State) : State :=
  match m.acc with
  | none => s
  | some id =>
    match s.acc id with
    | some a =>
      if a.stage ≠ .faulted then s
      else if sameFault a m then s.faultAcc id m.cause m.level m.va m.aux
      else match a.va, a.part with
        | some va, some p =>
          match s.modAcc id (fun x => { x with stage := .translating }) |>.acc id with
          | some a => (s.modAcc id (fun x => { x with stage := .translating })).lookup a p va (some since)
          | none => s
        | _, _ => s
    | none => s

/-- RETRY: misses whose access has gone leave the stall entry, the others walk again. (DEDUCED, log 34) -/
def State.retryStream (s : State) (st : Nat) : State :=
  let live (m : LandRec) : Bool := m.acc.elim false (fun id => (s.acc id).isSome)
  let ms := (s.stall st).misses.filter live
  let s := s.modStall st (fun x => { x with state := .retrying, misses := ms, timer := false })
  (eachOf (State.retryMiss s.trans.nextWalk) ms s).stallSettle st

/-- A write of EN_RESUME (08 R189). -/
def State.resume (s : State) (v : BitVec 32) : State :=
  let st := bits v.toNat 8 0
  match bits v.toNat 13 12 with
  | 1 => if s.resumeOk v then s.retryStream st else s.resumeStale
  | 2 => if s.resumeOk v then s.failStream st else s.resumeStale
  | _ => s.resumeStale

/-- The partition whose fault timeout governs a stream: that of its faulted misses. -/
def State.stallPart (s : State) (st : Nat) : Nat := ((s.stall st).misses.head?.map (·.part)).getD 0

/-- The fault timeout of a stream expires (08 R192). -/
def State.faultExpire (s : State) (st : Nat) : State :=
  if (s.stall st).state == .stalled && ((s.partEntry (s.stallPart st)).elim 0 (·.faultTimeout)) != 0 then s.failStream st else s

/-! ### Invalidations -/

/-- A leaf that a command covers. (DEDUCED, log 35) -/
def InvCmd.covers (c : InvCmd) (l : Leaf) : Bool :=
  match c.scope with
  | .range => l.part == c.part && overlaps l.vbase.toNat (leafSize l.level) c.va (c.pages * 2 ^ 21)
  | .partition => l.part == c.part
  | .all => true

/-- A partition that a command covers: its walk-cache entries and its walks in progress go. (DEDUCED, log 35) -/
def InvCmd.coversPart (c : InvCmd) (p : Nat) : Bool :=
  match c.scope with
  | .all => true
  | _ => p == c.part

/-- The host port that sent a command by ATS. -/
def InvSource.atsPort : InvSource → Option Nat
  | .ats n _ => some n
  | _ => none

/-- A command can be held: 16 are not, and SL-C carries one from the shore slice (01 R15; 08 R195). -/
def State.invRoom (s : State) (c : InvCmd) : Bool :=
  decide (s.inv.held.length < 16) && (c.source.atsPort.isNone || (s.linkFault .slC).isNone)

/-- Hold a command, or let it wait while 16 are held: the credit of the host port that sent it is withheld (08 R195).
(DEDUCED, log 33; DEDUCED, log 97) -/
def State.invSubmit (s : State) (c : InvCmd) : State :=
  if s.invRoom c then { s with inv := { s.inv with held := s.inv.held ++ [c] } }
  else
    let s := { s with inv := { s.inv with atsWait := s.inv.atsWait ++ [c] } }
    match c.source.atsPort with
    | some n => s.modHost n (fun h => { h with rxCredits := h.rxCredits - 1 })
    | none => s

/-- A command of other than the driver. -/
def otherInv (src : InvSource) (scope : InvScope) (p va pages : Nat) : InvCmd :=
  { source := src, ticket := 0, scope := scope, part := p, va := va, pages := pages, drain := true, taken := false,
    inFlight := [], late := false }

/-- go is written to EN_INV_CTRL (08 R195). (DESIGN CHOICE, log 116) -/
def State.invGo (s : State) (v : BitVec 32) : State :=
  let n := v.toNat
  let p := bits n 27 24
  let scope := bits n 21 20
  if !bit n 31 then s
  else if 16 ≤ s.inv.held.length then { s with inv := { s.inv with accept := 1 } }
  else if scope = 3 || (scope != 2 && !s.partExists p) || (scope == 0 && s.inv.pages == 0) then
    { s with inv := { s.inv with accept := 2 } }
  else
    let t := s.inv.issued + 1
    State.invSubmit { s with inv := { s.inv with accept := 0, issued := t } }
      { source := .driver, ticket := t, scope := (match scope with
          | 0 => .range
          | 1 => .partition
          | _ => .all),
        part := p, va := s.inv.va.toNat, pages := s.inv.pages.toNat, drain := bit n 16, taken := false, inFlight := [],
        late := false }

/-- Change the first command that has not been taken. -/
def takeFirst (f : InvCmd → InvCmd) : List InvCmd → List InvCmd
  | [] => []
  | c :: rest => if c.taken then c :: takeFirst f rest else f c :: rest

/-- Drop the entries a command covers and mark the walks in progress (08 R196; 07 R169). (DEDUCED, log 35) -/
def State.invDrop (s : State) (c : InvCmd) : State :=
  let keep (l : Leaf) : Bool := !c.covers l
  { s with trans := { s.trans with
    l1 := (s.trans.l1.map (fun e => (e.1, e.2.filter keep))).filter (fun e => !e.2.isEmpty),
    l2 := s.trans.l2.filter keep,
    walkPtrs := s.trans.walkPtrs.filter (fun w => !c.coversPart w.part),
    walks := s.trans.walks.map (fun w =>
      if c.coversPart w.part && w.walker.isSome then { w with marked := true } else w) } }

/-- The accesses in flight for a command (08 R197). -/
def State.invFlight (s : State) (c : InvCmd) : List Nat :=
  (s.accesses.filter (fun a => a.placed && (match a.leaf with
    | some l => c.covers l
    | none => false))).map (·.id)

/-- Raise the vector of EN_INV_VECTOR, which SL-C carries (01 R15). -/
def State.invVector (s : State) : State := if s.inv.vecValid && (s.linkFault .slC).isNone then s.raiseVector s.inv.vector.toNat else s

/-- The access has not reached its completion point. (DEDUCED, log 36) -/
def State.inFlightStill (s : State) (id : Nat) : Bool := (s.acc id).isSome || s.inv.unacked.any (fun e => e.1 == id)

/-- A held command has been taken and its drain is done. (DEDUCED, log 36) -/
def State.invDrained (s : State) (c : InvCmd) : Bool := c.taken && !c.inFlight.any s.inFlightStill

/-- A held command may complete: it is drained, and where it is the driver's no earlier ticket, modulo 2^32, is still held (08 R198).
(DEDUCED, log 36) -/
def State.invMay (s : State) (c : InvCmd) : Bool :=
  s.invDrained c
    && (c.source != .driver || s.inv.held.all (fun d => d.source != .driver || decide ((d.ticket - c.ticket).toNat < 2 ^ 31)))

/-- The command that may complete: the first of them (08 R198). (DEDUCED, log 36) -/
def State.invReady (s : State) : Option InvCmd := s.inv.held.find? s.invMay

/-- A command that waited is held; the credit of the host port that sent it is returned. (DEDUCED, log 33; DEDUCED, log 97) -/
def State.invRefill (s : State) : State :=
  match s.inv.atsWait with
  | c :: rest =>
    if s.invRoom c then
      let s := { s with inv := { s.inv with held := s.inv.held ++ [c], atsWait := rest } }
      match c.source.atsPort with
      | some n => (s.modHost n (fun h => { h with rxCredits := h.rxCredits + 1 })).drive (.hostCredit n 1)
      | none => s
    else s
  | [] => s

/-- A command completes (08 R198): an error record where a write was late (16 R391), its fence and vector, or the Invalidation
Completion. The allocator and a partition release go on by themselves; the host of a port that has gone is told nothing. -/
def State.invFinish (s : State) (c : InvCmd) : State :=
  let st : Status := if c.late then .timeout else .ok
  let left := s.inv.held.erase c
  let s := State.invRefill { s with inv := { s.inv with
    held := left, lastRes := st, unacked := s.inv.unacked.filter (fun e => left.any (fun c => c.inFlight.contains e.1)) } }
  let s := if c.late then
      s.record { s.errRec 3 .timeout .en 7 0 with part := if c.scope = .all then 0xFF else BitVec.ofNat 8 c.part }
    else s
  match c.source with
  | .driver =>
    let s := { s with inv := { s.inv with completed := c.ticket } }
    if s.inv.fence.toNat = 0 then s.invVector
    else s.launch (mkWrite .block .invFence none (s.localPa s.inv.fence.toNat)
      (leBytes 8 c.ticket.toNat ++ [BitVec.ofNat 8 (statusCode st)] ++ zeros 7))
  | .ats n tag =>
    State.drive { s with trans := { s.trans with atsInv := sat32 s.trans.atsInv } } (.atsInvDone n tag)
  | .free_ _ => s
  | .release => s
  | .gone => s

/-- Commands without drain that may complete do so at once (08 R198). -/
def State.invNow : Nat → State → State
  | 0, s => s
  | fuel + 1, s =>
    match s.inv.held.find? (fun c => !c.drain && s.invMay c) with
    | some c => State.invNow fuel (s.invFinish c)
    | none => s

/-- INVALIDATION_TAKEN: the oldest command not yet taken; one without drain completes when it is taken (08 R198).
(DEDUCED, log 35) -/
def State.invTake (s : State) : State :=
  match s.inv.held.find? (fun c => !c.taken) with
  | none => s
  | some c =>
    let t := s.invDrop c
    State.invNow 16 { t with inv := { t.inv with held := takeFirst (fun c => { c with
        taken := true, inFlight := if c.drain then s.invFlight c else [] }) t.inv.held } }

/-- The tracker entry of an access that ends here has no answer to wait for (11 R283). -/
def State.trackEnd (s : State) (id : Nat) : State :=
  { s with tracker := s.tracker.map (fun (e : Tracker) =>
    if e.opcode ≠ 0x10 ∧ e.opcode ≠ 0x11 ∧ e.access = id ∧ (s.acc id).isSome = true then { e with ended := true } else e) }

/-- One access in flight for a taken command reaches its deadline: it ends TIMEOUT, and its entry in the tracker with it; a write or
atomic that has been issued is late. -/
def State.invLate (id : Nat) (s : State) : State :=
  let late : Bool := match s.acc id with
    | some a => a.issued && a.kind != .read
    | none => s.inv.unacked.any (fun e => e.1 == id)
  let s := (s.trackEnd id).fail id .timeout
  let s := { s with inv := { s.inv with unacked := s.inv.unacked.filter (fun e => e.1 != id) } }
  if late then
    { s with inv := { s.inv with
      late := sat32 s.inv.late, held := s.inv.held.map (fun (c : InvCmd) => if c.inFlight.contains id then { c with late := true } else c) } }
  else s

/-- Two accesses have the same path limit: both local, or both to peers. -/
def State.samePath (s : State) (id k : Nat) : Bool :=
  let far (i : Nat) := match s.acc i with
    | some a => instOf a.pa != s.ownId
    | none => s.inv.unacked.any (fun e => e.1 == i && (match e.2 with
      | .peer _ => true
      | _ => false))
  far id == far k

/-- The deadline of an access in flight for a taken command passes (08 R199): it is that of every access in flight for the command
with the same path limit; those not issued go first, and are never issued. (DEDUCED, log 36) -/
def State.invDeadline (s : State) (id : Nat) : State :=
  match s.inv.held.find? (fun c => c.taken && c.inFlight.contains id && s.inFlightStill id) with
  | none => s
  | some c =>
    let due := c.inFlight.filter (fun k => s.inFlightStill k && s.samePath id k)
    let idle (k : Nat) := (s.acc k).elim false (fun a => !a.issued)
    eachOf State.invLate (due.filter (fun k => !idle k)) (eachOf State.invLate (due.filter idle) s)

/-! ### ATS (07 R183, R184) -/

/-- The partition that a PASID names. -/
def State.pasidPart (s : State) (pasid : BitVec 20) : Option Nat :=
  let p := pasid.toNat % 16
  if pasid.toNat < 16 ∧ s.partExists p = true then some p else none

/-- An ATS Invalidation Request of a range. (DEDUCED, log 33) -/
def State.atsInvalidate (s : State) (n : Nat) (pasid : Option (BitVec 20)) (va : BitVec 64) (len tag : Nat) : State :=
  if !(s.host n).readyOut then s else
  let lo := roundDown va.toNat (2 ^ 21)
  let pages := (roundUp (va.toNat + len) (2 ^ 21) - lo) / 2 ^ 21
  match pasid with
  | none => s.invSubmit (otherInv (.ats n tag) .all 0 0 0)
  | some x =>
    match s.pasidPart x with
    | some p => s.invSubmit (otherInv (.ats n tag) .range p lo pages)
    | none => State.drive { s with trans := { s.trans with atsInv := sat32 s.trans.atsInv } } (.atsInvDone n tag)

/-- An ATS Translation Request; a port out of service takes and drives nothing (02 R25, R30, R58). -/
def State.atsTranslate (s : State) (n : Nat) (pasid : Option (BitVec 20)) (va : BitVec 64) (tag : Nat) : State :=
  if !(s.host n).readyOut then s else
  let none_ := s.drive (.atsRsp n tag 0 21 false false false)
  match (if s.theChart.trans.answerAts then pasid.bind s.pasidPart else none) with
  | none => s.drive (.atsUr n tag)
  | some p =>
    if !s.partOn p then s.drive (.atsUr n tag)
    else if 2 ^ 57 ≤ va.toNat || !(s.root p).valid then none_
    else match s.trans.l2.find? (leafHits p va.toNat) with
      | some l => (s.countL2 true).atsAnswer n tag l
      | none => (s.countL2 false).missTo p va (.ats n tag) 316 0

/-! ### Registers -/

/-- A root whose table is not on this instance is not valid (07 R161). -/
def State.checkRoot (s : State) (r : Root) : Root := if instOf r.pa = s.ownId then r else { r with valid := false }

/-- A write of EN_ROOT_LO or EN_ROOT_HI. -/
def State.rootWrite (s : State) (p : Nat) (hi : Bool) (v : BitVec 32) : State :=
  if s.part p ≠ .disabled then s
  else
    let r := s.root p
    s.setRoot p (s.checkRoot (
      if hi then { r with pa := BitVec.ofNat 60 (bits v.toNat 27 0 * 2 ^ 32 + r.pa.toNat % 2 ^ 32) }
      else { pa := BitVec.ofNat 60 (r.pa.toNat / 2 ^ 32 * 2 ^ 32 + roundDown v.toNat 4096), valid := v.getLsbD 0 }))

/-- A host window may not be enabled: it overlaps another or a coherent window, ends beyond the local space, or its port is
not enabled (07 R177). (DEDUCED, log 32) -/
def State.hostWinBad (s : State) (k : Nat) (w : HostWin) : Bool :=
  let a := w.base.toNat <<< 30
  let n := w.size.toNat <<< 30
  [0, 1, 2, 3].any (fun j => j != k && (s.hostWin j).enable
      && overlaps a n ((s.hostWin j).base.toNat <<< 30) ((s.hostWin j).size.toNat <<< 30))
    || s.theChart.windows.any (fun c => overlaps a n c.base c.size)
    || decide (2 ^ 48 < a + n) || !s.theChart.ports.hostEnable.getLsbD (b2n w.port)

/-- A write of a host-window register. (DEDUCED, log 32) -/
def State.hostWinWrite (s : State) (k reg : Nat) (v : BitVec 32) : State :=
  if !s.allPartsDisabled then s
  else
    let w := s.hostWin k
    let n := v.toNat
    match reg with
    | 0 =>
      let w' := { w with enable := bit n 31, port := bit n 30, base := BitVec.ofNat 18 n }
      s.setHostWin k (if w'.enable && s.hostWinBad k w' then { w' with enable := false } else w')
    | 1 => s.setHostWin k { w with size := BitVec.ofNat 18 n }
    | 2 => s.setHostWin k { w with hpa := BitVec.ofNat 64 (w.hpa.toNat / 2 ^ 32 * 2 ^ 32 + roundDown n (2 ^ 30)) }
    | _ => s.setHostWin k { w with hpa := BitVec.ofNat 64 (n * 2 ^ 32 + w.hpa.toNat % 2 ^ 32) }

/-- A write of EN_LAND_CFG (08 R186): valid needs a size from 6 to 16 and, where it was clear, the LANDING feature
(05 R116). (DEDUCED, log 65) -/
def State.landCfgWrite (s : State) (p : Nat) (v : BitVec 32) : State :=
  if s.part p ≠ .disabled then s
  else
    let size := bits v.toNat 4 0
    let l := s.landing p
    let valid := v.getLsbD 31 && decide (6 ≤ size) && decide (size ≤ 16) && (l.valid || s.feature 0)
    s.setLanding p { l with sizeLog2 := BitVec.ofNat 5 size, valid := valid }

/-- A write of EN_LAND_CONS (08 R187). (DEDUCED, log 82) -/
def State.landConsWrite (s : State) (p : Nat) (v : BitVec 32) : State :=
  let l := s.landing p
  if (l.prod - l.cons).toNat < (v - l.cons).toNat then s else s.setLanding p { l with cons := v }

end Sys2Proof.Machine
end

