-- ==== Sys2Proof/Machine/Alloc.lean ====
section
/-! DEFINITION. The object allocator (06 R145-R152): writes in bulk, pools, the mapping journal, allocations and frees. -/

namespace Sys2Proof.Machine

/-! ### Writes in bulk -/

/-- One write of at most one aligned 256-byte window off the front of a list: its address, bytes, and the rest. -/
def cutChunk : List Chunk → Option (Nat × Bytes × List Chunk)
  | [] => none
  | .data a b :: rest =>
    let n := min b.length (256 - a % 256)
    if b.isEmpty then cutChunk rest
    else some (a, b.take n, if b.length = n then rest else .data (a + n) (b.drop n) :: rest)
  | .zero a len :: rest =>
    let n := min len (256 - a % 256)
    if len = 0 then cutChunk rest else some (a, zeros n, if len = n then rest else .zero (a + n) (len - n) :: rest)

/-- All the writes of a list of pieces. -/
def cutAll : Nat → List Chunk → List (Nat × Bytes)
  | 0, _ => []
  | fuel + 1, l => match cutChunk l with
    | some (a, b, rest) => (a, b) :: cutAll fuel rest
    | none => []

/-- Change one bulk job. -/
def State.modBulk (s : State) (id : Nat) (f : BulkJob → BulkJob) : State :=
  { s with alloc := { s.alloc with bulks := s.alloc.bulks.map (fun b => if b.id = id then f b else b) } }

/-- The writes are a SCRUB's. -/
def BulkOwner.isScrub : BulkOwner → Bool
  | .scrub _ => true
  | _ => false

/-- Issue the writes of a bulk job, at most 32 at a time; a scrub's only while SEC runs (05 R108). -/
def State.bulkIssue (id : Nat) : Nat → State → State
  | 0, s => s
  | fuel + 1, s =>
    match s.alloc.bulks.find? (fun b => b.id == id) with
    | none => s
    | some b =>
      if 32 ≤ b.open_ || (b.owner.isScrub && (s.core 0).state != .running) then s
      else match cutChunk b.todo with
        | none => s
        | some (a, data, rest) =>
          let s := s.modBulk id (fun b => { b with todo := rest, open_ := b.open_ + 1 })
          let w := mkWrite b.agent (.bulk id) b.part 0 data
          State.bulkIssue id fuel (match b.part with
            | some _ => s.launchVa w (BitVec.ofNat 64 a)
            | none => s.launch { w with pa := BitVec.ofNat 60 a, mc := true })

/-- Start a bulk job. (DEDUCED, log 69) -/
def State.bulkStart (s : State) (agent : Agent) (part : Option Nat) (todo : List Chunk) (owner : BulkOwner) : State :=
  let id := s.alloc.nextId
  State.bulkIssue id 33 { s with alloc := { s.alloc with
    nextId := id + 1,
    bulks := s.alloc.bulks ++ [{ id := id, agent := agent, part := part, todo := todo, open_ := 0, status := .ok, owner := owner }] } }

/-- One write of a bulk job has ended; the next is issued. -/
def State.bulkBack (s : State) (id : Nat) (st : Status) : State :=
  State.bulkIssue id 2 (s.modBulk id (fun b => { b with open_ := b.open_ - 1, status := if b.status = .ok then st else b.status }))

/-- A bulk job whose last write has ended, with the state without it. -/
def State.bulkDone (s : State) : Option (BulkJob × State) :=
  match s.alloc.bulks.find? (fun b => b.open_ == 0 && (cutChunk b.todo).isNone) with
  | some b => some (b, { s with alloc := { s.alloc with bulks := s.alloc.bulks.filter (fun x => x.id != b.id) } })
  | none => none

/-! ### The metadata region (06, ALLOC_POOL) -/

/-- Where the bitmap, the page list, the records and the page stack begin. -/
def Pool.bitmapAt (p : Pool) : Nat := p.metaBase.toNat + 0x40

/-- The page list. -/
def Pool.listAt (p : Pool) : Nat := p.metaBase.toNat + 0x40 + p.slots / 8

/-- The object records. -/
def Pool.recordsAt (p : Pool) : Nat := p.metaBase.toNat + 0x40 + 65 * p.slots / 8

/-- The page stack. -/
def Pool.stackAt (p : Pool) : Nat := p.metaBase.toNat + 0x40 + 577 * p.slots / 8

/-- The header. -/
def Pool.header (p : Pool) (part : Nat) : Bytes :=
  sealRecord (leBytes 4 0x4C4F4F50 ++ [BitVec.ofNat 8 part, 0, 0, 0] ++ leBytes 4 p.slots ++ leBytes 4 p.stack.length
    ++ leBytes 8 p.arenaBase.toNat)

/-- The bitmap byte of a slot, as it now stands. -/
def Pool.bitmapByte (p : Pool) (k : Nat) : Byte :=
  BitVec.ofNat 8 (maskOf ((List.range 8).map (fun i => p.used.contains (8 * k + i))))

/-- The write of the header. -/
def Pool.headerChunk (p : Pool) (part : Nat) : Chunk := .data p.metaBase.toNat (p.header part)

/-- The writes of the bitmap bytes that cover slots [first, first + n). -/
def Pool.bitmapChunk (p : Pool) (first n : Nat) : Chunk :=
  let lo := first / 8
  .data (p.bitmapAt + lo) ((List.range ((first + n + 7) / 8 - lo)).map (fun i => p.bitmapByte (lo + i)))

/-- The writes of the page-list entries of slots. -/
def Pool.listChunk (p : Pool) (first : Nat) (pages : List (BitVec 60)) : Chunk :=
  .data (p.listAt + 8 * first) (pages.map (fun x => leBytes 8 x.toNat)).flatten

/-- The writes of the pages on top of the stack. -/
def Pool.pushChunk (p : Pool) (n : Nat) : Chunk :=
  .data (p.stackAt + 8 * (p.stack.length - n)) ((p.stack.take n).reverse.map (fun x => leBytes 8 x.toNat)).flatten

/-- The data VA of a slot. -/
def Pool.dataVa (p : Pool) (slot : Nat) : Nat := p.arenaBase.toNat + slot * 2 ^ 21

/-- The object record of an allocation. -/
def objectRecord (p : Pool) (part : Nat) (flags : BitVec 8) (size first count : Nat) : Bytes :=
  let b := [BitVec.ofNat 8 part, flags, 0, 0] ++ leBytes 8 (p.dataVa first) ++ leBytes 8 size ++ leBytes 8 (p.listAt + 8 * first)
    ++ zeros 28
  leBytes 4 count ++ b ++ leBytes 4 (crc32c b)

/-- A reserved field of an object record is set (00 R11). -/
def recordRsv (r : Bytes) : Bool := !allZero (cut r 6 2) || !allZero (cut r 0x20 28) || byteAt r 5 >>> 3 != 0

/-- A record's crc over 0x04 to 0x3B holds. -/
def recordOk (r : Bytes) : Bool := r.length == 64 && crc32c (cut r 4 56) == fld r 60 4

/-- Free slots [a, a + n). -/
def freeRun (used : List Nat) (a n : Nat) : Bool := !used.any (fun u => inRange u a n)

/-- The lowest run of `n` free slots that begins in `from` .. `from + tries - 1`. -/
def findRun (used : List Nat) (n : Nat) : Nat → Nat → Option Nat
  | 0, _ => none
  | k + 1, a => if freeRun used a n then some a else findRun used n k (a + 1)

/-- The run an allocation takes: at or after the rotating start point, wrapping once (06 R148, step 2). (DEDUCED, log 80) -/
def Pool.run (p : Pool) (n : Nat) : Option Nat :=
  match findRun p.used n (p.slots + 1 - n - p.start) p.start with
  | some a => some a
  | none => findRun p.used n (min p.start (p.slots + 1 - n)) 0

/-! ### ALLOC_POOL (06 R146) -/

/-- The address of the L1 entry of a slot, if its table was found. -/
def AllocJob.leafAt (j : AllocJob) (p : Pool) (slot : Nat) : Option Nat :=
  let va := p.dataVa slot
  (j.tables.find? (fun t => t.1 == va / 2 ^ 30)).map (fun t => t.2.toNat + 8 * (va / 2 ^ 21 % 512))

/-- The fields of the command lie in their ranges. (DEDUCED, log 81) -/
def poolFieldsOk (b : Bytes) : Bool :=
  let slots := fld b 4 4
  decide (byteAt b 1 ≤ 3) && fld b 2 2 == 0 && fld b 0x24 4 == 0 && slots % 512 == 0 && decide (512 ≤ slots)
    && decide (slots ≤ 131072) && fld b 8 8 % 2 ^ 30 == 0 && fld b 0x10 8 % 2 ^ 21 == 0
    && decide (fld b 8 8 + slots * 2 ^ 21 ≤ 2 ^ 57) && decide (fld b 0x10 8 + 0x40 + 641 * slots / 8 ≤ 2 ^ 57)
    && fld b 0x18 8 % 8 == 0 && decide (fld b 0x18 8 < 2 ^ 48)

/-- The pages an array holds. -/
def pagesOf (b : Bytes) : List (BitVec 60) := (List.range (b.length / 8)).map (fun i => BitVec.ofNat 60 (fld b (8 * i) 8))

/-- Every page of the array is 2 MiB aligned and on this instance. -/
def State.pagesOk (s : State) (b : Bytes) : Bool :=
  (List.range (b.length / 8)).all (fun i => fld b (8 * i) 8 % 2 ^ 21 == 0 && fld b (8 * i) 8 >>> 48 == s.ownId)

/-- What reading a structure gave: its bytes, or the status of the failure; a poisoned one fails its check (16 R387).
(DEDUCED, log 73) -/
def readStatus : ReadResult → Status ⊕ Bytes
  | .ok b => .inr b
  | .poison _ => .inl .checkFail
  | .busError => .inl .busError
  | .timeout => .inl .timeout

/-- An interrupted free that had cleared no leaf: it goes on as a reclaim (06 R147). (DESIGN CHOICE, log 101) -/
def AllocJob.resumes (j : AllocJob) : Bool := j.stage == .room || j.stage == .count || j.isFree && j.stage == .tables

/-- The operations on a partition's pool that a warm reset interrupted past their first write (06 R147).
(DESIGN CHOICE, log 101) -/
def State.tornOf (s : State) (p : Nat) : List (AllocJob × Pool) :=
  s.alloc.torn.filter (fun x => x.1.part == p && !x.1.resumes)

/-- The frees of a partition's pool that ATTACH resumes: those the journal can hold (06 R147, R148). (DESIGN CHOICE, log 101) -/
def State.resumable (s : State) (p : Nat) : List AllocJob :=
  (s.alloc.torn.map (·.1)).filter (fun j => j.part == p && j.resumes && decide (j.n ≤ s.theChart.limits.journalRing))

/-- Forget what a warm reset interrupted in a partition's pool, some of it or all. (DESIGN CHOICE, log 101) -/
def State.untorn (s : State) (p : Nat) (all : Bool) : State :=
  { s with alloc := { s.alloc with torn := s.alloc.torn.filter (fun x => x.1.part != p || !all && x.1.resumes) } }

/-- ALLOC_POOL CREATE and ADD, after the command's own checks. -/
def State.poolPages (s : State) (seq : BitVec 32) (b : Bytes) (add : Bool) (pages : ReadResult) : State :=
  let p := byteAt b 0
  let count := fld b 0x20 4
  if (s.pool p).isSome != add then s.respond seq .malformed
  else match readStatus pages with
  | .inl st => s.respond seq st
  | .inr arr =>
    let l := pagesOf (arr.take (8 * count))
    if add then
      match s.pool p with
      | none => s.respond seq .malformed
      | some k =>
        if !s.pagesOk (arr.take (8 * count)) || decide (k.slots < k.stack.length + l.length) then s.respond seq .malformed
        else
          let k := { k with stack := l.reverse ++ k.stack }
          (s.setPool p (some k)).bulkStart .block (some p) [k.pushChunk l.length, k.headerChunk p] (.add seq)
    else if !s.pagesOk (arr.take (8 * count)) || decide (fld b 4 4 < l.length) then s.respond seq .malformed
    else
      let k : Pool := { arenaBase := BitVec.ofNat 64 (fld b 8 8), metaBase := BitVec.ofNat 64 (fld b 0x10 8), slots := fld b 4 4,
                        stack := l.reverse, pages := [], used := [], start := 0 }
      (s.untorn p true).bulkStart .block (some p)
        [.zero k.bitmapAt (k.stackAt - k.bitmapAt), k.pushChunk l.length, k.headerChunk p] (.create seq p k)

/-- The pool that a metadata region describes. -/
def poolOf (b r : Bytes) : Pool :=
  let slots := fld b 4 4
  let base : Pool := { arenaBase := BitVec.ofNat 64 (fld r 0x10 8), metaBase := BitVec.ofNat 64 (fld b 0x10 8), slots := slots,
                       stack := [], pages := [], used := [], start := 0 }
  let used := (List.range slots).filter (fun i => bit (byteAt r (0x40 + i / 8)) (i % 8))
  { base with
    used := used,
    pages := used.map (fun i => (i, BitVec.ofNat 60 (fld r (0x40 + slots / 8 + 8 * i) 8))),
    stack := ((List.range (fld r 0x0C 4)).map (fun i => BitVec.ofNat 60 (fld r (0x40 + 577 * slots / 8 + 8 * i) 8))).reverse }

/-- An interrupted free that had given its slots and pages up: those taken again since are another object's. -/
def AllocJob.gaveUp (j : AllocJob) : Bool := j.isFree && (j.stage == .freeing || j.stage == .journal)

/-- The slots of an interrupted operation. (DESIGN CHOICE, log 101) -/
def tornSlots (x : AllocJob × Pool) : List Nat :=
  ((List.range x.1.n).map (x.1.first + ·)).filter (fun u => !(x.1.gaveUp && x.2.used.contains u))

/-- A pool without the slots and pages of an interrupted operation, which stay lost (06 R147). (DESIGN CHOICE, log 101) -/
def Pool.lose (k : Pool) (x : AllocJob × Pool) : Pool :=
  let mine (u : Nat) : Bool := (tornSlots x).contains u
  { k with used := k.used.filter (fun u => !mine u), pages := k.pages.filter (fun e => !mine e.1),
           stack := k.stack.filter (fun a => !(x.1.pages.contains a && !(x.1.gaveUp && !x.2.stack.contains a))) }

/-! ### Ends of allocations and frees -/

/-- Change one job. -/
def State.modJob (s : State) (id : Nat) (f : AllocJob → AllocJob) : State :=
  { s with alloc := { s.alloc with jobs := s.alloc.jobs.map (fun j => if j.id = id then f j else j) } }

/-- A job of a name. -/
def State.job (s : State) (id : Nat) : Option AllocJob := s.alloc.jobs.find? (fun j => j.id == id)

/-- Give back reserved journal entries. -/
def State.unreserve (s : State) (n : Nat) : State := { s with alloc := { s.alloc with reserved := s.alloc.reserved - n } }

/-- The bytes of a request at an address that stay below the next aligned 512-byte boundary (02 R42). -/
def within512 (addr len : Nat) : Nat := min len (512 - addr % 512)

/-- One write burst of an ALLOC descriptor's answer. -/
def State.allocWrite (s : State) (c addr : Nat) (b : Bytes) : State :=
  if b.isEmpty then s
  else (s.holdTake (quotaOf (s.chanPart c)) 256).chanAccess c (mkWrite (.channel c) (.writeBurst c) none 0 b) (BitVec.ofNat 64 addr)

/-- The data VA goes to DST, in two bursts across a boundary that no request crosses (06 R148, step 7; 02 R42). -/
def State.allocWrites (s : State) (c addr : Nat) (b : Bytes) : State :=
  let n := within512 addr b.length
  (s.allocWrite c addr (b.take n)).allocWrite c (addr + n) (b.drop n)

/-- A job ends: the descriptor or the request that asked is told (06 R148, step 7; 09 R226). -/
def State.jobEnd (s : State) (j : AllocJob) (st : Status) : State :=
  let s := { s with alloc := { s.alloc with jobs := s.alloc.jobs.filter (fun x => x.id != j.id) } }
  let va := ((s.pool j.part).map (fun k => k.dataVa j.first)).getD 0
  match j.asker with
  | .gone => s
  | .attach seq => if s.alloc.jobs.any (fun x => x.asker == .attach seq) then s else s.respond seq .ok
  | .engine e tag => s.engEnd e tag st (if st = .ok ∧ j.isFree = false then BitVec.ofNat 60 va else 0) 0
  | .channel c =>
    match (s.chan c).run with
    | none => s
    | some r =>
      if st ≠ .ok then s.endEarly c st
      else if j.isFree then s.workDone c
      else (s.workDone c).allocWrites c (dDst r.words) (leBytes 8 va)

/-- A job that has reserved room ends with a failure. -/
def State.jobFail (s : State) (j : AllocJob) (st : Status) : State := (s.unreserve j.n).jobEnd j st

/-! ### The mirror table under the arena -/

/-- The GiB regions of the VA space that slots [first, first + n) touch. -/
def Pool.regions (p : Pool) (first n : Nat) : List Nat :=
  let lo := p.dataVa first / 2 ^ 30
  let hi := p.dataVa (first + n - 1) / 2 ^ 30
  (List.range (hi + 1 - lo)).map (lo + ·)

/-- Read the entry of a search for the L1 table of region `g`. -/
def State.seekRead (s : State) (id g level : Nat) (table : BitVec 60) : State :=
  let idx := (g * 2 ^ 30) >>> (21 + 9 * (level - 1)) % 512
  s.launch (mkAccess .block (.table id) .read none (BitVec.ofNat 60 (table.toNat + 8 * idx)) 8)

/-- Search the L1 table of the next region still to be found. -/
def State.seekNext (s : State) (j : AllocJob) : State :=
  match j.todo with
  | [] => s
  | g :: _ =>
    if (s.root j.part).valid then
      (s.modJob j.id (fun j => { j with seek := (4, (s.root j.part).pa) })).seekRead j.id g 4 (s.root j.part).pa
    else s.modJob j.id (fun j => { j with todo := j.todo.tail })

/-- The L1 leaf of a page (06 R148, step 4; 07 R164). -/
def leafEntry (flags : BitVec 8) (pa : BitVec 60) : Bytes :=
  let v := 7 + 8 * b2n (flags.getLsbD 0) + 16 * b2n (flags.getLsbD 1) + pa.toNat / 2 ^ 21 * 2 ^ 9
  leBytes 7 v ++ [BitVec.ofNat 8 (crc8 (leBytes 7 v))]

/-- The leaves of an object: physical writes of their entries. -/
def AllocJob.leafChunks (j : AllocJob) (p : Pool) (entry : Nat → Bytes) : List Chunk :=
  (List.range j.n).filterMap (fun i => (j.leafAt p (j.first + i)).map (fun a => Chunk.data a (entry i)))

/-! ### Stages -/

/-- n pages for a size. -/
def pagesFor (size : Nat) : Nat := (size + 2 ^ 21 - 1) / 2 ^ 21

/-- Journal room for `n` more entries. -/
def State.journalRoom (s : State) (n : Nat) : Bool :=
  decide ((s.alloc.jnlProd - s.alloc.jnlCons).toNat + s.alloc.reserved + n ≤ s.theChart.limits.journalRing)

/-- Reserve journal entries. -/
def State.reserve (s : State) (n : Nat) : State := { s with alloc := { s.alloc with reserved := s.alloc.reserved + n } }

/-- Steps 2 and 3 of an allocation: slots, pages, and the zeroing that a management-class channel does. (DEDUCED, log 80) -/
def State.allocPlace (s : State) (j : AllocJob) : State :=
  match s.pool j.part with
  | none => s.jobFail j .quota
  | some p =>
    if p.stack.length < j.n then s.jobFail j .quota
    else match p.run j.n with
      | none => s.jobFail j .quota
      | some a =>
        let pages := p.stack.take j.n
        let p' := { p with stack := p.stack.drop j.n, used := p.used ++ (List.range j.n).map (a + ·), start := (a + j.n) % p.slots,
                           pages := p.pages ++ ((List.range j.n).map (a + ·)).zip pages }
        let s := s.setPool j.part (some p')
        let s := s.modJob j.id (fun j => { j with first := a, pages := pages, stage := .zero, todo := p.regions a j.n })
        s.bulkStart (.channel 62) none
          (if j.flags.getLsbD 2 then pages.map (fun x => Chunk.zero x.toNat (2 ^ 21)) else []) (.alloc j.id)

/-- The update of an object's count: the amount is subtracted indivisibly where it is not larger (06 R151, steps 4 and 5). -/
def countOp (amount : Nat) : AtomicOp := { subop := 0x80, size := 4, operand := BitVec.ofNat 64 amount, swap := 0 }

/-- Step 4 of a free. -/
def State.freeCount (s : State) (j : AllocJob) : State :=
  let ag : Agent := match j.asker with
    | .channel c => .channel c
    | .engine e tag =>
      .engine e (((s.engReqs.find? (fun r => r.port == e && r.rq.tag == tag)).map (fun r => r.rq.stream.toNat)).getD 0)
    | _ => .block
  let a := { mkAccess ag (.count j.id) .atomic (some j.part) 0 4 with op := some (countOp j.amount) }
  let s := s.modJob j.id (fun j => { j with stage := .count })
  if j.phys then s.launch { a with pa := j.recVa.truncate 60, mc := true, part := none } else s.launchVa a j.recVa

/-- Step 1 has its room: the job goes on. -/
def State.jobGo (s : State) (j : AllocJob) : State :=
  let s := s.reserve j.n
  if j.isFree then s.freeCount j else s.allocPlace j

/-- Step 1 of a job. -/
def State.jobStep1 (s : State) (j : AllocJob) : State :=
  match s.pool j.part with
  | none => s.jobEnd j .quota
  | some p =>
    if (j.isFree = false ∧ p.stack.length < j.n) ∨ s.theChart.limits.journalRing < j.n then s.jobEnd j .quota
    else if s.journalRoom j.n then s.jobGo j
    else s.modJob j.id (fun j => { j with stage := .room })

/-- A new job. -/
def State.jobNew (s : State) (asker : AllocAsker) (part : Nat) (isFree : Bool) (size : Nat) (flags : BitVec 8) (recVa : BitVec 64)
    (phys : Bool) (amount first : Nat) : State :=
  let id := s.alloc.nextId
  let j : AllocJob := { id := id, asker := asker, part := part, isFree := isFree, size := size, flags := flags, recVa := recVa,
                        phys := phys, amount := amount, n := pagesFor size, first := first, pages := [], stage := .slow, todo := [],
                        tables := [], seek := (0, 0), left := 0, status := .ok }
  let s := { s with alloc := { s.alloc with nextId := id + 1, jobs := s.alloc.jobs ++ [j] } }
  if isFree = false ∧ 64 < j.n then s else s.jobStep1 j

/-- An allocation (06 R148); more than 64 pages wait for HARBOUR. (DEDUCED, log 69) -/
def State.allocNew (s : State) (asker : AllocAsker) (part size : Nat) (flags : BitVec 8) : State :=
  s.jobNew asker part false size flags 0 false 0 0

/-- A free or a release has read its record (06 R151, steps 1 and 2), which is checked. `work` is the partition of the work, none
for the management class. (DEDUCED, log 82) -/
def State.freeNew (s : State) (asker : AllocAsker) (work : Option Nat) (r : Bytes) (recVa : BitVec 64) (amount : Nat) :
    Status ⊕ State :=
  let part := byteAt r 4
  if !recordOk r then .inl .checkFail
  else if work.elim false (· != part) then .inl .permission
  else match s.pool part with
    | none => .inl .quota
    | some p =>
      let va := fld r 8 8
      let slot := (va - p.arenaBase.toNat) / 2 ^ 21
      let n := pagesFor (fld r 0x10 8)
      if recordRsv r || va < p.arenaBase.toNat || n == 0 || !((List.range n).all (fun i => p.used.contains (slot + i))) then
        .inl .malformed
      else .inr (s.jobNew asker part true (fld r 0x10 8) 0 recVa work.isNone amount slot)

/-- The read of an object's record, or of its first part where it crosses a boundary that no request crosses (02 R42). -/
def recordRead (ag : Agent) (who : AllocAsker) (amount : Nat) (part : Option Nat) (addr : Nat) : Access :=
  mkAccess ag (.freeRecord who amount) .read part 0 (within512 addr 64)

/-- Read the rest of a record behind its first part. -/
def State.recordRest (s : State) (a : Access) (d : Bytes) : State :=
  let b := { mkAccess a.agent a.purpose .read a.part (a.pa + BitVec.ofNat 60 d.length) (64 - d.length) with data := d, mc := a.mc }
  match a.va with
  | some v => s.launchVa b (v + BitVec.ofNat 64 d.length)
  | none => s.launch b

/-- The read of a record has ended: its error ends the descriptor or the request, as a poisoned record fails its check (16 R387);
else the free goes on, after a second read where the record crosses a boundary. -/
def State.freeBack (s : State) (a : Access) (who : AllocAsker) (amount : Nat) (res : AccResult) : State :=
  let work := if a.mc then none else a.part
  let d := a.data ++ res.data
  let recVa := a.va.getD (a.pa.setWidth 64) - BitVec.ofNat 64 a.data.length
  match (if res.status ≠ .ok then Sum.inl res.status else if res.bad then Sum.inl .checkFail
      else if d.length < 64 then Sum.inr (s.recordRest a d)
      else s.freeNew who work d recVa amount) with
  | .inr t => t
  | .inl st => match who with
    | .channel c => s.endEarly c st
    | .engine e tag => s.engEnd e tag st 0 0
    | _ => s

/-! ### ALLOC_POOL ATTACH and DETACH (06 R146, R147) -/

/-- ATTACH has its pool: the frees that it resumes go on as reclaims, and it answers when the last of them ends (06 R147).
(DESIGN CHOICE, log 101) -/
def State.attachEnd (s : State) (seq : BitVec 32) (p : Nat) (k : Pool) (st : Status) : State :=
  if st ≠ .ok then s.respond seq st
  else
    let t := (s.setPool p (some k)).untorn p true
    if s.resumable p = [] then t.respond seq .ok
    else eachOf (fun (j : AllocJob) u => u.jobNew (.attach seq) p true j.size 0 j.recVa j.phys 0 j.first) (s.resumable p) t

/-- ALLOC_POOL ATTACH. What a warm reset interrupted is mended first (06 R147). (DESIGN CHOICE, log 101) -/
def State.poolAttach (s : State) (seq : BitVec 32) (b : Bytes) (region : ReadResult) : State :=
  let p := byteAt b 0
  if (s.pool p).isSome then s.respond seq .malformed
  else match readStatus region with
    | .inl st => s.respond seq st
    | .inr r =>
      if crc32c (r.take 60) ≠ fld r 60 4 ∨ fld r 0 4 ≠ 0x4C4F4F50 ∨ byteAt r 4 ≠ p ∨ fld r 8 4 ≠ fld b 4 4 then
        s.respond seq .checkFail
      else if !allZero (cut r 5 3) || !allZero (cut r 0x18 36) then s.respond seq .malformed
      else if s.tornOf p = [] then s.attachEnd seq p (poolOf b r) .ok
      else
        let k := poolOf b r
        s.bulkStart .block none ((s.tornOf p).flatMap (fun x =>
          (tornSlots x).filterMap (fun u => (x.1.leafAt k u).map (fun a => Chunk.data a (zeros 8)))))
          (.mend seq p ((s.tornOf p).foldl Pool.lose k))

/-- The leaves of torn operations are cleared: their slots and pages leave the metadata, and the pool is attached (06 R147). -/
def State.poolMend (s : State) (seq : BitVec 32) (p : Nat) (k : Pool) (st : Status) : State :=
  if st ≠ .ok then s.respond seq st
  else
    let ts := s.tornOf p
    (s.untorn p false).bulkStart .block (some p)
      (ts.flatMap (fun x => [k.bitmapChunk x.1.first x.1.n, k.listChunk x.1.first ((List.range x.1.n).map (fun i =>
        tabGet 0 k.pages (x.1.first + i)))]) ++ [k.pushChunk k.stack.length, k.headerChunk p]) (.attach seq p k)

/-- ALLOC_POOL DETACH. -/
def State.poolDetach (s : State) (seq : BitVec 32) (b : Bytes) : State :=
  let p := byteAt b 0
  match s.pool p with
  | none => s.respond seq .malformed
  | some k => if k.used.isEmpty then ((s.untorn p true).setPool p none).respond seq .ok else s.respond seq .permission

/-- ALLOC_POOL: the checks that every action shares, then the action (06 R146; 05 R116). (DEDUCED, log 81) -/
def State.allocPool (s : State) (e : CmdEntry) (action : Nat) (data : ReadResult) : State :=
  let b := padTo e.payload 52
  if !s.feature 8 || !s.partExists (byteAt b 0) || !poolFieldsOk b || byteAt b 1 != action then
    s.respond e.seq .malformed
  else match action with
    | 0 => s.poolPages e.seq b false data
    | 1 => s.poolPages e.seq b true data
    | 2 => s.poolAttach e.seq b data
    | _ => s.poolDetach e.seq b

/-- ALLOCATOR_SLOW_PATH: HARBOUR takes the oldest allocation of more than 64 pages. -/
def State.slowPath (s : State) : State :=
  if !s.harbour then s
  else match s.alloc.jobs.find? (fun j => j.stage == .slow) with
    | some j => s.jobStep1 j
    | none => s

/-- JOURNAL_ROOM: the oldest job waiting for room goes on if there is room for it. -/
def State.roomFreed (s : State) : State :=
  match s.alloc.jobs.find? (fun j => j.stage == .room) with
  | some j => if s.journalRoom j.n then s.jobGo j else s
  | none => s

/-- wait_limit has passed for a job that waits for room. -/
def State.roomExpired (s : State) (who : AllocAsker) : State :=
  if s.theChart.limits.waitLimit = 0 then s
  else match s.alloc.jobs.find? (fun j => j.stage == .room && j.asker == who) with
    | some j => s.jobEnd j .timeout
    | none => s

/-! ### The journal (06 R149) -/

/-- The runs of a long consecutive span in ascending VA order, each but the last of 65,535 pages. -/
def splitRuns : Nat → List (Nat × BitVec 60) → List (Nat × BitVec 60 × Nat)
  | 0, _ => []
  | _, [] => []
  | fuel + 1, (i, x) :: rest =>
    let n := runLen 65534 i x rest
    (i, x, n + 1) :: splitRuns fuel (rest.drop n)
where
  /-- How many of the next pages continue the run. -/
  runLen : Nat → Nat → BitVec 60 → List (Nat × BitVec 60) → Nat
    | 0, _, _, _ => 0
    | _, _, _, [] => 0
    | k + 1, i, x, (m, y) :: rest => if m = i + 1 ∧ y.toNat = x.toNat + 2 ^ 21 then 1 + runLen k m y rest else 0

/-- The bytes of a journal record. -/
def journalRecord (r : JnlRec) (seq : BitVec 32) : Bytes :=
  let b := [BitVec.ofNat 8 (if r.map then 1 else 2), BitVec.ofNat 8 r.part] ++ leBytes 2 r.pages ++ leBytes 4 seq.toNat ++ leBytes 8 r.va
    ++ leBytes 8 r.pa.toNat ++ zeros 4
  b ++ leBytes 4 (crc32c b)

/-- Write the oldest waiting journal record to its slot, under the number that follows the last one written. -/
def State.jnlWrite (s : State) : State :=
  match s.alloc.jnlQueue with
  | r :: _ =>
    if s.alloc.jnlBusy || s.theChart.limits.journalRing == 0 then s
    else
      let slot := s.alloc.jnlProd.toNat % s.theChart.limits.journalRing
      State.launch { s with alloc := { s.alloc with jnlBusy := true } }
        (mkWrite .block .journal none (s.localPa (s.alloc.jnlBase.toNat + 32 * slot)) (journalRecord r s.alloc.jnlSeq))
  | [] => s

/-- The records of a job wait for the journal; what it had reserved beyond them is given back. -/
def State.jnlPush (s : State) (j : AllocJob) (map : Bool) : State :=
  match s.pool j.part with
  | none => s.jobFail j .quota
  | some p =>
    let runs := splitRuns (j.n + 1) (((List.range j.n).map (j.first + ·)).zip j.pages)
    let recs := runs.map (fun x => { map := map, part := j.part, pages := x.2.2, va := p.dataVa x.1, pa := x.2.1, job := j.id : JnlRec })
    let s := s.unreserve (j.n - runs.length)
    let s := s.modJob j.id (fun j => { j with stage := .journal, left := runs.length })
    State.jnlWrite { s with alloc := { s.alloc with jnlQueue := s.alloc.jnlQueue ++ recs } }

/-- The record of an object is zeroed last (06 R151). -/
def State.zeroRecord (s : State) (j : AllocJob) : State :=
  (s.modJob j.id (fun j => { j with stage := .record })).bulkStart .block (if j.phys then none else some j.part)
    [.zero j.recVa.toNat 64] (.alloc j.id)

/-- A journal record's write has ended: the producer and the sequence advance, the vector is raised, and a job whose records are all written goes
on. A failed one is not retried and its slot is written again. (DESIGN CHOICE, log 114) -/
def State.jnlBack (s : State) (st : Status) : State :=
  match s.alloc.jnlQueue with
  | [] => s
  | r :: rest =>
    let id := r.job
    let ok := st == .ok
    let s := { s with alloc := { s.alloc with
      jnlQueue := rest, jnlBusy := false, reserved := s.alloc.reserved - 1,
      jnlProd := if ok then s.alloc.jnlProd + 1 else s.alloc.jnlProd, jnlSeq := if ok then s.alloc.jnlSeq + 1 else s.alloc.jnlSeq } }
    let s := if ok && s.alloc.jnlVecOn then s.raiseVector s.alloc.jnlVector.toNat else s
    let s := (s.modJob id (fun j => { j with left := j.left - 1, status := if j.status = .ok then st else j.status })).jnlWrite
    match s.job id with
    | none => s
    | some j =>
      if j.left ≠ 0 then s
      else if j.isFree then s.zeroRecord j
      else s.jobEnd j j.status

/-- The driver's consumer index (06 R149). (DEDUCED, log 82) -/
def State.jnlConsWrite (s : State) (v : BitVec 32) : State := { s with alloc := { s.alloc with jnlCons := v } }

/-! ### Going on -/

/-- Every L1 table that could be found has been: leaves are written, or cleared (06 R148, steps 4 and 5; R151); where one is missing the
pages go back to the stack, in memory too. (DEDUCED, log 80) -/
def State.tablesFound (s : State) (j : AllocJob) : State :=
  match s.pool j.part with
  | none => s.jobFail j .quota
  | some p =>
    if j.isFree then
      (s.modJob j.id (fun j => { j with stage := .writing })).bulkStart .block none (j.leafChunks p (fun _ => zeros 8)) (.alloc j.id)
    else if !(p.regions j.first j.n).all (fun g => j.tables.any (fun t => t.1 == g)) then
      let p' := { p with stack := j.pages ++ p.stack, used := p.used.filter (fun u => !inRange u j.first j.n),
                         pages := p.pages.filter (fun e => !inRange e.1 j.first j.n) }
      ((s.setPool j.part (some p')).modJob j.id (fun j =>
          { j with stage := .undo, status := if j.status = .ok then .malformed else j.status })).bulkStart .block (some j.part)
        [p'.pushChunk j.n, p'.headerChunk j.part] (.alloc j.id)
    else
      (s.modJob j.id (fun j => { j with stage := .writing })).bulkStart .block none
        (j.leafChunks p (fun i => leafEntry j.flags (j.pages.getD i 0))) (.alloc j.id)

/-- The entry read of a search has come back: go down, or note that the table is missing. -/
def State.seekBack (s : State) (id : Nat) (res : AccResult) : State :=
  match s.job id with
  | none => s
  | some j =>
    match j.todo with
    | [] => s
    | g :: rest =>
      let on (s : State) : State :=
        match s.job id with
        | some j => if j.todo.isEmpty then s.tablesFound j else s.seekNext j
        | none => s
      if res.status ≠ .ok then on (s.modJob id (fun j => { j with todo := rest, status := res.status }))
      else
        let e := leNat res.data
        let t := bits e 55 8 * 4096
        let good := !res.poison.any (· == true) && crc8 (leBytes 7 e) == e >>> 56 && bit e 0 && !bit e 1 && e &&& 0xFC == 0
          && t >>> 48 == s.ownId
        if !good then on (s.modJob id (fun j => { j with todo := rest }))
        else if j.seek.1 = 2 then
          on (s.modJob id (fun j => { j with todo := rest, tables := j.tables ++ [(g, BitVec.ofNat 60 t)] }))
        else
          (s.modJob id (fun j => { j with seek := (j.seek.1 - 1, BitVec.ofNat 60 t) })).seekRead id g (j.seek.1 - 1)
            (BitVec.ofNat 60 t)

/-- Find the tables of a job, or go on at once where no root is set. -/
def State.seekStart (s : State) (j : AllocJob) : State :=
  if (s.root j.part).valid && !j.todo.isEmpty then s.seekNext j else s.tablesFound { j with todo := [] }

/-- The count has been updated (06 R151, steps 4 to 6). -/
def State.countBack (s : State) (id : Nat) (res : AccResult) : State :=
  match s.job id with
  | none => s
  | some j =>
    let old := fld res.data 0 4
    if res.status ≠ .ok then s.jobFail j res.status
    else if old < j.amount then s.jobFail j .malformed
    else if j.amount = 0 ∧ old ≠ 0 then s.jobFail j .permission
    else if old ≠ j.amount then (s.unreserve j.n).jobEnd j .ok
    else match s.pool j.part with
      | none => s.jobFail j .quota
      | some p =>
        let pages := (List.range j.n).map (fun i => tabGet 0 p.pages (j.first + i))
        let s := s.modJob id (fun j => { j with stage := .tables, pages := pages, todo := p.regions j.first j.n })
        match s.job id with
        | some j => s.seekStart j
        | none => s

/-- The writes of a job's stage have ended. (DEDUCED, log 80; DESIGN CHOICE, log 114) -/
def State.jobWritten (s : State) (id : Nat) (st : Status) : State :=
  match s.job id with
  | none => s
  | some j =>
    if j.stage = .undo then s.jobFail j j.status
    else if st ≠ .ok && j.stage != .record then s.jobFail j st
    else match s.pool j.part with
      | none => s.jobFail j .quota
      | some p =>
        match j.stage with
        | .zero => (s.modJob id (fun j => { j with stage := .tables })).seekStart { j with stage := .tables }
        | .writing =>
          if j.isFree then
            (s.modJob id (fun j => { j with stage := .drain })).invSubmit
              (otherInv (.free_ id) .range j.part (p.dataVa j.first) j.n)
          else
            (s.modJob id (fun j => { j with stage := .freeing })).bulkStart .block (some j.part)
              [p.headerChunk j.part, p.listChunk j.first j.pages,
               .data (p.recordsAt + 64 * j.first) (objectRecord p j.part j.flags j.size j.first 1), p.bitmapChunk j.first j.n]
              (.alloc id)
        | .freeing => s.jnlPush j (!j.isFree)
        | .record => s.jobEnd j (if st = .ok then j.status else st)
        | _ => s

/-- The drain of a free's invalidation is done: bitmap, page list, stack (06 R151). (DESIGN CHOICE, log 114) -/
def State.freeDrained (s : State) (id : Nat) : State :=
  match s.job id with
  | none => s
  | some j =>
    match s.pool j.part with
    | none => s.jobFail j .quota
    | some p =>
      let p' := { p with stack := j.pages.reverse ++ p.stack, used := p.used.filter (fun u => !inRange u j.first j.n),
                         pages := p.pages.filter (fun e => !inRange e.1 j.first j.n) }
      ((s.setPool j.part (some p')).modJob id (fun j => { j with stage := .freeing })).bulkStart .block (some j.part)
        [p'.bitmapChunk j.first j.n, p'.listChunk j.first (List.replicate j.n 0), p'.pushChunk j.n, p'.headerChunk j.part]
        (.alloc id)

/-! ### Descriptors (09 R223; 06 R148, R151) -/

/-- ALLOC. -/
def State.beginAlloc (s : State) (c : Nat) : State :=
  if !s.mayBegin c 11 then s
  else match (s.chan c).run, s.chanPart c with
    | some r, some p =>
      ((s.modRun c (fun r => { r with phase := .sending })).markStart c).allocNew (.channel c) p
        (bits (dOperand r.words) 47 0) (BitVec.ofNat 8 (bits (dOperand r.words) 55 48))
    | _, _ => s

/-- RELEASE reads the record (06 R151, step 1). -/
def State.beginRelease (s : State) (c : Nat) : State :=
  if !s.mayBegin c 12 then s
  else match (s.chan c).run with
    | some r =>
      (s.modRun c (fun r => { r with phase := .sending })).chanAccess c
        (recordRead (.channel c) (.channel c) (bits (dOperand r.words) 31 0) none (dSrc r.words))
        (BitVec.ofNat 64 (dSrc r.words))
    | none => s

end Sys2Proof.Machine
end

