-- ==== Sys2Proof/Machine/Chart.lean ====
section
/-! DEFINITION. The chart (04): its sections, the checks of R87 in their order, and the chart that an image holds. Functions of
bytes only; delivery and acceptance stand in Sys2Proof/Machine/Start.lean. -/

namespace Sys2Proof.Machine

/-- A section found in an image: its type and version bytes, the offset of its header, count and length (04, section header). -/
structure ChartSec where
  ty    : Nat
  ver   : Nat
  pos   : Nat
  count : Nat
  len   : Nat
  deriving DecidableEq, Repr, Inhabited

/-- Where the body starts. -/
def ChartSec.body (k : ChartSec) : Nat := k.pos + 16

/-- The sections from an offset on, as far as a section header fits. (DEDUCED, log 77) -/
def walkSections (b : Bytes) : Nat → Nat → List ChartSec
  | 0, _ => []
  | n + 1, pos =>
    if b.length < pos + 16 then []
    else
      let len := fld b (pos + 4) 4
      { ty := byteAt b pos, ver := byteAt b (pos + 1), pos := pos, count := fld b (pos + 2) 2, len := len }
        :: walkSections b n (pos + 16 + len)

/-- The sections of an image. At most one in each 16 bytes. (DEDUCED, log 77) -/
def sectionsOf (b : Bytes) : List ChartSec := walkSections b (b.length / 16) 64

/-- A condition that must hold, with the section type and the offset that a failure reports. -/
abbrev ChartReq := Bool × Nat × Nat

/-- The first condition of a list that does not hold. (DESIGN CHOICE, log 108) -/
def firstFail : List ChartReq → Option (Nat × Nat)
  | [] => none
  | (ok, at_) :: rest => if ok then firstFail rest else some at_

/-! ### Checks 1 to 11 (04 R80, R86, R87, R92) -/

/-- The image is marked as a seed. -/
def isSeed (b : Bytes) : Bool := bit (byteAt b 0x11) 0

/-- The section types a seed carries. -/
def seedTypes : List Nat := [1, 2, 0x0A, 0x0B]

/-- The section types a full chart must carry. -/
def fullTypes : List Nat := [1, 2, 3, 4, 5, 6, 0x0A, 0x0B, 0x0C, 0x0D, 0x0E]

/-- Check 1. -/
def chkMagic (b : Bytes) : List ChartReq := [(fld b 0 4 == 0x54524843, 0, 0)]

/-- Check 2. -/
def chkFormat (b : Bytes) : List ChartReq :=
  (fld b 4 2 == 1, 0, 4) :: (sectionsOf b).map (fun k => (k.ver == 1, k.ty, k.pos + 1))

/-- Check 3: min_release is not later than 1.2. -/
def chkRelease (b : Bytes) : List ChartReq := [(decide (fld b 0x0A 2 ≤ 0x0102), 0, 8)]

/-- The end of the last section found. -/
def sectionsEnd (b : Bytes) : Nat := ((sectionsOf b).getLast?.map (fun k => k.body + k.len)).getD 64

/-- Check 4: the length is in range, is what was delivered, and is the sum of the sections. (DEDUCED, log 77) -/
def chkLength (b : Bytes) (overLong : Bool) : List ChartReq :=
  let n := fld b 0x0C 4
  [(decide (64 ≤ n) && decide (n ≤ 65536) && n % 8 == 0 && n == b.length && !overLong && sectionsEnd b == n, 0, 0x0C)]

/-- Check 5. -/
def chkHeaderCrc (b : Bytes) : List ChartReq := [(crc32c (b.take 0x3C) == fld b 0x3C 4, 0, 0x3C)]

/-- The types rise strictly, are known, and a seed carries only its own. -/
def orderReqs (seed : Bool) : Nat → List ChartSec → List ChartReq
  | _, [] => []
  | last, k :: rest =>
    (decide (last < k.ty) && decide (k.ty ≤ 0x0F) && (!seed || seedTypes.contains k.ty || k.ty == 0x0F), k.ty, k.pos)
      :: orderReqs seed k.ty rest

/-- Check 6. (DEDUCED, log 77) -/
def chkOrder (b : Bytes) : List ChartReq :=
  (fld b 6 2 == (sectionsOf b).length && decide (1 ≤ fld b 6 2), 0, 6) :: orderReqs (isSeed b) 0 (sectionsOf b)

/-- Check 7. (DESIGN CHOICE, log 108) -/
def chkMissing (b : Bytes) : List ChartReq :=
  (if isSeed b then seedTypes else fullTypes).map (fun t => ((sectionsOf b).any (fun k => k.ty == t), t, 0))

/-- Check 8: a section's crc covers bytes 0x00 to 0x0B of its header and its body. -/
def chkSectionCrc (b : Bytes) : List ChartReq :=
  (sectionsOf b).map (fun k => (crc32c (cut b k.pos 12 ++ cut b k.body k.len) == fld b (k.pos + 0x0C) 4, k.ty, k.pos + 0x0C))

/-- The least and greatest count of a section type, the size of an entry and of the fixed part. -/
def sectionShape (t : Nat) : Nat × Nat × Nat × Nat :=
  match t with
  | 0x01 => (0, 0, 0, 16)
  | 0x02 => (0, 0, 0, 8)
  | 0x03 => (1, 16, 32, 0)
  | 0x04 => (16, 16, 8, 8)
  | 0x05 => (64, 64, 8, 8)
  | 0x06 => (0, 0, 0, 168)
  | 0x07 => (0, 64, 32, 0)
  | 0x08 => (0, 1024, 16, 0)
  | 0x09 => (0, 32, 64, 0)
  | 0x0A => (4096, 4096, 0, 2048)
  | 0x0B => (0, 0, 0, 80)
  | 0x0C => (0, 0, 0, 32)
  | 0x0D => (4, 4, 8, 8)
  | 0x0E => (0, 0, 0, 16)
  | _ => (0, 0, 0, 192)

/-- Check 9. -/
def chkSectionLength (b : Bytes) : List ChartReq :=
  (sectionsOf b).flatMap (fun k =>
    let sh := sectionShape k.ty
    [(decide (sh.1 ≤ k.count) && decide (k.count ≤ sh.2.1), k.ty, k.pos + 2),
     (k.len == k.count * sh.2.2.1 + sh.2.2.2, k.ty, k.pos + 4)])

/-- The section of a type. -/
def secOf (b : Bytes) (t : Nat) : Option ChartSec := (sectionsOf b).find? (fun k => k.ty == t)

/-- A key hashes to a 384-bit fuse or ROM value. The value's most significant byte is the digest's first. (DEDUCED, log 27) -/
def keyHashOk (key : Bytes) (h : BitVec 384) : Bool := beNat (sha384 (0x04 :: key)) == h.toNat

/-- Check 10: the signature, where the chart has one (R86). -/
def chkSignature (b : Bytes) (keyHash : BitVec 384) : List ChartReq :=
  match secOf b 0x0F with
  | none => []
  | some k =>
    [(keyHashOk (cut b k.body 96) keyHash, 0x0F, k.body),
     (ecdsaVerify (cut b k.body 96) (sha384 (b.take k.pos)) (cut b (k.body + 0x60) 96), 0x0F, k.body + 0x60)]

/-- Check 11. (DESIGN CHOICE, log 108) -/
def chkUnsigned (b : Bytes) (unsignedOk : Bool) : List ChartReq := [((secOf b 0x0F).isSome || unsignedOk, 0, 0)]

/-! ### Check 12: reserved bytes and bits -/

/-- `n` bytes at an offset of a section are zero. -/
def zeroAt (b : Bytes) (t off n : Nat) : ChartReq := (allZero (cut b off n), t, off)

/-- The bits of a byte from `lo` up are zero. -/
def zeroBits (b : Bytes) (t off lo : Nat) : ChartReq := (decide (byteAt b off < 2 ^ lo), t, off)

/-- The reserved places of a section; its header's come first. -/
def reservedOf (b : Bytes) (k : ChartSec) : List ChartReq :=
  let p := k.body
  let z (off n : Nat) : ChartReq := zeroAt b k.ty (p + off) n
  let zb (off lo : Nat) : ChartReq := zeroBits b k.ty (p + off) lo
  zeroAt b k.ty (k.pos + 8) 4 :: (match k.ty with
    | 0x01 => [zb 0x09 2, zb 0x0A 2, zb 0x0B 4, zb 0x0D 4, z 0x0E 2]
    | 0x02 => [zb 0x04 1, z 0x05 3]
    | 0x03 => (List.range k.count).flatMap (fun i => [zb (32 * i + 1) 1, z (32 * i + 0x18) 8])
    | 0x04 => (List.range 16).map (fun i => z (8 * i + 4) 4) ++ [z 0x84 4]
    | 0x05 => z 0x04 4 :: (List.range 64).flatMap (fun c => [zb (8 * c + 9) 1, z (8 * c + 0x0C) 4])
    | 0x06 => [zb 0x01 1, z 0x02 6]
    | 0x07 => (List.range k.count).flatMap (fun i =>
        [zb (32 * i + 3) 1, z (32 * i + 4) 4, z (32 * i + 0x0E) 2, z (32 * i + 0x18) 8])
    | 0x08 => (List.range k.count).map (fun i => z (16 * i + 0x0A) 6)
    | 0x09 => (List.range k.count).flatMap (fun i => [z (64 * i + 2) 2, z (64 * i + 4) 4, z (64 * i + 0x30) 16])
    | 0x0B => z 0x06 2 :: (List.range 3).flatMap (fun i => [z (24 * i + 0x0B) 1, z (24 * i + 0x1C) 4])
    | 0x0C => [z 0x1C 4]
    | 0x0D => [zb 0x00 1, zb 0x01 4, z 0x02 6] ++ (List.range 4).map (fun i => z (8 * i + 0x0B) 1)
    | 0x0E => [zb 0x03 1, z 0x04 4]
    | _ => [])

/-- Check 12. (DESIGN CHOICE, log 108) -/
def chkReserved (b : Bytes) : List ChartReq :=
  [zeroAt b 0 8 2, zeroBits b 0 0x11 1, zeroBits b 0 0x13 4, zeroAt b 0 0x18 36] ++ (sectionsOf b).flatMap (reservedOf b)

/-! ### Decoding -/

/-- The body offset of a section, and a decoder's default where the section is absent. -/
def withSec {α : Type} (b : Bytes) (t : Nat) (d : α) (f : Nat → Nat → α) : α :=
  match secOf b t with
  | some k => f k.body k.count
  | none => d

/-- One PARTITIONS entry at an offset. -/
def partAt (b : Bytes) (o : Nat) : PartEntry :=
  { partition := byteAt b o, flags := BitVec.ofNat 8 (byteAt b (o + 1)), faultTimeout := byteAt b (o + 2),
    walkerShare := byteAt b (o + 3), queueFirst := fld b (o + 4) 2, queueCount := fld b (o + 6) 2,
    tideFirst := fld b (o + 8) 2, combineFirst := fld b (o + 0x0A) 2, tideCount := fld b (o + 0x0C) 4,
    combineCount := fld b (o + 0x10) 2, msixFirst := fld b (o + 0x12) 2, msixCount := fld b (o + 0x14) 2,
    landingVector := fld b (o + 0x16) 2 }

/-- One WINDOWS entry. -/
def winAt (b : Bytes) (o : Nat) : WinEntry :=
  { window := byteAt b o, partition := byteAt b (o + 1), caches := BitVec.ofNat 8 (byteAt b (o + 2)),
    farAtomics := bit (byteAt b (o + 3)) 0, base := fld b (o + 8) 8, size := fld b (o + 0x10) 8 }

/-- One PAIRS entry. -/
def pairAt (b : Bytes) (o : Nat) : PairEntry :=
  { relInst := BitVec.ofNat 12 (fld b o 2), relAgent := byteAt b (o + 2), relScope := byteAt b (o + 3),
    acqInst := BitVec.ofNat 12 (fld b (o + 4) 2), acqAgent := byteAt b (o + 6), acqScope := byteAt b (o + 7),
    tide := fld b (o + 8) 2 }

/-- One PIPELINES entry. -/
def pipeAt (b : Bytes) (o : Nat) : PipeEntry :=
  let n := byteAt b (o + 1)
  { pipeline := byteAt b o, route := (List.range n).map (fun i => byteAt b (o + 8 + i)),
    ops := (List.range n).map (fun i => BitVec.ofNat 32 (fld b (o + 0x10 + 4 * i) 4)) }

/-- One level record of HIERARCHY. -/
def levelAt (b : Bytes) (o : Nat) : LevelRec :=
  { parent := BitVec.ofNat 16 (fld b o 2),
    children := (List.range (min 8 (byteAt b (o + 2)))).map (fun i => BitVec.ofNat 16 (fld b (o + 4 + 2 * i) 2)) }

/-- PORTS. -/
def portsOf (b : Bytes) : PortsSec :=
  withSec b 0x01 {} (fun p _ => {
    vendorId := BitVec.ofNat 16 (fld b p 2), deviceId := BitVec.ofNat 16 (fld b (p + 2) 2),
    subsysVendorId := BitVec.ofNat 16 (fld b (p + 4) 2), subsysId := BitVec.ofNat 16 (fld b (p + 6) 2),
    revisionId := BitVec.ofNat 8 (byteAt b (p + 8)), hostCarriage := BitVec.ofNat 8 (byteAt b (p + 9)),
    hostEnable := BitVec.ofNat 8 (byteAt b (p + 0x0A)), peerEnable := BitVec.ofNat 8 (byteAt b (p + 0x0B)),
    engineEnable := BitVec.ofNat 8 (byteAt b (p + 0x0C)), memoryEnable := BitVec.ofNat 8 (byteAt b (p + 0x0D)) })

/-- TRANSLATION. -/
def transOf (b : Bytes) : TransSec :=
  withSec b 0x06 {} (fun p _ => {
    missLimit := byteAt b p, answerAts := bit (byteAt b (p + 1)) 0,
    streamEnable := (List.range 256).map (fun i => bit (byteAt b (p + 8 + i / 8)) (i % 8)),
    streamPartition := (List.range 256).map (fun i => byteAt b (p + 0x28 + i / 2) / 2 ^ (4 * (i % 2)) % 16) })

/-- LIMITS; a seed has the values of R93. -/
def limitsOf (b : Bytes) : LimitsSec :=
  withSec b 0x0C {} (fun p _ => {
    modeTimeout := fld b p 4, waitLimit := fld b (p + 4) 4, combineTimeout := fld b (p + 8) 4, peerTimeout := fld b (p + 0x0C) 4,
    cmdRing := fld b (p + 0x10) 4, eventRing := fld b (p + 0x14) 4, journalRing := fld b (p + 0x18) 4 })

/-- THERMAL. -/
def thermalOf (b : Bytes) : ThermalSec :=
  withSec b 0x0D {} (fun p _ => {
    useThrottleReq := bit (byteAt b p) 0, connected := BitVec.ofNat 4 (byteAt b (p + 1)),
    stackSecs := (List.range 4).map (fun i =>
      { thHi := byteAt b (p + 8 + 8 * i), thLo := byteAt b (p + 9 + 8 * i), share := byteAt b (p + 0x0A + 8 * i),
        bucket := fld b (p + 0x0C + 8 * i) 4 }) })

/-- MARGIN. -/
def marginOf (b : Bytes) : MarginSec :=
  withSec b 0x0E {} (fun p _ => {
    maxCode := byteAt b p, initialCode := byteAt b (p + 1), slackFloor := byteAt b (p + 2), replan := bit (byteAt b (p + 3)) 0,
    history := fld b (p + 8) 8 })

/-- HIERARCHY. -/
def hierOf (b : Bytes) : HierSec :=
  withSec b 0x0B {} (fun p _ => {
    packageManager := BitVec.ofNat 16 (fld b p 2), podManager := BitVec.ofNat 16 (fld b (p + 2) 2),
    systemManager := BitVec.ofNat 16 (fld b (p + 4) 2), levels := (List.range 3).map (fun k => levelAt b (p + 8 + 24 * k)) })

/-- The chart an image holds. -/
def chartOf (b : Bytes) : Chart :=
  { seed := isSeed b, role := BitVec.ofNat 8 (byteAt b 0x10), instId := BitVec.ofNat 12 (fld b 0x12 2),
    serial := BitVec.ofNat 32 (fld b 0x14 4), ports := portsOf b,
    crossTimeout := withSec b 0x02 4096 (fun p _ => fld b p 4), mayFallback := withSec b 0x02 false (fun p _ => bit (byteAt b (p + 4)) 0),
    parts := withSec b 0x03 [] (fun p n => (List.range n).map (fun i => partAt b (p + 32 * i))),
    quota := withSec b 0x04 [] (fun p _ => (List.range 16).map (fun i => fld b (p + 8 * i) 4)),
    mgmtReserve := withSec b 0x04 0 (fun p _ => fld b (p + 0x80) 4),
    classWeight := withSec b 0x05 [] (fun p _ => (List.range 4).map (fun i => byteAt b (p + i))),
    channels := withSec b 0x05 [] (fun p _ => (List.range 64).map (fun c =>
      { partition := byteAt b (p + 8 + 8 * c), inUse := bit (byteAt b (p + 9 + 8 * c)) 0, vector := fld b (p + 0x0A + 8 * c) 2 })),
    trans := transOf b,
    windows := withSec b 0x07 [] (fun p n => (List.range n).map (fun i => winAt b (p + 32 * i))),
    pairs := withSec b 0x08 [] (fun p n => (List.range n).map (fun i => pairAt b (p + 16 * i))),
    pipes := withSec b 0x09 [] (fun p n => (List.range n).map (fun i => pipeAt b (p + 64 * i))),
    routes := withSec b 0x0A [] (fun p _ => (List.range 4096).map (fun d =>
      BitVec.ofNat 4 (byteAt b (p + d / 2) / 2 ^ (4 * (d % 2))))),
    hier := hierOf b, limits := limitsOf b, thermal := thermalOf b, margin := marginOf b }

/-! ### Check 13: ranges -/

/-- A number lies in [lo, hi]. -/
def within (v lo hi : Nat) : Bool := decide (lo ≤ v) && decide (v ≤ hi)

/-- A power of two in [lo, hi]. -/
def pow2In (v lo hi : Nat) : Bool := within v lo hi && v &&& (v - 1) == 0

/-- One condition per entry of a list, with its index and the entries before it. -/
def eachEntry {α : Type} (l : List α) (f : Nat → List α → α → List ChartReq) : List ChartReq :=
  ((List.range l.length).zip l).flatMap (fun x => f x.1 (l.take x.1) x.2)

/-- An agent number of PAIRS. -/
def pairAgentOk (a : Nat) : Bool := decide (a ≤ 7) || within a 0x10 0x4F

/-- The ranges of a section's fields. (DEDUCED, log 71) -/
def rangesOf (b : Bytes) (c : Chart) (k : ChartSec) : List ChartReq :=
  let p := k.body
  let r (off : Nat) (ok : Bool) : ChartReq := (ok, k.ty, p + off)
  match k.ty with
  | 0x01 => [r 0x0D (c.ports.memoryEnable != 0)]
  | 0x02 => [r 0 (within c.crossTimeout 1024 65536)]
  | 0x03 => eachEntry c.parts (fun i earlier e =>
      let o := 32 * i
      [r o (decide (e.partition ≤ 15) && !earlier.any (fun x => x.partition == e.partition)),
       r (o + 3) (decide (e.walkerShare ≤ 32)), r (o + 4) (decide (e.queueFirst ≤ 4095)), r (o + 6) (decide (e.queueCount ≤ 4096)),
       r (o + 0x0A) (decide (e.combineFirst ≤ 4095)), r (o + 0x0C) (decide (e.tideCount ≤ 65536)),
       r (o + 0x10) (decide (e.combineCount ≤ 4096)), r (o + 0x12) (decide (e.msixFirst ≤ 2047)),
       r (o + 0x14) (within e.msixCount 1 2048),
       r (o + 0x16) (inRange e.landingVector e.msixFirst e.msixCount)])
  | 0x04 => (List.range 16).map (fun q =>
      r (8 * q) ((c.parts.any (fun e => e.partition == q)) == decide (1 ≤ c.quota.getD q 0))) ++ [r 0x80 (decide (16 ≤ c.mgmtReserve))]
  | 0x05 => (List.range 4).map (fun i => r i (decide (1 ≤ c.classWeight.getD i 0)))
      ++ eachEntry c.channels (fun i _ e =>
        [r (8 + 8 * i) (if 60 ≤ i then e.partition == 0xFF else decide (e.partition ≤ 15) || e.partition == 0xFF)])
  | 0x06 => [r 0 (within c.trans.missLimit 1 8)]
  | 0x07 => eachEntry c.windows (fun i earlier e =>
      let o := 32 * i
      [r o (decide (e.window ≤ 63) && !earlier.any (fun x => x.window == e.window)), r (o + 1) (decide (e.partition ≤ 15)),
       r (o + 2) (e.caches != 0), r (o + 8) (e.base % 2 ^ 21 == 0),
       r (o + 0x10) (e.size != 0 && e.size % 2 ^ 21 == 0 && decide (e.base + e.size ≤ 2 ^ 48))])
  | 0x08 => eachEntry c.pairs (fun i _ e =>
      let o := 16 * i
      [r o (decide (fld b (p + o) 2 < 4096)), r (o + 2) (pairAgentOk e.relAgent), r (o + 3) (decide (e.relScope ≤ 4)),
       r (o + 4) (decide (fld b (p + o + 4) 2 < 4096)), r (o + 6) (pairAgentOk e.acqAgent), r (o + 7) (decide (e.acqScope ≤ 4))])
  | 0x09 => eachEntry c.pipes (fun i earlier e =>
      let o := 64 * i
      let n := byteAt b (p + o + 1)
      [r o (decide (e.pipeline ≤ 31) && !earlier.any (fun x => x.pipeline == e.pipeline)), r (o + 1) (within n 1 8)]
        ++ (List.range 8).map (fun j => r (o + 8 + j) (if j < n then decide (byteAt b (p + o + 8 + j) ≤ 31)
          else byteAt b (p + o + 8 + j) == 0xFF))
        ++ (List.range 8).map (fun j => r (o + 0x10 + 4 * j) (if j < n then opWordOk (BitVec.ofNat 32 (fld b (p + o + 0x10 + 4 * j) 4))
          else fld b (p + o + 0x10 + 4 * j) 4 == 0))
        ++ [r (o + 0x10) (pipeTyped e.ops)])
  | 0x0A => eachEntry c.routes (fun d _ m =>
      [r (d / 2) ((d != c.instId.toNat || m == 0) && (m.toNat &&& c.ports.peerEnable.toNat) == m.toNat)])
  | 0x0B =>
      let idAt (off : Nat) : ChartReq := r off (decide (fld b (p + off) 2 < 4096))
      [idAt 0, idAt 2, idAt 4] ++ (List.range 3).flatMap (fun j =>
        let o := 8 + 24 * j
        let n := byteAt b (p + o + 2)
        [r o (decide (fld b (p + o) 2 < 4096) || fld b (p + o) 2 == 0xFFFF), r (o + 2) (decide (n ≤ if j = 0 then 7 else 8))]
          ++ (List.range 8).map (fun i => if i < n then idAt (o + 4 + 2 * i)
            else r (o + 4 + 2 * i) (fld b (p + o + 4 + 2 * i) 2 == 0xFFFF)))
  | 0x0C =>
      [r 0 (within c.limits.modeTimeout 100 1000000), r 8 (within c.limits.combineTimeout 1 60000000),
       r 0x0C (within c.limits.peerTimeout 10 1000000), r 0x10 (pow2In c.limits.cmdRing 16 4096),
       r 0x14 (pow2In c.limits.eventRing 16 4096), r 0x18 (pow2In c.limits.journalRing 256 65536)]
  | 0x0D => eachEntry c.thermal.stackSecs (fun i _ e =>
      let o := 8 + 8 * i
      if c.thermal.connected.getLsbD i then
        [r o (decide (1 ≤ e.thHi)), r (o + 1) (decide (1 ≤ e.thLo) && decide (e.thLo < e.thHi)), r (o + 2) (decide (1 ≤ e.share)),
         r (o + 4) (within e.bucket 1 65536)]
      else [r o (allZero (cut b (p + o) 8))])
  | 0x0E =>
      [r 0 (decide (c.margin.maxCode ≤ 15)), r 1 (decide (c.margin.initialCode ≤ c.margin.maxCode)),
       r 2 (decide (1 ≤ c.margin.slackFloor)), r 8 (c.margin.history % 65536 == 0 && decide (c.margin.history < 2 ^ 48))]
  | _ => []

/-- Check 13. (DESIGN CHOICE, log 108) -/
def chkRanges (b : Bytes) (c : Chart) : List ChartReq :=
  (decide (byteAt b 0x10 ≤ 3), 0, 0x10) :: (sectionsOf b).flatMap (rangesOf b c)

/-! ### Check 14: HIERARCHY (04 R85) -/

/-- The level record `k`. -/
def Chart.level (c : Chart) (k : Nat) : LevelRec := c.hier.levels.getD k { parent := 0xFFFF, children := [] }

/-- The entries of a list are distinct. -/
def distinct (l : List (BitVec 16)) : Bool := decide l.Nodup

/-- Check 14. (DESIGN CHOICE, log 108; DESIGN CHOICE, log 109) -/
def chkHierarchy (b : Bytes) (c : Chart) : List ChartReq :=
  match secOf b 0x0B with
  | none => []
  | some k =>
    let p := k.body
    let r (off : Nat) (ok : Bool) : ChartReq := (ok, 0x0B, p + off)
    let id := c.instId.toNat
    let pkg := c.hier.packageManager.toNat
    let pod := c.hier.podManager.toNat
    let sys := c.hier.systemManager.toNat
    let none_ := 0xFFFF
    let sameInst (sh x : Nat) : Bool := decide (x < 4096) && x / 2 ^ sh == id / 2 ^ sh
    let role := c.role.toNat
    let want := if id = sys then 3 else if id = pod then 2 else if id = pkg then 1 else 0
    let record (j : Nat) : List ChartReq :=
      let l := c.level j
      let o := 8 + 24 * j
      let n := byteAt b (p + o + 2)
      [r (o + 2) ((role != 0 || n == 0) && (j != 2 || decide (2 ≤ role) || n == 0))]
        ++ (List.range n).map (fun i =>
            let x := fld b (p + o + 4 + 2 * i) 2
            r (o + 4 + 2 * i) (match j with
              | 0 => sameInst 3 x
              | 1 => sameInst 9 x
              | _ => true))
        ++ [r (o + 4) (distinct (l.children ++ (if l.parent.toNat = none_ then [] else [l.parent])))]
    let parents : List ChartReq :=
      [r 8 ((c.level 0).parent.toNat == if id = pkg then none_ else pkg),
       r 0x20 (let q := (c.level 1).parent.toNat
               if id = pod then q == none_ else if role = 0 then q == none_ else sameInst 9 q && q != id),
       r 0x38 (let q := (c.level 2).parent.toNat
               if id = sys then q == none_ else if id = pod then q == sys else q == none_)]
    [r 0 (sameInst 3 pkg), r 2 (sameInst 9 pod), (role == want, 0, 0x10)] ++ (List.range 3).flatMap record ++ parents

/-! ### Checks 15 to 19 -/

/-- Two entries' ranges of one kind do not meet, and each lies in the object's space. (DEDUCED, log 71) -/
def rangeReqs (p : Nat) (l : List PartEntry) (off countOff space : Nat) (f : PartEntry → Nat × Nat) : List ChartReq :=
  eachEntry l (fun i earlier e =>
    [((f e).2 == 0 || decide ((f e).1 + (f e).2 ≤ space), 0x03, p + 32 * i + countOff),
     (!earlier.any (fun x => overlaps (f x).1 (f x).2 (f e).1 (f e).2), 0x03, p + 32 * i + off)])

/-- Check 15 (R83, R88). (DEDUCED, log 71; DESIGN CHOICE, log 108) -/
def chkOverlap (b : Bytes) (c : Chart) : List ChartReq :=
  withSec b 0x03 [] (fun p _ =>
    rangeReqs p c.parts 4 6 4096 (fun e => (e.queueFirst, e.queueCount))
      ++ rangeReqs p c.parts 8 0x0C 65536 (fun e => (e.tideFirst, e.tideCount))
      ++ rangeReqs p c.parts 0x0A 0x10 4096 (fun e => (e.combineFirst, e.combineCount))
      ++ rangeReqs p c.parts 0x12 0x14 2048 (fun e => (e.msixFirst, e.msixCount)))
  ++ withSec b 0x05 [] (fun p _ => eachEntry c.channels (fun i earlier e =>
    let own := c.parts.find? (fun x => x.partition == e.partition)
    let ok :=
      if !e.inUse then true
      else if i < 60 then own.elim true (fun x => inRange e.vector x.msixFirst x.msixCount)
      else decide (e.vector < 2048) && !c.parts.any (fun x => inRange e.vector x.msixFirst x.msixCount)
        && !(((List.range i).zip earlier).any (fun y => decide (60 ≤ y.1) && y.2.inUse && y.2.vector == e.vector))
    [(ok, 0x05, p + 0x0A + 8 * i)]))
  ++ withSec b 0x07 [] (fun p _ => eachEntry c.windows (fun i earlier e =>
    [(!earlier.any (fun x => overlaps x.base x.size e.base e.size), 0x07, p + 32 * i + 8)]))
  ++ withSec b 0x09 [] (fun p _ => eachEntry c.pipes (fun i earlier e => eachEntry e.route (fun j before cell =>
    [(!before.contains cell && !earlier.any (fun x => x.route.contains cell), 0x09, p + 64 * i + 8 + j)])))

/-- Check 16 (R89, R81). (DESIGN CHOICE, log 108) -/
def chkOvercommit (b : Bytes) (c : Chart) (walkers : Nat) : List ChartReq :=
  let exists_ (p : Nat) : Bool := c.parts.any (fun e => e.partition == p)
  withSec b 0x03 [] (fun p _ => eachEntry c.parts (fun i earlier e =>
    [(decide ((earlier.map (·.walkerShare)).sum + e.walkerShare ≤ walkers), 0x03, p + 32 * i + 3)]))
  ++ withSec b 0x04 [] (fun p _ => [(decide (c.quota.sum + c.mgmtReserve ≤ 2047), 0x04, p + 0x80)])
  ++ withSec b 0x05 [] (fun p _ => eachEntry c.channels (fun i _ e =>
    [(decide (60 ≤ i) || (e.partition != 0xFF && (!e.inUse || exists_ e.partition)), 0x05, p + 8 + 8 * i)]))
  ++ withSec b 0x06 [] (fun p _ => (List.range 256).flatMap (fun st =>
    if c.trans.streamEnable.getD st false then
      [(exists_ (c.trans.streamPartition.getD st 0), 0x06, p + 0x28 + st / 2), (c.ports.engineEnable != 0, 0x06, p + 8 + st / 8)]
    else []))
  ++ withSec b 0x07 [] (fun p _ => eachEntry c.windows (fun i _ e => [(exists_ e.partition, 0x07, p + 32 * i + 1)]))

/-- Check 17 (R90, R100). (DEDUCED, log 71) -/
def chkDegraded (b : Bytes) (c : Chart) (f : UnitSet) : List ChartReq :=
  withSec b 0x01 [] (fun p _ =>
    [(c.ports.hostEnable.toNat &&& f.host.toNat == 0, 0x01, p + 0x0A), (c.ports.peerEnable.toNat &&& f.peer.toNat == 0, 0x01, p + 0x0B),
     (c.ports.engineEnable.toNat &&& f.engine.toNat == 0, 0x01, p + 0x0C),
     (c.ports.memoryEnable.toNat &&& f.memory.toNat == 0, 0x01, p + 0x0D)])
  ++ withSec b 0x05 [] (fun p _ => eachEntry c.channels (fun i _ e => [(!(e.inUse && f.channels.getLsbD i), 0x05, p + 9 + 8 * i)]))
  ++ withSec b 0x09 [] (fun p _ => eachEntry c.pipes (fun i _ e => eachEntry e.route (fun j _ cell =>
    [(!f.cells.getLsbD cell, 0x09, p + 64 * i + 8 + j)])))

/-- A scope held by an agent of an instance contains an agent of another (R82). -/
def scopeContains (scope instX agX instY agY : Nat) : Bool :=
  match scope with
  | 0 => instX == instY && agX == agY
  | 1 => instX == instY
  | 2 => instX / 8 == instY / 8
  | 3 => instX / 512 == instY / 512
  | _ => true

/-- Check 18. (DESIGN CHOICE, log 108) -/
def chkScope (b : Bytes) (c : Chart) : List ChartReq :=
  withSec b 0x08 [] (fun p _ => eachEntry c.pairs (fun i _ e =>
    [(scopeContains e.relScope e.relInst.toNat e.relAgent e.acqInst.toNat e.acqAgent
      && scopeContains e.acqScope e.acqInst.toNat e.acqAgent e.relInst.toNat e.relAgent, 0x08, p + 16 * i + 3)]))

/-- The body of a section. -/
def bodyOf (b : Bytes) (t : Nat) : Bytes := (secOf b t).elim [] (fun k => cut b k.body k.len)

/-- Check 19: an image delivered in SEED matches the seed's (R92). (DESIGN CHOICE, log 108) -/
def chkSeed (b : Bytes) (seed : Option Bytes) : List ChartReq :=
  match seed with
  | none => []
  | some o =>
    [(fld b 0x12 2 == fld o 0x12 2, 0, 0x12), (byteAt b 0x10 == byteAt o 0x10, 0, 0x10)]
      ++ seedTypes.map (fun t => (bodyOf b t == bodyOf o t, t, ((secOf b t).map (fun k => k.body)).getD 0))

/-- The checks in order, each with its code (R87). -/
def chartChecks (b : Bytes) (overLong : Bool) (keyHash : BitVec 384) (unsignedOk : Bool) (f : UnitSet) (seed : Option Bytes) :
    List (Nat × (Unit → List ChartReq)) :=
  let c := chartOf b
  let walkers := ((List.range 32).filter (fun w => !f.walkers.getLsbD w)).length
  [(0x01, fun _ => chkMagic b), (0x02, fun _ => chkFormat b), (0x03, fun _ => chkRelease b), (0x04, fun _ => chkLength b overLong),
   (0x05, fun _ => chkHeaderCrc b), (0x06, fun _ => chkOrder b), (0x07, fun _ => chkMissing b), (0x08, fun _ => chkSectionCrc b),
   (0x09, fun _ => chkSectionLength b), (0x10, fun _ => chkSignature b keyHash), (0x11, fun _ => chkUnsigned b unsignedOk),
   (0x0A, fun _ => chkReserved b), (0x0B, fun _ => chkRanges b c), (0x0F, fun _ => chkHierarchy b c),
   (0x0C, fun _ => chkOverlap b c), (0x0D, fun _ => chkOvercommit b c walkers), (0x13, fun _ => chkDegraded b c f),
   (0x0E, fun _ => chkScope b c), (0x12, fun _ => chkSeed b seed)]

/-- The first check that fails: its code, section type and offset. -/
def firstCheck : List (Nat × (Unit → List ChartReq)) → Option (Nat × Nat × Nat)
  | [] => none
  | (code, f) :: rest =>
    match firstFail (f ()) with
    | some at_ => some (code, at_)
    | none => firstCheck rest

/-- The status code of a check's failure. -/
def chartStatus (code : Nat) : Status :=
  match code with
  | 0x05 => .checkFail
  | 0x08 => .checkFail
  | 0x10 => .checkFail
  | 0x11 => .checkFail
  | 0x0D => .quota
  | 0x13 => .quota
  | _ => .malformed

end Sys2Proof.Machine
end

