-- ==== Sys2Proof/Machine/Packet.lean ====
section
/-! DEFINITION. The Zaric crossing below its requests (11 R268-R281): packets and headers, credits, port choice, flits with
their protection and replay, and the checks on arriving packets. -/

namespace Sys2Proof.Machine

/-! ### Headers (11 R270, R271) -/

/-- The class code. -/
def clsCode : PktClass → Nat
  | .req => 0
  | .snp => 1
  | .rsp => 2
  | .dat => 3

/-- The class of a code. -/
def clsOf (c : Nat) : PktClass :=
  match c with
  | 0 => .req
  | 1 => .snp
  | 2 => .rsp
  | _ => .dat

/-- The header's 28 bytes in front of its crc. -/
def headBytes (p : Packet) : Bytes :=
  leBytes 8 (p.dst.toNat + p.src.toNat * 2 ^ 12 + clsCode p.cls * 2 ^ 24 + p.opcode.toNat * 2 ^ 26 + p.part.toNat * 2 ^ 32
    + p.tide.toNat * 2 ^ 36 + p.length.toNat * 2 ^ 52 + p.scope.toNat * 2 ^ 61)
  ++ leBytes 8 (p.addr.toNat + p.tag.toNat * 2 ^ 48)
  ++ leBytes 8 (p.status.toNat + p.poison.toNat * 2 ^ 8 + p.sem.toNat * 2 ^ 12 + b2n p.hasBe * 2 ^ 14 + b2n p.mc * 2 ^ 15
    + p.subop.toNat * 2 ^ 16 + p.aux.toNat * 2 ^ 32)
  ++ leBytes 4 0

/-- The header slot. -/
def headSlot (p : Packet) : Bytes := headBytes p ++ leBytes 4 (crc32c (headBytes p))

/-- The fields of a header slot; byte enables and payload are filled in from the slots behind it. -/
def headOf (b : Bytes) : Packet :=
  let w0 := fld b 0 8
  let w2 := fld b 16 8
  { dst := BitVec.ofNat 12 w0, src := BitVec.ofNat 12 (w0 >>> 12), cls := clsOf (bits w0 25 24), opcode := BitVec.ofNat 6 (w0 >>> 26),
    part := BitVec.ofNat 4 (w0 >>> 32), tide := BitVec.ofNat 16 (w0 >>> 36), length := BitVec.ofNat 9 (w0 >>> 52),
    scope := BitVec.ofNat 3 (w0 >>> 61), addr := BitVec.ofNat 48 (fld b 8 6), tag := BitVec.ofNat 16 (fld b 14 2),
    status := BitVec.ofNat 8 w2, poison := BitVec.ofNat 4 (w2 >>> 8), sem := BitVec.ofNat 2 (w2 >>> 12), hasBe := bit w2 14,
    mc := bit w2 15, subop := BitVec.ofNat 8 (w2 >>> 16), aux := BitVec.ofNat 32 (w2 >>> 32), be := [], payload := [] }

/-- Cut bytes into slots of 32. -/
def slotsOf : Nat → Bytes → List Bytes
  | 0, _ => []
  | n + 1, b => if b.isEmpty then [] else padTo (b.take 32) 32 :: slotsOf n (b.drop 32)

/-- The slots of a packet (11 R269). -/
def packetSlots (p : Packet) : List Bytes :=
  headSlot p :: ((if p.hasBe then [leBytes 32 (maskOf p.be)] else []) ++ slotsOf 8 p.payload)

/-- Slots a header announces. -/
def slotCount (h : Packet) : Nat := 1 + b2n h.hasBe + (h.length.toNat + 31) / 32

/-- The packet that whole slots hold. -/
def packetOf (sl : List Bytes) : Packet :=
  let h := headOf (sl.headD [])
  let rest := sl.tail
  let body := (if h.hasBe then rest.tail else rest).flatten
  { h with be := if h.hasBe then bitList h.length.toNat (leNat (rest.headD [])) else [],
           payload := body.take h.length.toNat }

/-- The lengths an opcode may have, with its class; none for an opcode outside the table. -/
def opcodeShape (op : Nat) : Option (PktClass × Nat × Nat) :=
  match op with
  | 0x01 => some (.req, 0, 0)
  | 0x02 => some (.req, 1, 256)
  | 0x03 => some (.req, 8, 16)
  | 0x04 => some (.req, 8, 8)
  | 0x05 => some (.req, 1, 256)
  | 0x06 => some (.req, 0, 0)
  | 0x08 => some (.req, 0, 256)
  | 0x09 => some (.req, 0, 256)
  | 0x10 => some (.snp, 0, 0)
  | 0x11 => some (.snp, 0, 0)
  | 0x18 => some (.rsp, 0, 0)
  | 0x19 => some (.rsp, 0, 0)
  | 0x1B => some (.rsp, 0, 32)
  | 0x20 => some (.dat, 1, 256)
  | 0x21 => some (.dat, 8, 16)
  | 0x22 => some (.dat, 64, 64)
  | 0x23 => some (.dat, 64, 64)
  | _ => none

/-- The fields an opcode does not use are zero, and its own lie in their ranges. A request without a destination counter may carry 0xFFFF,
which names none. (DESIGN CHOICE, log 102) -/
def fieldsOk (p : Packet) : Bool :=
  let op := p.opcode.toNat
  let isReq := p.cls == .req
  let work := isReq && op != 0x08 && op != 0x09
  let off := p.addr.toNat % 256
  (p.aux == 0 || op == 0x01 || op == 0x03 || op == 0x05 || op == 0x08)
    && (p.subop == 0 || op == 0x02 || op == 0x03 || op == 0x08 || op == 0x09 || op == 0x18)
    && (!p.hasBe || op == 0x02) && (!p.mc || (work && p.part == 0))
    && (p.status == 0 || p.cls == .rsp || p.cls == .dat)
    && (p.poison == 0 || op == 0x02 || op == 0x05 || op == 0x20 || op == 0x22 || op == 0x23)
    && (p.addr == 0 || p.cls == .snp || op == 0x20 || (isReq && op != 0x04 && op != 0x09))
    && (work || (p.part == 0 && p.scope == 0 && p.sem == 0))
    && (p.tide == 0 || (isReq && p.tide == 0xFFFF) || op == 0x02 || op == 0x04 || op == 0x05)
    && (match op with
      | 0x01 => decide (1 ≤ p.aux.toNat) && decide (p.aux.toNat ≤ 256) && decide (off + p.aux.toNat ≤ 256)
      | 0x02 => decide (off + p.length.toNat ≤ 256) && (p.subop == 0 || (p.subop == 1 && p.length == 64 && p.addr.toNat % 64 == 0
          && !p.hasBe))
      | 0x03 => p.length == 8 || p.length == 16
      | 0x05 => p.aux.toNat >>> 16 == 0
      | 0x08 => p.aux.toNat >>> 12 == 0
      | 0x21 => p.length == 8 || p.length == 16
      | _ => true)

/-- The header is well formed (11 R270, R271); its reserved fields are read from the slot itself. -/
def headOk (slot : Bytes) (p : Packet) : Bool :=
  (match opcodeShape p.opcode.toNat with
    | some (c, lo, hi) => p.cls == c && decide (lo ≤ p.length.toNat) && decide (p.length.toNat ≤ hi)
    | none => false)
  && decide (p.scope.toNat ≤ 4) && byteAt slot 19 == 0 && fld slot 24 4 == 0 && fieldsOk p

/-! ### Requests and answers -/

/-- An empty packet of an opcode to an instance. -/
def State.mkPacket (s : State) (cls : PktClass) (op dst : Nat) : Packet :=
  { dst := BitVec.ofNat 12 dst, src := BitVec.ofNat 12 s.ownId, cls := cls, opcode := BitVec.ofNat 6 op, part := 0,
    tide := if cls = .req then 0xFFFF else 0,
    length := 0, scope := 0, addr := 0, tag := 0, status := 0, poison := 0, sem := 0, hasBe := false, mc := false, subop := 0,
    aux := 0, be := [], payload := [] }

/-- An answer to a request. -/
def State.answer (s : State) (cls : PktClass) (op : Nat) (dst : BitVec 12) (tag : BitVec 16) (st : Status) (subop : Nat)
    (payload : Bytes) (poison : Nat) : Packet :=
  { s.mkPacket cls op dst.toNat with
    tag := tag, status := BitVec.ofNat 8 (statusCode st), subop := BitVec.ofNat 8 subop, payload := payload,
    length := BitVec.ofNat 9 payload.length, poison := BitVec.ofNat 4 poison }

/-! ### Credits (02 R28, R37, R38) -/

/-- The four counts of a credit word, each at most 8, REQ first. -/
def creditCounts (w : BitVec 16) : List Nat := (List.range 4).map (fun i => min 8 (bits w.toNat (4 * i + 3) (4 * i)))

/-- How far the counts of a word pass 8. (DEDUCED, log 46) -/
def creditExcess (w : BitVec 16) : Nat := ((List.range 4).map (fun i => bits w.toNat (4 * i + 3) (4 * i) - 8)).sum

/-- Credits arrive on pn_tx_credit. (DEDUCED, log 46) -/
def State.takeCredits (s : State) (p : Nat) (w : BitVec 16) : State :=
  s.modPeer p (fun x => { x with
    credits := List.zipWith (· + ·) x.credits (creditCounts w),
    creditErr := if creditExcess w = 0 then x.creditErr else sat32 x.creditErr (creditExcess w) })

/-- The slots of each class that a port receives into, REQ first (02 R37). -/
def peerDepths : List Nat := [512, 128, 256, 4096]

/-- Return `n` credits of a class, at most 8 in a cycle; a port out of service returns none (02 R25). -/
def State.giveCredits (s : State) (p : Nat) (cls : PktClass) (n : Nat) : State :=
  if (s.peer p).readyOut then
    eachOf (fun i t => t.drive (.peerCredit p (BitVec.ofNat 16 (min 8 (n - 8 * i) * 2 ^ (4 * clsCode cls)))))
      (List.range ((n + 7) / 8)) s
  else s

/-- The port's room for the slots of a class after `n` of them have come, or have left again. -/
def PeerPort.fill (x : PeerPort) (cls : PktClass) (n : Nat) : PeerPort :=
  { x with room := x.room.set (clsCode cls) (x.room.getD (clsCode cls) 0 - n) }

/-- See `PeerPort.fill`. -/
def PeerPort.empty (x : PeerPort) (cls : PktClass) (n : Nat) : PeerPort :=
  { x with room := x.room.set (clsCode cls) (x.room.getD (clsCode cls) 0 + n) }

/-! ### Flits (11 R268, R279, R280) -/

/-- The ack a flit carries: the highest sequence accepted. (DEDUCED, log 45) -/
def PeerPort.ackNow (x : PeerPort) : Nat := (x.rxNext + 2 ^ 63 - 1) % 2 ^ 63

/-- The 256 bytes of a flit of up to seven slots, sealed if a key is installed. (DEDUCED, log 45) -/
def sealFlit (x : PeerPort) (sl : List Bytes) (nak : Bool) : Bytes :=
  let body := padTo sl.flatten 224
  let aad := leBytes 8 x.txSeq ++ leBytes 8 (x.ackNow + 2 ^ 63 * b2n nak)
  match x.txKey with
  | none => body ++ aad ++ zeros 16
  | some k =>
    let r := gcmSeal k.key (k.salt ++ leBytes 8 x.txSeq) aad body
    r.1 ++ aad ++ r.2

/-- Send one flit: it takes the next sequence and stays in the replay buffer until it is acknowledged. A port out of service drives
nothing (02 R25). A flit that the 512 of the replay buffer leave no room for is not sent; a flit without slots, whose trailer brings the
far side an ack or a NAK, is owed (11 R280). -/
def State.sendFlit (s : State) (p : Nat) (sl : List Bytes) (nak : Bool) : State :=
  let x := s.peer p
  if !x.readyOut then s
  else if 512 ≤ x.replayBuf.length then
    if sl.isEmpty then s.setPeer p { x with owed := some (nak || x.owed == some true) } else s
  else
    let f := sealFlit x sl nak
    (s.setPeer p { x with txSeq := x.txSeq + 1, replayBuf := x.replayBuf ++ [(x.txSeq, f)] }).drive (.peerFlit p f)

/-- Send the flits of a packet. (DEDUCED, log 45) -/
def State.sendFlits (p : Nat) : Nat → List Bytes → State → State
  | 0, _, s => s
  | n + 1, sl, s => if sl.isEmpty then s else State.sendFlits p n (sl.drop 7) (s.sendFlit p (sl.take 7) false)

/-- The packet may leave now: enough credits of its class, and room in the replay buffer for its flits. -/
def PeerPort.maySend (x : PeerPort) (p : Packet) : Bool :=
  let n := (packetSlots p).length
  decide (n ≤ x.credits.getD (clsCode p.cls) 0) && decide (x.replayBuf.length + 2 ≤ 512) && x.readyOut

/-- Send the waiting packets that may leave; one that waits for credits holds back only its own class (11 R273). -/
def State.sendWaiting (p : Nat) : Nat → List Packet → List PktClass → State → State
  | 0, _, _, s => s
  | _, [], _, s => s
  | n + 1, k :: rest, stuck, s =>
    if stuck.contains k.cls || !(s.peer p).maySend k then State.sendWaiting p n rest (k.cls :: stuck) s
    else
      let sl := packetSlots k
      let s := s.modPeer p (fun x => { x with
        waiting := x.waiting.erase k,
        credits := x.credits.set (clsCode k.cls) (x.credits.getD (clsCode k.cls) 0 - sl.length) })
      State.sendWaiting p n rest stuck (State.sendFlits p 3 sl s)

/-- Send what a port may send. -/
def State.flushPort (s : State) (p : Nat) : State :=
  State.sendWaiting p ((s.peer p).waiting.length + 1) (s.peer p).waiting [] s

/-- Queue a packet on a port. -/
def State.queueOn (s : State) (p : Nat) (k : Packet) : State :=
  (s.modPeer p (fun x => { x with waiting := x.waiting ++ [k] })).flushPort p

/-! ### Port choice (11 R275, R276) -/

/-- The ports of a destination's mask. -/
def State.maskPorts (s : State) (d : Nat) : List Nat := [0, 1, 2, 3].filter (fun k => (s.routeMask d).getLsbD k)

/-- The usable ones. -/
def State.usablePorts (s : State) (d : Nat) : List Nat := (s.maskPorts d).filter (fun k => (s.peer k).state == .up)

/-- The port a packet leaves by, or the status that ends it. -/
def State.portFor (s : State) (k : Packet) : Status ⊕ Nat :=
  let d := k.dst.toNat
  let u := s.usablePorts d
  let h := if k.cls = .req then bits k.addr.toNat 20 9 ^^^ d else d
  match u[h % u.length]? with
  | some p => .inr p
  | none =>
    let m := s.maskPorts d
    if !m.isEmpty && m.all (fun p => (s.peer p).state == .clockLost) then .inl .clockLost else .inl .remoteUnreachable

/-- Send an answer or a snoop; where no port is usable it is lost, and the far side ends by its own limit. (DEDUCED, log 47) -/
def State.sendPacket (s : State) (k : Packet) : State :=
  match s.portFor k with
  | .inr p => s.queueOn p k
  | .inl _ => s

/-- Count one request ended REMOTE_UNREACHABLE. -/
def State.countUnreach (s : State) (st : Status) : State :=
  if st = .remoteUnreachable then { s with unreach := sat32 s.unreach } else s

/-! ### Recovery (11 R280) -/

/-- A packet that had not left its port goes by another, and its tracker entry with it. -/
def State.moveTo (s : State) (p q : Nat) (k : Packet) : State :=
  State.queueOn { s with tracker := s.tracker.map (fun e =>
    if k.cls = .req ∧ e.tag = k.tag ∧ e.port = p ∧ e.ended = false then { e with port := q } else e) } q k

/-- Packets of a port that had not left go by other ports. -/
def State.rerouteWaiting (s : State) (p : Nat) : State :=
  let ks := (s.peer p).waiting
  eachOf (fun k t => match t.portFor k with
    | .inr q => t.moveTo p q k
    | .inl st =>
      if k.cls ≠ .req then t
      else match t.tracker.find? (fun e => e.tag == k.tag && e.port == p && !e.ended) with
        | some e => State.countUnreach (State.fail { t with tracker := t.tracker.filter (fun x => x.tag != e.tag) } e.access st) st
        | none => t) ks (s.modPeer p (fun x => { x with waiting := [] }))

/-- A port fails: its outputs are idle, a record is written, what had not left goes elsewhere. -/
def State.peerFail (s : State) (p : Nat) (st : Status) (inst : Option Nat := none) : State :=
  let s := s.modPeer p (fun x => { x with state := .failed, readyOut := false, keyx := {} })
  let s := s.record { s.errRec 4 st .sh 4 p with
    inst := BitVec.ofNat 16 (inst.getD s.ownId), detail0 := BitVec.ofNat 64 (statusCode st) }
  (s.rerouteWaiting p).shIrq 6

/-- Flits are sent again from the oldest not acknowledged; the eighth failed replay of one flit in a row fails the port.
(DEDUCED, log 45) -/
def State.replay (s : State) (p : Nat) : State :=
  let x := s.peer p
  match x.replayBuf with
  | [] => s
  | (q, _) :: _ =>
    if !x.readyOut then s
    else
    let again := x.badReplay != 0 && x.lastReplayAck == q
    if again && decide (8 ≤ x.badReplay) then s.peerFail p .timeout
    else
      let s := s.setPeer p { x with badReplay := if again then x.badReplay + 1 else 1, lastReplayAck := q }
      eachOf (fun e t => t.drive (.peerFlit p e.2)) x.replayBuf s

/-- An ack or a NAK that found no room in the replay buffer is sent. -/
def State.payOwed (s : State) (p : Nat) : State :=
  match (s.peer p).owed with
  | some nak => (s.modPeer p (fun x => { x with owed := none })).sendFlit p [] nak
  | none => s

/-- The far side has accepted flits up to a sequence: they leave the replay buffer, and a replay that brought this about has
succeeded. -/
def State.peerAck (s : State) (p : Nat) (last : Nat) : State :=
  let x := s.peer p
  let fresh (e : Nat × Bytes) : Bool := decide (2 ^ 62 ≤ (last + 2 ^ 63 - e.1) % 2 ^ 63)
  let rest := x.replayBuf.filter fresh
  if rest.length = x.replayBuf.length then s
  else
    ((s.setPeer p { x with
      replayBuf := rest, badReplay := 0,
      replay := if x.badReplay = 0 then x.replay else sat32 x.replay }).payOwed p).flushPort p

/-- A NAK has come: its ack, then a replay. -/
def State.peerNakIn (s : State) (p : Nat) (last : Nat) : State := (s.peerAck p last).replay p

/-! ### Arriving flits -/

/-- A dropped packet is counted. (DEDUCED, log 47) -/
def State.dropHeader (s : State) (p : Nat) : State := s.modPeer p (fun x => { x with hdrDrop := sat32 x.hdrDrop })

/-- An arriving request that is not served is answered; its slots are freed. -/
def State.refusePacket (s : State) (k : Packet) (st : Status) : State :=
  s.sendPacket (s.answer .rsp 0x18 k.src k.tag st 0 [] 0)

/-- The answer has a request, a snoop or a management packet to go to (11 R281 check 5). (DEDUCED, log 49) -/
def State.expected (s : State) (k : Packet) : Bool :=
  match k.opcode.toNat with
  | 0x19 | 0x22 => true
  | 0x1B => s.relay.waits.any (fun w => w.tag == k.tag)
      || s.peers.any (fun e => e.2.keyx.awaitTag == some k.tag)
  | op => s.tracker.any (fun e => e.tag == k.tag && !e.ended && (op == 0x18 || match e.opcode.toNat with
      | 0x01 => op == 0x20
      | 0x03 => op == 0x21
      | 0x06 => op == 0x23
      | _ => false))

/-- Acknowledge a MGMT packet by the port that ROUTES choose for its source, where there is one (11 R275), and a KEYX packet by the port
it came by. (DEDUCED, log 49) -/
def State.mgmtAnswer (s : State) (p : Nat) (k : Packet) (st : Status) (reply : Bytes := []) : State :=
  let a := s.answer .rsp 0x1B k.src k.tag st 0 reply 0
  match s.portFor a with
  | .inr q => s.queueOn (if k.opcode = 0x09 then p else q) a
  | .inl _ => if k.opcode = 0x09 then s.queueOn p a else s

/-- Packets of a port are held in its receive buffer: in a warm start, but for the key setup of a port without keys, which takes no others (11 R281; 05 R98).
(DEDUCED, log 47) -/
def State.holdsPackets (s : State) (p : Nat) : Bool := (s.warmStart || s.warmReset) && (s.peer p).state != .keying

/-- The checks of 11 R279 and R281 on a whole packet; one that passes waits in the port's receive buffer. An instance in SEED takes the
acknowledgements of its own MGMT and KEYX packets with the answers to them. (DESIGN CHOICE, log 102) -/
def State.packetIn (s : State) (p : Nat) (sl : List Bytes) : State :=
  let k := packetOf sl
  let op := k.opcode.toNat
  let isReq := k.cls == .req
  let freed (t : State) : State := t.giveCredits p k.cls sl.length
  if (s.peer p).rxKey.isNone && op != 0x09 && op != 0x1B then freed (s.dropHeader p)
  else if crc32c ((sl.headD []).take 28) ≠ fld (sl.headD []) 28 4 then
    freed ((s.dropHeader p).record { s.errRec 4 .checkFail .sh 4 p with
      detail0 := BitVec.ofNat 64 (statusCode .checkFail) })
  else if !headOk (sl.headD []) k then freed (if isReq then s.refusePacket k .malformed else s.dropHeader p)
  else if k.dst.toNat ≠ s.ownId then
    let t := s.modPeer p (fun x => { x with misroute := sat32 x.misroute })
    freed (if isReq then t.refusePacket k .remoteUnreachable else t)
  else if s.inSeed && op != 0x08 && op != 0x09 && op != 0x1B then
    freed (if isReq then s.refusePacket k .remoteUnreachable else s.dropHeader p)
  else if (op == 0x08 && !(decide (1 ≤ k.subop.toNat) && decide (k.subop.toNat ≤ 6)))
      || (op == 0x09 && !(decide (1 ≤ k.subop.toNat) && decide (k.subop.toNat ≤ 4))) then
    freed (s.mgmtAnswer p k .malformed)
  else if (k.cls == .rsp || k.cls == .dat) && !s.expected k then
    freed (s.modPeer p (fun x => { x with late := sat32 x.late }))
  else s.modPeer p (fun x => { x.fill k.cls sl.length with inbox := x.inbox ++ [k] })

/-- A whole packet has come. One that its class has no room for was sent without credits, and is dropped (02 R28); in a warm start it
is only kept, but for those of a key setup. (DESIGN CHOICE, log 102) -/
def State.packetCome (s : State) (p : Nat) (sl : List Bytes) : State :=
  let cls := (headOf (sl.headD [])).cls
  if (s.peer p).room.getD (clsCode cls) 0 < sl.length then s.dropHeader p
  else if s.holdsPackets p || ((s.warmStart || s.warmReset) && !((headOf (sl.headD [])).opcode == 0x09 || (headOf (sl.headD [])).opcode == 0x1B)) then
    s.modPeer p (fun x => { x.fill cls sl.length with stored := x.stored ++ [sl] })
  else s.packetIn p sl

/-- Packets kept through a warm start are looked at after it. (DESIGN CHOICE, log 102) -/
def State.storedIn (p : Nat) (s : State) : State :=
  if s.warmStart || s.warmReset || (s.peer p).stored.isEmpty then s
  else
    let ps := (s.peer p).stored
    eachOf (fun sl (t : State) =>
      (t.modPeer p (fun x => x.empty (headOf (sl.headD [])).cls sl.length)).packetIn p sl) ps (s.modPeer p (fun x => { x with stored := [] }))

/-- Take the slots of a flit: a pad header ends its packets, a packet is whole when its last slot is there. -/
def State.slotsIn (p : Nat) : List Bytes → State → State
  | [], s => s
  | b :: rest, s =>
    let part := (s.peer p).slots
    if part.isEmpty && allZero b then s
    else
      let sl := part ++ [b]
      if slotCount (headOf (sl.headD [])) ≤ sl.length then
        State.slotsIn p rest ((s.modPeer p (fun x => { x with slots := [] })).packetCome p sl)
      else State.slotsIn p rest (s.modPeer p (fun x => { x with slots := sl }))

/-- Open a flit: its slots, or none where its tag fails. Before keys are installed the tag is zero and not checked. -/
def openFlit (x : PeerPort) (f : Bytes) : Option Bytes :=
  match x.rxKey with
  | none => some (f.take 224)
  | some k => gcmOpen k.key (k.salt ++ cut f 224 8) (cut f 224 16) (f.take 224) (cut f 240 16)

/-- A flit is not accepted: it and every later one are discarded, and a NAK names the last one accepted. -/
def State.flitBad (s : State) (p : Nat) (tagFailed : Bool) : State :=
  if (s.peer p).rxDiscard && !tagFailed then s
  else (s.modPeer p (fun x => { x with rxDiscard := true })).sendFlit p [] true

/-- PEER_FLIT_RECEIVE, the credits that came with the flit apart. -/
def State.flitIn (s : State) (p : Nat) (f : Bytes) : State :=
  let x := s.peer p
  if !x.linkUp || !x.readyOut || f.length != 256 then s
  else if fld f 224 8 ≠ x.rxNext then s.flitBad p false
  else match openFlit x f with
    | none => s.flitBad p true
    | some body =>
      let ack := fld f 232 8
      let s := s.modPeer p (fun x => { x with rxNext := x.rxNext + 1, rxDiscard := false })
      let s := State.slotsIn p (slotsOf 7 body) s
      if bit ack 63 then s.peerNakIn p (ack % 2 ^ 63) else s.peerAck p (ack % 2 ^ 63)

/-- A packet leaves the port's receive buffer: its slots are freed. -/
def State.unbox (s : State) (p : Nat) (k : Packet) : State :=
  (s.modPeer p (fun x => { x.empty k.cls (packetSlots k).length with inbox := x.inbox.erase k })).giveCredits p k.cls
    (packetSlots k).length

/-- Take the oldest accepted packet that answers to a test from a port's receive buffer. -/
def State.takePacket (s : State) (p : Nat) (f : Packet → Bool) : Option (Packet × State) :=
  if s.holdsPackets p then none
  else match (s.peer p).inbox.find? f with
    | some k => some (k, s.unbox p k)
    | none => none

end Sys2Proof.Machine
end

