-- ==== Sys2Proof/Machine/Home.lean ====
section
/-! DEFINITION. The home agent of coherent windows (14 R335-R357): atomics, the snoop filter, snoops and their answers, lost
holders, and the transactions of hosts, local agents and peers. -/

namespace Sys2Proof.Machine

/-! ### Atomics (14 R347) -/

/-- Addition in FP64 (1) or FP32 (2), rounded to nearest, ties to even; NaN results canonical. -/
def floatAdd (f x y : Nat) : Nat :=
  match numOf f x, numOf f y with
  | .nan, _ => fmtNan f
  | _, .nan => fmtNan f
  | .inf a, .inf b => if a = b then fmtInfCode f a else fmtNan f
  | .inf a, _ => fmtInfCode f a
  | _, .inf b => fmtInfCode f b
  | .fin sa ma ea, .fin sb mb eb => (convert f false none (finAdd sa ma ea sb mb eb)).code

/-- A number of `n` bits, read as two's complement. -/
def asSigned (n v : Nat) : Int := if bit v (n - 1) then (v : Int) - 2 ^ n else v

/-- A sub-operation and a size that an atomic may have. -/
def atomicOk (subop size : Nat) : Bool := decide (1 ≤ subop) && decide (subop ≤ 0x0B) && (size == 4 || size == 8)

/-- The new value and whether a CAS swapped. 0x80 is the block's own update of an object's count (06 R151): the amount is
subtracted where it is not larger. -/
def atomicNew (op : AtomicOp) (old : Nat) : Nat × Bool :=
  let n := 8 * op.size
  let x := op.operand.toNat % 2 ^ n
  match op.subop.toNat with
  | 0x01 => ((old + x) % 2 ^ n, false)
  | 0x02 => (old &&& x, false)
  | 0x03 => (old ||| x, false)
  | 0x04 => (old ^^^ x, false)
  | 0x05 => (if asSigned n x < asSigned n old then x else old, false)
  | 0x06 => (if asSigned n old < asSigned n x then x else old, false)
  | 0x07 => (min old x, false)
  | 0x08 => (max old x, false)
  | 0x09 => (x, false)
  | 0x0A => if old = x then (op.swap.toNat % 2 ^ n, true) else (old, false)
  | 0x0B => (floatAdd (if op.size = 4 then 2 else 1) old x, false)
  | 0x80 => (if x ≤ old then old - x else old, false)
  | _ => (old, false)

/-- What an atomic's requester is told: the old value, whether a CAS swapped, and QUIET (14 R347, R349). -/
def atomicTail (old : Nat) (swapped quiet : Bool) : Bytes :=
  leBytes 8 old ++ [BitVec.ofNat 8 (b2n swapped), BitVec.ofNat 8 (b2n quiet)]

/-! ### Attached caches (14 R335, R336) -/

/-- The cache is in use. -/
def State.cacheOn (s : State) (i : Nat) : Bool := if i < 2 then (s.host i).readyOut else (s.attach i).getLsbD 31

/-- The instance behind a peer cache. -/
def State.cacheInst (s : State) (i : Nat) : Nat := bits (s.attach i).toNat 11 0

/-- The cache number of an instance, if it is attached. -/
def State.cacheOfInst (s : State) (inst : Nat) : Option Nat :=
  [2, 3, 4, 5, 6, 7].find? (fun i => s.cacheOn i && s.cacheInst i == inst)

/-- The cache a request comes from. -/
def State.reqCache (s : State) (r : HomeReq) : Option Nat :=
  match r with
  | .hostRead n _ _ => some n
  | .hostWrite n _ _ _ _ _ _ => some n
  | .access _ => none
  | .peerOwn _ _ src => s.cacheOfInst src.toNat
  | .peerWb _ src _ _ => s.cacheOfInst src.toNat
  | .giveUp _ => none
  | .gone => none

/-- The window of a line permits a cache. (DEDUCED, log 89) -/
def State.permits (s : State) (line i : Nat) : Bool := (s.windowAt line).elim false (fun w => w.caches.getLsbD i)

/-! ### The snoop filter (14 R344-R346) -/

/-- The entry of a line. -/
def State.filterAt (s : State) (line : Nat) : Option FilterEntry := s.home.filter.find? (fun e => e.line.toNat == line)

/-- The holders of a line. -/
def State.holders (s : State) (line : Nat) : List Nat :=
  match s.filterAt line with
  | some e => (List.range 8).filter (fun i => e.mask.getLsbD i)
  | none => []

/-- The cache that holds a line in E. -/
def State.exclusive (s : State) (line : Nat) : Option Nat :=
  match s.filterAt line with
  | some e => if e.excl then (s.holders line).head? else none
  | none => none

/-- Change the filter. -/
def State.modFilter (s : State) (f : List FilterEntry → List FilterEntry) : State :=
  { s with home := { s.home with filter := f s.home.filter } }

/-- A grant: the line's entry, last in the order of grants. -/
def State.grant (s : State) (line : Nat) (mask : BitVec 8) (excl : Bool) : State :=
  s.modFilter (fun l => l.filter (fun e => e.line.toNat != line) ++ [{ line := BitVec.ofNat 48 line, mask := mask, excl := excl }])

/-- A read is granted only what the window and its decoder allow: elsewhere it counts as MetaValue I (14 R355). The decoder has
back-invalidation set in bit 1 of its control word. (DEDUCED, log 89) -/
def State.readMeta (s : State) (n line : Nat) (mv : MetaValue) : MetaValue :=
  let w (d i : Nat) : Nat := (tabGet 0 (s.host n).hdm (4 * d + i)).toNat
  let dec := [0, 1, 2, 3].find? (fun d => bit (w d 3) 0 && inRange line (w d 2 <<< 28) (w d 1 <<< 28))
  if s.permits line n && dec.elim true (fun d => bit (w d 3) 1) then mv else .i

/-- The request will make its cache a holder. A read that has begun asks only for what it is granted. -/
def HomeTxn.needsWay (t : HomeTxn) : Bool :=
  match t.req with
  | .hostRead _ _ mv => mv == .a || mv == .s
  | .peerOwn _ _ _ => true
  | _ => false

/-- A way of the filter is kept for the grant of a transaction, or until the transaction that evicts its line has it. -/
def State.wayKept (s : State) (line : BitVec 48) : Bool :=
  s.home.txns.any (fun u => u.victim == some line || (u.line == line && u.phase != .queued && u.needsWay))

/-- Entries that name no holder go, but for those kept for a grant. -/
def State.trim (s : State) : State := s.modFilter (fun l => l.filter (fun e => e.mask != 0 || s.wayKept e.line))

/-- A cache no longer holds a line; an entry with no holder goes, unless a grant keeps its place. -/
def State.unhold (s : State) (line i : Nat) : State :=
  (s.modFilter (fun l => l.map (fun e =>
    if e.line.toNat = line then { e with mask := e.mask &&& ~~~(BitVec.ofNat 8 (2 ^ i)), excl := false } else e))).trim

/-- A cache that is attached no longer holds nothing (14 R335); places kept for a grant stay. -/
def State.forget (s : State) (i : Nat) : State :=
  (s.modFilter (fun l => l.map (fun e =>
    let m := e.mask &&& ~~~(BitVec.ofNat 8 (2 ^ i))
    { e with mask := m, excl := e.excl && m != 0 }))).trim

/-- A write of an attach register: peers only, every partition DISABLED; the own ID or one already attached is refused. -/
def State.attachWrite (s : State) (i : Nat) (v : BitVec 32) : State :=
  if i < 2 || !s.allPartsDisabled then s
  else
    let inst := bits v.toNat 11 0
    let dup := [2, 3, 4, 5, 6, 7].any (fun j => j != i && s.cacheOn j && s.cacheInst j == inst)
    let w := BitVec.ofNat 32 (inst + 2 ^ 31 * b2n (v.getLsbD 31 && inst != s.ownId && !dup))
    if w = s.attach i then s else (s.setAttach i w).forget i

/-- The set of a line. -/
def filterSet (line : Nat) : Nat := line / 64 % 65536

/-- The entries of a line's set, least recently granted first. -/
def State.setOf (s : State) (line : Nat) : List FilterEntry :=
  s.home.filter.filter (fun e => filterSet e.line.toNat == filterSet line)

/-- The victim of a full set: its least recently granted entry whose line has no transaction in progress. -/
def State.victimOf (s : State) (line : Nat) : Option FilterEntry :=
  (s.setOf line).find? (fun e => !s.home.txns.any (fun t => t.line == e.line || t.victim == some e.line))

/-! ### Transactions -/

/-- Change one transaction. -/
def State.modTxn (s : State) (id : Nat) (f : HomeTxn → HomeTxn) : State :=
  { s with home := { s.home with txns := s.home.txns.map (fun t => if t.id = id then f t else t) } }

/-- End one transaction; a way it kept and did not grant is free again. -/
def State.dropTxn (s : State) (id : Nat) : State :=
  State.trim { s with home := { s.home with txns := s.home.txns.filter (fun t => t.id != id) } }

/-- A transaction of a name. -/
def State.txn (s : State) (id : Nat) : Option HomeTxn := s.home.txns.find? (fun t => t.id == id)

/-- A new transaction waits in order. -/
def State.openTxn (s : State) (line : Nat) (r : HomeReq) : State :=
  { s with home := { s.home with nextTxn := s.home.nextTxn + 1, txns := s.home.txns ++
    [{ id := s.home.nextTxn, line := BitVec.ofNat 48 line, req := r, phase := .queued, snoops := [], quiet := false,
       victim := none, wbs := 0, old := 0, swapped := false }] } }

/-- The next tag that no request of this instance holds, within `n` tries. -/
def freeTrackTag (l : List (BitVec 16)) : Nat → BitVec 16 → BitVec 16
  | 0, t => t
  | n + 1, t => if l.contains t then freeTrackTag l n (t + 1) else t

/-- Tags in use: the tracker's, those of MGMT packets and those of key exchanges (11 R277, R285; 15 R363). -/
def State.usedTags (s : State) : List (BitVec 16) :=
  s.tracker.map (·.tag) ++ s.relay.waits.map (·.tag) ++ s.peers.filterMap (fun e => e.2.keyx.awaitTag)

/-- Take the next free tag. -/
def State.takeTag (s : State) : BitVec 16 × State :=
  let tag := freeTrackTag s.usedTags 65535 s.nextTag
  (tag, { s with nextTag := tag + 1 })

/-- Open a tracker entry for an access or a snoop (11 R277). -/
def State.track (s : State) (access port : Nat) (op : BitVec 6) (dst : BitVec 12) (own : Bool) : BitVec 16 × State :=
  let (tag, s) := s.takeTag
  (tag, { s with tracker := s.tracker ++
    [{ tag := tag, access := access, port := port, opcode := op, dst := dst, ended := false, own := own, got := none, bad := false,
       comp := none }] })

/-- Send one snoop of a transaction for a line. A peer that no port reaches does not answer, and is lost at its limit; so is any cache
while SL-A, which carries the snoops to the ports, is out of service (01 R15). (DESIGN CHOICE, log 103) -/
def State.sendSnoop (id line i : Nat) (inv : Bool) (s : State) : State :=
  if (s.linkFault .slA).isSome then s
  else if i < 2 then s.drive (.biSnp i (BitVec.ofNat 48 line) inv)
  else
    let op : Nat := if inv then 0x10 else 0x11
    let k := s.mkPacket .snp op (s.cacheInst i)
    let p := match s.portFor k with
      | .inr p => p
      | .inl _ => 0
    let t := s.track id p k.opcode k.dst false
    t.2.sendPacket { k with tag := t.1, addr := BitVec.ofNat 48 line }

/-- Send the snoops of a transaction. -/
def State.sendSnoops (s : State) (id line : Nat) (l : List (Nat × Bool × Bool)) : State :=
  eachOf (fun x t => State.sendSnoop id line x.1 x.2.1 t) l (s.modTxn id (fun t => { t with snoops := l }))

/-- A host's write that leaves nobody to snoop: it comes from the E holder, and asks for no state that holder lacks
(14 R340). -/
def State.ownerWrite (s : State) (line : Nat) (r : HomeReq) : Bool :=
  match r with
  | .hostWrite n _ _ false _ _ _ => s.exclusive line == some n
  | _ => false

/-- The snoops a request needs, each with whether it invalidates (14 R340, R341). -/
def State.snoopsFor (s : State) (t : HomeTxn) : List (Nat × Bool × Bool) :=
  let line := t.line.toNat
  let own := s.reqCache t.req
  let others := (s.holders line).filter (fun i => some i != own && s.cacheOn i)
  let inv := others.map (fun i => (i, true, false))
  let shared := (match s.exclusive line with
    | some i => if some i == own || !s.cacheOn i then [] else [(i, false, false)]
    | none => [])
  match t.req with
  | .hostRead _ _ mv => if mv = .a then inv else shared
  | .hostWrite _ _ _ _ _ _ _ => if s.ownerWrite line t.req then [] else inv
  | .access id => (match s.acc id with
    | some a => if a.kind = .read then shared else inv
    | none => [])
  | .peerOwn _ _ _ => inv
  | .peerWb _ _ _ _ => []
  | .giveUp _ => inv
  | .gone => []

/-- The bytes of a transaction's line that an access touches: offset in the access, count, and the first byte's address. -/
def txnPart (t : HomeTxn) (a : Access) : Nat × Nat × Nat :=
  let i := (t.line.toNat - roundDown (localOf a.pa) 64) / 64
  let p := linePart a i
  (p.1, p.2, localOf a.pa + p.1)

/-- The `i`-th line of an access has been served; the last one ends it (14 R339). -/
def State.lineDone (s : State) (id i : Nat) (st : Status) (data : Bytes) (bad : Bool) : State :=
  match s.acc id with
  | none => s
  | some a =>
    let got := a.got ++ [(i, st, data, bad)]
    let n := lineCount (localOf a.pa) a.len
    if got.length < n then s.modAcc id (fun x => { x with got := got })
    else
      let at_ (k : Nat) := got.find? (fun g => g.1 == k)
      let first := got.findSome? (fun g => if g.2.1 = .ok then none else some g.2.1)
      let all := ((List.range n).map (fun k => (at_ k).elim (zeros 64) (fun g => padTo g.2.2.1 64))).flatten
      s.finish id { status := first.getD .ok,
                    data := if a.kind = .read then ownBytes a all else if a.kind = .atomic then data else [],
                    poison := if a.kind = .read then (List.range n).map (fun k => (at_ k).elim false (·.2.2.2)) else [] }

/-- A memory access of the home agent. -/
def State.homeMem (s : State) (pu : Purpose) (part : Option Nat) (k : AccKind) (addr : Nat) (data : Bytes) (be : List Bool)
    (poison : Bool) : State :=
  s.launch { mkAccess .block pu k part (s.localPa addr) (if k = .read then 64 else data.length) with
    data := data, be := be, poison := if k = .read then [] else [poison] }

/-- The partition of a line's window, for the fabric's accounting. -/
def State.linePartition (s : State) (line : Nat) : Option Nat := (s.windowAt line).map (·.partition)

/-- Serve a transaction whose snoops have been answered. -/
def State.serveTxn (s : State) (t : HomeTxn) : State :=
  let line := t.line.toNat
  let read (s : State) : State :=
    (s.modTxn t.id (fun t => { t with phase := .reading })).homeMem (.home t.id) (s.linePartition line) .read line [] [] false
  let write (s : State) (addr : Nat) (data : Bytes) (be : List Bool) (bad : Bool) : State :=
    (s.modTxn t.id (fun t => { t with phase := .writing })).homeMem (.home t.id) (s.linePartition line) .write addr data be bad
  match t.req with
  | .hostRead _ _ _ => read s
  | .peerOwn _ _ _ => read s
  | .hostWrite _ _ _ _ data be bad => write s line (padTo data 64) (bitList 64 be.toNat) bad
  | .peerWb _ _ data bad => write s line (padTo data 64) (List.replicate 64 true) bad
  | .giveUp _ => s.dropTxn t.id
  | .gone => s.dropTxn t.id
  | .access id =>
    match s.acc id with
    | none => s.dropTxn t.id
    | some a =>
      if a.kind = .write then
        let p := txnPart t a
        let bad := a.poison.getD ((t.line.toNat - roundDown (localOf a.pa) 64) / 64) false
        write s p.2.2 (cut a.data p.1 p.2.1) ((a.be.drop p.1).take p.2.1) bad
      else read s

/-- An answer to OWN. -/
def State.ownData (s : State) (t : HomeTxn) (st : Status) (data : Bytes) (bad : Bool) : State :=
  match t.req with
  | .peerOwn _ tag src =>
    (s.dropTxn t.id).sendPacket { s.answer .dat 0x23 src tag st 0 (padTo data 64) 0 with
      poison := if bad then BitVec.ofNat 4 (2 ^ (t.line.toNat % 256 / 64)) else 0 }
  | _ => s

/-- Begin a transaction that is first for its line: requests without effect are answered, a grant makes sure of its way, and the
snoops go out. A near atomic writes its line at home, so a sealed line is neither owned nor written back (07 R178), and a line written
back takes INTACT from a measured region over it (15 R374). (DESIGN CHOICE, log 105) -/
def State.beginTxn (s : State) (t : HomeTxn) : State :=
  let line := t.line.toNat
  let quiet := (s.holders line).isEmpty && !s.home.txns.any (fun u => u.id != t.id && u.line == t.line)
  let go (s : State) : State :=
    (s.modTxn t.id (fun t => { t with phase := .snooping, quiet := quiet })).sendSnoops t.id line (s.snoopsFor t)
  match t.req with
  | .peerOwn _ _ src =>
    if (s.cacheOfInst src.toNat).elim true (fun i => !s.permits line i) then s.ownData t .permission [] false
    else if s.sealHit line 64 then s.ownData t .sealed [] false
    else grantWay s t go
  | .peerWb tag src _ _ =>
    if (s.cacheOfInst src.toNat).isSome && s.exclusive line == s.cacheOfInst src.toNat then
      if s.sealHit line 64 then
        ((s.dropTxn t.id).unhold line ((s.cacheOfInst src.toNat).getD 0)).sendPacket (s.answer .rsp 0x18 src tag .sealed 0 [] 0)
      else go (s.clearIntact line 64)
    else (s.dropTxn t.id).sendPacket (s.answer .rsp 0x18 src tag .ok 0 [] 0)
  | .access id =>
    match s.acc id with
    | none => s.dropTxn t.id
    | some a =>
      if s.farRefused a then (s.dropTxn t.id).finish id { status := .permission, data := atomicTail 0 false quiet, poison := [] } else go s
  | .hostRead n tag mv =>
    let r : HomeReq := .hostRead n tag (s.readMeta n line mv)
    let t := { t with req := r }
    let ask (s : State) : State :=
      (s.modTxn t.id (fun t => { t with phase := .snooping, quiet := quiet })).sendSnoops t.id line (s.snoopsFor t)
    grantWay (s.modTxn t.id (fun t => { t with req := r })) t ask
  | .hostWrite _ _ _ _ _ _ _ => go s
  | .giveUp _ => go s
  | .gone => s.dropTxn t.id
where
  /-- Keep a filter entry for a grant, after a victim where the set is full. -/
  grantWay (s : State) (t : HomeTxn) (go : State → State) : State :=
    let line := t.line.toNat
    let keep (s : State) : State := s.modFilter (fun l => l ++ [{ line := t.line, mask := 0, excl := false }])
    if !t.needsWay || (s.filterAt line).isSome then go s
    else if (s.setOf line).length < 16 then go (keep s)
    else match s.victimOf line with
      | none => s
      | some v =>
        let s := { s with home := { s.home with evict := sat32 s.home.evict } }
        let l := ((s.holders v.line.toNat).filter s.cacheOn).map (fun i => (i, true, false))
        (s.modTxn t.id (fun t => { t with phase := .evicting, victim := some v.line })).sendSnoops t.id v.line.toNat l

/-- A write-back of a host to a line is on its way to memory. -/
def State.wbBusy (s : State) (line : Nat) : Bool :=
  s.accesses.any (fun a => match a.purpose with
    | .homeWb _ _ l => l == line
    | _ => false)

/-- The transaction may begin: it has a tracker entry, no earlier one serves or evicts its line, and an atomic outside every window
finds its line free at the memory ports. -/
def State.mayBeginTxn (s : State) (t : HomeTxn) : Bool :=
  ((s.home.txns.take 2048).takeWhile (fun u => u.id != t.id)).all (fun u => u.line != t.line)
    && !s.home.txns.any (fun u => u.id != t.id && u.victim == some t.line)
    && (s.home.txns.take 2048).any (fun u => u.id == t.id) && !s.wbBusy t.line.toNat
    && ((s.windowAt t.line.toNat).isSome
      || !s.accesses.any (fun a => a.issued && a.stage != .home && instOf a.pa == s.ownId
        && overlaps t.line.toNat 64 (localOf a.pa) a.len))

/-- Take one transaction as far as it goes. -/
def State.stepTxn (id : Nat) (s : State) : State :=
  match s.txn id with
  | none => s
  | some t =>
    match t.phase with
    | .queued => if s.warmStart || s.warmReset then s else if s.mayBeginTxn t then again id (s.beginTxn t) else s
    | _ => if s.warmStart || s.warmReset then s else again id s
where
  /-- Snoops answered and write-backs applied: the victim's place is free, or the request is served. -/
  again (id : Nat) (s : State) : State :=
    match s.txn id with
    | none => s
    | some t =>
      let done := t.snoops.isEmpty && t.wbs == 0 && !s.wbBusy ((t.victim.getD t.line).toNat)
      match t.phase with
      | .evicting =>
        if done then
          let v := (t.victim.getD 0).toNat
          let s := s.modFilter (fun l => l.filter (fun e => e.line.toNat != v) ++ [{ line := t.line, mask := 0, excl := false }])
          let s := s.modTxn id (fun t => { t with phase := .snooping, victim := none })
          let s := s.sendSnoops id t.line.toNat (s.snoopsFor t)
          if (s.snoopsFor t).isEmpty then s.serveTxn { t with phase := .snooping, victim := none } else s
        else s
      | .snooping => if done then s.serveTxn t else s
      | _ => s

/-- Take every transaction as far as it goes, in order. -/
def State.homePump (s : State) : State := eachOf State.stepTxn (s.home.txns.map (·.id)) s

/-! ### The memory has answered -/

/-- Complete a host read: data, completion, and the filter. (DEDUCED, log 43) -/
def State.hostReadDone (s : State) (t : HomeTxn) (n tag : Nat) (mv : MetaValue) (data : Bytes) (bad : Bool) : State :=
  let line := t.line.toNat
  let me : BitVec 8 := BitVec.ofNat 8 (2 ^ n)
  let s := s.dropTxn t.id
  match mv with
  | .a => ((s.grant line me true).drive (.memData n tag data bad)).drive (.memCmp n tag .cmpE)
  | .s => ((s.grant line (((s.filterAt line).map (·.mask)).getD 0 ||| me) false).drive (.memData n tag data bad)).drive
      (.memCmp n tag .cmpS)
  | _ => (s.drive (.memData n tag data bad)).drive (.memCmp n tag .cmp)

/-- What a host's write leaves in the filter (14 R340): the E holder keeps what its MetaValue names, any other holds nothing. -/
def State.hostWriteFilter (s : State) (line n : Nat) (mv : MetaValue) (owner : Bool) : State :=
  if owner then
    match mv with
    | .i => s.unhold line n
    | .s => s.modFilter (fun l => l.map (fun e => if e.line.toNat = line then { e with excl := false } else e))
    | _ => s
  else s.unhold line n

/-- A line of the write-back buffer is freed: the host port returns its RwD credit (14 R354). -/
def State.wbFree (s : State) (n : Nat) : State :=
  State.drive { s with home := { s.home with wbBuf := s.home.wbBuf.set n (s.home.wbBuf.getD n 0 - 1) } } (.hostRwd n 1)

/-- A BI-ConflictAck that waited for the Cmp of a host's write to the line goes out (14 R342). -/
def State.ackConflicts (s : State) (n line : Nat) : State :=
  let mine (c : Nat × BitVec 48) : Bool := c.1 == n && c.2.toNat == line
  eachOf (fun c t => t.drive (.biConflictAck c.1 c.2)) (s.home.conflicts.filter mine)
    { s with home := { s.home with conflicts := s.home.conflicts.filter (fun c => !mine c) } }

/-- The new value of an atomic goes out, or the old one is told where the line is poisoned. -/
def State.atomicRead (s : State) (t : HomeTxn) (a : Access) (op : AtomicOp) (res : AccResult) : State :=
  if res.status ≠ .ok then (s.dropTxn t.id).lineDone a.id 0 res.status (atomicTail 0 false t.quiet) false
  else if res.poison.any (· == true) then (s.dropTxn t.id).lineDone a.id 0 .poison (atomicTail 0 false t.quiet) true
  else
    let old := fld res.data (localOf a.pa % 64) op.size
    let v := atomicNew op old
    (s.modTxn t.id (fun t => { t with phase := .writing, old := old, swapped := v.2 })).homeMem (.home t.id)
      (s.linePartition t.line.toNat) .write (localOf a.pa) (leBytes op.size v.1) (List.replicate op.size true) false

/-- The home agent's own access has ended. -/
def State.homeBack (s : State) (id : Nat) (res : AccResult) : State :=
  match s.txn id with
  | none => s
  | some t =>
    let line := t.line.toNat
    match t.phase with
    | .reading =>
      let bad := res.status != .ok || res.poison.any (· == true)
      match t.req with
      | .hostRead n tag mv => s.hostReadDone t n tag mv res.data bad
      | .peerOwn _ _ src =>
        if res.status ≠ .ok then s.ownData t res.status [] false
        else
          let me : BitVec 8 := BitVec.ofNat 8 (2 ^ ((s.cacheOfInst src.toNat).getD 0))
          (s.grant line me true).ownData t .ok res.data bad
      | .access aid =>
        match s.acc aid with
        | none => s.dropTxn id
        | some a =>
          match a.op with
          | some op => s.atomicRead t a op res
          | none => (s.dropTxn id).lineDone aid ((line - roundDown (localOf a.pa) 64) / 64) res.status res.data
              (res.poison.any (· == true))
      | _ => s.dropTxn id
    | .writing =>
      match t.req with
      | .hostWrite n tag mv p data be bad =>
        let owner := s.ownerWrite line (.hostWrite n tag mv p data be bad)
        State.ackConflicts ((((s.dropTxn id).hostWriteFilter line n mv owner).wbFree n).drive (.memCmp n tag .cmp)) n line
      | .peerWb tag src _ _ =>
        let s := (s.dropTxn id).unhold line ((s.cacheOfInst src.toNat).getD 0)
        s.sendPacket (s.answer .rsp 0x18 src tag res.status 0 [] 0)
      | .access aid =>
        match s.acc aid with
        | none => s.dropTxn id
        | some a =>
          (s.dropTxn id).lineDone aid ((line - roundDown (localOf a.pa) 64) / 64) res.status
            (atomicTail t.old t.swapped t.quiet) false
      | _ => s.dropTxn id
    | _ => s.modTxn id (fun t => { t with wbs := t.wbs - 1 })

/-- A host's write-back has been applied: its completion, then a BI-ConflictAck that waited for it (14 R342). -/
def State.wbBack (s : State) (n tag line : Nat) : State :=
  if 2 ≤ n then s else State.ackConflicts ((s.wbFree n).drive (.memCmp n tag .cmp)) n line

/-! ### Snoop answers (14 R341, R343, R346) -/

/-- The transaction that waits for a cache's answer about a line. (DEDUCED, log 40) -/
def State.snooper (s : State) (line i : Nat) : Option HomeTxn :=
  s.home.txns.find? (fun t => (t.victim.getD t.line).toNat == line && t.snoops.any (fun x => x.1 == i))

/-- Count one stale entry, or a late answer. (DEDUCED, log 40) -/
def State.countStale (s : State) : State := { s with home := { s.home with stale := sat32 s.home.stale } }

/-- A cache has answered the snoop of a transaction, holding nothing of the line unless `keeps`. -/
def State.snoopAnswered (s : State) (t : HomeTxn) (line i : Nat) (keeps : Bool) : State :=
  let s := s.modTxn t.id (fun t => { t with snoops := t.snoops.filter (fun x => x.1 != i) })
  if keeps then s.modFilter (fun l => l.map (fun e => if e.line.toNat = line then { e with excl := false } else e))
  else s.unhold line i

/-- A host has answered a snoop (14 R355). (DEDUCED, log 40) -/
def State.biTake (s : State) (n line : Nat) (st : BiRsp) : State :=
  match s.snooper line n with
  | none => s.countStale
  | some t =>
    let x := (t.snoops.find? (fun x => x.1 == n)).getD (n, true, false)
    let s := match st with
      | .i => if x.2.2 then s else s.countStale
      | _ => if x.2.1 then s.countStale else s
    s.snoopAnswered t line n (st != .i && !x.2.1)

/-- A line of a window has come poisoned from another instance (16 R384, R394). -/
def State.peerPoison (s : State) (p line inst : Nat) (bad : Bool) : State :=
  if bad then s.poisonLine 3 4 p (s.localPa line) (s.linePartition line) inst (.peer inst) false else s

/-- A peer's snoop answer, which came by port `p`: its data are written before the request proceeds, unless the line is sealed (07 R178);
a measured region over it is no longer intact (15 R374). (DEDUCED, log 40; DESIGN CHOICE, log 105) -/
def State.peerSnoopBack (s : State) (p id line i : Nat) (data : Option (Bytes × Bool)) : State :=
  match s.txn id with
  | none => s.countStale
  | some t =>
    if !t.snoops.any (fun x => x.1 == i) then s.countStale
    else
      let s := s.snoopAnswered t line i false
      match data with
      | none => s.countStale
      | some d =>
        let s := s.peerPoison p line (s.cacheInst i) d.2
        if s.sealHit line 64 then s
        else
        ((s.clearIntact line 64).modTxn id (fun t => { t with wbs := t.wbs + 1 })).homeMem (.home id) (s.linePartition line) .write line (padTo d.1 64)
          (List.replicate 64 true) d.2

/-- The tracker entry of a snoop is kept only for a late answer. -/
def State.endSnoopTag (s : State) (txn i : Nat) : State :=
  { s with tracker := s.tracker.map (fun e =>
    if e.access = txn && (e.opcode == 0x10 || e.opcode == 0x11) && e.dst.toNat == s.cacheInst i then { e with ended := true } else e) }

/-- A holder is lost for a line: what it held in E is written poisoned, and a record is written. (DEDUCED, log 42) -/
def State.loseLine (s : State) (line i : Nat) : State :=
  let excl := s.exclusive line == some i
  let inst := if i < 2 then s.ownId else s.cacheInst i
  let t := s.snooper line i
  let s := match t with
    | some t => (s.snoopAnswered t line i false).endSnoopTag t.id i
    | none => s.unhold line i
  if excl then
    let s := { s with home := { s.home with lost := sat32 s.home.lost } }
    let s := match t with
      | some t => s.modTxn t.id (fun t => { t with wbs := t.wbs + 1 })
      | none => s
    let s := s.homeMem ((t.map (fun t => Purpose.home t.id)).getD (.homeWb 2 0 line)) (s.linePartition line) .write line
      ((List.range 64).map (fun k => Config.poisonByte (BitVec.ofNat 64 (line + k)))) (List.replicate 64 true) true
    s.poisonLine 5 0x0A 0 (s.localPa line) (s.linePartition line) inst .block true
  else
    s.record { s.errAt (s.errRec 3 .timeout .hd 0x0A 0) (s.localPa line) with
      inst := BitVec.ofNat 16 inst, part := BitVec.ofNat 8 ((s.linePartition line).getD 0xFF) }

/-- SNOOP_TIMEOUT. -/
def State.snoopTimeout (s : State) (line i : Nat) : State := if (s.snooper line i).isSome then s.loseLine line i else s

/-- Every line of a holder that is lost. (DEDUCED, log 42) -/
def State.loseHolder (s : State) (i : Nat) : State :=
  eachOf (fun (e : FilterEntry) t => t.loseLine e.line.toNat i) (s.home.filter.filter (fun e => e.mask.getLsbD i)) s

/-! ### Host requests (14 R340, R342) -/

/-- The host port serves CXL.mem: from READY, since a seed allows no data traffic (04 R92), and not in a warm start (02 R35).
(DESIGN CHOICE, log 99) -/
def State.hostOn (s : State) (n : Nat) : Bool := (s.host n).readyOut && s.start.ready && !s.warmReset

/-- A host's read of a window line. (DEDUCED, log 89) -/
def State.hostMemRd (s : State) (n addr : Nat) (mv : MetaValue) (tag : Nat) : State :=
  if s.hostOn n && (s.windowAt addr).isSome then s.openTxn (roundDown addr 64) (.hostRead n tag mv) else s

/-- A host's write of a window line. One sent without an RwD credit finds no line of the buffer and is not taken (14 R354). A write-back
that answers a snoop passes the requests that wait for it. (DESIGN CHOICE, log 104) -/
def State.hostMemWr (s : State) (n addr : Nat) (mv : MetaValue) (partial_ : Bool) (tag : Nat) (data : Bytes) (be : BitVec 64)
    (bad : Bool) : State :=
  if !(s.hostOn n && (s.windowAt addr).isSome) then s
  else
    let line := roundDown addr 64
    if 128 ≤ s.home.wbBuf.getD n 0 then s
    else
    let s := { s with home := { s.home with wbBuf := s.home.wbBuf.set n (s.home.wbBuf.getD n 0 + 1) } }
    let s := if bad then s.poisonLine 4 3 n (s.localPa line) (s.linePartition line) s.ownId .block true else s
    let r : HomeReq := .hostWrite n tag mv partial_ data be bad
    match s.snooper line n with
    | some t =>
      if s.ownerWrite line r then
        let s := s.modTxn t.id (fun t => { t with snoops := t.snoops.map (fun x => if x.1 = n then (x.1, x.2.1, true) else x) })
        (s.hostWriteFilter line n mv true).homeMem (.homeWb n tag line) (s.linePartition line) .write line (padTo data 64)
          (bitList 64 be.toNat) bad
      else s.openTxn line r
    | none => s.openTxn line r

/-- BIConflict. -/
def State.biConflict (s : State) (n : Nat) (addr : BitVec 48) : State :=
  if !s.hostOn n then s
  else
    let line := roundDown addr.toNat 64
    let s := { s with home := { s.home with conflict := sat32 s.home.conflict } }
    if s.accesses.any (fun a => match a.purpose with
        | .homeWb k _ l => k == n && l == line
        | _ => false) then
      { s with home := { s.home with conflicts := s.home.conflicts ++ [(n, BitVec.ofNat 48 line)] } }
    else s.drive (.biConflictAck n (BitVec.ofNat 48 line))

/-- Another M2S opcode on a window line. (DEDUCED, log 43) -/
def State.unknownM2s (s : State) (n : Nat) (isRead : Bool) (addr tag : Nat) : State :=
  if !(s.hostOn n && (s.windowAt addr).isSome) then s
  else
    let s := s.record (s.errAt (s.errRec 3 .malformed .hd 0x0A 0) (s.localPa (roundDown addr 64)))
    if isRead then (s.drive (.memData n tag [] true)).drive (.memCmp n tag .cmp) else s.drive (.memCmp n tag .cmp)

/-- A host request outside every window (14 R355): HDM-H. (DESIGN CHOICE, log 99) -/
def State.hdmH (s : State) (n : Nat) (write : Bool) (addr tag : Nat) (data : Bytes) (be : BitVec 64) (bad : Bool) : State :=
  if !s.hostOn n || (s.windowAt addr).isSome then s
  else
    let line := roundDown addr 64
    let s := if write && bad then s.poisonLine 4 3 n (s.localPa line) none s.ownId .block true else s
    s.homeMem (.hdm n tag) none (if write then .write else .read) line (if write then padTo data 64 else []) 
      (if write then bitList 64 be.toNat else []) bad

/-- Its answer. -/
def State.hdmBack (s : State) (n tag : Nat) (isRead : Bool) (res : AccResult) : State :=
  if isRead then
    (s.drive (.memData n tag res.data (res.status != .ok || res.poison.any (· == true)))).drive (.memCmp n tag .cmp)
  else s.drive (.memCmp n tag .cmp)

/-- A host's CXL.cache snoop: the block holds no host line (02, CXL features). -/
def State.hostSnooped (s : State) (n : Nat) (addr : BitVec 64) : State := s.drive (.snoopMiss n addr)

/-- A read of a host ends without data, which come poisoned, and a write without effect: what is asked cannot reach the hold. -/
def State.hostCut (s : State) (n tag : Nat) (isRead : Bool) : State :=
  if isRead then (s.drive (.memData n tag [] true)).drive (.memCmp n tag .cmp) else s.drive (.memCmp n tag .cmp)

/-- What a host port in service has taken is served. Windows are the hold's, across SL-A: while that is out of service a request for
one ends, and an answer is lost. (DESIGN CHOICE, log 103) -/
def State.hostTake (s : State) (n : Nat) (m : HostMsg) : State :=
  let cut := (s.linkFault .slA).isSome
  let on (addr : Nat) : Bool := s.hostOn n && (s.windowAt addr).isSome
  match m with
  | .read addr mv tag => if cut && on addr then s.hostCut n tag true else s.hostMemRd n addr mv tag
  | .write addr mv p tag data be bad => if cut && on addr then s.hostCut n tag false else s.hostMemWr n addr mv p tag data be bad
  | .conflict addr => if cut then s else s.biConflict n addr
  | .unknown rd addr tag => if cut && on addr then s.hostCut n tag rd else s.unknownM2s n rd addr tag
  | .hdm w addr tag data be bad => s.hdmH n w addr tag data be bad
  | .snoop addr => s.hostSnooped n addr
  | .answer line st => if cut then s else s.biTake n line st

/-- Something comes in on CXL.cache or CXL.mem of a port in service: in a warm start it is held, to be served after it
(02 R35; 14 R356). -/
def State.hostCome (s : State) (n : Nat) (m : HostMsg) : State :=
  if !(s.host n).readyOut then s
  else if s.warmStart || s.warmReset then { s with home := { s.home with hostHeld := s.home.hostHeld ++ [(n, m)] } }
  else s.hostTake n m

/-- What was held through a warm start is taken, in order. -/
def State.hostHeldGo (s : State) : State :=
  if s.warmStart || s.warmReset then s
  else eachOf (fun (x : Nat × HostMsg) t => t.hostTake x.1 x.2) s.home.hostHeld { s with home := { s.home with hostHeld := [] } }

/-! ### The loss of SL-A (01 R15; 02 R46, R58) -/

/-- A transaction whose requester is cut off: nothing is left where it is queued, else it takes in what its snoops bring (14 R341). -/
def HomeTxn.cut (t : HomeTxn) : Option HomeTxn := if t.phase = .queued then none else some { t with req := .gone }

/-- A transaction that a host or a peer asked for across SL-A. -/
def HomeTxn.outside (t : HomeTxn) : Bool :=
  match t.req with
  | .hostRead _ _ _ => true
  | .hostWrite _ _ _ _ _ _ _ => true
  | .peerOwn _ _ _ => true
  | .peerWb _ _ _ _ => true
  | _ => false

/-- Its requester is told that it has ended. -/
def State.cutAnswer (st : Status) (t : HomeTxn) (s : State) : State :=
  match t.req with
  | .hostRead n tag _ => s.hostCut n tag true
  | .hostWrite n tag _ _ _ _ _ => State.ackConflicts ((s.wbFree n).hostCut n tag false) n t.line.toNat
  | .peerOwn _ tag src => s.sendPacket (s.answer .dat 0x23 src tag st 0 (zeros 64) 0)
  | .peerWb tag src _ _ => s.sendPacket (s.answer .rsp 0x18 src tag st 0 [] 0)
  | _ => s

/-- SL-A has left service: what hosts and peers had asked of the home agent ends; a write-back on its way to memory arrives there. (DESIGN CHOICE, log 103) -/
def State.cutHome (s : State) (st : Status) : State :=
  let s := eachOf (State.cutAnswer st) (s.home.txns.filter HomeTxn.outside) s
  let s := eachOf (fun (a : Access) t => match a.purpose with
    | .homeWb n tag line => if n < 2 then State.ackConflicts ((t.wbFree n).hostCut n tag false) n line else t
    | _ => t) s.accesses s
  State.trim { s with
    accesses := s.accesses.map (fun a => match a.purpose with
      | .homeWb _ _ line => { a with purpose := .homeWb 2 0 line }
      | _ => a),
    home := { s.home with txns := s.home.txns.filterMap (fun t => if t.outside then t.cut else some t) } }

/-- HD_AP_CTRL: enable, and clear sets every entry to 3. -/
def State.apCtrl (s : State) (v : BitVec 32) : State :=
  { s with home := { s.home with
    apEnable := v.getLsbD 0, predictor := if v.getLsbD 1 then [] else s.home.predictor } }

end Sys2Proof.Machine
end

