-- ==== Sys2Proof/Machine/Tick.lean ====
section
/-! DEFINITION. The clocks of a slice: phases of CORE and STORE, and the passing of one root cycle (03 R59, R69, R72, R73). -/

namespace Sys2Proof.Machine

/-- The slice is in ebb, by its supply warning or by order (03 R69, 05 R117). -/
def ClockState.inEbb (k : ClockState) : Bool := k.ebbSupply || k.ebbOrdered

/-- Root cycles per CORE cycle of the mode in force (03 R59). -/
def coreDivision (k : ClockState) : Nat :=
  match k.fbNow, k.ebbNow with
  | false, false => 4
  | false, true => 8
  | true, false => 5
  | true, true => 10

/-- Root cycles of a phase of half a period: the shorter and the longer one differ by at most one root cycle, and ebb doubles both
(03 R59, R69). (DESIGN CHOICE, log 96) -/
def phaseLen (period : Nat) (highLong low ebb : Bool) : Nat :=
  (if low == highLong then period / 2 else period - period / 2) * (if ebb then 2 else 1)

/-- Root cycles of the present CORE phase: of ÷4, or ÷5 in fallback, each doubled in ebb (03 R59). -/
def corePhase (k : ClockState) : Nat := phaseLen (if k.fbNow then 5 else 4) Config.coreHighLong k.low k.ebbNow

/-- Root cycles of the present STORE phase: of ÷2, or ÷3 in fallback, each doubled in ebb (03 R59). -/
def storePhase (k : ClockState) : Nat := phaseLen (if k.sFb then 3 else 2) Config.storeHighLong k.sLow k.sEbb

/-- One root cycle of CORE: at a phase boundary ebb takes or leaves force (03 R69), at a rising edge fallback does (R72), and there
CK_CYCLES counts (R76). (DESIGN CHOICE, log 96) -/
def ClockState.coreTick (k : ClockState) : ClockState :=
  if k.phase + 1 < corePhase k then { k with phase := k.phase + 1 }
  else if k.low then { k with phase := 0, low := false, ebbNow := k.inEbb, fbNow := k.fallback, cycles := k.cycles + 1 }
  else { k with phase := 0, low := true, ebbNow := k.inEbb }

/-- One root cycle of STORE, whose phases take the mode CORE is in at their own boundaries: in nominal mode every CORE boundary is one
(03 R69). (DESIGN CHOICE, log 96) -/
def ClockState.storeTick (k : ClockState) : ClockState :=
  if k.sPhase + 1 < storePhase k then { k with sPhase := k.sPhase + 1 }
  else if k.sLow then { k with sPhase := 0, sLow := false, sEbb := k.ebbNow, sFb := k.fbNow }
  else { k with sPhase := 0, sLow := true, sEbb := k.ebbNow }

/-- The dividers start: CORE, STORE and CTRL rise together, in the mode that is asked (03 R72, R73). -/
def ClockState.align (k : ClockState) : ClockState :=
  { k with phase := 0, low := false, ebbNow := k.inEbb, fbNow := k.fallback, sPhase := 0, sLow := false, sEbb := k.inEbb,
           sFb := k.fallback, ctrl := 0 }

/-- One root cycle of a slice that is out of cold reset; CTRL is the eighth part of the root (03 R59), and only the hold slice has STORE.
(DESIGN CHOICE, log 3) -/
def ClockState.tick (sl : Slice) (k : ClockState) : ClockState :=
  if !k.porN then k
  else
    let k := { k with ctrl := (k.ctrl + 1) % 8 }.coreTick
    if sl = .hd then k.storeTick else k

end Sys2Proof.Machine
end

