-- ==== Sys2Proof/Machine/Reset.lean ====
section
/-! DEFINITION. Reset: what cold and warm reset do to each slice's state (02 R57, 03 R73-R74), supply warning and ebb
(03 R69-R72), crossings that lose their clock (02 R58, 03 R66-R68), and slice links (02 R45, R46, R56). -/

namespace Sys2Proof.Machine

/-- The clock block of a slice under reset: mode as 03 R72 says, everything a cold reset resets at its reset value. -/
def ClockState.cold (k : ClockState) : ClockState :=
  { warnPin := k.warnPin, warnSync := k.warnSync, ebbSupply := k.ebbSupply && k.warnPin }

/-- The clock block of a slice under warm reset: divisions, codes and counts kept, a supply step in hand with them, crossings and flags
cleared (03 R74; 16 R408). -/
def ClockState.warm (k : ClockState) : ClockState :=
  { k with wrstN := true, lost := 0, dead := 0, overrun := 0, ebbSupply := k.ebbSupply && k.warnPin, exitCounting := false,
           events := [0, 0] }

/-- Cold reset of the shore slice's state. -/
def State.coldSh (s : State) : State :=
  { s with
    fuses := {}, start := {}, fenced := State.reset.fenced, chart := {}, tapUnlock := false, tap := tabErase s.tap 0, tapData := tabErase s.tapData 0,
    cores := s.cores.filter (fun e => decide (3 ≤ e.1)), fw := {}, mgmt := {}, relay := {}, irq := {}, hosts := [], cacheTags := [], nextCache := 0, peers := [],
    tracker := [], nextTag := 0, unreach := 0, dbCheck := 0, dbState := 0, dbLast := 0, latches := [], ident := {},
    ras := { s.ras with log := [], logCount := 0 }, links := tabErase (tabErase s.links 0) 2 }

/-- Cold reset of the engine slice's state. -/
def State.coldEn (s : State) : State :=
  { s with
    latches := s.latches.map (fun e => (e.1, { e.2 with cyclesHi := e.2.cyclesHi.set 1 0 })),
    portEnable := [], engReqs := [], beats := [], owedBeats := [], nextOrder := 0, trans := {}, landings := [], stalls := [], stale := 0,
    inv := {}, tap := tabErase s.tap 1, tapData := tabErase s.tapData 1, thermal := { s.thermal with throttleReq := false },
    links := tabErase (tabErase s.links 1) 2 }

/-- Cold reset of the hold slice's state. -/
def State.coldHd (s : State) : State :=
  { s with
    cores := s.cores.filter (fun e => decide (e.1 < 3)),
    latches := s.latches.map (fun e => (e.1, { e.2 with staged := none, cyclesHi := e.2.cyclesHi.set 2 0, tideHi := [] })),
    mems := [], parts := [], releases := [], queues := [], alloc := {}, chans := [], arbR := [], arbW := [], sluice := {},
    cmb := {}, tide := {}, home := {}, tearBurst := [], hold := {}, health := {}, tap := tabErase s.tap 2, tapData := tabErase s.tapData 2,
    thermal := { throttleReq := s.thermal.throttleReq }, ras := { log := s.ras.log, logCount := s.ras.logCount },
    links := tabErase (tabErase s.links 0) 1 }

/-- A slice is held in cold reset: its outputs idle, its accesses lost. -/
def State.coldAssert (s : State) (sl : Slice) : State :=
  let s := s.modClock sl ClockState.cold
  let s := { s with accesses := [], ended := [], gated := [] }
  match sl with
  | .sh => s.coldSh
  | .en => s.coldEn
  | .hd => s.coldHd

/-- The start has progress to report: the start bit of SH_IRQ_STATUS. -/
def State.setStart (s : State) (st : StartState) : State :=
  let news := (st.ready && !s.start.ready) || (st.stopped && !s.start.stopped) || (st.waiting && !s.start.waiting)
  let t := { s with start := st }
  if news then t.shIrq 0 else t

/-- The start stops with a failure: only a cold reset leaves this state (05 R100). -/
def State.stopStart (s : State) (code : BitVec 8) : State :=
  s.setStart { s.start with stopped := true, failure := code }

/-- A slice leaves cold reset; when the last of the three does, step 1 has ended (05 R97). A start that has stopped does not go on
(02 R56, 05 R100). -/
def State.coldRelease (s : State) (sl : Slice) : State :=
  if (s.clock sl).porN then s else
  let s := s.modClock sl (fun k => ClockState.align { k with porN := true, exitCounting := k.ebbSupply && !k.warnPin })
  let all := [Slice.sh, .en, .hd].all (fun k => (s.clock k).porN)
  if s.start.stopped then s else s.setStart { step := if all then 2 else 1 }

/-! ### Crossings' names (03) -/

/-- What a crossing bit of a slice stands for. -/
inductive CrossAt where
  | host (n : Nat) | peer (p : Nat) | link (l : Link) | inner
  deriving DecidableEq, Repr, Inhabited

/-- The boundary behind a bit of CK_LOST (03). -/
def crossAt (sl : Slice) (k : Nat) : CrossAt :=
  match sl with
  | .sh => if k < 2 then .host k else if k < 6 then .peer (k - 2) else if k = 6 then .link .slA
           else if k = 7 then .link .slC else .inner
  | .en => if k = 0 then .link .slB else if k = 1 then .link .slC else .inner
  | .hd => if k = 0 then .link .slA else if k = 1 then .link .slB else .inner

/-! ### Warm reset -/

/-- A warm reset has effect: the slice is out of cold reset and the last start has ended, or is itself warm (03 R73).
(DESIGN CHOICE, log 107) -/
def State.warmOk (s : State) (sl : Slice) : Bool :=
  (s.clock sl).porN && !s.start.stopped && (s.start.ready || s.start.warm)

/-- The slice that a number of 05's tables names. -/
def sliceOf (n : Nat) : Slice := if n = 0 then .sh else if n = 1 then .en else .hd

/-- One unit of a mode change takes the new value, or returns to the old one (05 R117). A supply controller takes steps to it. -/
def State.unitSet (m : ModeChange) (new : Bool) (u : UnitRef) (s : State) : State :=
  let v := if new then m.value else m.old
  match m.kind.toNat, u with
  | 1, .hold => s.setBurstTear m.target.toNat (v == 1)
  | 2, .cell n =>
    let k := ((s.pipe m.target.toNat).route.idxOf n.val)
    s.modPipe m.target.toNat (fun p => { p with ops := p.ops.set k ((if new then m.words else m.oldWords).getD k 0) })
  | 3, .supply sl => s.modClock sl (fun c => { c with supplyGoal := some (v.truncate 4) })
  | 3, .clockUnit sl => s.modClock sl (fun c => { c with fallback := new || m.old == 1 })
  | 4, .clockUnit sl => s.modClock sl (fun c => { c with ebbOrdered := v == 1 })
  | _, _ => s

/-- Units of a mode change return to the old value (05 R120, R121). -/
def State.modeOld (s : State) (m : ModeChange) : State := eachOf (State.unitSet m false) m.units s

/-- A transaction still waits for snoop answers or for the write-backs they brought. -/
def HomeTxn.waits (t : HomeTxn) : Bool := !t.snoops.isEmpty || t.wbs != 0

/-- What a warm start keeps of a transaction (14 R356): a host's request is served again, once what it waits for is there; any other
ends, and only takes in what its snoops bring. (DEDUCED, log 75) -/
def HomeTxn.warm (t : HomeTxn) : Option HomeTxn :=
  let again := match t.req with
    | .hostRead _ _ _ => true
    | .hostWrite _ _ _ _ _ _ _ => true
    | _ => false
  if again then some (if t.waits then t else { t with phase := .queued, snoops := [], victim := none, wbs := 0 })
  else if t.waits then some { t with req := .gone } else none

/-- Accesses that a warm start keeps: a host's own, a write-back of the near-atomic buffer, the write-backs of the home agent, and the
write of an error record (02 R35; 14 R356; 16 R408). -/
def State.keptWarm (s : State) (a : Access) : Bool :=
  match a.purpose with
  | .hdm _ _ => true
  | .nearWb _ => true
  | .homeWb _ _ _ => true
  | .ras => true
  | .home t => s.home.txns.any (fun u => u.id == t && u.wbs != 0)
  | _ => false

/-- A kept access goes to its memory port again; a write-back by a peer port has left. -/
def Access.againWarm (a : Access) : Access :=
  match a.purpose with
  | .nearWb _ => a
  | _ => { a with stage := .held }

/-- A firmware core that a warm reset holds: its registers cleared, its expiries kept (03 R74, 05 R107). -/
def Core.held (k : Core) : Core := { expiries := k.expiries, state := if k.state = .fenced then .fenced else .held }

/-- A host port whose crossing lost its clock runs bring-up again, without the credits it had (03 R74). -/
def HostPort.again (lost : Bool) (h : HostPort) : HostPort := if lost then { h with rxCredits := 0, txCredits := 0 } else h

/-- The shore slice at the assertion of warm reset: firmware is held, the session closes, alias key and SPDM session are
discarded, a mode change in progress takes its old value, peers in CLOCK_LOST run bring-up again (03 R74; 05 R114, R121).
(DEDUCED, log 75) -/
def State.warmSh (s : State) (dead : BitVec 9) : State :=
  let s := match s.mgmt.change with
    | some m => s.modeOld m
    | none => s
  { s with
    cores := s.cores.map (fun e => if e.1 < 3 then (e.1, e.2.held) else e),
    fw := { addr := s.fw.addr },
    mgmt := { s.mgmt with cmdProd := 0, cmdCons := 0, evtProd := 0, evtCons := 0, overrun := 0, agreed := 0, session := false,
                          sessionNo := 0, prevSeq := 0xFFFFFFFF, nextEvt := 0, queue := [], writing := false, dropped := 0,
                          droppedTel := 0, change := none, changes := [] },
    relay := {},
    hosts := s.hosts.map (fun e => (e.1, e.2.again (dead.getLsbD e.1))),
    peers := tabMap {} s.peers (fun x => { x with
      replay := 0, hdrDrop := 0, misroute := 0, late := 0, creditErr := 0,
      state := if x.state = .clockLost ∨ x.state = .keying then .down else x.state,
      readyOut := x.readyOut && x.state != .keying, keyx := {} }),
    tracker := s.tracker.map (fun t => { t with
      ended := t.ended || !(t.opcode == 0x10 || t.opcode == 0x11 || s.accesses.any (fun a => a.id == t.access && s.keptWarm a)) }),
    unreach := 0, cacheTags := [],
    dbCheck := 0, dbState := 0, dbLast := 0,
    ident := { s.ident with cdiAlias := none, aliasKey := 0, aliasPub := [], cert := [], session := .none, missed := 0, sessionKey := 0,
                            negotiated := [], doeReady := none, secReady := false, jobs := [] } }

/-- Every accepted engine request ends ABORTED (02 R57). -/
def State.engAborted (s : State) : State :=
  let s := eachOf (fun (r : EngReq) t => t.drive (.engineRsp r.port r.rq.tag .aborted 0 0)) s.engReqs s
  { s with engReqs := [] }

/-- The engine slice at the assertion of warm reset: every accepted engine request ends ABORTED; stalls, walks and held
invalidations are discarded (02 R57; 08 R193, R195). (DEDUCED, log 75) -/
def State.warmEn (s : State) : State :=
  let s := s.engAborted
  { s with
    beats := [], owedBeats := [], stalls := [], stale := 0,
    landings := tabMap {} s.landings (fun l => { base := l.base, valid := l.valid, sizeLog2 := l.sizeLog2 }),
    inv := { fence := s.inv.fence, vecValid := s.inv.vecValid, vector := s.inv.vector },
    trans := { s.trans with l1 := [], l2 := [], walkPtrs := [], walks := [], l2Hit := 0, l2Miss := 0, walkReads := 0,
                            checkFail := 0, atsInv := 0 } }

/-- The queue table, channels, combine slots and engine-port tags at their reset values (05 step 15; 09 R235; 12 R302, R312).
(DEDUCED, log 95) -/
def State.resetWork (s : State) : State :=
  let s := { s with
    queues := [], chans := [], arbR := [], arbW := [], cmb := {}, sluice := { pipes := s.sluice.pipes, foldCc := s.sluice.foldCc },
    engReqs := [], beats := [], owedBeats := [], portEnable := [], releases := [] }
  let s := eachOf (fun c (t : State) => if t.fenced.channels.getLsbD c then t.modChan c (fun k => { k with state := .fenced }) else t)
    (List.range 64) s
  eachOf (fun (e : PartEntry) t => t.setPart e.partition .disabled) s.theChart.parts s

/-- An allocation or a free has written leaves or metadata, and not all its journal records, or a free may have taken its count to
zero (06 R147). (DESIGN CHOICE, log 101) -/
def AllocJob.isTorn (j : AllocJob) : Bool :=
  match j.stage with
  | .room => (match j.asker with
    | .attach _ => true
    | _ => false)
  | .count => true
  | .tables => j.isFree
  | .writing => true
  | .drain => true
  | .freeing => true
  | .journal => true
  | _ => false

/-- The hold slice at the assertion of warm reset: nothing new is issued, answers to earlier tags will be discarded
(02 R57), and the counters 16 R408 names are zeroed. (DEDUCED, log 75; DESIGN CHOICE, log 110) -/
def State.warmHd (s : State) : State :=
  let s := s.engAborted.resetWork
  State.trim { s with
    cores := s.cores.map (fun e => if 3 ≤ e.1 then (e.1, e.2.held) else e),
    accesses := (s.accesses.filter s.keptWarm).map Access.againWarm,
    ended := [],
    mems := tabMap {} s.mems (fun m => { m with out := [], dead := m.dead ++ m.out.map (fun t => (t.tag, false)) }),
    hold := { patrolOn := s.hold.patrolOn, interval := s.hold.interval, row := s.hold.row },
    tide := { s.tide with refused := 0 },
    alloc := { s.alloc with pools := [], jobs := [], bulks := [], reserved := 0, jnlQueue := [], jnlBusy := false,
                            torn := s.alloc.torn ++ s.alloc.jobs.filterMap (fun j =>
                              if j.isTorn then (tabGet none s.alloc.pools j.part).map (fun p => (j, p)) else none) },
    home := { s.home with
      txns := s.home.txns.filterMap HomeTxn.warm, evict := 0,
      stale := 0, lost := 0, conflict := 0, apNear := 0, apFar := 0 },
    health := { s.health with scans := 0, slices := tabMap {} s.health.slices (fun m =>
      { m with latest := [], minimum := 0, steps := 0, rescan := false, told := false, due := none }) },
    thermal := { s.thermal with cc := 0 } }

/-- Warm reset is asserted at a slice. (DEDUCED, log 75; DESIGN CHOICE, log 107) -/
def State.warmAssert (s : State) (sl : Slice) : State :=
  if !s.warmOk sl then s
  else
    let dead := (s.clock sl).dead
    let lost := dead != 0
    let s := eachOf (fun (k : Nat) t => match crossAt sl k with
      | .link l => if dead.getLsbD k then t.modLink l (fun x => { x with up := false }) else t
      | _ => t) (List.range 9) s
    let s := s.modClock sl ClockState.warm
    let s := s.setStart { step := 1, warm := true, lost := s.start.lost || lost }
    match sl with
    | .sh => s.warmSh dead
    | .en => s.warmEn
    | .hd => s.warmHd

/-- The links a warm start brings up again are those whose crossing had lost its clock. -/
def State.linksUp (s : State) : Bool := [Link.slA, .slB, .slC].all (fun l => (s.link l).up)

/-- Warm reset is released at a slice, whose dividers start anew (03 R73); when the last of the three is, the warm start goes to step 3 or
step 11 (05 R97). -/
def State.warmRelease (s : State) (sl : Slice) : State :=
  if !(s.clock sl).wrstN then s
  else
    let s := s.modClock sl (fun k => ClockState.align { k with wrstN := false, exitCounting := k.ebbSupply && !k.warnPin })
    if s.warmReset then s
    else s.setStart { s.start with step := if s.linksUp then 11 else 3, waiting := s.linksUp }

/-! ### Supply warning and ebb (03 R69-R72) -/

/-- supply_warn rises: the slice enters ebb at its next phase boundary, once; a rise during the exit count restarts it.
(DEDUCED, log 64) -/
def State.warnRise (s : State) (sl : Slice) : State :=
  let k := s.clock sl
  let entered := k.porN && !k.ebbSupply
  s.setClock sl { k with
    warnPin := true, warnSync := true, ebbSupply := true, exitCounting := false,
    ebbCount := if entered then sat32 k.ebbCount else k.ebbCount,
    ebbStart := if k.ebbSupply then k.ebbStart else k.cycles }

/-- supply_warn falls: the exit count begins, unless the slice is in reset, where it waits for the release (03 R69, R72). -/
def State.warnFall (s : State) (sl : Slice) : State :=
  s.modClock sl (fun k => { k with
    warnPin := false, warnSync := false, exitCounting := k.porN && !k.wrstN && k.ebbSupply })

/-! ### Crossings (02 R58, 03 R66) -/

/-- An access needs this slice link (01 R15): host and peer data cross SL-A, engine data, the translations of the hold's agents and the
walkers' reads SL-B; SL-C carries no access, only register traffic, interrupts, invalidation commands and resumes.
(DESIGN CHOICE, log 103) -/
def needsLink (l : Link) (a : Access) : Bool :=
  match l with
  | .slA => (match a.stage with
    | .peerReady | .peer _ | .hostWin _ _ => true
    | _ => false) || (match a.purpose with
    | .hdm _ _ => true
    | .peerServe _ _ _ => true
    | _ => false)
  | .slB => (match a.agent, a.purpose with
    | .engine _ _, .xlate _ _ => false
    | .engine _ _, _ => true
    | _, .walkEntry _ => true
    | _, _ => a.stage == .translating || a.stage == .faulted)
  | .slC => false

/-- The tracker entry of an access that has ended has no answer to wait for: its tag is kept until PEER_TAG_RELEASE (11 R283). -/
def Tracker.without (as : List Access) (e : Tracker) : Tracker :=
  if e.opcode ≠ 0x10 ∧ e.opcode ≠ 0x11 ∧ as.any (fun a => a.id == e.access) = true then { e with ended := true } else e

/-- End every access that a boundary carries with a status. -/
def State.failWhere (s : State) (p : Access → Bool) (st : Status) : State :=
  let gone := s.accesses.filter p
  eachOf (fun (a : Access) t => t.lose a.id st .never) gone { s with tracker := s.tracker.map (Tracker.without gone) }

/-- Accesses that wait on a host port. -/
def onHost (n : Nat) (a : Access) : Bool :=
  match a.stage with
  | .hostWin k _ => k == n
  | _ => false

/-- Accesses that wait on an answer of a peer port are those whose tracker entry names it (11 R280). -/
def State.onPeer (s : State) (p : Nat) (a : Access) : Bool :=
  match a.stage with
  | .peer tag => s.tracker.any (fun t => t.tag == tag && t.port == p && !t.ended)
  | _ => false

/-- CROSS_TIMEOUT passed at a crossing: CLOCK_LOST, the transfer dropped, outputs idle, an error record, and the operations
that needed it end CLOCK_LOST. The inner boundaries exist only in fallback. (DEDUCED, log 76) -/
def State.loseClock (s : State) (sl : Slice) (k : Nat) : State :=
  let c := s.clock sl
  let at_ := crossAt sl k
  if !c.porN || c.dead.getLsbD k || (at_ == .inner && !c.fbNow) then s
  else
    let m : BitVec 9 := BitVec.ofNat 9 (2 ^ k)
    let unit_ : Nat × Nat := match at_ with
      | .host n => (3, n)
      | .peer p => (4, p)
      | .link l => (5, linkIx l)
      | .inner => (5, 8)
    let s := s.record { s.errRec 4 .clockLost sl unit_.1 unit_.2 with detail0 := BitVec.ofNat 64 (statusCode .clockLost) }
    let s := (s.modClock sl (fun c => { c with dead := c.dead ||| m, lost := c.lost ||| m })).shIrq 4
    match at_ with
    | .host n =>
      (((s.modHost n (fun h => { h with readyOut := false })).doeGone n).failWhere (onHost n) .clockLost).shIrq 6
    | .peer p =>
      let s := (s.modPeer p (fun x => { x with readyOut := false, state := .clockLost, keyx := {} })).rerouteWaiting p
      (s.failWhere (s.onPeer p) .clockLost).shIrq 6
    | .link l => (s.failWhere (needsLink l) .clockLost).shIrq 6
    | .inner => s

/-- A slice link is declared down (02 R46): logged, outputs idle, operations that need it end BUS_ERROR. (DEDUCED, log 76) -/
def State.linkDown (s : State) (l : Link) (sl : Slice) : State :=
  let s := s.modLink l (fun k => { k with down := true })
  let s := s.record { s.errRec 4 .busError sl 5 (linkIx l) with detail0 := BitVec.ofNat 64 (statusCode .busError) }
  (s.failWhere (needsLink l) .busError).shIrq 6

/-- The place of an end's credits, and of the other end's (02 R45). -/
def endIx (l : Link) (sl : Slice) : Nat := (linkEnds l).idxOf sl

/-- The sending end spends a credit for the group that has come to `rx` (02 R28, R45). (DEDUCED, log 97) -/
def LinkState.spend (k : LinkState) (l : Link) (rx : Slice) : LinkState :=
  { k with credits := k.credits.set (1 - endIx l rx) (k.credits.getD (1 - endIx l rx) 0 - 1) }

/-- The group was sent: it is one of a replay, or the sending end held a credit for it (02 R28). (DEDUCED, log 97) -/
def LinkState.mayCome (k : LinkState) (l : Link) (rx : Slice) : Bool :=
  (linkEnds l).contains rx && (k.failed || decide (0 < k.credits.getD (1 - endIx l rx) 0))

/-- A group arrives at a slice-link end (02 R46): a good one ends a replay and returns a credit, a damaged one asks for a
replay, and the eighth failed replay of one group in a row takes the link down. A group has cost its sender one credit, a replayed
one no other. An end that lost its clock takes and drives nothing (R58). (DEDUCED, log 97) -/
def State.linkGroup (s : State) (l : Link) (rx : Slice) (damaged : Bool) : State :=
  let k := s.link l
  if !k.up || k.down || (s.linkFault l).isSome || !k.mayCome l rx then s
  else
    let k := if k.failed then k else k.spend l rx
    if damaged then
      if k.failed && decide (7 ≤ k.badReplays) then
        (s.setLink l { k with badReplays := 8 }).linkDown l rx
      else (s.setLink l { k with failed := true, badReplays := if k.failed then k.badReplays + 1 else 0 }).drive (.linkReplay l rx)
    else
      let k' := { k with failed := false, badReplays := 0, replays := if k.failed then sat32 k.replays else k.replays }
      (s.setLink l k').drive (.linkCredit l rx)

end Sys2Proof.Machine
end

