-- ==== Sys2Proof/Machine/Zaric.lean ====
section
/-! DEFINITION. Requests over the peer ports (11 R275-R283): sending them, serving those of other instances, their answers and
limits; and the near-atomic buffer with its predictor (14 R349-R351). -/

namespace Sys2Proof.Machine

/-! ### The atomic predictor (14 R349) -/

/-- The predictor's index of a physical address. -/
def predIndex (pa : Nat) : Nat := bits pa 17 6 ^^^ bits pa 29 18 ^^^ bits pa 41 30 ^^^ bits pa 53 42 ^^^ bits pa 59 54

/-- The entry of an address; a cold start leaves 3. -/
def State.predAt (s : State) (pa : Nat) : Nat := (tabGet (3 : BitVec 2) s.home.predictor (predIndex pa)).toNat

/-- Set an entry. -/
def State.predSet (s : State) (pa v : Nat) : State :=
  { s with home := { s.home with predictor := tabSet (3 : BitVec 2) s.home.predictor (predIndex pa) (BitVec.ofNat 2 v) } }

/-- The update that the COMP of a far atomic brings. (DEDUCED, log 44) -/
def State.predComp (s : State) (pa subop : Nat) : State :=
  let v := s.predAt pa
  if !bit subop 1 then s.predSet pa 3
  else if bit subop 0 then s.predSet pa (v - 1)
  else s.predSet pa (min 3 (v + 1))

/-! ### The near-atomic buffer (14 R351) -/

/-- The line of an access's address. -/
def paLine (pa : BitVec 60) : BitVec 60 := BitVec.ofNat 60 (roundDown pa.toNat 64)

/-- The line of the buffer with an address. -/
def State.nearAt (s : State) (line : BitVec 60) : Option NearLine := s.home.near.find? (fun l => l.line == line)

/-- Change the buffer. -/
def State.modNear (s : State) (f : List NearLine → List NearLine) : State := { s with home := { s.home with near := f s.home.near } }

/-- Perform an atomic on a line held in E: at once, and nothing is sent. -/
def State.nearDo (s : State) (a : Access) (op : AtomicOp) (l : NearLine) : State :=
  let put (l' : NearLine) (s : State) : State := s.modNear (fun ls => ls.filter (fun x => x.line != l.line) ++ [l'])
  if l.bad then (put l s).fail a.id .poison
  else
    let off := a.pa.toNat % 64
    let old := fld l.data off op.size
    let v := atomicNew op old
    let s := put { l with data := overlay l.data off (leBytes op.size v.1), count := l.count + 1 } s
    State.finish { s with home := { s.home with apNear := sat32 s.home.apNear } } a.id
      { status := .ok, data := leBytes 8 old ++ [BitVec.ofNat 8 (b2n v.2), 0], poison := [] }

/-- An OWN for the line is chosen or on its way. (DEDUCED, log 44) -/
def State.owning (s : State) (line : BitVec 60) : Bool :=
  s.accesses.any (fun a => a.near == some true && paLine a.pa == line)

/-- Evict the least recently used line that is not on its way out, by a WRITEBACK. -/
def State.nearEvict (s : State) : State :=
  match s.home.near.find? (fun l => !l.evicting) with
  | none => s
  | some l =>
    let s := s.modNear (fun ls => ls.map (fun x => if x.line = l.line then { x with evicting := true, wb := s.nextId } else x))
    s.launch { mkWrite .block (.nearWb l.line) none l.line l.data [l.bad] with stage := .peerReady }

/-- Choose the way of an atomic to another instance, or perform it on a line held here (14 R349-R351). (DEDUCED, log 44) -/
def State.nearTry (id : Nat) (s : State) : State :=
  match s.acc id with
  | none => s
  | some a =>
    match a.op with
    | none => s
    | some op =>
      if a.stage ≠ .peerReady || a.near.isSome then s
      else
        let line := paLine a.pa
        match s.nearAt line with
        | some l => if l.evicting then s else s.nearDo a op l
        | none =>
          if s.owning line then s
          else
            let near := if a.tried.contains false then true else if a.tried.contains true then false
              else s.home.apEnable && decide (s.predAt a.pa.toNat ≤ 1)
            if !near then s.modAcc id (fun x => { x with near := some false })
            else
              let owns := s.accesses.countP (fun x => x.near == some true)
              if s.home.near.length + owns < 64 then s.modAcc id (fun x => { x with near := some true })
              else if s.home.near.any (·.evicting) then s else s.nearEvict

/-- Choose for every atomic that waits to leave. -/
def State.nearPump (s : State) : State :=
  eachOf State.nearTry ((s.accesses.filter (fun a => a.stage == .peerReady && a.kind == .atomic)).map (·.id)) s

/-- A snoop meets the buffer: a line held goes out with its data, wherever it stands. -/
def State.nearSnoop (s : State) (k : Packet) : State :=
  let line : BitVec 60 := BitVec.ofNat 60 (k.src.toNat * 2 ^ 48 + roundDown k.addr.toNat 64)
  match s.nearAt line with
  | none => s.sendPacket (s.answer .rsp 0x19 k.src k.tag .ok 0 [] 0)
  | some l =>
    let s := s.modNear (fun ls => ls.filter (fun x => x.line != line))
    let s := if !l.evicting && decide (l.count < 2) then s.predSet line.toNat 3 else s
    s.sendPacket (s.answer .dat 0x22 k.src k.tag .ok 0 l.data (b2n l.bad * 2 ^ (line.toNat % 256 / 64)))

/-! ### Sending a request (11 R271, R273-R277) -/

/-- The packet of an access to another instance. Poison bits count lines from the first line of the 256-byte window. -/
def State.requestOf (s : State) (a : Access) : Packet :=
  let base (op : Nat) : Packet := { s.mkPacket .req op (instOf a.pa) with
    part := if a.mc then 0 else BitVec.ofNat 4 (a.part.getD 0), mc := a.mc, scope := a.scope, sem := a.sem,
    tide := BitVec.ofNat 16 (a.tide.getD 0xFFFF), addr := BitVec.ofNat 48 (localOf a.pa) }
  let marks := maskOf a.poison <<< (localOf a.pa % 256 / 64)
  let data (p : Packet) (b : Bytes) : Packet := { p with payload := b, length := BitVec.ofNat 9 b.length }
  match a.purpose with
  | .signalSend _ => { data (base 0x04) a.data with addr := 0 }
  | .contribPiece c =>
    { data (base 0x05) a.data with
      poison := BitVec.ofNat 4 (maskOf a.poison),
      aux := BitVec.ofNat 32 (((s.chan c).run.map (fun r => bits (r.words.getD 11 0).toNat 63 48)).getD 0) }
  | .nearWb _ => { data (base 0x02) a.data with subop := 1, poison := BitVec.ofNat 4 marks }
  | _ =>
    match a.kind, a.op with
    | .read, _ => { base 0x01 with aux := BitVec.ofNat 32 a.len }
    | .atomic, some op =>
      if a.near = some true then { base 0x06 with addr := BitVec.ofNat 48 (roundDown (localOf a.pa) 64) }
      else
        let b := leBytes 8 op.operand.toNat ++ (if op.subop = 0x0A then leBytes 8 op.swap.toNat else [])
        { data (base 0x03) b with subop := op.subop, aux := BitVec.ofNat 32 op.size }
    | _, _ =>
      let p := { data (base 0x02) a.data with poison := BitVec.ofNat 4 marks }
      if a.be.all (· == true) then p else { p with hasBe := true, be := a.be }

/-- Requests in the tracker that have no final answer yet (11 R277, R287); snoops are not requests. -/
def State.outstanding (s : State) : Nat := s.tracker.countP (fun e => !e.ended && e.opcode != 0x10 && e.opcode != 0x11)

/-- The tracker has an entry free, and a tag no packet in flight has. -/
def State.trackRoom (s : State) : Bool := decide (s.outstanding < 8192) && decide (s.usedTags.length < 65535)

/-- Hold space for the data a request returns has been reserved: a burst's and an engine request's when they were issued. -/
def Access.reserved (a : Access) : Bool :=
  a.held.isSome || (match a.purpose with
    | .readBurst _ _ => true
    | .engine _ _ _ => true
    | _ => false)

/-- The request can have the hold space it needs: a READ, OWN or ATOMIC takes 256 bytes of its partition's quota (11 R273).
(DEDUCED, log 68) -/
def State.reserveRoom (s : State) (a : Access) : Bool := a.kind == .write || a.reserved || s.holdFree (quotaOf a.part) 256

/-- Take that space. -/
def State.reserveFor (s : State) (a : Access) : State :=
  if a.kind = .write ∨ a.reserved = true then s
  else (s.holdTake (quotaOf a.part) 256).modAcc a.id (fun x => { x with held := some (quotaOf x.part) })

/-- PEER_REQUEST_SEND: the request ends at once where no port is usable (11 R276); else it takes a tracker entry, for which it waits
(R277), and goes to its port. -/
def State.requestSend (s : State) (id : Nat) : State :=
  match s.acc id with
  | none => s
  | some a =>
    if a.stage ≠ .peerReady || s.warmReset || (a.kind == .atomic && a.near.isNone) then s
    else
      let k := s.requestOf a
      match s.portFor k with
      | .inl st => (s.countUnreach st).fail id st
      | .inr p =>
        if !s.trackRoom || !s.reserveRoom a then s
        else
        let s := s.reserveFor a
        let t := s.track id p k.opcode k.dst (a.near == some true)
        let s := t.2.modAcc id (fun x => { x with stage := .peer t.1, tried := x.near.elim x.tried (fun n => x.tried ++ [n]) })
        let s := if k.opcode = 0x03 then { s with home := { s.home with apFar := sat32 s.home.apFar } } else s
        s.queueOn p { k with tag := t.1 }

/-! ### Answers (11 R271, R282, R283) -/

/-- The tracker entry that an answer goes to. -/
def State.tracked (s : State) (tag : BitVec 16) : Option Tracker := s.tracker.find? (fun e => e.tag == tag && !e.ended)

/-- The final answer has been taken: the tag is free. -/
def State.untrack (s : State) (tag : BitVec 16) : State := { s with tracker := s.tracker.filter (fun e => e.tag != tag) }

/-- Change a tracker entry. -/
def State.modTrack (s : State) (tag : BitVec 16) (f : Tracker → Tracker) : State :=
  { s with tracker := s.tracker.map (fun e => if e.tag = tag then f e else e) }

/-- Take an answer of an opcode: the packet, its tracker entry, and the state after it; a late one is counted. -/
def State.takeAnswer (s : State) (p op : Nat) : Option (Packet × Tracker × State) × State :=
  match s.takePacket p (fun k => k.opcode.toNat == op) with
  | none => (none, s)
  | some (k, t) =>
    match t.tracked k.tag with
    | some e => (some (k, e, t), t)
    | none => (none, State.acked (t.modPeer p (fun x => { x with late := sat32 x.late })) (.peer k.tag))

/-- An atomic is refused one way: it goes the other, once (14 R350). -/
def State.atomicTurn (s : State) (e : Tracker) (now : Bool) : State :=
  match (s.untrack e.tag).acc e.access with
  | none => s.untrack e.tag
  | some a =>
    let s := (s.untrack e.tag).predSet a.pa.toNat (if now then 3 else 0)
    if a.tried.contains (!now) then s.fail a.id .permission
    else s.modAcc a.id (fun x => { x with stage := .peerReady, near := none })

/-- Both parts of a far atomic's answer are there. -/
def State.atomicDone (s : State) (tag : BitVec 16) : State :=
  match s.tracked tag with
  | some e =>
    match e.comp, e.got with
    | some (.ok, _), some d => (s.untrack tag).finish e.access { status := .ok, data := d ++ [0], poison := [] }
    | some (.ok, _), none => s
    | some (st, _), _ => (s.untrack tag).fail e.access st
    | none, _ => s
  | none => s

/-- COMP. (DEDUCED, log 47) -/
def State.compIn (s : State) (p : Nat) : State :=
  match s.takeAnswer p 0x18 with
  | (none, s) => s
  | (some (k, e, s), _) =>
    let st := statusOf k.status.toNat
    match e.opcode.toNat with
    | 0x03 =>
      match s.acc e.access with
      | none => s.untrack k.tag
      | some a =>
        if st = .permission && bit k.subop.toNat 1 then s.atomicTurn e false
        else
          ((s.predComp a.pa.toNat k.subop.toNat).modTrack k.tag (fun x => { x with comp := some (st, k.subop.toNat) })).atomicDone k.tag
    | 0x01 =>
      let n := ((s.acc e.access).map (fun a => lineCount a.pa.toNat a.len)).getD 0
      let a := ((s.acc e.access).map (fun a => (a.pa.toNat, a.len))).getD (0, 0)
      if st = .poison then
        let d := (List.range a.2).map (fun i => Config.poisonByte (BitVec.ofNat 64 (a.1 + i)))
        let s := match s.acc e.access with
          | some x => s.notePoisons 3 4 p x e.dst.toNat false (List.replicate n true)
          | none => s
        (s.untrack k.tag).finish e.access { status := .ok, poison := List.replicate n true, data := d }
      else (s.untrack k.tag).fail e.access st
    | _ => ((s.untrack k.tag).modAcc e.access (fun x => { x with got := [(0, st, [], false)] })).fail e.access st

/-- RDDATA: the data go to the requester's buffer, with the poison of their lines. -/
def State.readDataIn (s : State) (p : Nat) : State :=
  match s.takeAnswer p 0x20 with
  | (none, s) => s
  | (some (k, e, s), _) =>
    match s.acc e.access with
    | none => s.untrack k.tag
    | some a =>
      let n := lineCount a.pa.toNat a.len
      let marks := ((bitList 4 k.poison.toNat).drop (a.pa.toNat % 256 / 64)).take n
      let s := (s.untrack k.tag).notePoisons 3 4 p a e.dst.toNat false marks
      s.finish e.access { status := .ok, data := padTo k.payload a.len, poison := marks }

/-- ATOMIC_OLD: the old value of a far atomic. -/
def State.atomicOldIn (s : State) (p : Nat) : State :=
  match s.takeAnswer p 0x21 with
  | (none, s) => s
  | (some (k, _, s), _) =>
    (s.modTrack k.tag (fun x => { x with got := some (padTo k.payload 8 ++ [BitVec.ofNat 8 (byteAt k.payload 8)]) })).atomicDone k.tag

/-- OWN_DATA: the line is held in E and the atomic performed on it, or the atomic goes far (14 R350, R351). -/
def State.ownDataIn (s : State) (p : Nat) : State :=
  match s.takeAnswer p 0x23 with
  | (none, s) => s
  | (some (k, e, s), _) =>
    match statusOf k.status.toNat with
    | .ok =>
      let a := s.acc e.access
      let line : BitVec 60 := (a.map (fun a => paLine a.pa)).getD 0
      let s := s.untrack k.tag
      match a with
      | none => s
      | some a =>
        let l : NearLine := { line := line, data := padTo k.payload 64, bad := k.poison != 0, evicting := false, count := 0 }
        let s := (s.modNear (fun ls => ls ++ [l])).modAcc a.id (fun x => { x with near := some false })
        let s := if l.bad then s.poisonLine 3 4 p line a.part e.dst.toNat a.agent false else s
        match a.op with
        | some op => s.nearDo a op l
        | none => s
    | .permission => s.atomicTurn e true
    | st => (s.untrack k.tag).fail e.access st

/-- SNP_RSP and SNP_DATA: a peer's answer to a snoop; a late one counts as stale, too (14 R343). -/
def State.snoopRspIn (s : State) (p op : Nat) : State :=
  match s.takePacket p (fun k => k.opcode.toNat == op) with
  | none => s
  | some (k, s) =>
    match s.tracked k.tag with
    | none => (s.modPeer p (fun x => { x with late := sat32 x.late })).countStale
    | some e =>
      let s := s.untrack k.tag
      match s.txn e.access, s.cacheOfInst e.dst.toNat with
      | some t, some i =>
        if (s.linkFault .slA).isSome then s
        else s.peerSnoopBack p t.id ((t.victim.getD t.line).toNat) i (if op = 0x22 then some (k.payload, k.poison != 0) else none)
      | _, _ => s.countStale

/-- PEER_REQUEST_TIMEOUT: no final answer within peer_timeout. -/
def State.requestTimeout (s : State) (tag : BitVec 16) : State :=
  match s.tracked tag with
  | none => s
  | some e =>
    if e.opcode = 0x10 ∨ e.opcode = 0x11 then s
    else
      let s := s.modTrack tag (fun x => { x with ended := true })
      let s := eachOf (fun p (t : State) => t.modPeer p (fun x => { x with
        waiting := x.waiting.filter (fun k => !(k.cls == .req && k.tag == tag)) })) [0, 1, 2, 3] s
      (s.countUnreach .remoteUnreachable).lose e.access .remoteUnreachable (.peer tag)

/-- PEER_TAG_RELEASE. -/
def State.tagRelease (s : State) (tag : BitVec 16) : State :=
  { s with tracker := s.tracker.filter (fun e => !(e.tag == tag && e.ended)) }

/-! ### Serving (11 R281, R282) -/

/-- Requests of other instances are taken: no warm start holds them. -/
def State.serving (s : State) : Bool := !s.warmStart && !s.warmReset

/-- Transactions of the home agent in use or spoken for by requests of peers on their way to it (14 R338). -/
def State.homeClaims (s : State) : Nat :=
  s.home.txns.length + ((s.accesses.filter (fun a => a.stage == .held && s.homed a)).map (fun a => lineCount (localOf a.pa) a.len)).sum

/-- A request for the home agent that finds its 2,048 transactions in use waits in its class buffer (14 R338). -/
def State.homeFull (s : State) (k : Packet) : Bool :=
  let lines := if k.opcode = 0x01 then lineCount k.addr.toNat k.aux.toNat else if k.opcode = 0x02 then lineCount k.addr.toNat k.payload.length else 1
  decide (2048 < s.homeClaims + lines) && (k.opcode == 0x06 || k.opcode == 0x03
    || ((k.opcode == 0x01 || k.opcode == 0x02) && (s.windowAt k.addr.toNat).isSome))

/-- Take a request of an opcode and serve it. What is asked of a peer's port stands in the hold, across SL-A: while that is out of
service a request ends, and a snoop has no answer (01 R15; 02 R46, R58). (DESIGN CHOICE, log 103) -/
def State.serve (s : State) (p : Nat) (f : Packet → Bool) (go : Packet → State → State) : State :=
  if !s.serving then s
  else match s.takePacket p (fun k => f k && !s.homeFull k) with
    | some (k, s) =>
      (match s.linkFault .slA with
        | none => go k s
        | some st => if k.cls = .req then s.refusePacket k st else s)
    | none => s

/-- The access of a request. -/
def peerAccess (p : Nat) (k : Packet) (kind : AccKind) (s : State) (len : Nat) : Access :=
  { mkAccess (.peer k.src.toNat) (.peerServe p k.tag k.src) kind (if k.mc then none else some k.part.toNat)
      (s.localPa k.addr.toNat) len with
    mc := k.mc, tide := if k.tide = 0xFFFF then none else some k.tide.toNat, sem := k.sem, scope := k.scope }

/-- Poison marks of a request's lines. -/
def packetMarks (k : Packet) : List Bool :=
  ((bitList 4 k.poison.toNat).drop (k.addr.toNat % 256 / 64)).take (lineCount k.addr.toNat k.payload.length)

/-- ZARIC_READ. -/
def State.zaricRead (s : State) (p : Nat) : State :=
  s.serve p (fun k => k.opcode == 0x01) (fun k s => s.launch (peerAccess p k .read s k.aux.toNat))

/-- ZARIC_WRITE. -/
def State.zaricWrite (s : State) (p : Nat) : State :=
  s.serve p (fun k => k.opcode == 0x02 && k.subop == 0) (fun k s =>
    let a := { peerAccess p k .write s k.payload.length with
      data := k.payload, be := if k.hasBe then k.be else List.replicate k.payload.length true, poison := packetMarks k }
    (s.notePoisons 3 4 p a k.src.toNat false a.poison).launch a)

/-- WRITEBACK. (DESIGN CHOICE, log 105) -/
def State.zaricWriteback (s : State) (p : Nat) : State :=
  s.serve p (fun k => k.opcode == 0x02 && k.subop == 1) (fun k s =>
    (s.peerPoison p (roundDown k.addr.toNat 64) k.src.toNat (k.poison != 0)).openTxn (roundDown k.addr.toNat 64) (.peerWb k.tag k.src k.payload (k.poison != 0)))

/-- ZARIC_ATOMIC. -/
def State.zaricAtomic (s : State) (p : Nat) : State :=
  s.serve p (fun k => k.opcode == 0x03) (fun k s =>
    let size := bits k.aux.toNat 3 0
    if !(atomicOk k.subop.toNat size && k.aux.toNat == size && k.addr.toNat % size == 0
        && (k.length == 16) == (k.subop == 0x0A)) then s.refusePacket k .malformed
    else s.launch { peerAccess p k .atomic s size with
      op := some { subop := k.subop, size := size, operand := BitVec.ofNat 64 (fld k.payload 0 8),
                   swap := BitVec.ofNat 64 (fld k.payload 8 8) } })

/-- ZARIC_SIGNAL. -/
def State.zaricSignal (s : State) (p : Nat) : State :=
  s.serve p (fun k => k.opcode == 0x04) (fun k s =>
    let t := s.tideAdd k.tide.toNat (if k.mc then none else some k.part.toNat) (fld k.payload 0 8)
    t.2.refusePacket k (if t.1 then .ok else .permission))

/-- OWN. -/
def State.zaricOwn (s : State) (p : Nat) : State :=
  s.serve p (fun k => k.opcode == 0x06) (fun k s => s.openTxn (roundDown k.addr.toNat 64) (.peerOwn p k.tag k.src))

/-- SNP_INV and SNP_SHR. -/
def State.zaricSnoop (s : State) (p op : Nat) : State :=
  s.serve p (fun k => k.opcode.toNat == op) (fun k s => s.nearSnoop k)

/-- OWNABLE: the line lies in a window that permits the requester's cache (14 R349). -/
def State.ownable (s : State) (line src : Nat) : Bool := (s.cacheOfInst src).elim false (fun i => s.permits line i)

/-- A served request has ended: its answer (11 R282; 14 R347, R349). -/
def State.peerServed (s : State) (a : Access) (tag : BitVec 16) (src : BitVec 12) (res : AccResult) : State :=
  let comp (st : Status) (subop : Nat) (s : State) : State := s.sendPacket (s.answer .rsp 0x18 src tag st subop [] 0)
  match a.kind with
  | .read =>
    if res.status ≠ .ok then comp res.status 0 s
    else if !res.poison.isEmpty && res.poison.all (· == true) then comp .poison 0 s
    else s.sendPacket { s.answer .dat 0x20 src tag .ok 0 res.data (maskOf res.poison <<< (localOf a.pa % 256 / 64)) with
      addr := BitVec.ofNat 48 (localOf a.pa) }
  | .write =>
    if res.status ≠ .ok then comp res.status 0 s
    else match a.tide with
      | none => comp .ok 0 s
      | some n =>
        let part := if a.mc then none else a.part
        let t := if a.enabledBytes = 0 then s.tideAdd n part 0 else s.tideCredit n part a.enabledBytes
        comp (if t.1 then .ok else .permission) 0 t.2
  | .atomic =>
    let line := roundDown (localOf a.pa) 64
    let forced := res.status == .permission
    let sub := 2 * b2n (forced || s.ownable line src.toNat) + b2n (byteAt res.data 9 == 1)
    if res.status ≠ .ok then comp res.status sub s
    else
      let cas := (a.op.map (fun o => o.subop == 0x0A)).getD false
      let old := res.data.take 8 ++ (if cas then leBytes 8 (byteAt res.data 8) else [])
      comp .ok sub (s.sendPacket (s.answer .dat 0x21 src tag .ok 0 old 0))

end Sys2Proof.Machine
end

