-- ==== Sys2Proof/Machine/Ports.lean ====
section
/-! DEFINITION. The ports (02): answers of the memory ports and of CXL.cache, the host link, configuration space and BAR2, slice-link
groups and credits, and the TAP. -/

namespace Sys2Proof.Machine

/-! ### Memory ports (02 R43, R44) -/

/-- The outstanding request of a tag. -/
def State.memTag (s : State) (m : Nat) (tag : BitVec 10) : Option MemTag := (s.mem m).out.find? (fun t => t.tag == tag)

/-- The tag is free. -/
def State.dropTag (s : State) (m : Nat) (tag : BitVec 10) : State :=
  s.modMem m (fun p => { p with out := p.out.filter (fun t => t.tag != tag) })

/-- An answer to a tag whose request has ended is discarded; one that comes after a limit is counted.
(DEDUCED, log 36; DEDUCED, log 90) -/
def State.lateAnswer (s : State) (m : Nat) (tag : BitVec 10) : State :=
  match (s.mem m).dead.find? (fun e => e.1 == tag) with
  | some d => State.acked (s.modMem m (fun p => { p with
      dead := p.dead.filter (fun e => e.1 != tag), late := if d.2 then sat32 p.late else p.late })) (.mem m tag)
  | none => s

/-- A memory port returns the lines of a read, or an error. -/
def State.memReturned (s : State) (m : Nat) (tag : BitVec 10) (data : Bytes) (poison : BitVec 8) (err : Bool) : State :=
  match s.memTag m tag with
  | none => s.lateAnswer m tag
  | some t =>
    if t.write then s
    else match (s.dropTag m tag).acc t.access with
      | none => s.dropTag m tag
      | some a =>
        let s := s.dropTag m tag
        if err then (s.memRecord m .busError a).fail a.id .busError
        else
          let marks := (bitList 8 poison.toNat).take t.lines
          (s.notePoisons 1 2 m a s.ownId true marks).finish a.id
            { status := .ok, data := ownBytes a (padTo data (64 * t.lines)), poison := marks }

/-- A memory port acknowledges a write, or reports an error. -/
def State.memAcked (s : State) (m : Nat) (tag : BitVec 10) (err : Bool) : State :=
  match s.memTag m tag with
  | none => s.lateAnswer m tag
  | some t =>
    if !t.write then s
    else match (s.dropTag m tag).acc t.access with
      | none => s.dropTag m tag
      | some a =>
        let s := s.dropTag m tag
        if err then (s.memRecord m .busError a).fail a.id .busError
        else s.finish a.id { status := .ok, data := [], poison := [] }

/-- A request has not been answered within 2^16 cc. -/
def State.memExpired (s : State) (m : Nat) (tag : BitVec 10) : State :=
  match s.memTag m tag with
  | none => s
  | some t =>
    let s := (s.dropTag m tag).modMem m (fun p => { p with dead := p.dead ++ [(tag, true)] })
    match s.acc t.access with
    | none => s
    | some a => (s.memRecord m .timeout a).lose a.id .timeout (.mem m tag)

/-! ### CXL.cache (07 R175; 02 R30) -/

/-- Every line of an access to a host window is back. -/
def State.cacheFinish (s : State) (n : Nat) (a : Access) (got : List (Nat × Status × Bytes × Bool)) : State :=
  let lines := lineCount (localOf a.pa) a.len
  let at_ (k : Nat) := got.find? (fun g => g.1 == k)
  let all := ((List.range lines).map (fun k => (at_ k).elim (zeros 64) (fun g => padTo g.2.2.1 64))).flatten
  if a.kind = .read then
    let marks := (List.range lines).map (fun k => (at_ k).elim false (fun g => g.2.2.2))
    (s.notePoisons 4 3 n a s.ownId false marks).finish a.id { status := .ok, data := ownBytes a all, poison := marks }
  else s.finish a.id { status := .ok, data := [], poison := [] }

/-- A CXL.cache completion comes back. -/
def State.cacheReturned (s : State) (n tag : Nat) (data : Bytes) (poison : Bool) : State :=
  match s.cacheTags.find? (fun t => t.port == n && t.tag == tag) with
  | none => s
  | some t =>
    let s := { s with cacheTags := s.cacheTags.filter (fun x => !(x.port == n && x.tag == tag)) }
    match s.acc t.access with
    | none => s
    | some a =>
      let got := a.got ++ [(t.line, Status.ok, data, poison)]
      if s.cacheTags.any (fun x => x.access == a.id) then s.modAcc a.id (fun x => { x with got := got })
      else s.cacheFinish n a got

/-! ### The host link (02 R30, R34) -/

/-- Host ports may be raised: step 9 has been reached, or a warm start keeps them (05 R97; 02 R57). (DEDUCED, log 79) -/
def State.portsOpen (s : State) : Bool := !s.start.stopped && (s.start.ready || s.start.warm || decide (9 ≤ s.start.step))

/-- A host port may go into service. (DEDUCED, log 79) -/
def State.hostMayRise (s : State) (n : Nat) : Bool :=
  (s.host n).linkUp && !(s.host n).needFall && !(s.host n).readyOut && s.charted && s.theChart.ports.hostEnable.getLsbD n
    && !s.fenced.host.getLsbD n && !(s.clock .sh).dead.getLsbD n

/-- hn_ready_out rises; the 64 receive credits and the 128 RwD credits of the write-back buffer are granted (14 R354). -/
def State.hostRise (n : Nat) (s : State) : State :=
  if s.hostMayRise n then
    ((s.modHost n (fun h => { h with readyOut := true, rxCredits := 64 })).drive (.hostCredit n 64)).drive (.hostRwd n 128)
  else s

/-- hn_link_up rises. -/
def State.hostUp (s : State) (n : Nat) : State :=
  let s := s.modHost n (fun h => { h with linkUp := true })
  if s.portsOpen then s.hostRise n else s

/-- hn_link_up falls. With no hn_link_err the port stays in service and what waits on it goes on waiting: the spec says nothing of a
fall alone. (DESIGN CHOICE, log 98) -/
def State.hostDown (s : State) (n : Nat) : State := s.modHost n (fun h => { h with linkUp := false, needFall := false })

/-- A transaction of the home agent belongs to a host port. -/
def ofHost (n : Nat) (t : HomeTxn) : Bool :=
  match t.req with
  | .hostRead k _ _ => k == n
  | .hostWrite k _ _ _ _ _ _ => k == n
  | _ => false

/-- What a host port asked for goes on without its completion. (DEDUCED, log 90) -/
def orphan (n : Nat) (a : Access) : Access :=
  match a.purpose with
  | .hdm k _ => if k = n then { a with purpose := Purpose.none } else a
  | .homeWb k _ l => if k = n then { a with purpose := Purpose.homeWb 2 0 l } else a
  | _ => a

/-- An invalidation asked by a host port that has left service goes on, with no completion to send (02 R30). -/
def InvCmd.orphan (n : Nat) (c : InvCmd) : InvCmd :=
  match c.source with
  | .ats k _ => if k = n then { c with source := .gone } else c
  | _ => c

/-- A walk asked by a host port that has left service goes on without it (02 R30). -/
def Walk.orphan (n : Nat) (w : Walk) : Walk :=
  { w with askers := w.askers.filter (fun x => match x.1 with
    | .ats k _ => k != n
    | .access _ => true) }

/-- What a host port's transaction leaves: nothing where it is queued, else one that takes in what its snoops bring (14 R341). -/
def HomeTxn.orphan (n : Nat) (t : HomeTxn) : Option HomeTxn :=
  if !ofHost n t then some t else if t.phase = .queued then none else some { t with req := .gone }

/-- Forget the transactions of a host port. (DEDUCED, log 90) -/
def State.dropHost (s : State) (n : Nat) : State :=
  State.trim { s with
    accesses := s.accesses.map (orphan n),
    inv := { s.inv with held := s.inv.held.map (InvCmd.orphan n), atsWait := s.inv.atsWait.map (InvCmd.orphan n) },
    trans := { s.trans with walks := s.trans.walks.map (Walk.orphan n) },
    home := { s.home with
      txns := s.home.txns.filterMap (HomeTxn.orphan n),
      hostHeld := s.home.hostHeld.filter (fun x => x.1 != n),
      wbBuf := s.home.wbBuf.set n 0,
      conflicts := s.home.conflicts.filter (fun c => c.1 != n) } }

/-- hn_link_err pulses: nothing more is completed on the port, the event is logged, the port returns to its post-reset state, what
waits on it ends BUS_ERROR, and its cache is a holder lost (14 R343). -/
def State.hostErr (s : State) (n : Nat) : State :=
  if !(s.host n).readyOut then s
  else
    let s := (s.setHost n { linkUp := (s.host n).linkUp, needFall := true }).doeGone n
    let s := s.record { s.errRec 4 .busError .sh 3 n with detail0 := BitVec.ofNat 64 (statusCode .busError) }
    let s := { s with cacheTags := s.cacheTags.filter (fun t => t.port != n) }
    (((s.failWhere (onHost n) .busError).dropHost n).loseHolder n).shIrq 6

/-- An attached peer cache that no usable port of its mask reaches any more. (DEDUCED, log 42) -/
def State.pathLost (s : State) (i : Nat) : Bool :=
  s.cacheOn i && (s.usablePorts (s.cacheInst i)).isEmpty && s.home.filter.any (fun e => e.mask.getLsbD i)

/-- Peer holders whose path is lost under R276 or R280 are lost for every line they hold (14 R343). (DEDUCED, log 42) -/
def State.losePaths (s : State) : State :=
  eachOf (fun i (t : State) => if t.pathLost i then t.loseHolder i else t) [2, 3, 4, 5, 6, 7] s

/-- CROSS_TIMEOUT passed at a crossing (02 R58), with the holders it takes out of service (14 R343). -/
def State.clockLost (s : State) (sl : Slice) (k : Nat) : State :=
  let was := fun n => (s.host n).readyOut
  let t := s.loseClock sl k
  let gone (n : Nat) (t : State) : State :=
    if was n && !(t.host n).readyOut then
      State.loseHolder (State.dropHost { t with cacheTags := t.cacheTags.filter (fun x => x.port != n) } n) n
    else t
  (eachOf gone [0, 1] t).losePaths

/-! ### BAR2, configuration space, I/O (02 R31-R35) -/

/-- A write to BAR2 that is no doorbell is dropped and counted (02 R33), in a warm start too: R35 turns away only doorbells. -/
def State.bar2Write (s : State) (n : Nat) (offset : BitVec 24) (size : Nat) : State :=
  if !(s.host n).readyOut || (size == 8 && offset.toNat % 4096 == 0) then s
  else { s with dbCheck := sat32 s.dbCheck, dbLast := BitVec.ofNat 12 (offset.toNat / 4096) }

/-- A read of BAR2. -/
def State.bar2Read (s : State) (n : Nat) : State := if (s.host n).readyOut then s.drive (.cplData n 0) else s

/-- An I/O request. -/
def State.ioRequest (s : State) (n : Nat) : State := if (s.host n).readyOut then s.drive (.cplUr n) else s

/-- The HDM decoder word of a configuration register. -/
def hdmWord (reg : Nat) : Option Nat :=
  if Config.hdmBase.toNat ≤ reg ∧ reg < Config.hdmBase.toNat + 64 then some ((reg - Config.hdmBase.toNat) / 4) else none

/-- What a configuration register reads, where the spec gives it. (PRESUMED, log 25) -/
def State.configRead (s : State) (n reg : Nat) : Option Nat :=
  let p := s.theChart.ports
  let h := s.host n
  match reg with
  | 0x00 => some (p.vendorId.toNat + p.deviceId.toNat * 2 ^ 16)
  | 0x04 => some h.command.toNat
  | 0x10 => some (bits h.bar0.toNat 31 24 * 2 ^ 24 + 4)
  | 0x14 => some (bits h.bar0.toNat 63 32)
  | 0x18 => some (bits h.bar2.toNat 31 24 * 2 ^ 24 + 4)
  | 0x1C => some (bits h.bar2.toNat 63 32)
  | 0x2C => some (p.subsysVendorId.toNat + p.subsysId.toNat * 2 ^ 16)
  | _ => if reg = Config.msixCap.toNat then some (0x11 + 2047 * 2 ^ 16 + 2 ^ 30 * b2n h.funcMask + 2 ^ 31 * b2n h.msixEnable)
    else (hdmWord reg).map (fun i => (tabGet 0 h.hdm i).toNat)

/-- The host port after a write of a configuration register. (PRESUMED, log 25) -/
def HostPort.configWrite (h : HostPort) (reg : Nat) (v : BitVec 32) : HostPort :=
  match reg with
  | 0x04 => { h with command := v.truncate 16 }
  | 0x10 => { h with bar0 := BitVec.ofNat 64 (bits h.bar0.toNat 63 32 * 2 ^ 32 + bits v.toNat 31 24 * 2 ^ 24) }
  | 0x14 => { h with bar0 := BitVec.ofNat 64 (h.bar0.toNat % 2 ^ 32 + v.toNat * 2 ^ 32) }
  | 0x18 => { h with bar2 := BitVec.ofNat 64 (bits h.bar2.toNat 63 32 * 2 ^ 32 + bits v.toNat 31 24 * 2 ^ 24) }
  | 0x1C => { h with bar2 := BitVec.ofNat 64 (h.bar2.toNat % 2 ^ 32 + v.toNat * 2 ^ 32) }
  | _ => if reg = Config.msixCap.toNat then { h with funcMask := v.getLsbD 30, msixEnable := v.getLsbD 31 }
    else match hdmWord reg with
      | some i => { h with hdm := tabSet 0 h.hdm i v }
      | none => h

/-- What 02 R31 keeps out of a word of configuration space that the spec does not give: the two BARs left are no I/O BARs, the Interrupt Pin
is 0, and no capability is an MSI capability, nor an ARI, an SR-IOV or a Page Request extended capability: where a header would name one
it is a null capability. The Revision ID is the chart's (R34). (PRESUMED, log 25) -/
def configMask (rev : BitVec 8) (reg : Nat) (v : BitVec 32) : BitVec 32 :=
  if reg = 0x08 then BitVec.ofNat 32 (v.toNat / 256 * 256 + rev.toNat)
  else if reg = 0x20 ∨ reg = 0x24 then v &&& 0xFFFFFFFE
  else if reg = 0x3C then v &&& 0xFFFF00FF
  else if Config.capHeader (BitVec.ofNat 12 reg) then
    if reg < 0x100 then if v.toNat % 256 = 0x05 then v &&& 0xFFFFFF00 else v
    else if v.toNat % 65536 = 0x0E ∨ v.toNat % 65536 = 0x10 ∨ v.toNat % 65536 = 0x13 then v &&& 0xFFFF0000 else v
  else v

/-- The value a configuration read returns: the spec's where it gives one; else a free value, within what 02 R31 and R34 say of it. -/
def State.configValue (s : State) (n reg : Nat) : BitVec 32 × State :=
  match s.configRead n reg with
  | some v => (BitVec.ofNat 32 v, s)
  | none => (configMask s.theChart.ports.revisionId reg (s.freeVal.1.truncate 32), s.freeVal.2)

/-- A configuration request. -/
def State.configRequest (s : State) (n : Nat) (write : Bool) (reg : BitVec 12) (v : BitVec 32) : State :=
  let r := roundDown reg.toNat 4
  if !(s.host n).readyOut then s
  else if write then (s.modHost n (fun h => h.configWrite r v)).drive (.cplOk n)
  else
    let f := s.configValue n r
    f.2.drive (.cplData n (f.1.zeroExtend 64))

/-! ### Credits (02 R28) -/

/-- Credits come back, and a sender that waited for them sends. (DEDUCED, log 97) -/
def State.creditReturn (s : State) (src : CreditSource) : State :=
  match src with
  | .peer p w => (s.takeCredits p w).flushPort p
  | .host n => s.modHost n (fun h => { h with txCredits := h.txCredits + 1 })
  | .link l sl =>
    if (s.link l).up && (s.linkFault l).isNone && (linkEnds l).contains sl then
      s.modLink l (fun k => { k with credits := k.credits.set (endIx l sl) (min 320 (k.credits.getD (endIx l sl) 0 + 1)) })
    else s

/-! ### The TAP (02 R54) -/

/-- The IDCODE of a slice. -/
def idcode (sl : Slice) : BitVec 32 := BitVec.ofNat 32 (0x2 * 2 ^ 28 + (0x0CA1 + sliceIx sl) * 2 ^ 12 + 0x0F3)

/-- What was last written into an instrument of a slice. -/
def State.instrumentData (s : State) (sl : Slice) (k : Nat) : BitVec 32 := tabGet 0 (tabGet [] s.tapData (sliceIx sl)) k

/-- A TAP instruction: the IDCODE, the bypass register's 0, the boundary cells' samples, the boundary cells on the slice's pins, or an
instrument of the 1687 network, which reads zero and ignores writes until SEC has unlocked it. In the reset state the test logic has no
effect, and drives no pin. (DESIGN CHOICE, log 21) -/
def State.tapDo (s : State) (sl : Slice) (i : TapInstr) : State :=
  let s := { s with tap := if i = .testReset then tabErase s.tap (sliceIx sl) else tabPut s.tap (sliceIx sl) i }
  match i with
  | .idcode => s.drive (.tdo sl (idcode sl))
  | .bypass => s.drive (.tdo sl 0)
  | .samplePreload => s.freeVal.2.drive (.tdo sl (s.freeVal.1.truncate 32))
  | .extest => (s.freeVal.2.drive (.tdo sl (s.freeVal.1.truncate 32))).drive (.boundary sl s.freeVal.1)
  | .instrument k false _ => s.drive (.tdo sl (if s.tapUnlock then Config.instrument (sliceIx sl) k (s.instrumentData sl k) else 0))
  | .instrument k true v =>
    if s.tapUnlock then { s with tapData := tabSet [] s.tapData (sliceIx sl) (tabSet 0 (tabGet [] s.tapData (sliceIx sl)) k v) } else s
  | .testReset => s

end Sys2Proof.Machine
end

