-- ==== Sys2Proof/Machine/Keyx.lean ====
section
/-! DEFINITION. Peer links: training, and the key exchange that brings a port UP (11 R279, R280; 15 R363-R365). -/

namespace Sys2Proof.Machine

/-- SEC firmware or the SEC boot ROM can run a key exchange (05 R97; 15 R363). -/
def State.secAble (s : State) : Bool :=
  !s.ctrlLost .sh && ((s.core 0).state == .running || !s.start.ready && !s.start.stopped && decide (9 ≤ s.start.step) && decide (s.start.step < 14))

/-- The digest that an endorsement signs. -/
def endorseDigest (inst : Nat) (pub : Bytes) : Bytes := sha384 (ascii "CAERN-ENDORSE" ++ leBytes 2 inst ++ pub)

/-- The key is the one whose hash the fuses hold, and its signature over an instance's ID and DeviceID key verifies (15 R361). -/
def State.endorseOk (s : State) (issuer sig : Bytes) (inst : Nat) (pub : Bytes) : Bool :=
  keyHashOk issuer s.fuses.keyHash && ecdsaVerify issuer (endorseDigest inst pub) sig

/-- The payload of a step; PROOF has none until it is signed. -/
def Keyx.payload (k : Keyx) (step : Nat) : Bytes :=
  match step with
  | 1 => k.ownShare
  | 2 => k.ownIdent
  | 3 => k.ownIssuer
  | _ => k.ownProof

/-- T (15 R363). -/
def State.keyxT (s : State) (p : Nat) : Bytes :=
  let x := s.peer p
  let k := x.keyx
  let own := k.ownShare ++ k.ownIdent ++ k.ownIssuer
  let far := k.share.getD [] ++ k.ident.getD [] ++ k.issuer.getD []
  sha384 (if s.ownId ≤ x.far.toNat then own ++ far else far ++ own)

/-- Send, or send again, the step in hand. (DESIGN CHOICE, log 22) -/
def State.keyxSend (s : State) (p : Nat) (tag : BitVec 16) : State :=
  let x := s.peer p
  let step := x.keyx.sent + 1
  let body := x.keyx.payload step
  let dst := if x.keyx.share.isSome then x.far else Config.keyxTo p
  s.queueOn p { s.mkPacket .req 0x09 dst.toNat with
    tag := tag, subop := BitVec.ofNat 8 step, payload := body, length := BitVec.ofNat 9 body.length }

/-- Send the next step if none awaits its acknowledgement; PROOF follows the far end's first three steps, and is signed then. -/
def State.keyxNext (s : State) (p : Nat) : State :=
  let k := (s.peer p).keyx
  if !k.running || k.awaitTag.isSome || decide (4 ≤ k.sent) then s
  else if k.sent = 3 ∧ !(k.share.isSome && k.ident.isSome && k.issuer.isSome) then s
  else if k.sent = 3 ∧ s.ident.entropyFail then s
  else
    let s := if k.sent = 3 then
        let (r, s) := s.draw
        s.modPeer p (fun x => { x with keyx := { x.keyx with
          ownProof := ecdsaSign s.ident.devKey (r.toNat % (p384N - 1) + 1) (s.keyxT p) } })
      else s
    let (tag, s) := s.takeTag
    (s.modPeer p (fun x => { x with keyx := { x.keyx with awaitTag := some tag, tries := 0 } })).keyxSend p tag

/-- A port begins or repeats its key setup: keys, sequences, credits and whatever was in flight are gone. -/
def State.keyxBegin (s : State) (p : Nat) : State :=
  let x := s.peer p
  let x : PeerPort := {
    linkUp := x.linkUp, readyOut := true, state := .keying, far := x.far, replay := x.replay, hdrDrop := x.hdrDrop,
    misroute := x.misroute, late := x.late, creditErr := x.creditErr }
  let s := (s.setPeer p x).drive (.peerGrant p peerDepths)
  if s.ident.entropyFail || !s.secAble then s
  else
    let (r1, s) := s.draw
    let (r2, s) := s.draw
    let d := r1.toNat % (p384N - 1) + 1
    let e := if s.ident.endorsed then s.ident.endorsement.getD [] else []
    let k : Keyx := {
      running := true, secret := d,
      ownShare := pubOf d ++ beBytes 32 (r2.toNat % 2 ^ 256) ++ leBytes 2 s.ownId ++ zeros 6,
      ownIdent := s.ident.devPub ++ padTo (e.drop 96) 96, ownIssuer := padTo (e.take 96) 96 }
    (s.modPeer p (fun x => { x with keyx := k })).keyxNext p

/-- A peer port may go into service: charted, enabled, not fenced off, its clock not lost, its link trained, and not in service
already. (DEDUCED, log 79) -/
def State.peerMayRise (s : State) (p : Nat) : Bool :=
  let x := s.peer p
  x.linkUp && !x.readyOut && s.charted && s.theChart.ports.peerEnable.getLsbD p && !s.fenced.peer.getLsbD p
    && !(s.clock .sh).dead.getLsbD (2 + p)

/-- pn_ready_out rises, receive credits are granted, and the key setup runs. -/
def State.peerRise (p : Nat) (s : State) : State := if s.peerMayRise p then s.keyxBegin p else s

/-- pn_link_up rises; a FAILED port may come back this way only. -/
def State.peerUp (s : State) (p : Nat) : State :=
  if (s.peer p).linkUp then s
  else
    let s := s.modPeer p (fun x => { x with linkUp := true })
    if s.portsOpen then s.peerRise p else s

/-- pn_link_up falls: what was in flight is lost, and what had not left takes another port (02 R38); a port in
service leaves it (17, SH_IRQ_STATUS.link). (DEDUCED, log 76) -/
def State.peerDown (s : State) (p : Nat) : State :=
  let x := s.peer p
  if !x.linkUp then s
  else
    let s := (s.setPeer p { x with
      linkUp := false, readyOut := false, txKey := none, rxKey := none, keyx := {}, replayBuf := [], slots := [], owed := none,
      state := if x.state = .failed ∨ x.state = .clockLost then x.state else .down }).rerouteWaiting p
    if x.state = .up then s.shIrq 6 else s

/-- Ports that a warm start finds in service wait for nothing; those it found without keys are raised again. (DEDUCED, log 79) -/
def State.raisePorts (s : State) : State :=
  let s := eachOf State.hostRise [0, 1] s
  eachOf (fun p (t : State) => if (t.peer p).state == .down then t.peerRise p else t) [0, 1, 2, 3] s

/-- The keys of both directions: the lower ID's first (15 R365). -/
def linkKeys (okm : Bytes) : LinkKey × LinkKey :=
  ({ key := cut okm 0 32, salt := cut okm 64 4 }, { key := cut okm 32 32, salt := cut okm 68 4 })

/-- The far end is authenticated: its endorsement verifies (15 R364). -/
def State.farEndorsed (s : State) (p : Nat) : Bool :=
  let x := s.peer p
  let ident := x.keyx.ident.getD []
  s.endorseOk (x.keyx.issuer.getD []) (ident.drop 96) (fld (x.keyx.share.getD []) 128 2) (ident.take 96)

/-- Once the far end's PROOF has verified and the own one is acknowledged: keys are installed, or the port fails where the fuses
ask for authentication and there is none. -/
def State.keyxInstall (s : State) (p : Nat) : State :=
  let x := s.peer p
  let k := x.keyx
  if !(k.running && k.proofOk && decide (4 ≤ k.sent)) then s
  else
    let auth := s.farEndorsed p
    if !auth && !s.fuses.policy.getLsbD 0 then s.peerFail p .checkFail (some x.far.toNat)
    else match ecdh k.secret ((k.share.getD []).take 96) with
      | none => s.modPeer p (fun y => { y with keyx := {} })
      | some z =>
        let lo := min s.ownId x.far.toNat
        let hi := max s.ownId x.far.toNat
        let ks := linkKeys (hkdf384 (s.keyxT p) z (ascii "CAERN-ZARIC" ++ leBytes 2 lo ++ leBytes 2 hi) 72)
        let own := if s.ownId ≤ x.far.toNat then ks.1 else ks.2
        let theirs := if s.ownId ≤ x.far.toNat then ks.2 else ks.1
        (s.setPeer p { x with
          txKey := some own, rxKey := some theirs, auth := auth, state := .up, txSeq := 0, rxNext := 0, replayBuf := [], rxDiscard := false,
          slots := [], badReplay := 0, owed := none, keyx := {} }).flushPort p

/-- The exchange of a port ends without keys. -/
def State.keyxEnd (s : State) (p : Nat) : State := s.modPeer p (fun x => { x with keyx := { x.keyx with running := false, awaitTag := none } })

/-- An acknowledged step: the next one, or the end. (DEDUCED, log 48) -/
def State.keyxAcked (s : State) (p : Nat) (st : Status) : State :=
  if st ≠ .ok then s.keyxEnd p
  else ((s.modPeer p (fun x => { x with keyx := { x.keyx with sent := x.keyx.sent + 1, awaitTag := none } })).keyxNext p).keyxInstall p

/-- A KEYX packet of a step: taken from the receive buffer, acknowledged, and used by `f` where its length is right and the exchange
runs. -/
def State.keyxIn (s : State) (p step len : Nat) (f : Packet → State → State) : State :=
  match s.takePacket p (fun k => k.opcode == 0x09 && k.subop.toNat == step) with
  | none => s
  | some (k, s) =>
    if k.payload.length ≠ len then s.mgmtAnswer p k .malformed
    else
      let s := s.mgmtAnswer p k .ok
      if (s.peer p).keyx.running then f k s else s

/-- SHARE. The first one counts. (DEDUCED, log 48) -/
def State.shareIn (s : State) (p : Nat) : State :=
  s.keyxIn p 1 136 (fun k s =>
    if (s.peer p).keyx.share.isSome then s
    else (s.modPeer p (fun x => { x with
      far := BitVec.ofNat 12 (fld k.payload 128 2), keyx := { x.keyx with share := some k.payload } })).keyxNext p)

/-- IDENTITY. A second one ends the exchange. (DEDUCED, log 48) -/
def State.identityIn (s : State) (p : Nat) : State :=
  s.keyxIn p 2 192 (fun k s =>
    if (s.peer p).keyx.ident.isSome then s.keyxEnd p
    else (s.modPeer p (fun x => { x with keyx := { x.keyx with ident := some k.payload } })).keyxNext p)

/-- ISSUER. A second one ends the exchange. (DEDUCED, log 48) -/
def State.issuerIn (s : State) (p : Nat) : State :=
  s.keyxIn p 3 96 (fun k s =>
    if (s.peer p).keyx.issuer.isSome then s.keyxEnd p
    else (s.modPeer p (fun x => { x with keyx := { x.keyx with issuer := some k.payload } })).keyxNext p)

/-- PROOF. One that does not verify against IDENTITY ends the exchange. -/
def State.proofIn (s : State) (p : Nat) : State :=
  s.keyxIn p 4 96 (fun k s =>
    if ecdsaVerify (((s.peer p).keyx.ident.getD []).take 96) (s.keyxT p) k.payload then
      (s.modPeer p (fun x => { x with keyx := { x.keyx with proofOk := true } })).keyxInstall p
    else s.keyxEnd p)

/-- A KEYX is not acknowledged within peer_timeout: it is sent again, at most three times. -/
def State.keyxRetry (s : State) (p : Nat) : State :=
  let k := (s.peer p).keyx
  match k.awaitTag with
  | none => s
  | some tag =>
    if k.tries < 3 then (s.modPeer p (fun x => { x with keyx := { x.keyx with tries := x.keyx.tries + 1 } })).keyxSend p tag
    else s.keyxEnd p

/-- 20 ms have passed: a port that has no keys becomes FAILED. -/
def State.keyxExpired (s : State) (p : Nat) : State :=
  let x := s.peer p
  let enabled := s.charted && s.theChart.ports.peerEnable.getLsbD p && !s.fenced.peer.getLsbD p
  if enabled && (x.state == .keying || (x.state == .down && step9 s)) then s.peerFail p .timeout (some x.far.toNat) else s
where
  /-- Step 9 of a cold start. -/
  step9 (s : State) : Bool := s.start.step == 9 && !s.start.stopped && !s.start.warm

end Sys2Proof.Machine
end

