-- ==== Sys2Proof/Machine/Start.lean ====
section
/-! DEFINITION. The start sequence (05 R97-R100, R125; 02 R49, R56), chart delivery and acceptance (04 R78-R96; 17 R417), and the
queue save area (05 R124, R125). -/

namespace Sys2Proof.Machine

/-- The start is at a step of a cold start and goes on. -/
def State.coldAt (s : State) (step : Nat) : Bool := s.start.step == step && !s.start.warm && !s.start.stopped

/-- The start is at a step. -/
def State.startAt (s : State) (step : Nat) : Bool := s.start.step == step && !s.start.stopped && !s.warmReset

/-- The start goes on to a step; a failure of the step passed is cleared (17 R416). -/
def State.startGo (s : State) (step : Nat) (waiting : Bool) : State :=
  s.setStart { s.start with step := step, waiting := waiting, failure := 0 }

/-! ### Digests of the chart (04 R96; 16 R388) -/

/-- The PIPELINES body with the operation words in force. -/
def State.pipeBody (s : State) : Bytes :=
  match secOf s.chart.image 0x09 with
  | none => []
  | some k =>
    let b := cut s.chart.image k.body k.len
    (List.range k.count).foldl (fun acc i =>
      overlay acc (64 * i + 0x10) (padTo (((s.pipe (byteAt b (64 * i))).ops.map (fun w => leBytes 4 w.toNat)).flatten) 32)) b

/-- M9 and M10 are taken again. -/
def State.takeDigests (s : State) : State :=
  let ff : Bytes := List.replicate 48 0xFF
  { s with chart := { s.chart with
    m9 := some (if s.chart.imageBad then ff else sha384 s.chart.image),
    m10 := some (if s.chart.pipesBad then ff else sha384 s.pipeBody) } }

/-- A chart that is read damaged writes an error record with unit CHART. -/
def State.noteImage (s : State) : State :=
  if s.chart.imageBad then
    s.record { s.errRec 5 .checkFail .sh 0x0C 0 with detail0 := 0 }
  else s

/-! ### Ports and step 11 -/

/-- Step 11 begins: it waits for images, and the chart's digests are taken. -/
def State.enter11 (s : State) : State := (s.noteImage.takeDigests).startGo 11 true

/-- Warm reset is released at a slice; a warm start whose links are all up enters step 11 and raises what had left service. -/
def State.warmGo (s : State) (sl : Slice) : State :=
  let t := s.warmRelease sl
  if (s.clock sl).wrstN && t.startAt 11 then t.enter11.raisePorts else t

/-! ### Steps 2 to 5 -/

/-- The fuse input is sampled (02 R49). -/
def State.fuseRead (s : State) (uds : BitVec 256) (keyHash : BitVec 384) (policy : BitVec 16) : State :=
  if s.coldAt 2 && !s.fuses.sampled then
    State.startGo { s with fuses :=
      { sampled := true, uds := uds, keyHash := keyHash, policy := if policy.toNat < 2 then policy else 0 } } 3 false
  else s

/-- fuse_valid is still low 1 ms after the release. -/
def State.fuseTimeout (s : State) : State := if s.coldAt 2 && !s.fuses.sampled then s.stopStart 0x01 else s

/-- A slice link has been brought up: each end grants its 320 credits to the other (02 R45, R56). -/
def State.linkBringUp (s : State) (l : Link) : State :=
  if s.startAt 3 && !(s.link l).up then
    let s := s.modLink l (fun k => { k with up := true, failed := false, badReplays := 0, credits := [320, 320] })
    let s := eachOf (fun sl (t : State) => t.drive (.linkGrant l sl 320)) (linkEnds l) s
    if !s.linksUp then s else if s.start.warm then s.enter11.raisePorts else s.startGo 4 false
  else s

/-- A far end has been silent for 20 ms since the release of a slice the link joins: a failure of the start, while the shore slice is there to
show it (02 R56). The start may still wait for the last slice's release. (DEDUCED, log 93) -/
def State.linkSilent (s : State) (l : Link) : State :=
  if decide (s.start.step ≤ 3) && !s.start.stopped && !s.start.ready && !s.warmReset && !(s.link l).up && (s.clock .sh).porN
      && (linkEnds l).any (fun sl => (s.clock sl).porN) then s.stopStart 0x02
  else s

/-- The channels of the clusters whose CTL cores are in a set. (DEDUCED, log 74) -/
def ctlChannels (cores : BitVec 7) : BitVec 64 :=
  BitVec.ofNat 64 ((List.range 4).map (fun k => if cores.getLsbD (3 + k) then 0xFFFF * 2 ^ (16 * k) else 0)).sum

/-- The failed units of a set: slice, unit kind and index. (DEDUCED, log 28) -/
def unitsOf (f : UnitSet) : List (Slice × Nat × Nat) :=
  let each (sl : Slice) (kind n v : Nat) : List (Slice × Nat × Nat) :=
    ((List.range n).filter (fun i => bit v i)).map (fun i => (sl, kind, i))
  each .hd 6 64 f.channels.toNat ++ each .hd 8 32 f.cells.toNat ++ each .en 7 32 f.walkers.toNat ++ each .hd 0x0D 32 f.lanes.toNat
    ++ each .en 0x10 8 f.engine.toNat ++ each .sh 3 2 f.host.toNat ++ each .sh 4 4 f.peer.toNat ++ each .hd 2 4 f.memory.toNat
    ++ each .sh 0x0B 3 f.cores.toNat
    ++ ((List.range 4).filter (fun i => f.cores.getLsbD (3 + i))).map (fun i => (Slice.hd, 0x0B, 3 + i))
    ++ ((List.range 48).filter (fun i => f.monitors.getLsbD i)).map (fun i =>
        (if i / 16 = 0 then Slice.sh else if i / 16 = 1 then .en else .hd, 0x12, i % 16))
    ++ each .hd 1 64 f.banks.toNat ++ (if f.identity then [(.sh, 0x11, 0)] else [])
    ++ ([(0, Slice.sh, 0), (1, .hd, 0), (2, .en, 1), (3, .hd, 1), (4, .en, 2), (5, .sh, 2)].filter (fun e =>
        f.linkEnds.getLsbD e.1)).map (fun e => (e.2.1, 5, e.2.2))

/-- The HEALTH record of one fenced unit. (DEDUCED, log 24; DEDUCED, log 28; DEDUCED, log 74) -/
def State.fenceRecord (u : Slice × Nat × Nat) (s : State) : State :=
  s.record { s.errRec 7 .checkFail u.1 u.2.1 u.2.2 with
    detail0 := (Config.healthReason (256 * u.2.1 + u.2.2)).zeroExtend 64 }

/-- An essential unit failed (05 R100). -/
def essentialFailed (f : UnitSet) : Bool := f.banks != 0 || f.identity || f.linkEnds != 0 || f.memory == 0xF || f.cores.getLsbD 0 || f.cores.getLsbD 2

/-- The units with a clock enable of their own that a set of failed units names (03 R62). -/
def gatedOf (f : UnitSet) : List UnitRef :=
  ((List.finRange 64).filter (fun i => f.channels.getLsbD i.val)).map UnitRef.channel
    ++ ((List.finRange 32).filter (fun i => f.walkers.getLsbD i.val)).map UnitRef.walker
    ++ ((List.finRange 32).filter (fun i => f.cells.getLsbD i.val)).map UnitRef.cell
    ++ ((List.finRange 32).filter (fun i => f.lanes.getLsbD i.val)).map UnitRef.lane
    ++ ((List.finRange 7).filter (fun i => f.cores.getLsbD i.val)).map UnitRef.core
    ++ ((List.finRange 8).filter (fun i => f.engine.getLsbD i.val)).map UnitRef.enginePort

/-- Self-test ends: failed units are fenced and stay gated for the whole life of the start (03 R62), with a record of each.
(DEDUCED, log 24; DEDUCED, log 74) -/
def State.selfTest (s : State) (f : UnitSet) : State :=
  if !s.coldAt 4 then s
  else
    let failed := unitsOf f
    let f := { f with channels := f.channels ||| ctlChannels f.cores }
    let s := { s with fenced := f, gated := gatedOf f }
    let s := eachOf (fun c (t : State) => if f.cores.getLsbD c then t.modCore c (fun k => { k with state := .fenced }) else t)
      (List.range 7) s
    let s := eachOf (fun c (t : State) => if f.channels.getLsbD c then t.modChan c (fun k => { k with state := .fenced }) else t)
      (List.range 64) s
    let s := eachOf State.fenceRecord failed s
    if essentialFailed f then s.stopStart 0x03 else s.startGo 5 false

/-- Every hold word is zero, and so are the tide counters. -/
def State.holdInit (s : State) : State :=
  if s.coldAt 5 then State.startGo { s with tide := { s.tide with values := [] } } 6 true else s

/-! ### Delivery of a chart (04 R91, R94; 17 R417) -/

/-- A delivery may begin. -/
def State.chartMayBegin (s : State) : Bool :=
  decide (6 ≤ s.start.step) && !s.start.stopped && (s.chart.state == .empty || s.chart.state == .seed || s.chart.state == .rejected)

/-- A delivery begins: the staging unit is emptied and the source owns it. -/
def State.chartBegin (s : State) (src : BitVec 2) : State :=
  { s with chart := { s.chart with
    state := .loading, code := 0, section_ := 0, offset := 0, source := src, staged := [], stagedBad := [], overLong := false } }

/-- A begin action from the control port or BAR0. -/
def State.chartBeginReg (s : State) : State := if s.chartMayBegin then s.chartBegin 1 else s

/-- A chart data write. -/
def State.chartData (s : State) (v : BitVec 32) : State :=
  if s.chart.state == .loading && s.chart.source == 1 then
    if s.chart.staged.length + 4 ≤ 65536 then { s with chart := { s.chart with staged := s.chart.staged ++ leBytes 4 v.toNat } }
    else { s with chart := { s.chart with overLong := true } }
  else s

/-- A commit from a source. -/
def State.chartCommit (s : State) (src : BitVec 2) : State :=
  if s.chart.state == .loading && s.chart.source == src then { s with chart := { s.chart with state := .checking } } else s

/-! ### Acceptance (04 R78, R87, R91, R92) -/

/-- The values that an accepted chart puts in force. -/
def State.loadChart (s : State) (c : Chart) (image : Bytes) : State :=
  let s := { s with chart := { s.chart with
    chart := some c, image := image, staged := [], stagedBad := [], imageBad := false, pipesBad := false,
    state := if c.seed then .seed else .accepted } }
  let s := eachOf (fun sl (t : State) => t.modClock sl (fun k => { k with crossTimeout := BitVec.ofNat 17 c.crossTimeout }))
    [Slice.sh, .en, .hd] s
  let s := eachOf (fun (e : PartEntry) t => (t.setPart e.partition .disabled).setBurstTear e.partition (e.flags.getLsbD 0)) c.parts s
  eachOf (fun (e : PipeEntry) t => t.setPipe e.pipeline { route := e.route, ops := e.ops, elems := 0 }) c.pipes s

/-- The state is told that it left CHECKING, and the start goes on. (DEDUCED, log 78) -/
def State.chartAccept (s : State) (c : Chart) (image : Bytes) : State :=
  let s := (s.loadChart c image).shIrq 1
  if s.startAt 6 then s.startGo 7 false
  else if s.startAt 10 && !c.seed then s.enter11
  else s

/-- A chart is rejected: the first failing check is reported and recorded; nothing else changes. (DEDUCED, log 78) -/
def State.chartReject (s : State) (code sec off : Nat) : State :=
  let s := { s with chart := { s.chart with
    state := .rejected, code := BitVec.ofNat 8 code, section_ := BitVec.ofNat 8 sec, offset := BitVec.ofNat 17 off,
    staged := [], stagedBad := [] } }
  let s := s.record { s.errRec 5 (chartStatus code) .sh 0x0C 0 with
    detail0 := BitVec.ofNat 64 (code + sec * 2 ^ 8 + off * 2 ^ 16) }
  let s := s.shIrq 1
  if s.startAt 6 || s.startAt 10 then s.setStart { s.start with failure := 0x04, waiting := true } else s

/-- A chart with an uncorrectable word in the staging unit fails the CRC over it (16 R387): code, section type and offset of the field, for
the first such line. (DESIGN CHOICE, log 26) -/
def chartSpoilt (b : Bytes) (bad : List Nat) : Option (Nat × Nat × Nat) :=
  bad.head?.map (fun off =>
    if off < 64 then (0x05, 0, 0x3C)
    else match (sectionsOf b).find? (fun k => overlaps off 64 k.pos (k.body + k.len - k.pos)) with
      | some k => (0x08, k.ty, k.pos + 0x0C)
      | none => (0x05, 0, 0x3C))

/-- CHART_CHECK_COMPLETE. (DEDUCED, log 78) -/
def State.chartCheck (s : State) : State :=
  if s.chart.state ≠ .checking then s
  else
    let b := s.chart.staged
    match (chartSpoilt b s.chart.stagedBad).or <| firstCheck (chartChecks b s.chart.overLong s.fuses.keyHash (s.fuses.policy.getLsbD 0) s.fenced
        (if s.inSeed then some s.chart.image else none)) with
    | some r => s.chartReject r.1 r.2.1 r.2.2
    | none => s.chartAccept (chartOf b) b

/-! ### Steps 14 to 16 -/

/-- Step 14. -/
def State.startInvalidate (s : State) : State := if s.startAt 14 then s.dropTranslations.startGo 15 false else s

/-- READY (05 R98; 06 R143; 09 R232): channels and engine ports take their states. -/
def State.goReady (s : State) (failure : BitVec 8) : State :=
  let s := eachOf (fun c (t : State) => if (t.chanEntry c).inUse && !t.fenced.channels.getLsbD c then
      t.modChan c (fun k => { k with state := if 60 ≤ c then .disabled else .enabled, enable := decide (c < 60) }) else t) (List.range 64) s
  let s := eachOf (fun e (t : State) => t.setPortOn e (t.theChart.ports.engineEnable.getLsbD e && !t.fenced.engine.getLsbD e))
    (List.range 8) s
  s.setStart { s.start with step := 0x11, ready := true, waiting := false, failure := failure, lost := false }

/-- Step 15. (DEDUCED, log 78) -/
def State.startReset (s : State) : State :=
  if !s.startAt 15 then s
  else if s.start.warm then s.resetWork.startGo 16 false
  else s.resetWork.goReady 0

/-! ### The save area (05 R124, R125) -/

/-- The state code of a queue (06). -/
def qStateCode : QState → Nat
  | .disabled => 0
  | .enabled => 1
  | .stopping => 2
  | .aborting => 3
  | .refused => 4

/-- The configuration word of a queue entry. -/
def State.queueCfgWord (s : State) (q : Nat) : Nat :=
  let k := s.queue q
  k.sizeLog2.toNat + (if s.chart.chart.isSome then (s.queueOwner q).getD 0xFF else 0) * 2 ^ 8 + k.channel.toNat * 2 ^ 16 + k.priority.toNat * 2 ^ 24
    + 2 ^ 26 * b2n k.enable + 2 ^ 27 * b2n k.dbEnable

/-- The state word of a queue entry. -/
def State.queueStateWord (s : State) (q : Nat) : Nat :=
  (if s.chart.chart.isSome && (s.queueOwner q).isNone then 5 else qStateCode (s.queue q).state) + statusCode (s.queue q).pending * 2 ^ 16

/-- The 32 bytes of a queue-table entry. -/
def State.queueBytes (s : State) (q : Nat) : Bytes :=
  let k := s.queue q
  leBytes 8 k.base.toNat ++ leBytes 4 (s.queueCfgWord q) ++ leBytes 4 (s.queueStateWord q) ++ leBytes 4 k.prod.toNat
    ++ leBytes 4 k.cons.toNat ++ leBytes 8 k.cursor.toNat

/-- The whole save area. -/
def State.saveArea (s : State) : Bytes :=
  let entries := ((List.range 4096).map s.queueBytes).flatten
  let head := leBytes 4 0x56415351 ++ leBytes 2 1 ++ leBytes 2 s.ownId ++ leBytes 4 (crc32c entries) ++ zeros 48
  head ++ leBytes 4 (crc32c head) ++ entries

/-- The reserved fields of a saved entry are zero (00 R11). -/
def savedRsvOk (b : Bytes) (q : Nat) : Bool :=
  let o := 64 + 32 * q
  fld b o 8 % 128 == 0 && fld b o 8 >>> 57 == 0 && fld b (o + 8) 4 >>> 28 == 0 && byteAt b (o + 0x0D) == 0 && byteAt b (o + 0x0F) == 0
    && fld b (o + 0x18) 8 % 128 == 0 && fld b (o + 0x18) 8 >>> 57 == 0

/-- The header and the entries of a save area pass their checks. -/
def State.saveOk (s : State) (b : Bytes) : Bool :=
  b.length == 131136 && fld b 0 4 == 0x56415351 && fld b 4 2 == 1 && fld b 6 2 == s.ownId && allZero (cut b 0x0C 48)
    && fld b 0x3C 4 == crc32c (b.take 0x3C) && fld b 8 4 == crc32c (b.drop 64) && (List.range 4096).all (savedRsvOk b)

/-- Restore one entry: enable is cleared; an entry of another partition than the chart's is left reset and counted. -/
def State.restoreQueue (b : Bytes) (q : Nat) (s : State) : State :=
  let o := 64 + 32 * q
  let cfg := fld b (o + 8) 4
  if bits cfg 15 8 ≠ (s.queueOwner q).getD 0xFF then { s with start := { s.start with unrestored := s.start.unrestored + 1 } }
  else match s.queueOwner q with
    | none => s
    | some _ => s.setQueue q {
      base := BitVec.ofNat 57 (fld b o 8 / 128 * 128), dbEnable := bit cfg 27, enable := false, priority := BitVec.ofNat 2 (bits cfg 25 24),
      channel := BitVec.ofNat 8 (bits cfg 23 16), sizeLog2 := BitVec.ofNat 8 (bits cfg 7 0),
      pending := statusOf (byteAt b (o + 0x0E)), state := .disabled, prod := BitVec.ofNat 32 (fld b (o + 0x10) 4),
      cons := BitVec.ofNat 32 (fld b (o + 0x14) 4), cursor := BitVec.ofNat 64 (fld b (o + 0x18) 8 / 128 * 128 % 2 ^ 57) }

/-- Step 16 of a warm start. -/
def State.queueRecover (s : State) (area : ReadResult) : State :=
  if !s.startAt 16 then s
  else match area with
    | .ok b =>
      if s.mgmt.saveValid && s.saveOk b then (eachOf (State.restoreQueue b) (List.range 4096) s).goReady 0 else s.goReady 0x06
    | _ => s.goReady 0x06

end Sys2Proof.Machine
end

