-- ==== Sys2Proof/Machine/Rings.lean ====
section
/-! DEFINITION. The management rings (05 R110-R116, R122): consuming a command, the checks every command passes, the session, and the
events HARBOUR writes. -/

namespace Sys2Proof.Machine

/-! ### Consuming a command (05 R111, R112) -/

/-- HARBOUR may consume a command: it runs, one is there, and the event ring is not full. -/
def State.ringReady (s : State) : Bool := s.harbour && s.mgmt.cmdProd != s.mgmt.cmdCons && !s.evtFull

/-- One command has been consumed. -/
def State.ringTake (s : State) : State := { s with mgmt := { s.mgmt with cmdCons := s.mgmt.cmdCons + 1 } }

/-- The sequence against which the next command's is checked. -/
def State.setPrev (s : State) (seq : BitVec 32) : State := { s with mgmt := { s.mgmt with prevSeq := seq } }

/-- Bytes of a command's payload. -/
def cmdBytes (e : CmdEntry) : Bytes := padTo e.payload 52

/-- A command's field: `n` bytes at an offset of the ring entry. -/
def cmdFld (e : CmdEntry) (off n : Nat) : Nat := fld (cmdBytes e) (off - 8) n

/-- HARBOUR consumes a command of an opcode whose payload has a length: checks 2, 3 and 4, then the command. -/
def State.ringCmd (s : State) (e : CmdEntry) (opcode length : Nat) (f : State → State) : State :=
  if !s.ringReady then s
  else
    let s := s.ringTake
    if !s.mgmt.session && opcode != 1 && opcode != 3 then s.respond e.seq .permission
    else if s.mgmt.session && e.seq != s.mgmt.prevSeq + 1 then s.respond e.seq .malformed
    else
      let s := s.setPrev e.seq
      if e.length.toNat != length || !allZero ((cmdBytes e).drop length) then s.respond e.seq .malformed
      else f s

/-- The opcode is a command of the table. -/
def knownCommand (op : Nat) : Bool :=
  [0x01, 0x02, 0x03, 0x10, 0x11, 0x20, 0x21, 0x30, 0x31, 0x40, 0x41, 0x50, 0x51, 0x52].contains op

/-- A failed read carries the sequence that was expected. -/
def State.ringBad (s : State) (st : Status) : State := s.ringTake.respond (s.mgmt.prevSeq + 1) st

/-- UNKNOWN_COMMAND: an entry whose read or crc failed, or whose opcode is unknown. -/
def State.unknownCmd (s : State) (opcode : BitVec 16) (seq : BitVec 32) (r : EntryRead) : State :=
  if !s.ringReady then s
  else match r with
    | .crcFail => s.ringBad .checkFail
    | .poison => s.ringBad .checkFail
    | .busError => s.ringBad .busError
    | .timeout => s.ringBad .timeout
    | .good _ _ =>
      if knownCommand opcode.toNat then s
      else
        let s := s.ringTake
        if !s.mgmt.session then s.respond seq .permission
        else if seq ≠ s.mgmt.prevSeq + 1 then s.respond seq .malformed
        else (s.setPrev seq).respond seq .malformed

/-! ### Overload (05 R122) -/

/-- HARBOUR's pending work: commands not consumed, mode changes, relayed packets, allocations on the slow path.
(DESIGN CHOICE, log 51) -/
def State.harbourWork (s : State) : Nat :=
  (s.mgmt.cmdProd - s.mgmt.cmdCons).toNat + s.mgmt.changes.length + s.relay.waits.length
    + (s.alloc.jobs.filter (fun j => j.stage == .slow)).length

/-- The pending work of a core: SEC's jobs and releases; PWR's margin-point changes and the scans that are due; HARBOUR's; a CTL core's
work is that of its cluster's hardware. (DESIGN CHOICE, log 51) -/
def State.coreWork (s : State) (c : Nat) : Nat :=
  match c with
  | 0 => s.ident.jobs.length + s.releases.length
  | 1 => s.mgmt.changes.countP (fun m => m.seq == 0xFFFFFFFF)
      + [0, 1, 2].countP (fun k => (s.marginOf k).rescan || (s.marginOf k).due.isSome)
  | 2 => s.harbourWork
  | _ => 0

/-- A BUSY event about a core. -/
def State.busyEvent (s : State) (c level : Nat) : State :=
  s.pushUnsolicited {
    opcode := 0x8002, length := 16,
    payload := padTo (zeros 8 ++ [BitVec.ofNat 8 c, BitVec.ofNat 8 level, 0, 0] ++ leBytes 4 (s.core c).shed.toNat) 52 }

/-- A core begins to shed its class 4 beyond 192 items of work, or resumes it below 64; HARBOUR tells. (DESIGN CHOICE, log 51) -/
def State.shedOne (c : Nat) (s : State) : State :=
  if (s.core c).state ≠ .running || !s.harbour then s
  else if (s.core c).shedding then
    if s.coreWork c < 64 then (s.modCore c (fun k => { k with shedding := false })).busyEvent c 0 else s
  else if 192 < s.coreWork c then (s.modCore c (fun k => { k with shedding := true })).busyEvent c 1 else s

/-- Every core begins or ends shedding. (DESIGN CHOICE, log 51) -/
def State.shedCheck (s : State) : State := eachOf State.shedOne [0, 1, 2] s

/-! ### Indices (05 R110) -/

/-- The driver moves the command producer index. -/
def State.cmdProdWrite (s : State) (v : BitVec 32) : State :=
  if v = s.mgmt.cmdProd then s
  else if s.theChart.limits.cmdRing < (v - s.mgmt.cmdCons).toNat then
    { s with mgmt := { s.mgmt with overrun := sat32 s.mgmt.overrun } }
  else { s with mgmt := { s.mgmt with cmdProd := v } }

/-- The driver moves the event consumer index. (DEDUCED, log 82) -/
def State.evtConsWrite (s : State) (v : BitVec 32) : State := { s with mgmt := { s.mgmt with evtCons := v } }

/-! ### Sessions (05 R114, R115) -/

/-- The feature word the firmware offers. (DESIGN CHOICE, log 18) -/
def offeredWord : BitVec 128 := Config.firmwareFeatures &&& 0xFFF

/-- The command-specific part of a HELLO response. -/
def State.helloPart (s : State) (no : BitVec 16) (agreed : BitVec 128) : Bytes :=
  [1, 0] ++ leBytes 2 no.toNat ++ leBytes 4 (s.core 2).release.toNat ++ leBytes 16 offeredWord.toNat ++ leBytes 16 agreed.toNat

/-- A HELLO is refused: it opens no session. -/
def State.helloNo (s : State) (seq : BitVec 32) (st : Status) : State := s.respond seq st (s.helloPart 0 0) 48

/-- A session opens with an agreed word; AGEING_LIMIT may be reported again, and a first agreement on AGEING_REPLAN asks for scans
(16 R400, R401). -/
def State.openSession (s : State) (agreed : BitVec 128) : State :=
  let first := agreed.getLsbD 9 && !s.feature 9
  let s := { s with mgmt := { s.mgmt with session := true, sessionNo := s.mgmt.sessionNo + 1, agreed := agreed } }
  eachOf (fun (k : Nat) t => t.modMarginOf k (fun m => { m with told := false, due := if first then some 0 else m.due })) [0, 1, 2] s

/-- HELLO, after the checks of every command. (DEDUCED, log 52) -/
def State.helloCmd (e : CmdEntry) (s : State) : State :=
  let agreed := BitVec.ofNat 128 (cmdFld e 0x10 16) &&& offeredWord
  if s.mgmt.session then s.helloNo e.seq .permission
  else if !allZero (cut (cmdBytes e) 2 6) then s.helloNo e.seq .malformed
  else if cmdFld e 8 1 ≠ 1 then s.helloNo e.seq .malformed
  else if agreed ≠ s.mgmt.agreed ∧ s.queues.any (fun x => x.2.enable) then s.helloNo e.seq .permission
  else
    let s := s.openSession agreed
    let s := s.respond e.seq .ok (s.helloPart s.mgmt.sessionNo agreed) 48
    if s.startAt 13 then s.startGo 14 false else s

/-- HELLO. -/
def State.hello (s : State) (e : CmdEntry) : State := s.ringCmd e 1 24 (State.helloCmd e)

/-- The session closes; the word in force stays. -/
def State.closeSession (s : State) : State := { s with mgmt := { s.mgmt with session := false } }

/-- GOODBYE. -/
def State.goodbye (s : State) (e : CmdEntry) : State := s.ringCmd e 2 0 (fun s => s.closeSession.respond e.seq .ok)

/-- NOP. -/
def State.nop (s : State) (e : CmdEntry) : State := s.ringCmd e 3 0 (fun s => s.respond e.seq .ok)

/-! ### Writing events (05 R110, R112, R422) -/

/-- The bytes of a ring entry. -/
def eventBytes (e : Event) (seq : Nat) : Bytes :=
  let b := leBytes 2 e.opcode.toNat ++ leBytes 2 e.length.toNat ++ leBytes 4 seq ++ padTo e.payload 52
  b ++ leBytes 4 (crc32c b)

/-- The count of dropped events, given before any later event. -/
def State.lostEvent (s : State) : Event :=
  { opcode := 0x8003, length := 8, payload := padTo (leBytes 4 s.mgmt.dropped.toNat ++ leBytes 4 s.mgmt.droppedTel.toNat) 52 }

/-- HARBOUR may write an event entry. -/
def State.eventReady (s : State) : Bool := s.harbour && !s.mgmt.writing && !s.evtFull && !s.mgmt.queue.isEmpty

/-- Write the next event entry: EVENTS_LOST first where events were dropped. -/
def State.eventWrite (s : State) : State :=
  if !s.eventReady then s
  else
    let s := if s.mgmt.dropped = 0 then s
      else { s with mgmt := { s.mgmt with dropped := 0, droppedTel := 0, queue := s.lostEvent :: s.mgmt.queue } }
    match s.mgmt.queue with
    | [] => s
    | e :: _ =>
      let slot := s.mgmt.evtProd.toNat % s.theChart.limits.eventRing
      let b := eventBytes e s.mgmt.nextEvt.toNat
      State.launch { s with mgmt := { s.mgmt with writing := true } }
        (mkWrite .block .event none (s.localPa (s.mgmt.evtBase.toNat + 64 * slot)) b)

/-- An event entry's write has ended: the index and the sequence move and the interrupt is raised, or the event is counted as dropped. -/
def State.eventBack (s : State) (st : Status) : State :=
  let e := s.mgmt.queue.head?
  let s := { s with mgmt := { s.mgmt with writing := false, queue := s.mgmt.queue.tail } }
  if st = .ok then State.mgmtIrq { s with mgmt := { s.mgmt with evtProd := s.mgmt.evtProd + 1, nextEvt := s.mgmt.nextEvt + 1 } }
  else s.dropEvent (e.elim false (fun x => x.opcode == 0x8050))

end Sys2Proof.Machine
end

