-- ==== Sys2Proof/Machine/Mode.lean ====
section
/-! DEFINITION. Runtime mode changes (05 R117-R121) and the supply steps of a margin point (02 R51). -/

namespace Sys2Proof.Machine

/-! ### Supply steps (02 R51) -/

/-- Some slice is in ebb. -/
def State.anyEbb (s : State) : Bool := [Slice.sh, .en, .hd].any (fun k => (s.clock k).inEbb)

/-- PWR runs, and reaches the CORE domain. (DESIGN CHOICE, log 112) -/
def State.pwr (s : State) : Bool := (s.core 1).state == .running && !s.ctrlLost .sh

/-- A code that was not acknowledged in time is taken back, once no slice is in ebb (02 R51). (DEDUCED, log 113) -/
def State.supplyRestore (sl : Slice) (s : State) : State :=
  let k := s.clock sl
  if !k.supplyBack || s.anyEbb then s
  else (s.setClock sl { k with supplyBack := false, supplyWait := false, supplyReq := k.supplyOld }).drive (.supplyReq sl k.supplyOld)

/-- Take the next step to the goal: one code at a time, none while a step awaits its acknowledgement, a slice is in ebb or PWR does not
run, which freezes the margin point (05, consequences of an expiry). (DEDUCED, log 54) -/
def State.supplyGo (sl : Slice) (s : State) : State :=
  let s := s.supplyRestore sl
  let k := s.clock sl
  match k.supplyGoal with
  | none => s
  | some g =>
    if k.supplyWait || s.anyEbb || !s.pwr then s
    else if g = k.supplyReq then s.setClock sl { k with supplyGoal := none }
    else
      let c := if k.supplyReq.toNat < g.toNat then k.supplyReq + 1 else k.supplyReq - 1
      (s.setClock sl { k with supplyOld := k.supplyReq, supplyReq := c, supplyWait := true }).drive (.supplyReq sl c)

/-- The supply code in force: a step's new code from its acknowledgement on (02 R51). -/
def ClockState.codeNow (k : ClockState) : BitVec 4 := if k.supplyWait then k.supplyOld else k.supplyReq

/-- supply_ack rises with the new code in force; one that comes after its time has no effect. (DEDUCED, log 113) -/
def State.supplyAcked (s : State) (sl : Slice) : State :=
  if (s.clock sl).supplyWait && !(s.clock sl).supplyBack then (s.modClock sl (fun k => { k with supplyWait := false })).supplyGo sl else s

/-- No acknowledgement within 100 µs: the previous code, a SUPPLY record, and no further step. While a slice is in ebb supply_req does not
change: the previous code then comes back after it (02 R51). (DEDUCED, log 113) -/
def State.supplyMissed (s : State) (sl : Slice) : State :=
  let k := s.clock sl
  if !k.supplyWait || k.supplyBack then s
  else
    let s := (s.setClock sl { k with supplyBack := true, supplyGoal := none }).supplyRestore sl
    s.record { s.errRec 6 .timeout sl 0x0E (sliceIx sl) with detail1 := k.ebbCount.zeroExtend 64 }

/-! ### The units of a change -/

/-- The partition has a stream of the engine ports. -/
def State.partStreams (s : State) (p : Nat) : Bool := (List.range 256).any (fun st => s.streamUse st && s.streamPart st == p)

/-- The units a change affects (05 R117). -/
def State.modeUnits (s : State) (kind target : Nat) (fallback : Bool) : List UnitRef :=
  match kind with
  | 1 =>
    ((List.finRange 64).filter (fun c => (s.chanEntry c.val).inUse && (s.chanEntry c.val).partition == target
        && !mgmtChan c.val)).map UnitRef.channel
      ++ (if s.partStreams target then (List.finRange 8).filter (fun e => s.theChart.ports.engineEnable.getLsbD e.val) else []).map
          UnitRef.enginePort
      ++ [.hold]
  | 2 => (List.finRange 32).filterMap (fun n => if (s.pipe target).route.contains n.val then some (UnitRef.cell n) else none)
  | 3 => if fallback then [.clockUnit (sliceOf target)] else [.supply (sliceOf target)]
  | _ => [.clockUnit .sh, .clockUnit .en, .clockUnit .hd]

/-- The value in force. -/
def State.modeNow (s : State) (kind target : Nat) (fallback : Bool) : BitVec 32 :=
  match kind with
  | 1 => BitVec.ofNat 32 (b2n (s.burstTear target))
  | 3 =>
    let k := s.clock (sliceOf target)
    if fallback then BitVec.ofNat 32 (b2n k.fallback) else (k.supplyGoal.getD k.supplyReq).zeroExtend 32
  | 4 => BitVec.ofNat 32 (b2n (s.clock .sh).ebbOrdered)
  | _ => 0

/-! ### The ageing history (16 R402) -/

/-- The flags of a slice record. -/
def State.marginFlags (s : State) (k : Nat) : Byte :=
  BitVec.ofNat 8 (b2n (s.clock (sliceOf k)).fallback + 2 * b2n (s.marginOf k).limit)

/-- The header of the history. -/
def State.historyHead (s : State) : Bytes :=
  sealRecord (leBytes 4 0x31454741 ++ leBytes 2 1 ++ leBytes 2 s.ownId ++ leBytes 8 s.health.allScans.toNat
    ++ leBytes 8 s.health.lifetime.toNat ++ leBytes 4 s.health.logNext.toNat)

/-- The record of a slice. -/
def State.historySlice (s : State) (k : Nat) : Bytes :=
  let m := s.marginOf k
  sealRecord ([(s.clock (sliceOf k)).codeNow.zeroExtend 8, s.marginFlags k] ++ leBytes 2 m.allSteps.toNat ++ leBytes 4 m.ebbs.toNat
    ++ padTo m.first 16 ++ padTo m.latest 16)

/-- An untranslated write into the history. -/
def State.historyWrite (s : State) (off : Nat) (b : Bytes) : State :=
  s.launch (mkWrite .block .none none (s.localPa (s.theChart.margin.history + off)) b)

/-- PWR rewrites the header and the slice record, after every scan and every step. -/
def State.historySave (s : State) (k : Nat) : State :=
  if s.fullChart then (s.historyWrite 0 s.historyHead).historyWrite (0x40 + 0x40 * k) (s.historySlice k) else s

/-! ### The end of a change -/

/-- The change's fence (06 R136). -/
def State.modeFence (s : State) (m : ModeChange) (st : Status) : State :=
  if m.fence = 0 then s
  else s.launch (mkWrite .block .modeFence none (s.localPa m.fence.toNat)
    (leBytes 8 m.fenceVal.toNat ++ [BitVec.ofNat 8 (statusCode st)] ++ zeros 7))

/-- The bit of a unit in the masks of MODE_RESULT: cells, channels, engine ports, others (05 R113). -/
def unitMask (u : UnitRef) : Nat × Nat × Nat × Nat :=
  match u with
  | .cell n => (2 ^ n.val, 0, 0, 0)
  | .channel c => (0, 2 ^ c.val, 0, 0)
  | .enginePort e => (0, 0, 2 ^ e.val, 0)
  | .hold => (0, 0, 0, 1)
  | .supply sl => (0, 0, 0, 2 ^ (1 + sliceIx sl))
  | .clockUnit sl => (0, 0, 0, 2 ^ (1 + sliceIx sl))
  | _ => (0, 0, 0, 0)

/-- MODE_RESULT. -/
def State.modeResult (s : State) (m : ModeChange) (outcome phase : Nat) (missing : List UnitRef) : State :=
  let sum (f : Nat × Nat × Nat × Nat → Nat) : Nat := (missing.map (fun u => f (unitMask u))).sum
  s.pushUnsolicited {
    opcode := 0x8010, length := 32,
    payload := padTo (leBytes 4 m.seq.toNat ++ [BitVec.ofNat 8 outcome, m.kind, m.target, BitVec.ofNat 8 phase] ++ leBytes 4 m.value.toNat
      ++ leBytes 4 (sum (·.1)) ++ leBytes 8 (sum (·.2.1)) ++ leBytes 1 (sum (·.2.2.1)) ++ leBytes 1 (sum (·.2.2.2))) 52 }

/-- FINISH. A format table is measured again, but where its body could not be read (16 R388); a step of the margin plan is counted and
asks for a rescan (16 R400). -/
def State.modeFinish (s : State) (m : ModeChange) : State :=
  let s := { s with mgmt := { s.mgmt with change := none } }
  let s := s.modeFence m .ok
  let s := s.modeResult m 1 0 []
  if m.kind = 2 then (if s.chart.pipesBad then s else { s with chart := { s.chart with m10 := some (sha384 s.pipeBody) } })
  else if m.kind = 3 then
    let k := m.target.toNat
    let s := if m.fallback = false ∧ m.seq = 0xFFFFFFFF then
        s.modMarginOf k (fun x => { x with
          steps := BitVec.ofNat 8 (min 255 (x.steps.toNat + 1)), allSteps := x.allSteps + 1, rescan := true })
      else s
    if s.pwr then s.historySave k else s
  else s

/-- Traffic held back by a unit in the old mode is discarded, and what produced it ends with MODE_ROLLBACK. -/
def State.dropModeTraffic (s : State) (m : ModeChange) : State :=
  let held := (s.accesses.filter (fun a => a.stage == .held && a.kind != .read && s.tearWait a.agent a.part)).map (·.id)
  let s := eachOf (fun (id : Nat) t => t.fail id .modeRollback) held s
  eachOf (fun (c : Nat) t => t.endEarly c .modeRollback) m.heldBy s

/-- When every acknowledgement has come COMMIT is sent, and when every confirmation has, the change is finished. -/
def State.modeAdvance (s : State) : State :=
  match s.mgmt.change with
  | none => s
  | some m =>
    if m.orphan || !m.waitFor.isEmpty then s
    else match m.phase with
      | .commit => s.modeFinish m
      | .prepare =>
        if m.units.isEmpty then s.modeFinish m
        else
          let s := { s with mgmt := { s.mgmt with change := some { m with phase := .commit, waitFor := m.units } } }
          if m.kind = 3 ∧ m.fallback = false then
            let sl := sliceOf m.target.toNat
            (State.unitSet m true (.supply sl) s).supplyGo sl
          else s

/-- HARBOUR begins the next change: PREPARE to every unit. -/
def State.modePump (s : State) : State :=
  match s.mgmt.change, s.mgmt.changes with
  | none, m :: rest =>
    if !s.harbour then s
    else
      let units := s.modeUnits m.kind.toNat m.target.toNat m.fallback
      let m := { m with
        units := units, waitFor := units, old := s.modeNow m.kind.toNat m.target.toNat m.fallback,
        oldWords := (s.pipe m.target.toNat).ops }
      State.modeAdvance { s with mgmt := { s.mgmt with change := some m, changes := rest } }
  | _, _ => s

/-- A change waits for its turn. -/
def State.modeQueue (s : State) (m : ModeChange) : State :=
  State.modePump { s with mgmt := { s.mgmt with changes := s.mgmt.changes ++ [m] } }

/-- A change before its units are known. -/
def mkChange (seq : BitVec 32) (kind target : Nat) (value : BitVec 32) : ModeChange :=
  { seq := seq, kind := BitVec.ofNat 8 kind, target := BitVec.ofNat 8 target, value := value, words := [], fence := 0, fenceVal := 0,
    fallback := false, phase := .prepare, units := [], waitFor := [], switched := [], gone := [], heldBy := [], orphan := false, old := 0,
    oldWords := [] }

/-! ### MODE_CHANGE (05 R117, R118) -/

/-- The fields of a MODE_CHANGE keep the table. (DEDUCED, log 52) -/
def State.modeFieldsOk (s : State) (e : CmdEntry) : Bool :=
  let kind := cmdFld e 8 1
  let target := cmdFld e 9 1
  let value := cmdFld e 0x0C 4
  let addr := cmdFld e 0x10 8
  let fence := cmdFld e 0x18 8
  cmdFld e 0x0A 2 == 0 && fence % 16 == 0 && decide (fence < 2 ^ 48)
    && (match kind with
      | 1 => decide (target < 16) && s.partExists target && decide (value ≤ 1) && addr == 0 && (value == 0 || s.feature 7)
      | 2 => decide (target < 32) && !(s.pipe target).ops.isEmpty && value == 0 && addr % 32 == 0 && decide (addr < 2 ^ 48)
      | 3 => decide (target ≤ 2) && decide (value ≤ s.theChart.margin.maxCode) && addr == 0
      | 4 => target == 0 && decide (value ≤ 1) && addr == 0
      | _ => false)

/-- The operation words that were read suit the pipeline (04 R83). -/
def wordsOk (n : Nat) (ws : List (BitVec 32)) : Bool := pipeTyped (ws.take n) && (ws.drop n).all (· == 0)

/-- MODE_CHANGE, after the checks of every command. (DEDUCED, log 52; DEDUCED, log 54) -/
def State.modeCmd (e : CmdEntry) (words : ReadResult) (s : State) : State :=
  let kind := cmdFld e 8 1
  let target := cmdFld e 9 1
  if !s.modeFieldsOk e then s.respond e.seq .malformed
  else if kind = 3 ∧ s.pwr = false then s.respond e.seq .permission
  else
    let m := { mkChange e.seq kind target (BitVec.ofNat 32 (cmdFld e 0x0C 4)) with
      fence := BitVec.ofNat 48 (cmdFld e 0x18 8), fenceVal := BitVec.ofNat 64 (cmdFld e 0x20 8) }
    if kind ≠ 2 then (s.respond e.seq .ok).modeQueue m
    else match readStatus words with
      | .inl st => s.respond e.seq st
      | .inr b =>
        let ws := (List.range 8).map (fun i => BitVec.ofNat 32 (fld b (4 * i) 4))
        let n := (s.pipe target).ops.length
        if wordsOk n ws then (s.respond e.seq .ok).modeQueue { m with words := ws.take n } else s.respond e.seq .malformed

/-- MODE_CHANGE. -/
def State.modeChange (s : State) (e : CmdEntry) (words : ReadResult) : State := s.ringCmd e 0x10 32 (State.modeCmd e words)

/-! ### Acknowledgement, confirmation, rollback (05 R118, R120, R121) -/

/-- A unit at its boundary acknowledges PREPARE. -/
def State.unitAck (s : State) (u : UnitRef) : State :=
  match s.mgmt.change with
  | some m =>
    if m.phase == .prepare && m.waitFor.contains u && !m.gone.contains u && s.unitReady m u then
      (State.modeAdvance { s with mgmt := { s.mgmt with change := some { m with waitFor := m.waitFor.erase u } } }).modePump
    else s
  | none => s

/-- The unit has the new value: a supply controller once its steps have been taken. -/
def State.unitThere (s : State) (m : ModeChange) (u : UnitRef) : Bool :=
  match u with
  | .supply sl => !(s.clock sl).supplyWait && (s.clock sl).supplyReq.toNat == m.value.toNat
  | _ => true

/-- COMMIT reaches a unit, which switches, resumes and confirms. -/
def State.unitConfirm (s : State) (u : UnitRef) : State :=
  match s.mgmt.change with
  | some m =>
    if m.phase == .commit && m.waitFor.contains u && !m.gone.contains u && s.unitThere m u then
      let m' := { m with waitFor := m.waitFor.erase u, switched := m.switched ++ [u] }
      let s := { s with mgmt := { s.mgmt with change := some m' } }
      let s := match u with
        | .supply _ => s
        | .clockUnit _ => eachOf State.supplyGo [Slice.sh, .en, .hd] (State.unitSet m true u s)
        | _ => State.unitSet m true u s
      s.modeAdvance.modePump
    else s
  | none => s

/-- Acknowledgements or confirmations are missing after mode_timeout: REVERT. -/
def State.modeRevert (s : State) : State :=
  match s.mgmt.change with
  | some m =>
    if m.orphan || !s.harbour || m.waitFor.isEmpty then s
    else
      let s := s.dropModeTraffic m
      let s := s.modeOld m
      let s := { s with mgmt := { s.mgmt with change := none } }
      let s := eachOf State.supplyGo [Slice.sh, .en, .hd] s
      let s := s.modeFence m .modeRollback
      (s.modeResult m 2 (if m.phase = .prepare then 1 else 2) m.waitFor).modePump
  | none => s

/-- HARBOUR is lost: the change in progress is left to its units, and changes that wait are forgotten. (DEDUCED, log 50) -/
def State.modeOrphan (s : State) : State :=
  { s with mgmt := { s.mgmt with change := s.mgmt.change.map (fun m => { m with orphan := true }), changes := [] } }

/-- A unit has heard nothing for twice mode_timeout: it reverts by itself. -/
def State.unitAlone (s : State) (u : UnitRef) : State :=
  match s.mgmt.change with
  | some m =>
    if m.orphan && m.units.contains u && !m.gone.contains u then
      let s := s.dropModeTraffic m
      let s := State.unitSet m false u s
      let m' := { m with gone := m.gone ++ [u], heldBy := [] }
      let done := m.units.all m'.gone.contains
      let s := { s with mgmt := { s.mgmt with change := if done then none else some m' } }
      (eachOf State.supplyGo [Slice.sh, .en, .hd] s).modePump
    else s
  | none => s

/-- A channel's elements wait at a cell of its pipeline that has not switched, past one that has (05 R119). -/
def State.modeNote (s : State) (c : Nat) : State :=
  match s.mgmt.change, (s.chan c).run with
  | some m, some r =>
    let p := bits (r.words.headD 0).toNat 15 8
    if m.kind == 2 && m.phase == .commit && p == m.target.toNat && s.pipeHeld p && r.reads.any (fun b => b.arrived)
        && (match (s.pipe p).route.head? with
          | some n => m.switched.any (fun u => match u with
              | .cell x => x.val == n
              | _ => false)
          | none => false)
        && !m.heldBy.contains c then
      { s with mgmt := { s.mgmt with change := some { m with heldBy := m.heldBy ++ [c] } } }
    else s
  | _, _ => s

end Sys2Proof.Machine
end

