-- ==== Sys2Proof/Machine/Health.lean ====
section
/-! DEFINITION. Path monitors, the margin plan and the ageing history (16 R399-R402), ebb exit (03 R69; 16 R405), thermal throttling
(02 R52, R53; 16 R403, R404), telemetry (16 R406), the hold's patrol (16 R381-R384), the RAS ring (16 R392, R422), the entropy test
(15 R360) and vectors that wait (17 R420). -/

namespace Sys2Proof.Machine

/-! ### Scans and steps (16 R399-R401) -/

/-- The next entry of the scan log. -/
def State.historyLog (s : State) (k mon reason : Nat) : State :=
  let i := s.health.logNext.toNat % 4080
  let hot := ((List.range 4).map (fun t => (s.stackState t).code.toNat)).foldl max 0
  let b := leBytes 8 s.health.lifetime.toNat ++ [BitVec.ofNat 8 k, (s.marginOf k).minimum, BitVec.ofNat 8 mon,
    (s.clock (sliceOf k)).codeNow.zeroExtend 8, BitVec.ofNat 8 hot, BitVec.ofNat 8 reason]
  let s := { s with health := { s.health with logNext := s.health.logNext + 1 } }
  if s.fullChart then s.historyWrite (0x100 + 16 * i) (b ++ leBytes 2 (crc16 b)) else s

/-- The monitors of a slice that are not fenced off. -/
def State.monitors (s : State) (k : Nat) : List Nat := (List.range 16).filter (fun m => !s.fenced.monitors.getLsbD (16 * k + m))

/-- The lowest slack among monitors, and the monitor that has it. -/
def lowest (b : Bytes) : List Nat → Option (Nat × Nat)
  | [] => none
  | m :: rest => match lowest b rest with
    | some (v, i) => if byteAt b m ≤ v then some (byteAt b m, m) else some (v, i)
    | none => some (byteAt b m, m)

/-- AGEING_LIMIT, once per slice and session, with a HEALTH record. (DEDUCED, log 55) -/
def State.ageingLimit (s : State) (k min mon : Nat) : State :=
  let m := s.marginOf k
  if m.told || !s.mgmt.session then s
  else
    let sl := sliceOf k
    let offered := s.theChart.mayFallback && !(s.clock sl).fallback
    let (v, s) := s.freeVal
    let s := s.setMarginOf k { m with told := true, limit := true, offered := m.offered || offered }
    let s := s.pushUnsolicited {
      opcode := 0x8051, length := 4,
      payload := padTo [BitVec.ofNat 8 k, BitVec.ofNat 8 min, (s.clock sl).codeNow.zeroExtend 8, BitVec.ofNat 8 (b2n offered)] 52 }
    s.record { s.errRec 7 .checkFail sl 0x12 mon with detail0 := BitVec.ofNat 64 (v.toNat % 256) }

/-- A change of the slice's margin point is in hand or waits. -/
def State.marginBusy (s : State) (k : Nat) : Bool :=
  (s.mgmt.changes ++ s.mgmt.change.toList).any (fun m => m.kind == 3 && m.target.toNat == k)

/-- The margin plan acts on a scan: a step of one code, or the limit. -/
def State.marginPlan (s : State) (k min mon : Nat) : State :=
  let c := s.theChart.margin
  let code := (s.clock (sliceOf k)).supplyReq.toNat
  if !s.fullChart || decide (c.slackFloor ≤ min) then s
  else if c.maxCode ≤ code then s.ageingLimit k min mon
  else if c.replan && s.feature 9 && s.harbour && !s.marginBusy k then
    s.modeQueue (mkChange 0xFFFFFFFF 3 k (BitVec.ofNat 32 (code + 1)))
  else s

/-- PWR scans a slice. -/
def State.scan (s : State) (k : Nat) (samples : Bytes) (reason : Nat) : State :=
  let b := padTo samples 16
  let seen := s.monitors k
  let b := (List.range 16).map (fun i => if seen.contains i then b.getD i 0 else 0)
  let (v, s) := s.freeVal
  let low := lowest b seen
  let min := low.elim (v.toNat % 256) (·.1)
  let now := (s.clock .sh).cycles
  let s := s.modMarginOf k (fun m => { m with
    latest := b, first := if m.first.isEmpty then b else m.first, minimum := BitVec.ofNat 8 min, due := none })
  let s := { s with health := { s.health with
    scans := sat32 s.health.scans, allScans := s.health.allScans + 1,
    lifetime := s.health.lifetime + (now - s.health.shMark), shMark := now } }
  let s := (s.historyLog k (low.elim 0 (·.2)) reason).historySave k
  if low.isNone then s else s.marginPlan k min (low.elim 0 (·.2))

/-- PATH_MONITOR_SCAN: at the start, after ebb, or periodic; a periodic scan may be shed. -/
def State.pathScan (s : State) (k : Nat) (samples : Bytes) : State :=
  if !s.pwr then s
  else if s.ctrlLost (sliceOf k) then s.eventLost (sliceOf k) 1
  else match (s.marginOf k).due with
    | some r => s.scan k samples r
    | none => if (s.core 1).shedding then s.modCore 1 (fun c => { c with shed := sat32 c.shed }) else s.scan k samples 0

/-- MARGIN_RESCAN: 2^20 cc after a committed step. (DEDUCED, log 55) -/
def State.rescan (s : State) (k : Nat) (samples : Bytes) : State :=
  if s.ctrlLost (sliceOf k) && s.pwr then s.eventLost (sliceOf k) 1
  else if s.pwr && (s.marginOf k).rescan then (s.modMarginOf k (fun m => { m with rescan := false })).scan k samples 0 else s

/-- PWR is released: each slice is stepped to initial_code and scanned (16 R399, R402). (DEDUCED, log 54) -/
def State.pwrStart (s : State) : State :=
  eachOf (fun (k : Nat) (t : State) =>
    let c := t.clock (sliceOf k)
    let goal := max (c.supplyGoal.getD c.supplyReq).toNat t.theChart.margin.initialCode
    ((t.modMarginOf k (fun m => { m with due := some 1 })).setClock (sliceOf k) { c with supplyGoal := some (BitVec.ofNat 4 goal) }).supplyGo
      (sliceOf k)) [0, 1, 2] s

/-! ### MARGIN_TEST and AGEING_LOAD -/

/-- A command with an action byte at offset `off` of its ring entry: a row of another valid action does not apply; an invalid action is
MALFORMED. -/
def State.ringAct (s : State) (e : CmdEntry) (off opcode length action actions : Nat) (f : State → State) : State :=
  if cmdFld e off 1 ≠ action ∧ cmdFld e off 1 < actions then s
  else s.ringCmd e opcode length (fun s => if cmdFld e off 1 = action then f s else s.respond e.seq .malformed)

/-- TELEMETRY_DATA. -/
def State.telemetryEvent (s : State) (page index : Nat) (data : Bytes) : State :=
  s.pushUnsolicited {
    opcode := 0x8050, length := BitVec.ofNat 16 (2 + data.length),
    payload := padTo ([BitVec.ofNat 8 page, BitVec.ofNat 8 index] ++ data) 52 }

/-- The data of page 0. -/
def State.slicePage (s : State) (k : Nat) : Bytes :=
  let m := s.marginOf k
  padTo m.latest 16 ++ padTo m.first 16 ++ [(s.clock (sliceOf k)).codeNow.zeroExtend 8, s.marginFlags k]

/-- Scan slices and tell each. -/
def State.scanAll : List Nat → List Bytes → State → State
  | [], _, s => s
  | k :: ks, b, s =>
    let s := s.scan k (b.headD []) 3
    State.scanAll ks b.tail (s.telemetryEvent 0 k (s.slicePage k))

/-- MARGIN_TEST SCAN. (DEDUCED, log 81) -/
def State.marginScan (s : State) (e : CmdEntry) (samples : List Bytes) : State :=
  s.ringAct e 8 0x52 2 0 2 (fun s =>
    let k := cmdFld e 9 1
    if 3 < k then s.respond e.seq .malformed
    else if !s.pwr then s.respond e.seq .permission
    else State.scanAll (if k = 3 then [0, 1, 2] else [k]) samples (s.respond e.seq .ok))

/-- MARGIN_TEST ACCEPT_FALLBACK. -/
def State.acceptFallback (s : State) (e : CmdEntry) : State :=
  s.ringAct e 8 0x52 2 1 2 (fun s =>
    let k := cmdFld e 9 1
    if 2 < k then s.respond e.seq .malformed
    else if !s.pwr || !(s.marginOf k).offered || (s.clock (sliceOf k)).fallback then s.respond e.seq .permission
    else (s.respond e.seq .ok).modeQueue { mkChange e.seq 3 k ((s.clock (sliceOf k)).supplyReq.zeroExtend 32) with fallback := true })

/-- The checks of the history: header, slice records, the log entries written. -/
def historyChecks (b : Bytes) : Bool :=
  let rec64 (o : Nat) : Bool := fld b (o + 0x3C) 4 == crc32c (cut b o 0x3C)
  let n := min (fld b 0x18 4) 4080
  rec64 0 && rec64 0x40 && rec64 0x80 && rec64 0xC0
    && (List.range n).all (fun i => fld b (0x100 + 16 * i + 14) 2 == crc16 (cut b (0x100 + 16 * i) 14))

/-- A recorded slice comes back: counts, first slack, the code where it is higher, the fallback, re-entered without a further
AGEING_LIMIT (16 R402). -/
def State.restoreSlice (b : Bytes) (k : Nat) (s : State) : State :=
  let o := 0x40 + 0x40 * k
  let limit := bit (byteAt b (o + 1)) 1
  let s := s.modMarginOf k (fun m => { m with
    allSteps := BitVec.ofNat 16 (fld b (o + 2) 2 + m.steps.toNat), ebbs := BitVec.ofNat 32 (fld b (o + 4) 4 + m.ebbs.toNat),
    first := cut b (o + 8) 16, limit := m.limit || limit, told := m.told || bit (byteAt b (o + 1)) 0 })
  let sl := sliceOf k
  let c := s.clock sl
  let goal := max (max (c.supplyGoal.getD c.supplyReq).toNat s.theChart.margin.initialCode) (byteAt b o % 16)
  let s := (s.setClock sl { c with supplyGoal := some (BitVec.ofNat 4 goal) }).supplyGo sl
  if bit (byteAt b (o + 1)) 0 && !(s.clock sl).fallback then
    s.modeQueue { mkChange 0xFFFFFFFF 3 k (c.supplyReq.zeroExtend 32) with fallback := true }
  else s

/-- A reserved field of the history is set (00 R11). -/
def historyRsv (b : Bytes) : Bool :=
  !allZero (cut b 0x1C 0x20)
    || [0x40, 0x80, 0xC0].any (fun o => !allZero (cut b (o + 0x28) 0x14) || byteAt b (o + 1) >>> 2 != 0)

/-- AGEING_LOAD. (DEDUCED, log 54) -/
def State.ageingLoad (s : State) (e : CmdEntry) (history : ReadResult) : State :=
  s.ringCmd e 0x51 0 (fun s =>
    if !s.pwr then s.respond e.seq .permission
    else match readStatus history with
      | .inl st => s.respond e.seq st
      | .inr b =>
        if fld b 0 4 = 0 then
          let s := { s with health := { s.health with allScans := 0, lifetime := 0, logNext := 0 } }
          (eachOf (fun (k : Nat) t => t.modMarginOf k (fun m => { m with first := m.latest, allSteps := 0, ebbs := 0 })) [0, 1, 2] s).respond
            e.seq .ok
        else if !historyChecks b then s.respond e.seq .checkFail
        else if fld b 0 4 ≠ 0x31454741 ∨ fld b 4 2 ≠ 1 ∨ fld b 6 2 ≠ s.ownId ∨ historyRsv b = true then s.respond e.seq .malformed
        else
          let s := { s with health := { s.health with
            allScans := BitVec.ofNat 64 (fld b 8 8) + s.health.allScans, lifetime := BitVec.ofNat 64 (fld b 0x10 8) + s.health.lifetime,
            logNext := BitVec.ofNat 32 (fld b 0x18 4) } }
          eachOf (State.restoreSlice b) [0, 1, 2] (s.respond e.seq .ok))

/-! ### Ebb exit (03 R69, 16 R405) -/

/-- The exit count completes: the slice leaves ebb, PWR notes the episode, and supply steps that waited go on.
(DEDUCED, log 55) -/
def State.ebbExit (s : State) (sl : Slice) : State :=
  let k := s.clock sl
  if !k.exitCounting then s
  else
    let s := s.setClock sl { k with ebbSupply := false, exitCounting := false }
    let s := if !s.pwr then s
      else
        let m := s.marginOf (sliceIx sl)
        let late := m.supplyRec.elim true (fun t => decide (2 ^ 20 ≤ (k.cycles - t).toNat))
        let s := s.setMarginOf (sliceIx sl) { m with
          ebbs := m.ebbs + 1, due := some 2, supplyRec := if late then some k.cycles else m.supplyRec }
        if late then s.record { s.errRec 6 .ok sl 0x0E (sliceIx sl) with
          detail0 := k.cycles - k.ebbStart, detail1 := k.ebbCount.zeroExtend 64 }
        else s
    eachOf State.supplyGo [Slice.sh, .en, .hd] s

/-! ### Thermal (02 R52, R53; 16 R404) -/

/-- The throttle state of THERMAL. -/
def StackState.shown (x : StackState) : Nat := if x.stale then 2 else b2n x.throttled

/-- The thresholds of a stack. -/
def State.stackSec (s : State) (t : Nat) : StackSec :=
  s.theChart.thermal.stackSecs.getD t { thHi := 255, thLo := 0, share := 0, bucket := 0 }

/-- throttle_req follows the stacks where the chart selects it. -/
def State.throttlePin (s : State) : State :=
  if !s.theChart.thermal.useThrottleReq then s
  else
    let on := [0, 1, 2, 3].filter (fun t => s.theChart.thermal.connected.getLsbD t)
    let up := on.any (fun t => (s.stackState t).throttled)
    let low := on.all (fun t => !(s.stackState t).stale && decide ((s.stackState t).code.toNat < (s.stackSec t).thLo))
    let v := up || (s.thermal.throttleReq && !low)
    if v = s.thermal.throttleReq then s else State.drive { s with thermal := { s.thermal with throttleReq := v } } (.throttle v)

/-- Evaluate a stack's throttle state; a change is told by PWR. (DEDUCED, log 56) -/
def State.stackEval (s : State) (t : Nat) (x : StackState) : State :=
  let was := (s.stackState t).shown
  let c := s.stackSec t
  let hot := x.stale || decide (c.thHi < x.code.toNat)
  let cool := !x.stale && x.code != 0 && decide (x.code.toNat < c.thLo)
  let y := if hot && !x.throttled then { x with throttled := true, tokens := 1024 * c.bucket }
    else if cool && x.throttled then { x with throttled := false } else x
  let s := (s.setStackState t y).throttlePin
  if y.shown = was || !s.pwr then s
  else s.pushUnsolicited {
    opcode := 0x8052, length := 4,
    payload := padTo [BitVec.ofNat 8 t, y.code, BitVec.ofNat 8 y.shown, BitVec.ofNat 8 (b2n s.theChart.thermal.useThrottleReq)] 52 }

/-- The stack's input is in use. -/
def State.stackOn (s : State) (t : Nat) : Bool := s.fullChart && s.theChart.thermal.connected.getLsbD t

/-- A code is taken; a report is fresh. (DEDUCED, log 56) -/
def State.stackCode (s : State) (t : Nat) (code : Byte) : State :=
  if !s.stackOn t then s
  else
    let x := s.stackState t
    s.stackEval t { x with code := code, reported := x.reported || code != 0, stale := x.stale && code == 0 }

/-- A stack that has reported shows nothing new for 8 ms. (DEDUCED, log 56) -/
def State.stackStale (s : State) (t : Nat) : State :=
  if s.stackOn t && (s.stackState t).reported then s.stackEval t { s.stackState t with stale := true } else s

/-- Stacks that the mode distinguishes. -/
def State.stackCount (s : State) : Nat := if s.thermal.mode = 1 then 2 else if s.thermal.mode = 2 then 4 else 1

/-- A request waits at issue for the tokens of a stack. -/
def State.tokenWaiter (s : State) (t : Nat) : Bool :=
  s.accesses.any (fun a => a.stage == .held && instOf a.pa == s.ownId && s.tokenWait a && s.stackOf (localOf a.pa) == t)

/-- The token bucket of a stack refills for one cc; a cc in which a request waits is counted once. (DEDUCED, log 56) -/
def State.tokenRefill (s : State) (t : Nat) : State :=
  let x := s.stackState t
  if !x.throttled || s.theChart.thermal.useThrottleReq then s
  else
    let c := s.stackSec t
    let first := s.tokenWaiter t && (List.range t).all (fun u => !s.tokenWaiter u)
    let s := if first then { s with thermal := { s.thermal with cc := s.thermal.cc + 1 } } else s
    s.setStackState t { x with tokens := min (1024 * c.bucket) (x.tokens + c.share * 8 * 1024 / (256 * s.stackCount)) }

/-! ### Telemetry (16 R406) -/

/-- The data of a page; none for a page or index that does not exist. -/
def State.telemetryPage (s : State) (page index : Nat) : Option Bytes :=
  match page with
  | 0 => if index ≤ 2 then some (s.slicePage index) else none
  | 1 => if index = 0 then some ((List.range 4).map (fun t => (s.stackState t).code)
      ++ (List.range 4).map (fun t => BitVec.ofNat 8 (s.stackState t).shown)) else none
  | 2 => if index = 0 then some (([s.hold.corr1, s.hold.corr2, s.hold.uncorr, s.hold.poisonIn, s.hold.poisonOut].map
      (fun v => leBytes 4 v.toNat)).flatten) else none
  | 3 => if index = 0 then some (((List.range 3).map (fun k =>
      [(s.clock (sliceOf k)).codeNow.zeroExtend 8, s.marginFlags k, (s.marginOf k).minimum])).flatten
      ++ leBytes 4 s.health.scans.toNat) else none
  | _ => none

/-- TELEMETRY. Its event is dropped where HARBOUR sheds. -/
def State.telemetryCmd (s : State) (e : CmdEntry) : State :=
  s.ringCmd e 0x50 2 (fun s =>
    let page := cmdFld e 8 1
    let index := cmdFld e 9 1
    match s.telemetryPage page index with
    | none => s.respond e.seq .malformed
    | some b =>
      let s := s.respond e.seq .ok
      if (s.core 2).shedding then (s.modCore 2 (fun c => { c with shed := sat32 c.shed })).dropEvent true
      else s.telemetryEvent page index b)

/-! ### The hold's code and its patrol (16 R381-R384) -/

/-- Where live data stand in the hold: the chart's image, lines of the near-atomic buffer, windows of contributions, read bursts, table entries
that a walk has read, accumulators, bytes that wait for their write burst, writes not yet issued, beats of engine writes, a chart being
delivered, bytes of an element not whole yet, elements gathered for a group or row, bytes of a contribution before and after it is cut into
pieces, and lines that wait at the home agent to be written. -/
inductive HoldPlace where
  | image (off : Nat)
  | near (line : BitVec 60)
  | parked (slot index first line : Nat)
  | burst (c b line : Nat)
  | walk (id : Nat)
  | folded (slot line : Nat)
  | queued (c line : Nat)
  | write (id line : Nat)
  | beat (port : Nat) (tag : BitVec 8) (line : Nat)
  | staged (off : Nat)
  | carry (c line : Nat)
  | group (c line : Nat)
  | contribution (c line : Nat)
  | piece (c k line : Nat)
  | home (txn : Nat)
  deriving DecidableEq, Repr, Inhabited

/-- The lines of a run's bytes that are in the hold and not yet written. -/
def Running.places (r : Running) (c : Nat) : List HoldPlace :=
  let lines (n : Nat) : List Nat := List.range ((n + 63) / 64)
  (lines r.carry.length).map (.carry c) ++ (lines (4 * r.group.length)).map (.group c)
    ++ (lines r.cmb.out.length).map (.contribution c)

/-- A transaction that brings a line's data. -/
def HomeTxn.carries (t : HomeTxn) : Bool :=
  match t.req with
  | .hostWrite _ _ _ _ _ _ _ => true
  | .peerWb _ _ _ _ => true
  | _ => false

/-- The live lines. (DESIGN CHOICE, log 26) -/
def State.holdPlaces (s : State) : List HoldPlace :=
  (List.range ((s.chart.image.length + 63) / 64)).map (fun i => .image (64 * i))
    ++ s.home.near.map (fun l => .near l.line)
    ++ s.cmb.slots.flatMap (fun e => e.2.parked.flatMap (fun w =>
        (List.range ((w.data.length + 63) / 64)).map (fun i => HoldPlace.parked e.1 w.index w.first i)))
    ++ s.chans.flatMap (fun e => match e.2.run with
        | some r => r.reads.flatMap (fun b => match b.result with
            | some (_, d) => (List.range ((d.length + 63) / 64)).map (fun i => HoldPlace.burst e.1 b.burst i)
            | none => [])
        | none => [])
    ++ (s.trans.walks.filter (fun w => w.got.isSome)).map (fun w => .walk w.id)
    ++ s.cmb.slots.flatMap (fun e => (List.range (((e.2.acc.map (fun x => x.1.length)).sum + 63) / 64)).map (fun i => .folded e.1 i))
    ++ s.chans.flatMap (fun e => match e.2.run with
        | some r => (List.range ((r.outQ.length + 63) / 64)).map (fun i => HoldPlace.queued e.1 i)
        | none => [])
    ++ (s.accesses.filter (fun a => a.kind == .write && !a.issued && a.agent != .block)).flatMap (fun a =>
        (List.range (lineCount (localOf a.pa) a.len)).map (fun i => HoldPlace.write a.id i))
    ++ (s.engReqs.filter (fun r => r.op == .write && !r.started)).flatMap (fun r =>
        (List.range ((r.beats.length + 63) / 64)).map (fun i => HoldPlace.beat r.port r.rq.tag i))
    ++ (List.range ((s.chart.staged.length + 63) / 64)).map (fun i => .staged (64 * i))
    ++ s.chans.flatMap (fun e => e.2.run.elim [] (fun r => r.places e.1)
        ++ ((List.range e.2.pieces.length).zip e.2.pieces).flatMap (fun x =>
          (List.range ((x.2.payload.length + 63) / 64)).map (fun i => HoldPlace.piece e.1 x.1 i)))
    ++ (s.home.txns.filter HomeTxn.carries).map (fun t => .home t.id)

/-- Change the bytes of one line of marked data. -/
def onLine (i : Nat) (f : Nat → Byte × Bool → Byte × Bool) (l : List (Byte × Bool)) : List (Byte × Bool) :=
  (List.range l.length).zip l |>.map (fun x => if x.1 / 64 = i then f (x.1 % 64) x.2 else x.2)

/-- Change the bytes of one line of an accumulator, whose elements lie back to back from byte `o`. -/
def onAcc (i : Nat) (f : Nat → Byte × Bool → Byte × Bool) : Nat → List (Bytes × Bool × Nat) → List (Bytes × Bool × Nat)
  | _, [] => []
  | o, e :: rest =>
    let d := (List.range e.1.length).zip e.1 |>.map (fun x => if (o + x.1) / 64 = i then f ((o + x.1) % 64) (x.2, false) else (x.2, false))
    (d.map (·.1), e.2.1 || d.any (·.2), e.2.2) :: onAcc i f (o + e.1.length) rest

/-- The `i`-th 64 bytes that wait for their write burst. -/
def onQueue (i : Nat) (f : Nat → Byte × Bool → Byte × Bool) (l : List OutByte) : List OutByte :=
  ((List.range l.length).zip l).map (fun x =>
    let y := f (x.1 % 64) (x.2.val, x.2.poison)
    if x.1 / 64 = i then { x.2 with val := y.1, poison := y.2 } else x.2)

/-- The `i`-th 64 bytes of an engine WRITE's beats. -/
def EngReq.onBeat (i : Nat) (f : Nat → Byte × Bool → Byte × Bool) (r : EngReq) : EngReq :=
  let d := onLine i f (r.beats.map (fun b => (b, false)))
  { r with beats := d.map (·.1), bad := if d.any (·.2) then r.bad ++ [i] else r.bad }

/-- The `i`-th 64 bytes of gathered elements, of 4 bytes each; a poisoned byte poisons its element. -/
def onGroup (i : Nat) (f : Nat → Byte × Bool → Byte × Bool) (l : List (Nat × Option Nat × Bool)) : List (Nat × Option Nat × Bool) :=
  (List.range l.length).zip l |>.map (fun x =>
    if x.1 / 16 = i then
      let d := (List.range 4).map (fun k => f (4 * (x.1 % 16) + k) (BitVec.ofNat 8 (x.2.1 / 2 ^ (8 * k)), x.2.2.2))
      (leNat (d.map (·.1)), x.2.2.1, d.any (·.2))
    else x.2)

/-- The `i`-th line of a piece of a contribution. -/
def Packet.onPiece (i : Nat) (f : Nat → Byte × Bool → Byte × Bool) (k : Packet) : Packet :=
  let d := onLine i f (k.payload.map (fun b => (b, false)))
  { k with payload := d.map (·.1), poison := if d.any (·.2) then k.poison ||| BitVec.ofNat 4 (2 ^ i) else k.poison }

/-- The line that a request brings to the home agent. -/
def HomeReq.onData (f : Nat → Byte × Bool → Byte × Bool) (r : HomeReq) : HomeReq :=
  let line (b : Bytes) : List (Byte × Bool) := onLine 0 f (b.map (fun x => (x, false)))
  match r with
  | .hostWrite n tag mv part data be bad => .hostWrite n tag mv part ((line data).map (·.1)) be (bad || (line data).any (·.2))
  | .peerWb tag src data bad => .peerWb tag src ((line data).map (·.1)) (bad || (line data).any (·.2))
  | r => r

/-- The `i`-th line of a write, by the address it goes to; a poisoned byte poisons its line. -/
def Access.onWrite (i : Nat) (f : Nat → Byte × Bool → Byte × Bool) (a : Access) : Access :=
  let o := localOf a.pa % 64
  let d := (List.range a.data.length).zip a.data |>.map (fun x => if (o + x.1) / 64 = i then f ((o + x.1) % 64) (x.2, false) else (x.2, false))
  let n := lineCount (localOf a.pa) a.len
  { a with data := d.map (·.1), bad := if a.bad.isEmpty then [] else List.zipWith (fun b x => b || x.2) a.bad d,
           poison := if d.any (·.2) then (List.range n).map (fun k => k == i || a.poison.getD k false) else a.poison }

/-- Change the bytes of one live line: `f` maps a byte's place in the line and its value and mark. (DESIGN CHOICE, log 92) -/
def State.onPlace (p : HoldPlace) (f : Nat → Byte × Bool → Byte × Bool) (s : State) : State :=
  match p with
  | .image off => { s with chart := { s.chart with
      image := (List.range s.chart.image.length).zip s.chart.image |>.map (fun x =>
        if x.1 / 64 = off / 64 then (f (x.1 % 64) (x.2, false)).1 else x.2) } }
  | .near line => { s with home := { s.home with near := s.home.near.map (fun l =>
      if l.line = line then
        let d := (List.range l.data.length).zip l.data |>.map (fun x => f x.1 (x.2, false))
        { l with data := d.map (·.1), bad := l.bad || d.any (·.2) }
      else l) } }
  | .parked sl index first i => s.modSlot sl (fun k => { k with parked := k.parked.map (fun w =>
      if w.index = index ∧ w.first = first then { w with data := onLine i f w.data } else w) })
  | .burst c b i => s.modChan c (fun ch => { ch with run := ch.run.map (fun r => { r with reads := r.reads.map (fun x =>
      if x.burst = b then { x with result := x.result.map (fun y => (y.1, onLine i f y.2)) } else x) }) })
  | .walk id => s.modWalk id (fun w => { w with got := w.got.map (fun r =>
      let d := (List.range r.data.length).zip r.data |>.map (fun x => f x.1 (x.2, false))
      { r with data := d.map (·.1), poison := if d.any (·.2) then [true] else r.poison }) })
  | .folded sl i => s.modSlot sl (fun k => { k with acc := onAcc i f 0 k.acc })
  | .queued c i => s.modChan c (fun ch => { ch with run := ch.run.map (fun r => { r with outQ := onQueue i f r.outQ }) })
  | .write id i => s.modAcc id (Access.onWrite i f)
  | .beat port tag i => { s with engReqs := s.engReqs.map (fun r => if r.port = port ∧ r.rq.tag = tag then r.onBeat i f else r) }
  | .staged off => { s with chart := { s.chart with
      staged := (List.range s.chart.staged.length).zip s.chart.staged |>.map (fun x =>
        if x.1 / 64 = off / 64 then (f (x.1 % 64) (x.2, false)).1 else x.2) } }
  | .carry c i => s.modRun c (fun r => { r with carry := onLine i f r.carry })
  | .group c i => s.modRun c (fun r => { r with group := onGroup i f r.group })
  | .contribution c i => s.modRun c (fun r => { r with cmb := { r.cmb with out := onLine i f r.cmb.out } })
  | .piece c k i => s.modChan c (fun ch => { ch with pieces := (List.range ch.pieces.length).zip ch.pieces |>.map (fun x =>
      if x.1 = k then x.2.onPiece i f else x.2) })
  | .home id => s.modTxn id (fun t => { t with req := t.req.onData f })

/-- The PIPELINES body shares a byte with [off, off + 64) of the image. -/
def State.inPipes (s : State) (off : Nat) : Bool :=
  match secOf s.chart.image 0x09 with
  | some k => overlaps off 64 k.body k.len
  | none => false

/-- Where the data of a live line come from or go to, in the memory of an instance: the physical address, the partition and the agent. -/
def State.placeAt (s : State) (p : HoldPlace) : Option (BitVec 60 × Option Nat × Agent) :=
  match p with
  | .near line => some (line, none, .block)
  | .burst c b i => (s.chan c).run.bind (fun r => (r.reads.find? (fun x => x.burst == b)).map (fun x =>
      (x.pa + BitVec.ofNat 60 (64 * i), s.chanPart c, .channel c)))
  | .walk id => (s.trans.walks.find? (fun w => w.id == id)).map (fun w => (w.table + BitVec.ofNat 60 (8 * w.index), some w.part, .block))
  | .home id => (s.home.txns.find? (fun t => t.id == id)).map (fun t => (s.localPa t.line.toNat, s.linePartition t.line.toNat, .block))
  | .write id i => (s.acc id).bind (fun a => if a.pa = 0 then none else some (paLine a.pa + BitVec.ofNat 60 (64 * i), a.part, a.agent))
  | _ => none

/-- An uncorrectable error in a live line poisons it (16 R384) and is told with the line's address where it has one (16 R394); in the
chart's image it spoils the digests (16 R388). -/
def State.holdPoison (s : State) (bank : Nat) (p : HoldPlace) : State :=
  match p with
  | .image off => { s with chart := { s.chart with imageBad := true, pipesBad := s.chart.pipesBad || s.inPipes off } }
  | .staged off => { s with chart := { s.chart with stagedBad := s.chart.stagedBad ++ [off] } }
  | _ =>
    let t := State.onPlace p (fun _ x => (x.1, true)) s
    match s.placeAt p with
    | some x => t.poisonLine 2 1 bank x.1 x.2.1 s.ownId x.2.2 false
    | none =>
      State.record { t with fresh := t.fresh + 1 } { t.errRec 2 .poison .hd 1 bank with origin := 2, detail0 := Config.freeValue t.fresh }

/-- The word of a line takes a value that no one meant. -/
def State.holdWrong (s : State) (p : HoldPlace) (word : Nat) : State :=
  let (v, s) := s.freeVal
  State.onPlace p (fun i x => if i / 8 = word % 8 then (BitVec.ofNat 8 (v.toNat / 2 ^ (8 * (i % 8))), x.2) else x) s

/-- A correction: counted, and told by at most one CORRECTED record per bank and 2^20 cc (16 R382). -/
def State.holdCorrected (s : State) (bank word n : Nat) : State :=
  let h := s.hold
  let s := { s with hold := { h with
    corr1 := if n = 1 then sat32 h.corr1 else h.corr1, corr2 := if n = 1 then h.corr2 else sat32 h.corr2,
    lastBank := BitVec.ofNat 6 bank, lastKind := BitVec.ofNat 2 n, lastWord := BitVec.ofNat 18 word } }
  let k := s.bankNote bank
  let now := (s.clock .hd).cycles
  if k.last.elim true (fun t => decide (2 ^ 20 ≤ (now - t).toNat)) then
    (s.setBankNote bank { last := some now, missed := 0 }).record { s.errRec 1 .ok .hd 1 bank with
      detail0 := BitVec.ofNat 64 (word + bank * 2 ^ 18), detail1 := BitVec.ofNat 64 (n + k.missed.toNat * 2 ^ 32) }
  else s.setBankNote bank { k with missed := k.missed + 1 }

/-- An uncorrectable detection: counted, the line poisoned where the word is live; a word that is not is written with zero. -/
def State.holdDetected (s : State) (bank word : Nat) (p : Option HoldPlace) : State :=
  let s := { s with hold := { s.hold with
    uncorr := sat32 s.hold.uncorr, lastBank := BitVec.ofNat 6 bank, lastKind := 3, lastWord := BitVec.ofNat 18 word } }
  match p with
  | some p => s.holdPoison bank p
  | none => s

/-- One word is read with bit errors (16 R381). Beyond three errors the outcome is open among those of the table.
(DESIGN CHOICE, log 26) -/
def State.holdWord (x : Nat × Nat × Nat) (s : State) : State :=
  let bank := x.1 % 64
  let word := x.2.1 % 2 ^ 18
  let p := s.holdPlaces[Config.holdLine (bank * 2 ^ 18 + word)]?
  match x.2.2 with
  | 0 => s
  | 1 => s.holdCorrected bank word 1
  | 2 => s.holdCorrected bank word 2
  | 3 => s.holdDetected bank word p
  | n =>
    let (v, s) := s.freeVal
    let wrong (t : State) : State := match p with
      | some q => t.holdWrong q word
      | none => t
    if bit v.toNat 0 then s.holdDetected bank word p
    else if decide (6 ≤ n) && bit v.toNat 1 then wrong s
    else wrong (s.holdCorrected bank word (if bit v.toNat 2 then 1 else 2))

/-- PATROL_ROW_READ: the next row of every bank. (DESIGN CHOICE, log 26) -/
def State.patrolRow (s : State) (errors : List (Nat × Nat × Nat)) : State :=
  if !s.hold.patrolOn || !(s.clock .hd).porN || decide (s.start.step < 6 ∧ !s.start.warm ∧ !s.start.ready) then s
  else
    let row := s.hold.row
    let s := eachOf State.holdWord (errors.filter (fun x => x.2.1 % 2 ^ 18 / 8 == row)) s
    { s with hold := { s.hold with row := (row + 1) % 32768, passes := if row = 32767 then s.hold.passes + 1 else s.hold.passes } }

/-! ### The RAS ring (16 R392, R393, R422) -/

/-- RAS_RECORD_WRITE. -/
def State.rasWrite (s : State) : State :=
  match s.ras.waiting, s.ras.writing with
  | r :: rest, none =>
    if s.charted && s.ras.valid && decide ((s.ras.prod - s.ras.cons).toNat < 2 ^ s.ras.sizeLog2.toNat) then
      State.launch { s with ras := { s.ras with waiting := rest, writing := some r } }
        (mkWrite .block .ras none (s.localPa (s.ras.base.toNat + 64 * (s.ras.prod.toNat % 2 ^ s.ras.sizeLog2.toNat))) (errBytes r))
    else s
  | _, _ => s

/-- A record's write has ended. -/
def State.rasBack (s : State) (st : Status) : State :=
  match s.ras.writing with
  | none => s
  | some _ =>
    let equal := s.ras.prod == s.ras.cons
    let s := { s with ras := { s.ras with writing := none } }
    if st ≠ .ok then s.rasLose
    else
      let s := { s with ras := { s.ras with prod := s.ras.prod + 1 } }
      if equal && s.ras.vecValid then s.raiseVector s.ras.vector.toNat else s

/-- The driver moves the RAS consumer index; a write past the producer is ignored. (DEDUCED, log 82) -/
def State.rasConsWrite (s : State) (v : BitVec 32) : State :=
  if (v - s.ras.cons).toNat ≤ (s.ras.prod - s.ras.cons).toNat then { s with ras := { s.ras with cons := v } } else s

/-! ### The entropy test and waiting vectors -/

/-- ENTROPY_HEALTH_FAIL. (DEDUCED, log 58) -/
def State.entropyFailed (s : State) : State :=
  if !s.start.ready || s.ident.entropyFail then s
  else
    let (v, s) := s.freeVal
    let s := { s with ident := { s.ident with entropyFail := true } }
    (s.record { s.errRec 7 .checkFail .sh 0x11 0 with detail0 := BitVec.ofNat 64 (v.toNat % 256) }).shIrq 8

/-- MSIX_SEND. -/
def State.vectorSend (s : State) (v : Nat) : State :=
  if !s.pendingBit v then s
  else match s.readyHost with
    | some n =>
      if (s.msixEntry v).mask || (s.host n).funcMask then s
      else (s.setPendingBit v false).drive (.msix n v (s.msixEntry v).addr (s.msixEntry v).data)
    | none => s

/-! ### Gated units (03 R62) -/

/-- The unit has no work: a cell that lies on the pipeline of a running descriptor has, or one that may be given folds (10 R244); a hash lane
while a HASH descriptor or a measurement runs. -/
def State.unitIdle (s : State) (u : UnitRef) : Bool :=
  match u with
  | .channel c => (s.chan c.val).run.isNone && (s.chan c.val).fetch.isNone && !s.chanBusy c.val
  | .walker w => !s.trans.walks.any (fun k => k.walker == some w.val)
  | .core c => !((s.core c.val).state == .running)
  | .enginePort e => !s.engReqs.any (fun r => r.port == e.val)
  | .hold => s.accesses.isEmpty
  | .cell n => !s.chans.any (fun e => e.2.run.any (fun r => dPipe r.words < 32 && (s.pipe (dPipe r.words)).route.contains n.val))
      && !s.cmb.slots.any (fun e => e.2.state == .open_ && !e.2.parked.isEmpty)
  | .lane _ => !s.chans.any (fun e => e.2.run.any (fun r => dOp r.words == 8))
      && !s.ident.jobs.any (fun j => match j with
        | .measure m => m.started
        | _ => false)
  | .supply _ => true
  | .clockUnit _ => true

/-- UNIT_CLOCK_GATE. -/
def State.gateUnit (s : State) (u : UnitRef) : State :=
  if s.unitIdle u && !s.gated.contains u then { s with gated := s.gated ++ [u] } else s

/-- A unit fenced off after a failed self-test: it stays gated until the next cold start (03 R62). -/
def State.unitFenced (s : State) (u : UnitRef) : Bool :=
  match u with
  | .channel c => s.fenced.channels.getLsbD c.val
  | .walker w => s.fenced.walkers.getLsbD w.val
  | .cell n => s.fenced.cells.getLsbD n.val
  | .lane n => s.fenced.lanes.getLsbD n.val
  | .core c => s.fenced.cores.getLsbD c.val
  | .enginePort e => s.fenced.engine.getLsbD e.val
  | _ => false

/-- Units that have work again are clocked again. -/
def State.ungate (s : State) : State := { s with gated := s.gated.filter (fun u => s.unitIdle u || s.unitFenced u) }

end Sys2Proof.Machine
end

