-- ==== Sys2Proof/Machine/Firmware.lean ====
section
/-! DEFINITION. Firmware images and cores (05 R101-R109), and the start steps that keys and cores take part in: 7 to 13 (05 R97; 15
R358, R362). -/

namespace Sys2Proof.Machine

/-! ### Identity at the start (15 R358, R362) -/

/-- M1. -/
def m1 : Bytes := beBytes 48 Config.bootRomDigest.toNat

/-- M2 to M8: the digests of the cores, zeros for one that is fenced off or has none. -/
def State.coreDigests (s : State) : Bytes := ((List.range 7).map (fun c => (s.core c).measured.getD (zeros 48))).flatten

/-- M2 to M10. -/
def State.measures (s : State) : Bytes := s.coreDigests ++ s.chart.m9.getD (zeros 48) ++ s.chart.m10.getD (zeros 48)

/-- DEVICEID_DERIVATION, step 7. (DEDUCED, log 27) -/
def State.deriveDevice (s : State) : State :=
  if !s.coldAt 7 then s
  else
    let cdi := hmac384 (beBytes 32 s.fuses.uds.toNat) (ascii "CAERN-DEVICEID" ++ m1)
    let d := keypair cdi
    State.startGo { s with ident := { s.ident with cdiDev := some cdi, devKey := d, devPub := pubOf d } } 8 false

/-- PORT_READINESS, step 8: ports whose links are trained go into service, and step 9 begins. -/
def State.portsReady (s : State) : State := if s.coldAt 8 then (s.startGo 9 false).raisePorts else s

/-- A peer port has ended its key setup. -/
def State.peerSettled (s : State) (p : Nat) : Bool :=
  !s.theChart.ports.peerEnable.getLsbD p || s.fenced.peer.getLsbD p
    || (match (s.peer p).state with
      | .up => true
      | .failed => true
      | .clockLost => true
      | _ => false)

/-- PEER_KEY_SETUP_COMPLETE, the end of step 9. -/
def State.peersReady (s : State) : State :=
  if s.coldAt 9 && [0, 1, 2, 3].all s.peerSettled then (if s.inSeed then s.startGo 10 true else s.enter11) else s

/-- One DER element at an offset: its tag, where its contents begin, their length. (PRESUMED, log 19) -/
def derAt (b : Bytes) (o : Nat) : Nat × Nat × Nat :=
  let l := byteAt b (o + 1)
  if l < 128 then (byteAt b o, o + 2, l) else (byteAt b o, o + 2 + l % 128, beNat (cut b (o + 2) (l % 128)))

/-- Offsets of the DER elements in [o, stop), at most `n`. (PRESUMED, log 19) -/
def derList (b : Bytes) : Nat → Nat → Nat → List Nat
  | 0, _, _ => []
  | n + 1, o, stop =>
    if stop ≤ o then [] else
      let e := derAt b o
      o :: derList b n (e.2.1 + e.2.2) stop

/-- The subject public key of a certificate at an offset, as the point's bytes behind 0x04. -/
def certKey (b : Bytes) (o : Nat) : Bytes :=
  let cert := derAt b o
  let tbs := derAt b cert.2.1
  let parts := derList b 16 tbs.2.1 (tbs.2.1 + tbs.2.2)
  let parts := if (derAt b (parts.getD 0 0)).1 = 0xA0 then parts.tail else parts
  let spki := derAt b (parts.getD 5 0)
  let inner := derList b 4 spki.2.1 (spki.2.1 + spki.2.2)
  let key := derAt b (inner.getD 1 0)
  cut b (key.2.1 + 2) 96

/-- The driver's chain ends with a certificate for the DeviceID key. -/
def chainEnds (chain pub : Bytes) : Bool :=
  match (derList chain chain.length 0 chain.length).getLast? with
  | some o => certKey chain o == pub
  | none => false

/-- A DER element: its tag, its length and its contents. -/
def der (tag : Byte) (b : Bytes) : Bytes :=
  tag :: (if b.length < 128 then [BitVec.ofNat 8 b.length]
    else if b.length < 256 then [0x81, BitVec.ofNat 8 b.length] else 0x82 :: beBytes 2 b.length) ++ b

/-- A DER INTEGER that is not negative, from its big-endian bytes. -/
def derUint (b : Bytes) : Bytes :=
  let t := b.dropWhile (fun x => x == 0)
  der 0x02 (if (t.headD 0x80).getLsbD 7 then 0 :: t else t)

/-- The algorithm ecdsa-with-SHA384. -/
def derEcdsa : Bytes := der 0x30 (der 0x06 [0x2A, 0x86, 0x48, 0xCE, 0x3D, 0x04, 0x03, 0x03])

/-- The subject public key of a P-384 point. -/
def derKey (pub : Bytes) : Bytes :=
  der 0x30 (der 0x30 (der 0x06 [0x2A, 0x86, 0x48, 0xCE, 0x3D, 0x02, 0x01] ++ der 0x06 [0x2B, 0x81, 0x04, 0x00, 0x22])
    ++ der 0x03 ([0, 4] ++ pub))

/-- The TCG DiceTcbInfo extension: one FWID, SHA-384, per digest of 48 bytes, in order. (PRESUMED, log 19) -/
def derTcbInfo (ms : Bytes) : Bytes :=
  let fwid (i : Nat) : Bytes :=
    der 0x30 (der 0x06 [0x60, 0x86, 0x48, 0x01, 0x65, 0x03, 0x04, 0x02, 0x02] ++ der 0x04 (cut ms (48 * i) 48))
  der 0x30 (der 0x06 [0x67, 0x81, 0x05, 0x05, 0x04, 0x01]
    ++ der 0x04 (der 0x30 (der 0xA6 (((List.range (ms.length / 48)).map fwid).flatten))))

/-- The signed part of the alias certificate (15 R362): X.509 v3, its serial, ecdsa-with-SHA384, valid from 1970-01-01T00:00:00Z to
9999-12-31T23:59:59Z, the alias public key and DiceTcbInfo over M1 to M10. (PRESUMED, log 19) -/
def aliasTbs (pub dev serial ms : Bytes) : Bytes :=
  der 0x30 (der 0xA0 (der 0x02 [2]) ++ derUint serial ++ derEcdsa ++ Config.certName dev
    ++ der 0x30 (der 0x17 (ascii "700101000000Z") ++ der 0x18 (ascii "99991231235959Z")) ++ Config.certName pub ++ derKey pub
    ++ der 0xA3 (der 0x30 (Config.certExtensions ++ derTcbInfo ms)))

/-- A certificate from its signed part and the signature, r then s of 48 bytes each. (PRESUMED, log 19) -/
def derCert (tbs sig : Bytes) : Bytes :=
  der 0x30 (tbs ++ derEcdsa ++ der 0x03 (0 :: der 0x30 (derUint (sig.take 48) ++ derUint (sig.drop 48))))

/-- ALIAS_KEY_DERIVATION, step 12: alias key and certificate; SEC is released at step 13. After an entropy failure no certificate is signed
(15 R360). (DEDUCED, log 106) -/
def State.deriveAlias (s : State) (chain : ReadResult) : State :=
  if !s.startAt 12 then s
  else
    let cdi := hmac384 (s.ident.cdiDev.getD []) (ascii "CAERN-ALIAS" ++ s.measures)
    let d := keypair cdi
    let pub := pubOf d
    let h := sha384 pub
    let serial := BitVec.ofNat 8 (byteAt h 0 % 128) :: (h.take 20).tail
    let tbs := aliasTbs pub s.ident.devPub serial (m1 ++ s.measures)
    let (r, t) := s.draw
    let cert := if s.ident.entropyFail then [] else derCert tbs (ecdsaSign s.ident.devKey (r.toNat % (p384N - 1) + 1) (sha384 tbs))
    let s := if s.ident.entropyFail then s else t
    let given := match chain with
      | .ok b => b.take s.ident.chainLen.toNat
      | _ => []
    let ok := chainEnds given s.ident.devPub
    let s := { s with ident := { s.ident with
      cdiAlias := some cdi, aliasKey := d, aliasPub := pub, cert := cert, chain := if ok then given else [], chainOk := ok } }
    (s.modCore 0 (fun c => { c with state := .running, wdt := 0 })).startGo 13 false

/-- SEC_READY, in step 13: the other cores are released together, and HELLO is awaited; SEC firmware may have unlocked the TAP's
instruments (02 R54). (DESIGN CHOICE, log 21) -/
def State.secReadyGo (s : State) : State :=
  if !s.startAt 13 || s.ident.secReady || (s.core 0).state != .running then s
  else
    let s := eachOf (fun (c : Nat) t => if (t.core c).state == .verified then t.modCore c (fun k => { k with state := .running, wdt := 0 })
      else t) [1, 2, 3, 4, 5, 6] s
    let s := { s with
      tapUnlock := s.tapUnlock || Config.secUnlocks ((s.core 0).measured.getD []), ident := { s.ident with secReady := true } }
    let s := s.setStart { s.start with waiting := true }
    if s.pwr then s.pwrStart else s

/-! ### Images (05 R102-R106) -/

/-- Bytes of a core's SRAM, by the image header's core. -/
def sramBytes (core : Nat) : Nat := if core = 0 then 512 * 1024 else 256 * 1024

/-- The cores field against the header's core (05 R103). -/
def coresFit (core : Nat) (cores fenced : BitVec 7) : Bool :=
  (cores &&& fenced) == 0
    && (if core = 0 then cores == 1 else if core = 1 then cores == 2 else if core = 2 then cores == 4
      else cores != 0 && (cores &&& 0x07) == 0)

/-- Header and body of an image. -/
def imageBody (b : Bytes) : Bytes := b.take (0xC0 + fld b 0x14 4)

/-- The checks of an image in order (05 R104); none is passed by an image that ends early, and a poisoned one fails check 2 (16 R387).
(DEDUCED, log 73) -/
def imageCheck (b : Bytes) (poisoned : Bool) (cores fenced : BitVec 7) : Status :=
  let core := byteAt b 6
  let len := fld b 0x14 4
  let key := cut b 0x20 96
  if fld b 0 4 ≠ 0x4E574854 ∨ fld b 4 2 ≠ 1 then .malformed
  else if poisoned || fld b 0xBC 4 != crc32c (b.take 0xBC) then .checkFail
  else if !(byteAt b 7 == 0 && allZero (cut b 0x11 3) && allZero (cut b 0x1C 4) && allZero (cut b 0x80 60) && decide (core ≤ 3)
      && len % 4 == 0 && decide (4 ≤ len) && decide (len ≤ sramBytes core) && fld b 0x18 4 % 2 == 0 && decide (fld b 0x18 4 < len)
      && coresFit core cores fenced) then .malformed
  else if 0x01020000 < fld b 0x0C 4 ∨ fld b 0x0C 2 ≠ 0 ∨ byteAt b 0x10 ≠ 1 then .malformed
  else if !keyHashOk key Config.firmwareKeyHash then .checkFail
  else if !ecdsaVerify key (sha384 (imageBody b)) (cut b (0xC0 + len) 96) then .checkFail
  else .ok

/-- The cores of a set. -/
def coresOf (cores : BitVec 7) : List Nat := (List.range 7).filter (fun c => cores.getLsbD c)

/-- FW_LOAD: at step 11 only, and not while a load is being checked. -/
def State.fwLoadGo (s : State) (cores : BitVec 7) : State :=
  if s.startAt 11 && !s.fw.busy then
    State.setStart { s with fw := { s.fw with busy := true, reload := false, cores := cores } } { s.start with waiting := false }
  else s

/-- RELOAD: after the start, for cores other than SEC that their watchdogs hold (05 R106). -/
def State.fwReloadGo (s : State) (cores : BitVec 7) : State :=
  if s.start.ready && !s.fw.busy && cores != 0 && !cores.getLsbD 0 && (coresOf cores).all (fun c => (s.core c).state == .watchdog) then
    { s with fw := { s.fw with busy := true, reload := true, cores := cores } }
  else s

/-- Records that waited for a cluster's CTL core go to the writer. -/
def State.ctlRecords (s : State) (k : Nat) : State :=
  let held := tabGet [] s.ras.ctl k
  eachOf (fun (r : ErrRec) t => t.record r) held { s with ras := { s.ras with ctl := tabSet [] s.ras.ctl k [] } }

/-- A reloaded core runs again. (DEDUCED, log 59; DESIGN CHOICE, log 100; DESIGN CHOICE, log 110) -/
def State.coreReloaded (c : Nat) (s : State) : State :=
  let s := s.modCore c (fun k => { k with state := .running, wdt := 0, shedding := false })
  let s := if 3 ≤ c then s.ctlRecords (c - 3) else s
  let s := if c = 1 then eachOf State.supplyGo [Slice.sh, .en, .hd] s else s
  s.pushUnsolicited {
    opcode := 0x8004, length := 4, payload := padTo ([BitVec.ofNat 8 c, 0] ++ leBytes 2 (s.core c).expiries.toNat) 52 }

/-- The outcome of a load for one core. (DEDUCED, log 59; DESIGN CHOICE, log 100) -/
def State.loadCore (st : Status) (b : Bytes) (c : Nat) (s : State) : State :=
  s.modCore c (fun k =>
    if k.state = .fenced then { k with result := st }
    else if st = .ok then
      { k with result := st, state := .verified, measured := some (sha384 (imageBody b)), release := BitVec.ofNat 32 (fld b 8 4),
               sram := (imageBody b).drop 192, entry := BitVec.ofNat 32 (fld b 0x18 4) }
    else { k with result := st, state := .held, measured := none })

/-- Every core not fenced off holds a verified image. -/
def State.allVerified (s : State) : Bool := (List.range 7).all (fun c => s.fenced.cores.getLsbD c || (s.core c).state == .verified)

/-- IMAGE_VERIFY_COMPLETE. (DEDUCED, log 59; DEDUCED, log 73) -/
def State.imageVerified (s : State) (image : ReadResult) : State :=
  if !s.fw.busy || s.accesses.any (fun a => a.purpose == .image) then s
  else
    let b := match image with
      | .ok b => b
      | .poison b => b
      | _ => []
    let digest := sha384 (imageBody b)
    let same := (coresOf s.fw.cores).all (fun c => (s.core c).measured == some digest)
    let st := match image with
      | .ok _ =>
        let r := imageCheck b false s.fw.cores s.fenced.cores
        if r = .ok ∧ s.fw.reload = true ∧ same = false then .checkFail else r
      | .poison _ => imageCheck b true s.fw.cores s.fenced.cores
      | .busError => .busError
      | .timeout => .timeout
    let cores := coresOf s.fw.cores
    let s := { s with fw := { s.fw with busy := false, result := st } }
    if s.fw.reload then
      let s := eachOf (fun (c : Nat) t => t.modCore c (fun k => { k with result := st })) cores s
      let s := if st = .ok then eachOf State.coreReloaded cores s else s
      s.shIrq 2
    else
      let s := (eachOf (State.loadCore st b) cores s).shIrq 2
      if st = .ok ∧ s.allVerified = true then s.startGo 12 false
      else s.setStart { s.start with waiting := true, failure := if st = .ok then s.start.failure else 0x05 }

/-! ### Watchdogs (05 R107, R108) -/

/-- A kick counts only from the core itself, with 0xA5. -/
def State.kick (s : State) (path : Path) (c : Nat) (v : BitVec 32) : State :=
  match path with
  | .core k => if k.val = c ∧ v.toNat % 256 = 0xA5 then s.modCore c (fun x => { x with wdt := 0 }) else s
  | _ => s

/-- HARBOUR is lost: the session closes, its change is left to the units, the entry it was writing is written again later.
(DEDUCED, log 50) -/
def State.loseHarbour (s : State) : State :=
  let s := s.closeSession.modeOrphan
  { s with
    mgmt := { s.mgmt with writing := false },
    accesses := s.accesses.map (fun a => if a.purpose = .event then { a with purpose := .none } else a) }

/-- WATCHDOG_EXPIRY. (DEDUCED, log 50; DESIGN CHOICE, log 70) -/
def State.wdtExpired (s : State) (c : Nat) : State :=
  if (s.core c).state ≠ .running then s
  else
    let s := s.modCore c (fun k => { k with
      state := .watchdog, wdt := 0, expiries := BitVec.ofNat 16 (min 0xFFFF (k.expiries.toNat + 1)) })
    let s := if c = 0 then { s with ident := { s.ident with session := .none, missed := 0 } }
      else if c = 2 then s.loseHarbour else s
    s.mgmtIrq

end Sys2Proof.Machine
end

