-- ==== Sys2Proof/Machine/Combine.lean ====
section
/-! DEFINITION. Combine slots (12): the fold of elements and of softmax rows, pieces and headers at the slot, folding in index
order, the result, and the ends of a round. -/

namespace Sys2Proof.Machine

/-! ### Reduction arithmetic (12 R303, R304) -/

/-- The place of a floating-point code in the order of its format; -0 stands below +0. -/
def floatKey (f c : Nat) : Int :=
  let m := c % 2 ^ (fmtBits f - 1)
  if bit c (fmtBits f - 1) then -(m : Int) - 1 else m

/-- The greater or the lesser of two codes of FP64 (1) or FP32 (2). (DEDUCED, log 15) -/
def floatPick (f : Nat) (least : Bool) (x y : Nat) : Nat :=
  if numOf f x == .nan || numOf f y == .nan then fmtNan f
  else if (if least then floatKey f y < floatKey f x else floatKey f x < floatKey f y) then y else x

/-- The fold of two `n`-bit integers. -/
def intFold (op n : Nat) (saturates : Bool) (x y : Nat) : Nat :=
  match op with
  | 0 =>
    if saturates then
      let top : Int := 2 ^ (n - 1)
      (max (-top) (min (top - 1) (asSigned n x + asSigned n y)) % 2 ^ n).toNat
    else (x + y) % 2 ^ n
  | 1 => if asSigned n x < asSigned n y then y else x
  | _ => if asSigned n y < asSigned n x then y else x

/-- fold(acc, c) of a REDUCE. -/
def reduceFold (type_ op x y : Nat) : Nat :=
  let float (f : Nat) : Nat := if op = 0 then floatAdd f x y else floatPick f (op == 2) x y
  match type_ with
  | 1 => float 1
  | 3 => intFold op 32 false x y
  | 4 => intFold op 32 true x y
  | 5 => intFold op 64 false x y
  | 6 => intFold op 64 true x y
  | _ => float 2

/-! ### The row merge (12 R305-R310) -/

/-- A row: m, l, flags and o. -/
structure MergeRow where
  m     : Nat
  l     : Nat
  flags : Nat
  o     : List Nat
  deriving DecidableEq, Repr, Inhabited

/-- Classes of a row (R306). -/
inductive RowClass where
  | nan | empty | peak | finite
  deriving DecidableEq, Repr, Inhabited

/-- The row that bytes hold. -/
def rowOf (b : Bytes) : MergeRow :=
  { m := fld b 0 4, l := fld b 4 4, flags := fld b 8 4 % 4,
    o := (List.range ((b.length - 16) / 4)).map (fun i => fld b (16 + 4 * i) 4) }

/-- The bytes of a row. -/
def MergeRow.bytes (r : MergeRow) : Bytes :=
  leBytes 4 r.m ++ leBytes 4 r.l ++ leBytes 4 r.flags ++ zeros 4 ++ (r.o.map (leBytes 4)).flatten

/-- The class of a row. -/
def MergeRow.cls (r : MergeRow) : RowClass :=
  if bit r.flags 1 || numOf 2 r.m == .nan || numOf 2 r.l == .nan then .nan
  else if bit r.flags 0 || r.m == f32NegInf then .empty
  else if r.m == f32Inf then .peak
  else .finite

/-- A NaN row. -/
def nanRow (n : Nat) : MergeRow := { m := fmtNan 2, l := fmtNan 2, flags := 2, o := List.replicate n (fmtNan 2) }

/-- An empty row. -/
def emptyRow (n : Nat) : MergeRow := { m := f32NegInf, l := 0, flags := 1, o := List.replicate n 0 }

/-- FP32 fused multiply-add: one rounding to nearest, ties to even. -/
def f32Fma (x y t : Nat) : Nat :=
  match numOf 2 x, numOf 2 y, numOf 2 t with
  | .fin a m e, .fin b n q, .fin c k p => toF32 (finAdd (a != b) (m * n) (e + q) c k p)
  | .fin _ _ _, .fin _ _ _, _ => if numOf 2 t == .nan then fmtNan 2 else t
  | _, _, _ => f32Add (f32Mul x y) t

/-- The fold of two rows that are both FINITE or PEAK (R307, R309). -/
def scaleFold (a b : MergeRow) : MergeRow :=
  let m := if f32Gt b.m a.m then b.m else a.m
  let scale (x : Nat) : Nat := if f32Gt x m || f32Gt m x then exp2 (f32Sub x m) else 0x3F800000
  let sa := scale a.m
  let sb := scale b.m
  if sa = 0 then b
  else if sb = 0 then a
  else
    let go (x y : Nat) : Nat := f32Fma x sa (f32Mul y sb)
    let r : MergeRow := { m := m, l := go a.l b.l, flags := 0, o := List.zipWith go a.o b.o }
    if numOf 2 r.l == .nan || r.o.any (fun x => numOf 2 x == .nan) then nanRow a.o.length else r

/-- The merge of accumulator `a` with contribution `b` (R308). -/
def mergeRows (a b : MergeRow) : MergeRow :=
  match a.cls, b.cls with
  | .nan, _ => nanRow a.o.length
  | _, .nan => nanRow a.o.length
  | .empty, .empty => emptyRow a.o.length
  | .empty, _ => b
  | _, .empty => a
  | .finite, .peak => b
  | .peak, .finite => a
  | _, _ => scaleFold a b

/-- The completion of a row (R310). A row never holds a NaN with its NAN flag clear. -/
def finalRow (norm : Bool) (r : MergeRow) : MergeRow :=
  match r.cls with
  | .nan => nanRow r.o.length
  | .empty => emptyRow r.o.length
  | _ =>
    if norm then
      let o := r.o.map (fun x => f32Mul x (rcp r.l))
      if o.any (fun x => numOf 2 x == .nan) then nanRow r.o.length else { r with flags := 0, o := o }
    else if r.o.any (fun x => numOf 2 x == .nan) then nanRow r.o.length
    else { r with flags := 0 }

/-! ### Elements of a contribution -/

/-- Input element size. -/
def CmbHeader.inSize (h : CmbHeader) : Nat := cmbInSize h.type_.toNat h.dgroups

/-- Result element size. -/
def CmbHeader.outSize (h : CmbHeader) : Nat := cmbOutSize h.type_.toNat h.dgroups

/-- Contribution 0 of an element becomes its accumulator, BF16 widened to FP32 (R297). -/
def CmbHeader.widen (h : CmbHeader) (b : Bytes) : Bytes := if h.type_ = 2 then [0, 0] ++ b else b

/-- Fold one element. -/
def CmbHeader.foldElem (h : CmbHeader) (acc b : Bytes) : Bytes :=
  if h.op = 3 then (mergeRows (rowOf acc) (rowOf b)).bytes
  else leBytes h.outSize (reduceFold h.type_.toNat h.op.toNat (leNat acc) (leNat (h.widen b)))

/-- The result bytes of an accumulator element. -/
def CmbHeader.result_ (h : CmbHeader) (acc : Bytes) : Bytes := if h.op = 3 then (finalRow h.norm (rowOf acc)).bytes else acc

/-- The byte at an offset of contribution `i`, if it has come. -/
def cmbByte (ws : List CmbWindow) (i p : Nat) : Option (Byte × Bool) :=
  ws.findSome? (fun w => if w.index = i ∧ w.first ≤ p then w.data[p - w.first]? else none)

/-- All bytes of element `j` of contribution `i`, if they have come. -/
def cmbElem (h : CmbHeader) (ws : List CmbWindow) (i j : Nat) : Option MarkedBytes :=
  (List.range h.inSize).mapM (fun n => cmbByte ws i (64 + j * h.inSize + n))

/-- The elements that bytes of a window belong to. -/
def touched (h : CmbHeader) (w : CmbWindow) : List Nat :=
  let lo := (max w.first 64 - 64) / h.inSize
  let hi := min h.count ((w.first + w.data.length - 64 + h.inSize - 1) / h.inSize)
  (List.range (hi - lo)).map (lo + ·)

/-- One accumulator element: its bytes, whether it is poisoned, and the contribution it awaits. -/
abbrev AccElem := Bytes × Bool × Nat

/-- Fold contribution `i` of element `j` into its accumulator if it is the next and its bytes are there (R297, R301). -/
def foldAt (h : CmbHeader) (ws : List CmbWindow) (i j : Nat) (e : AccElem) : AccElem :=
  if e.2.2 ≠ i then e
  else match cmbElem h ws i j with
    | none => e
    | some b =>
      let bs := b.map (·.1)
      (if i = 0 then h.widen bs else h.foldElem e.1 bs, e.2.1 || b.any (·.2), i + 1)

/-- Fold the elements of a list of indices of one contribution. -/
def foldElems (h : CmbHeader) (ws : List CmbWindow) (i : Nat) (js : List Nat) (acc : List AccElem) : List AccElem :=
  ((List.range acc.length).zip acc).map (fun x => if js.contains x.1 then foldAt h ws i x.1 x.2 else x.2)

/-- The window's elements have all been folded. -/
def windowFolded (h : CmbHeader) (acc : List AccElem) (w : CmbWindow) : Bool :=
  (touched h w).all (fun j => decide (w.index < (acc.getD j ([], false, 0)).2.2))

/-! ### Ends of a round (12 R298-R301) -/

/-- The hold bytes of an accumulator. -/
def CmbHeader.accBytes (h : CmbHeader) : Nat := roundUp (h.count * h.outSize) 256

/-- The partition of a slot, as a quota. -/
def State.slotPart (s : State) (n : Nat) : Nat := (s.slotOwner n).getD 0

/-- Give back what a round holds. -/
def State.slotFree (s : State) (n : Nat) : State :=
  let k := s.slot n
  (s.holdGive (s.slotPart n) (k.reserved + 256 * k.parked.length)).setSlot n
    { k with parked := [], acc := [], reserved := 0, served := [], refused := [], accepted := [], results := 0 }

/-- The error record of a round that ended without OK, and the registers that tell it. -/
def State.slotRecord (s : State) (n : Nat) (st : Status) : State :=
  let p := s.slotPart n
  let s := s.record { s.errRec 3 st .hd 9 n with
    part := BitVec.ofNat 8 p, detail0 := BitVec.ofNat 64 (n + (s.slot n).round.toNat * 2 ^ 16) }
  { s with cmb := { s.cmb with failed := sat32 s.cmb.failed, endStatus := st, endPart := BitVec.ofNat 4 p,
                               endSlot := BitVec.ofNat 12 n } }

/-- A round ends without a result credit. -/
def State.slotFail (s : State) (n : Nat) (st : Status) : State :=
  let s := { s with accesses := s.accesses.map (fun (a : Access) => if a.purpose = Purpose.resultWrite n then { a with purpose := Purpose.none } else a) }
  let s := s.slotRecord n st
  (s.slotFree n).modSlot n (fun k => { k with state := .failed, status := st })

/-- Every result byte has been acknowledged: the credit, and the slot is DONE. -/
def State.slotDone (s : State) (n : Nat) : State :=
  let k := s.slot n
  match k.header with
  | none => s
  | some h =>
    let s := if h.tide = 0xFFFF then s
      else (s.tideCredit h.tide.toNat (some h.part.toNat) (h.count * h.outSize)).2
    let st : Status := if k.poisoned then .poison else .ok
    let s := if k.poisoned then s.slotRecord n .poison else s
    (s.slotFree n).modSlot n (fun k => { k with state := .done, status := st })

/-- The write bursts of a result: one per aligned 256-byte window. -/
def resultBursts : Nat → Nat → MarkedBytes → List (Nat × MarkedBytes)
  | 0, _, _ => []
  | fuel + 1, a, b =>
    if b.isEmpty then []
    else
      let n := 256 - a % 256
      (a, b.take n) :: resultBursts fuel (a + n) (b.drop n)

/-- The poison marks of the lines of a burst. -/
def burstMarks (a : Nat) (b : MarkedBytes) : List Bool :=
  (List.range (lineCount a b.length)).map (fun i =>
    ((List.range b.length).zip b).any (fun x => (a + x.1) / 64 == a / 64 + i && x.2.2))

/-- Every element of all K contributions has been folded: the result is written. -/
def State.slotWrite (s : State) (n : Nat) (h : CmbHeader) : State :=
  let k := s.slot n
  let bytes : MarkedBytes := (k.acc.map (fun e => mark e.2.1 (h.result_ e.1))).flatten
  let bursts := resultBursts (bytes.length / 256 + 2) h.result.toNat bytes
  let s := s.setSlot n { k with state := .writing, results := bursts.length, poisoned := k.acc.any (·.2.1) }
  eachOf (fun b t => t.launch (mkWrite (.slot n) (.resultWrite n) (some h.part.toNat) (t.localPa b.1) (b.2.map (·.1))
    (burstMarks b.1 b.2))) bursts s

/-- A result write has ended. -/
def State.resultBack (s : State) (n : Nat) (st : Status) : State :=
  let k := s.slot n
  if k.state ≠ .writing then s
  else if st ≠ .ok then s.slotFail n st
  else
    let s := s.setSlot n { k with results := k.results - 1 }
    if k.results = 1 then s.slotDone n else s

/-- combine_timeout passes for an OPEN round (R300). -/
def State.slotTimeout (s : State) (n : Nat) : State := if (s.slot n).state = .open_ then s.slotFail n .timeout else s

/-! ### Folding (12 R296, R297) -/

/-- Windows that have been folded are freed; contributions wholly folded are counted; the last fold starts the result. -/
def State.slotSettle (s : State) (n : Nat) : State :=
  let k := s.slot n
  match k.header with
  | none => s
  | some h =>
    let kept := k.parked.filter (fun w => !(k.accepted.contains w.index && windowFolded h k.acc w))
    let folded := k.acc.foldl (fun v e => min v e.2.2) h.k
    let s := (s.holdGive (s.slotPart n) (256 * (k.parked.length - kept.length))).setSlot n
      { k with parked := kept, folded := folded }
    if k.state = .open_ ∧ folded = h.k then s.slotWrite n h else s

/-- Folding takes cycles of sluice cells, which HD_SL_FOLD_CC counts (10 R244); how many, the spec does not say: a free value.
(DESIGN CHOICE, log 94) -/
def State.foldCycles (s : State) : State :=
  let (v, s) := s.freeVal
  { s with sluice := { s.sluice with foldCc := s.sluice.foldCc + v.truncate 32 } }

/-- COMBINE_FOLD: the next contribution's elements that are there. -/
def State.slotFold (s : State) (n : Nat) : State :=
  let k := s.slot n
  match k.header with
  | none => s
  | some h =>
    if k.state ≠ .open_ then s
    else
      let acc := ((List.range k.acc.length).zip k.acc).map (fun x =>
        if k.accepted.contains x.2.2.2 then foldAt h k.parked x.2.2.2 x.1 x.2 else x.2)
      ((if acc = k.acc then s else s.foldCycles).setSlot n { k with acc := acc }).slotSettle n

/-- Serve one data window: folded at once if all of its elements can be, else parked; a full quota ends the round (R296),
but a round that is WRITING goes on (R300). (DEDUCED, log 87) -/
def State.slotWindow (s : State) (n : Nat) (w : CmbWindow) : Status × State :=
  let s0 := s
  let s := s.modSlot n (fun k => { k with served := k.served ++ [(w.index, w.first / 256)] })
  let k := s.slot n
  let now := match k.header with
    | some h =>
      let ws := w :: k.parked
      if k.accepted.contains w.index && (touched h w).all (fun j =>
          (k.acc.getD j ([], false, 0)).2.2 == w.index && (cmbElem h ws w.index j).isSome) then
        some (foldElems h ws w.index (touched h w) k.acc)
      else none
    | none => none
  match now with
  | some acc => (.ok, (s.foldCycles.setSlot n { k with acc := acc }).slotSettle n)
  | none =>
    if s.holdFree (s.slotPart n) 256 then
      (.ok, (s.holdTake (s.slotPart n) 256).setSlot n { k with parked := k.parked ++ [w] })
    else (.quota, if k.state = .writing then s0 else s.slotFail n .quota)

/-! ### Headers and pieces (12 R292-R296) -/

/-- The fields of a header. -/
def cmbHeaderOf (b : Bytes) : CmbHeader :=
  { round := BitVec.ofNat 16 (fld b 4 2), slot := BitVec.ofNat 16 (fld b 6 2), index := fld b 8 2, k := fld b 0x0A 2,
    op := BitVec.ofNat 8 (byteAt b 0x0C), type_ := BitVec.ofNat 8 (byteAt b 0x0D), norm := bit (byteAt b 0x0E) 0,
    failed := bit (byteAt b 0x0E) 1, dgroups := byteAt b 0x0F, count := fld b 0x10 4, dataBytes := fld b 0x14 4,
    result := BitVec.ofNat 64 (fld b 0x18 8), tide := BitVec.ofNat 16 (fld b 0x20 2), part := BitVec.ofNat 8 (byteAt b 0x22),
    failStatus := statusOf (byteAt b 0x23) }

/-- The slot, contributor index, offset and round of a piece (11 R272; 12 R292). -/
def pieceSlot (k : Packet) : Nat := bits k.addr.toNat 11 0

/-- The contributor index of a piece. -/
def pieceIndex (k : Packet) : Nat := bits k.addr.toNat 23 12

/-- The placement of a piece. -/
def pieceAt (k : Packet) : Nat := bits k.addr.toNat 47 24

/-- The round of a piece. -/
def pieceRound (k : Packet) : Nat := bits k.aux.toNat 15 0

/-- Check 2 of R295. -/
def headerFieldsOk (k : Packet) (b : Bytes) (h : CmbHeader) : Bool :=
  let n := byteAt b 0x23
  fld b 0 4 == 0x31424D43 && allZero (cut b 0x24 24) && byteAt b 0x0E >>> 2 == 0 && decide (h.slot.toNat < 4096)
    && decide (h.index < 4096) && decide (1 ≤ h.k) && decide (h.k ≤ 4096) && decide (1 ≤ h.count)
    && cmbRange (h.op == 3) h.dgroups h.norm h.type_.toNat h.op.toNat 1 0
    && h.dataBytes == h.count * h.inSize && decide (h.dataBytes ≤ 16777152) && decide (h.count * h.outSize ≤ 16777216)
    && decide (h.result.toNat < 2 ^ 48) && h.result.toNat % cmbAlign h.type_.toNat h.dgroups == 0
    && (n != 0) == h.failed && h.slot.toNat == pieceSlot k && h.round.toNat == pieceRound k && h.part.toNat == k.part.toNat
    && h.tide == k.tide && h.index == pieceIndex k

/-- Slot and tide lie in the range of a partition number at this instance; with MC set the tide is not looked at (11 R282). -/
def State.pieceOwned (s : State) (k : Packet) : Bool :=
  s.slotOwner (pieceSlot k) == some k.part.toNat
    && (k.mc || k.tide == 0xFFFF || s.tideOwner k.tide.toNat == some k.part.toNat)

/-- The result region overlaps a host window or a coherent window. -/
def State.resultBad (s : State) (h : CmbHeader) : Bool :=
  let a := h.result.toNat
  let n := h.count * h.outSize
  [0, 1, 2, 3].any (fun j => (s.hostWin j).enable
      && overlaps a n ((s.hostWin j).base.toNat <<< 30) ((s.hostWin j).size.toNat <<< 30))
    || s.theChart.windows.any (fun c => overlaps a n c.base c.size)

/-- Checks 1 to 4 of R295; a poisoned header line fails the first (R301). -/
def State.headerCheck (s : State) (k : Packet) (h : CmbHeader) : Status :=
  let b := k.payload.take 64
  if k.poison.getLsbD 0 || crc32c (b.take 60) != fld b 60 4 then .checkFail
  else if !headerFieldsOk k b h then .malformed
  else if !s.pieceOwned k then .permission
  else if s.resultBad h then .malformed
  else .ok

/-- Two headers of one round agree (check 5). -/
def headersAgree (a b : CmbHeader) : Bool :=
  { a with index := 0, failed := false, failStatus := .ok } == { b with index := 0, failed := false, failStatus := Status.ok }

/-- Count refused pieces. -/
def State.countRefused (s : State) (n : Nat) : State :=
  { s with cmb := { s.cmb with refused := sat32 s.cmb.refused n } }

/-- A header is refused in the open round it belongs to: so are the pieces tied to its index, unless a header for that index has
been accepted (R295). (DEDUCED, log 87) -/
def State.headerRefused (s : State) (k : Packet) (st : Status) : Status × State :=
  let n := pieceSlot k
  let i := pieceIndex k
  let sl := s.slot n
  let open_ := (sl.state == .open_ || sl.state == .writing) && sl.round.toNat == pieceRound k
  if !open_ || sl.accepted.contains i then (st, s.countRefused 1)
  else
    let gone := sl.parked.filter (fun w => w.index == i)
    let s := (s.holdGive (s.slotPart n) (256 * gone.length)).setSlot n
      { sl with parked := sl.parked.filter (fun w => w.index != i), refused := sl.refused ++ [(i, st)] }
    (st, s.countRefused (1 + gone.length))

/-- The bytes of a piece with their poison marks, those of its header left out. -/
def pieceData (k : Packet) : Nat × MarkedBytes :=
  let off := pieceAt k
  let all := ((List.range k.payload.length).zip k.payload).map (fun x => (x.2, k.poison.getLsbD ((off + x.1) % 256 / 64)))
  if off = 0 then (64, all.drop 64) else (off, all)

/-- Serve the data of a piece, if it has any. -/
def State.serveData (s : State) (k : Packet) : Status × State :=
  let d := pieceData k
  if d.2.isEmpty then (.ok, s) else s.slotWindow (pieceSlot k) { index := pieceIndex k, first := d.1, data := d.2 }

/-- A header is accepted: the first one fixes the round and reserves the accumulator; windows parked for it beyond its data are
refused. (DEDUCED, log 87) -/
def State.acceptHeader (s : State) (k : Packet) (h : CmbHeader) : Status × State :=
  let n := pieceSlot k
  let sl := s.slot n
  let q := s.slotPart n
  if sl.header.isNone && !s.holdFree q h.accBytes then (.quota, s.slotFail n .quota)
  else
    let beyond (w : CmbWindow) : Bool := w.index == h.index && decide (64 + h.dataBytes ≤ w.first / 256 * 256)
    let gone := sl.parked.filter beyond
    let sl' := { sl with accepted := sl.accepted ++ [h.index], parked := sl.parked.filter (fun w => !beyond w) }
    let sl' := if sl.header.isSome then sl'
      else { sl' with header := some h, reserved := h.accBytes, acc := List.replicate h.count (zeros h.outSize, false, 0) }
    let s := (s.holdGive q (256 * gone.length)).countRefused gone.length
    let s := if sl.header.isSome then s else s.holdTake q h.accBytes
    (s.setSlot n sl').serveData k

/-- A header meets its open round: checks 5 and 6. (DEDUCED, log 87) -/
def State.roundHeader (s : State) (k : Packet) (h : CmbHeader) : Status × State :=
  let n := pieceSlot k
  let sl := s.slot n
  let off5 := sl.header.elim false (fun f => !headersAgree f h)
  if h.failed then
    if sl.state = .writing then (.malformed, s.countRefused 1)
    else if off5 then s.headerRefused k .malformed
    else (.ok, s.slotFail n h.failStatus)
  else match sl.refused.find? (fun r => r.1 == h.index) with
    | some r => (r.2, s.countRefused 1)
    | none =>
      if off5 || decide (h.k ≤ h.index) || sl.accepted.contains h.index then s.headerRefused k .malformed
      else if decide (64 < k.payload.length) && sl.served.contains (h.index, 0) then (.malformed, s.countRefused 1)
      else s.acceptHeader k h

/-- A data piece meets its open round. -/
def State.roundPiece (s : State) (k : Packet) : Status × State :=
  let sl := s.slot (pieceSlot k)
  let i := pieceIndex k
  let w := pieceAt k / 256
  match sl.refused.find? (fun r => r.1 == i) with
  | some r => (r.2, s.countRefused 1)
  | none =>
    let beyond := sl.accepted.contains i && sl.header.elim false (fun h => decide (64 + h.dataBytes ≤ 256 * w))
    if beyond || sl.served.contains (i, w) then (.malformed, s.countRefused 1) else s.serveData k

/-- A new round opens at a slot. -/
def State.openRound (s : State) (n : Nat) (r : BitVec 16) : State :=
  s.setSlot n { state := .open_, round := r }

/-- A piece reaches its slot (R294): the status it is answered with. -/
def State.slotPiece (s : State) (k : Packet) : Status × State :=
  let n := pieceSlot k
  let off := pieceAt k
  let sl := s.slot n
  let h := cmbHeaderOf (k.payload.take 64)
  let isHead := off == 0
  let refuse (st : Status) : Status × State := (st, s.countRefused 1)
  if decide (256 < off % 256 + k.payload.length) || decide (16777216 < off + k.payload.length)
      || (isHead && decide (k.payload.length < 64)) then refuse .malformed
  else
    let chk := if isHead then s.headerCheck k h else if s.pieceOwned k then .ok else .permission
    if chk ≠ .ok then if isHead then s.headerRefused k chk else refuse chk
    else
      let go (s : State) : Status × State := if isHead then s.roundHeader k h else s.roundPiece k
      let fresh := if s.partOn (s.slotPart n) then go (s.openRound n (BitVec.ofNat 16 (pieceRound k))) else refuse .permission
      let same := sl.round.toNat == pieceRound k
      match sl.state with
      | .open_ => if same then go s else refuse .quota
      | .writing => if same then go s else refuse .quota
      | .done => if same then refuse .malformed else fresh
      | .failed => if same then refuse sl.status else fresh
      | .free_ => fresh

/-- CONTRIBUTION_PIECE: the oldest piece a channel has on its way inside the instance reaches its slot. -/
def State.localPiece (s : State) (c : Nat) : State :=
  match (s.chan c).pieces with
  | [] => s
  | k :: rest =>
    let t := (s.modChan c (fun ch => { ch with pieces := rest })).slotPiece k
    t.2.pieceBack c t.1 true

/-- CONTRIB. -/
def State.zaricContrib (s : State) (p : Nat) : State :=
  s.serve p (fun k => k.opcode == 0x05) (fun k s =>
    let t := s.slotPiece k
    t.2.refusePacket k t.1)

/-- Reset one slot (12 R302). -/
def State.resetSlot (s : State) (n : Nat) : State := (s.slotFree n).setSlot n {}

end Sys2Proof.Machine
end

