-- ==== Sys2Proof/Machine/Queues.lean ====
section
/-! DEFINITION. Queues, doorbells, the fetch of descriptors, and disabling work in flight (06 R127-R144, R423; 09 R207,
R232-R234). -/

namespace Sys2Proof.Machine

/-! ### Doorbells (06 R132, R133) -/

/-- The crc and the echo of a doorbell are right for number `echo`. -/
def doorbellOk (echo : Nat) (v : BitVec 64) : Bool :=
  crc16 (leBytes 6 v.toNat) == bits v.toNat 63 48 && bits v.toNat 47 32 == echo

/-- The first check of R133 that a doorbell meets, 0 where it is taken. `part` is the partition of an engine's stream. -/
def State.doorbellCheck (s : State) (q : Nat) (v : BitVec 64) (formOk : Bool) (part : Option Nat) : Nat :=
  let k := s.queue q
  let new : BitVec 32 := v.truncate 32
  if !formOk then 1
  else match s.queueOwner q with
    | none => 2
    | some p =>
      if (part.getD p) != p then 2
      else if !k.dbEnable || !s.partOn p then 3
      else if decide (2 ^ 31 ≤ (new - k.prod).toNat) || new == k.prod then 4
      else if decide (2 ^ k.sizeLog2.toNat < (new - k.cons).toNat) then 5
      else 0

/-- Count a dropped doorbell of a queue: by its check or by its state. -/
def State.dropDoorbell (s : State) (q : Nat) (byState : Bool) : State :=
  { s with dbCheck := if byState then s.dbCheck else sat32 s.dbCheck,
           dbState := if byState then sat32 s.dbState else s.dbState, dbLast := BitVec.ofNat 12 q }

/-- Move a queue's producer index. -/
def State.ringUp (s : State) (q : Nat) (v : BitVec 64) : State := s.modQueue q (fun k => { k with prod := v.truncate 32 })

/-- A host's doorbell. -/
def State.hostDoorbell (s : State) (q : Nat) (v : BitVec 64) : State :=
  match s.doorbellCheck q v (doorbellOk q v) none with
  | 0 => s.ringUp q v
  | 3 => s.dropDoorbell q true
  | 4 => s
  | _ => s.dropDoorbell q false

/-- An engine's doorbell, with the status it is answered. -/
def State.engineDoorbell (s : State) (va : BitVec 57) (p : Nat) (v : BitVec 64) : Status × State :=
  let q := va.toNat / 4096
  match s.doorbellCheck q v (doorbellOk q v && va.toNat % 4096 == 0 && decide (q < 4096)) (some p) with
  | 0 => (.ok, s.ringUp q v)
  | 1 => (.checkFail, s)
  | 2 => (.permission, s)
  | 3 => (.permission, s)
  | 4 => (.ok, s)
  | _ => (.malformed, s)

/-- The registers of channels 62 and 63 take writes from their own core only (09 R233). -/
def ringPath (path : Path) (c : Nat) : Bool :=
  if c = 62 then path == .core 2 else if c = 63 then path == .core 0 else true

/-- HD_CH_MDB_LO: the low half waits. -/
def State.mgmtDoorbellLo (s : State) (path : Path) (c : Nat) (v : BitVec 32) : State :=
  if mgmtChan c && ringPath path c then s.modChan c (fun ch => { ch with mDbLo := some v }) else s

/-- HD_CH_MDB_HI commits a management doorbell (09 R234). (DEDUCED, log 85) -/
def State.mgmtDoorbellHi (s : State) (path : Path) (c : Nat) (v : BitVec 32) : State :=
  if !(mgmtChan c && ringPath path c) then s
  else
    let ch := s.chan c
    let drop (byState : Bool) (t : State) : State :=
      { t with dbCheck := if byState then t.dbCheck else sat32 t.dbCheck,
               dbState := if byState then sat32 t.dbState else t.dbState }
    match ch.mDbLo with
    | none => drop false s
    | some lo =>
      let s := s.setChan c { ch with mDbLo := none }
      if !doorbellOk (0x1000 + c) (v ++ lo) then drop false s
      else if ch.state == .unused || ch.state == .fenced then drop true s
      else if decide (2 ^ 31 ≤ (lo - ch.mProd).toNat) || lo == ch.mProd then s
      else if decide (2 ^ ch.mSizeLog2.toNat < (lo - ch.mCons).toNat) then drop false s
      else s.modChan c (fun ch => { ch with mProd := lo })

/-! ### The next descriptor (06 R128, R134; 09 R207) -/

/-- The queue holds work. -/
def Queue.hasWork (q : Queue) : Bool := q.prod != q.cons || q.cursor != 0

/-- Unstarted descriptors of an aborted queue are left to end (06 R142). -/
def Queue.abortLeft (q : Queue) : Bool := q.state == .aborting && (q.cons != q.abortProd || q.cursor != 0)

/-- The address of a queue's next descriptor: the cursor, or slot cons. -/
def Queue.nextDesc (q : Queue) : BitVec 64 :=
  if q.cursor ≠ 0 then q.cursor
  else BitVec.ofNat 64 (q.base.toNat + 128 * (q.cons.toNat % 2 ^ q.sizeLog2.toNat))

/-- The address of a management ring's next descriptor. -/
def Channel.nextDesc (ch : Channel) : BitVec 64 :=
  if ch.mCursor ≠ 0 then ch.mCursor
  else BitVec.ofNat 64 (ch.mBase.toNat + 128 * (ch.mCons.toNat % 2 ^ ch.mSizeLog2.toNat))

/-- A queue bound to the channel may be served. -/
def State.servable (s : State) (c : Nat) (e : Nat × Queue) : Bool :=
  e.2.channel.toNat == c && s.queueOwner e.1 == s.chanPart c
    && ((e.2.state == .enabled && e.2.hasWork && (s.chan c).state == .enabled) || e.2.abortLeft)

/-- The next queue of a channel, ascending after the one it last served. -/
def State.nextQueue (s : State) (c : Nat) : Option (Nat × Queue) :=
  let qs := s.queues.filter (s.servable c)
  match qs.find? (fun e => decide ((s.chan c).lastQ < e.1)) with
  | some e => some e
  | none => qs.head?

/-- Fetch a descriptor. -/
def State.fetchDesc (s : State) (c : Nat) (addr : BitVec 64) (q : Option Nat) (aborting : Bool) : State :=
  if badPhysical c addr then
    s.modChan c (fun ch => { ch with
      fetch := some { addr := addr, queue := q, aborting := aborting, result := some { status := .malformed, data := [], poison := [] } } })
  else
    (s.modChan c (fun ch => { ch with
      lastQ := q.getD ch.lastQ, fetch := some { addr := addr, queue := q, aborting := aborting, result := none } })).chanAccess c
      { mkAccess (.channel c) (.descFetch c) .read none 0 128 with fetch := true } addr

/-- DESCRIPTOR_BOUNDARY. (DESIGN CHOICE, log 83) -/
def State.boundary (s : State) (c : Nat) : State :=
  let ch := s.chan c
  if ch.run.isSome || ch.fetch.isSome || ch.state == .unused || ch.state == .fenced
      || (if h : c < 64 then s.modeHeld (.channel ⟨c, h⟩) else false) then s
  else if mgmtChan c then
    if ch.state = .enabled ∧ (ch.mProd ≠ ch.mCons ∨ ch.mCursor ≠ 0) then s.fetchDesc c ch.nextDesc none false
    else if ch.state = .aborting ∧ (ch.mCons ≠ ch.mAbort ∨ ch.mCursor ≠ 0) then s.fetchDesc c ch.nextDesc none true
    else s
  else match s.nextQueue c with
    | some (q, k) => s.fetchDesc c k.nextDesc (some q) (k.state == .aborting)
    | none => s

/-- A fetch has come back. -/
def State.fetchBack (s : State) (c : Nat) (res : AccResult) : State :=
  s.modChan c (fun ch => { ch with fetch := ch.fetch.map (fun f => { f with result := some res }) })

/-- A descriptor that ends without having begun, its own writes still to come. -/
def refusedRun (f : Fetch) (d : Words) (st : Status) : Running :=
  { words := d, addr := f.addr, queue := f.queue, cls := 0, phase := .drained, early := some st, quit := true, stopWrites := true }

/-- The descriptor after the checks of 09 R207: refused with its status, or checked. -/
def State.checkDesc (s : State) (c : Nat) (f : Fetch) (b : Bytes) : Running :=
  let d := wordsOf b
  let badNext := dNext d % 128 != 0
  let badFence := dFence d % 16 != 0 || badPhysical c (BitVec.ofNat 64 (dFence d))
  if !dCrcOk b then { refusedRun f d .checkFail with noFence := true, noFlags := true, listEnds := true }
  else if f.aborting then { refusedRun f d .aborted with noFence := badFence, listEnds := badNext }
  else if badNext then { refusedRun f d .malformed with noFence := badFence, listEnds := true }
  else if badFence then { refusedRun f d .malformed with noFence := true }
  else if !s.descOk d (mgmtChan c) then refusedRun f d .malformed
  else if dFlag d 4 && !s.paceOwned c d then refusedRun f d .permission
  else { words := d, addr := f.addr, queue := f.queue, cls := s.classNow c f.queue,
         phase := if dFlag d 4 then .paceWait else .checked }

/-- The work that a fetch belongs to is being stopped, and the descriptor stays untouched (06 R141). (DEDUCED, log 85) -/
def State.fetchStopped (s : State) (c : Nat) (q : Option Nat) : Bool :=
  match q with
  | some q => (s.queue q).state != .enabled && (s.queue q).state != .aborting
  | none => (s.chan c).state != .enabled && (s.chan c).state != .aborting

/-- DESCRIPTOR_FETCH_RETURN (09 R207; 06 R142). -/
def State.fetchReturn (s : State) (c : Nat) : State :=
  match (s.chan c).fetch with
  | none => s
  | some f =>
    match f.result with
    | none => s
    | some res =>
      let s := s.modChan c (fun ch => { ch with fetch := none })
      if s.fetchStopped c f.queue then s
      else
        let failed : Option Status := if res.status ≠ .ok then some res.status else if res.bad then some .poison else none
        match failed with
        | some st => (s.attach_ c f.queue (if f.aborting then .aborted else st)).endList c f.queue
        | none =>
          if f.aborting && !dCrcOk res.data then (s.attach_ c f.queue .aborted).endList c f.queue
          else s.modChan c (fun ch => { ch with run := some (s.checkDesc c f res.data) })

/-! ### Enabling (06 R129, R130; 09 R232) -/

/-- A queue's fields of other than its class and its doorbells may be written (06 R129). -/
def Queue.open_ (q : Queue) : Bool := q.state == .disabled || q.state == .refused

/-- The conditions of R130. -/
def State.queueMayRun (s : State) (q : Nat) (k : Queue) : Bool :=
  let c := k.channel.toNat
  decide (4 ≤ k.sizeLog2.toNat) && decide (k.sizeLog2.toNat ≤ 16) && decide (c < 60) && (s.chanEntry c).inUse
    && (s.chan c).state != .fenced && some (s.chanEntry c).partition == s.queueOwner q
    && (s.queueOwner q).elim false s.partOn && s.start.ready

/-- Whether a channel's descriptor or fetch belongs to a queue, or to the ring. -/
def Channel.serves (ch : Channel) (q : Option Nat) : Bool :=
  (match ch.run with
    | some r => r.queue == q
    | none => false) || (match ch.fetch with
    | some f => f.queue == q
    | none => false)

/-- The descriptor has passed its checks and has not started (09 R223). -/
def Running.notStarted (r : Running) : Bool :=
  r.unstarted && (r.phase == .checked || r.phase == .paceWait || r.phase == .headers || r.phase == .active)

/-- STOP on the work a channel has of a queue or ring: what has not started is left untouched (06 R141). (DEDUCED, log 85) -/
def State.stopWork (s : State) (c : Nat) (q : Option Nat) : State :=
  match (s.chan c).run with
  | some r =>
    if r.queue = q ∧ r.notStarted = true then
      (s.holdGive (quotaOf (s.chanPart c)) r.rowHold).modChan c (fun ch => { ch with run := none })
    else s
  | none => s

/-- ABORT on it: a WAIT or a pause ends ABORTED, and so does what has not started; a fetch goes on as that of an unstarted
descriptor (06 R142). (DEDUCED, log 85) -/
def State.abortWork (s : State) (c : Nat) (q : Option Nat) : State :=
  let s := s.modChan c (fun ch => { ch with fetch := ch.fetch.map (fun f => if f.queue = q then { f with aborting := true } else f) })
  match (s.chan c).run with
  | some r =>
    if r.queue ≠ q then s
    else if r.notStarted then
      s.modRun c (fun r => { r with phase := .drained, early := some .aborted, quit := true, stopWrites := true, outQ := [] })
    else if r.phase = .waiting ∨ r.paused = true then s.endEarly c .aborted
    else s
  | none => s

/-- STOP on a queue. -/
def State.queueStop (s : State) (q : Nat) : State :=
  let k := s.queue q
  if (s.queueOwner q).isSome && k.state == .enabled then
    (s.setQueue q { k with state := .stopping, enable := false }).stopWork k.channel.toNat (some q)
  else s

/-- ABORT on a queue. -/
def State.queueAbort (s : State) (q : Nat) : State :=
  let k := s.queue q
  if (s.queueOwner q).isSome && (k.state == .enabled || k.state == .stopping) then
    (s.setQueue q { k with state := .aborting, enable := false, abortProd := k.prod }).abortWork k.channel.toNat (some q)
  else s

/-- A write of HD_Q_CFG: the class and the doorbells at any time, the binding and the size while the queue is DISABLED or
REFUSED, then enable (06 R129, R130). -/
def State.queueCfg (s : State) (q : Nat) (v : BitVec 32) : State :=
  if (s.queueOwner q).isNone then s
  else
    let k := s.queue q
    let n := v.toNat
    let k1 := { k with dbEnable := bit n 27, priority := BitVec.ofNat 2 (bits n 25 24) }
    let k2 := if k.open_ then
        { k1 with channel := BitVec.ofNat 8 (bits n 23 16), sizeLog2 := BitVec.ofNat 8 (bits n 7 0) } else k1
    let s := s.setQueue q k2
    if bit n 26 then
      if k.open_ then
        if s.queueMayRun q k2 then s.setQueue q { k2 with enable := true, state := .enabled }
        else s.setQueue q { k2 with enable := false, state := .refused }
      else s
    else if k.state = .enabled then s.queueStop q else s

/-- The queues bound to a channel. -/
def State.boundQueues (s : State) (c : Nat) : List Nat :=
  (s.queues.filter (fun e => e.2.channel.toNat == c && s.queueOwner e.1 == s.chanPart c)).map (·.1)

/-- The channel takes writes of its control register: in use, not fenced, and from its own core where it has one. -/
def State.chanWritable (s : State) (path : Path) (c : Nat) : Bool :=
  (s.chan c).state != .unused && (s.chan c).state != .fenced && ringPath path c

/-- STOP on a channel (09 R232). -/
def State.chanStop (s : State) (c : Nat) : State :=
  if (s.chan c).state ≠ .enabled then s
  else
    let s := s.modChan c (fun ch => { ch with state := .stopping, enable := false })
    if mgmtChan c then s.stopWork c none else eachOf (fun q t => t.queueStop q) (s.boundQueues c) s

/-- ABORT on a channel. -/
def State.chanAbort (s : State) (c : Nat) : State :=
  if (s.chan c).state ≠ .enabled ∧ (s.chan c).state ≠ .stopping then s
  else
    let s := s.modChan c (fun ch => { ch with state := .aborting, enable := false, mAbort := ch.mProd })
    if mgmtChan c then s.abortWork c none else eachOf (fun q t => t.queueAbort q) (s.boundQueues c) s

/-- Enable a DISABLED channel. -/
def State.chanEnable (s : State) (c : Nat) : State :=
  let ch := s.chan c
  if ch.state = .disabled ∧ (mgmtChan c = false ∨ (4 ≤ ch.mSizeLog2.toNat ∧ ch.mSizeLog2.toNat ≤ 16)) then
    s.setChan c { ch with state := .enabled, enable := true }
  else s

/-! ### Partitions (06 R127) -/

/-- The channels of a partition. -/
def State.partChans (s : State) (p : Nat) : List Nat := (List.range 60).filter (fun c => (s.chanEntry c).inUse && (s.chanEntry c).partition == p)

/-- The queues of a partition that have an entry other than the reset one. -/
def State.partQueues (s : State) (p : Nat) : List Nat := (s.queues.filter (fun e => s.queueOwner e.1 == some p)).map (·.1)

/-- Enable a partition: one whose tear mode is BURST only with the feature (05 R116). -/
def State.partEnable (s : State) (p : Nat) : State :=
  if s.part p = .disabled ∧ (s.burstTear p = false ∨ s.feature 7 = true) then s.setPart p .enabled else s

/-- The partition of an engine request's stream. -/
def State.reqPart (s : State) (r : EngReq) : Nat := s.streamPart r.rq.stream.toNat

/-- An allocation or a free goes on without the engine request that asked it (06 R143). -/
def AllocJob.orphan (port : Nat) (tag : BitVec 8) (j : AllocJob) : AllocJob :=
  if j.asker = .engine port tag then { j with asker := .gone } else j

/-- End an engine request with a status before its work is done: its accesses that were not issued are dropped, a faulted one leaves its
stall entry empty (06 R143; 08 R193), its allocation or free goes on without it, and its response is sent. -/
def State.cutReq (s : State) (st : Status) (r : EngReq) : State :=
  let own (a : Access) : Bool := match a.purpose with
    | .engine p t _ => p == r.port && t == r.rq.tag.toNat
    | .xlate p t => p == r.port && t == r.rq.tag.toNat
    | .freeRecord who _ => who == .engine r.port r.rq.tag
    | _ => false
  let waits (a : Access) : Bool := a.stage == .translating || a.stage == .faulted || a.stage == .held || a.stage == .peerReady
  State.engDone { s with
    alloc := { s.alloc with jobs := s.alloc.jobs.map (AllocJob.orphan r.port r.rq.tag) },
    accesses := (s.accesses.filter (fun a => !(own a && waits a))).map (fun a => if own a then { a with purpose := .none } else a) }
    r st 0 0

/-- End an engine request ABORTED (06 R143). -/
def State.abortReq (s : State) (r : EngReq) : State := s.cutReq .aborted r

/-- STOP on a partition: requests already outstanding run to their own ends. -/
def State.partStop (s : State) (p : Nat) : State :=
  if s.part p ≠ .enabled then s
  else
    let s := s.setPart p .stopping
    eachOf (fun c t => t.chanStop c) (s.partChans p) (eachOf (fun q t => t.queueStop q) (s.partQueues p) s)

/-- ABORT on a partition. -/
def State.partAbort (s : State) (p : Nat) : State :=
  if s.part p ≠ .enabled ∧ s.part p ≠ .stopping then s
  else
    let s := s.setPart p .aborting
    let s := eachOf (fun c t => t.chanAbort c) (s.partChans p) (eachOf (fun q t => t.queueAbort q) (s.partQueues p) s)
    eachOf (fun r t => t.abortReq r) (s.engReqs.filter (fun r => s.reqPart r == p)) s

/-! ### Completion of a disable (06 R144) -/

/-- A queue that is STOPPING or ABORTING reads DISABLED once nothing of it runs and nothing is left to end. -/
def State.queueSettle (q : Nat) (s : State) : State :=
  let k := s.queue q
  let busy := (s.chan k.channel.toNat).serves (some q)
  if (k.state == .stopping || (k.state == .aborting && !k.abortLeft)) && !busy then
    s.setQueue q { k with state := .disabled, enable := false }
  else s

/-- A channel likewise, after its queues. -/
def State.chanSettle (c : Nat) (s : State) : State :=
  let s := eachOf State.queueSettle (s.boundQueues c) s
  let ch := s.chan c
  let idle := ch.run.isNone && ch.fetch.isNone && (s.boundQueues c).all (fun q => (s.queue q).state != .stopping && (s.queue q).state != .aborting)
    && (!mgmtChan c || ch.state != .aborting || (ch.mCons == ch.mAbort && ch.mCursor == 0))
  if (ch.state == .stopping || ch.state == .aborting) && idle then
    s.setChan c { ch with state := .disabled, enable := false }
  else s

/-- A partition likewise, after its queues and channels: no engine request of its streams is outstanding and no slot of it is
OPEN or WRITING. -/
def State.partSettle (p : Nat) (s : State) : State :=
  let s := eachOf State.chanSettle (s.partChans p) (eachOf State.queueSettle (s.partQueues p) s)
  let quiet := (s.partQueues p).all (fun q => (s.queue q).open_)
    && (s.partChans p).all (fun c => (s.chan c).run.isNone && (s.chan c).fetch.isNone && (s.chan c).state != .stopping
      && (s.chan c).state != .aborting)
    && !s.engReqs.any (fun r => s.reqPart r == p)
    && !s.cmb.slots.any (fun e => s.slotOwner e.1 == some p && (e.2.state == .open_ || e.2.state == .writing))
  if (s.part p == .stopping || s.part p == .aborting) && quiet then s.setPart p .disabled else s

end Sys2Proof.Machine
end

