-- ==== Sys2Proof/Machine/Engine.lean ====
section
/-! DEFINITION. Engine ports (02 R39-R41; 06 R143; 13 R323-R325; 14 R347): taking a request, its write beats, starting it, its
parts, and its end. -/

namespace Sys2Proof.Machine

/-- The instance lies in a scope held by this instance (04 R82). -/
def State.scopeHas (s : State) (scope inst : Nat) : Bool :=
  match scope with
  | 0 => false
  | 1 => inst == s.ownId
  | 2 => inst / 8 == s.ownId / 8
  | 3 => inst / 512 == s.ownId / 512
  | _ => true

/-- The request is of an earlier order, the same port and the same stream. -/
def EngReq.before (e r : EngReq) : Bool := e.port == r.port && e.rq.stream == r.rq.stream && decide (e.order < r.order)

/-- The request is an acquire of more than its own engine's scope (13 R324, R325). -/
def EngReq.acquires (r : EngReq) : Bool := (r.rq.sem.getLsbD 0 || r.op == .tideWait) && r.rq.scope != 0

/-- The request reads or writes memory at a translated address. -/
def EngReq.hasTarget (r : EngReq) : Bool := r.op == .read || r.op == .write || r.op == .atomic

/-- An earlier request holds back a release: its target is not known to lie outside the scope (13 R323). -/
def State.holdsRelease (s : State) (scope : Nat) (e : EngReq) : Bool :=
  e.hasTarget && (!e.started || s.accesses.any (fun a => (match a.purpose with
    | .engine port tag _ => port == e.port && tag == e.rq.tag.toNat
    | _ => false) && (!a.placed || s.scopeHas scope (instOf a.pa))))

/-- Two requests may touch one 64-byte line: lines are judged by physical address (13 R315), which no request not yet performed has, and
translation keeps the bits below 2 MiB (07 R158), which a request may pass (07 R159). -/
def EngReq.mayMeet (e r : EngReq) : Bool :=
  let off (x : EngReq) : Nat := x.rq.va.toNat % 2 ^ 21
  let meet (a b : Nat) : Bool :=
    overlaps (off e / 64 + a) (lineCount (off e) e.rq.len.toNat) (off r / 64 + b) (lineCount (off r) r.rq.len.toNat)
  meet 0 0 || meet (2 ^ 15) 0 || meet 0 (2 ^ 15)

/-- An earlier request of the stream that is not performed yet may touch a line of this one, which takes effect after it (13 R315). -/
def EngReq.precedes (e r : EngReq) : Bool := e.hasTarget && r.hasTarget && !e.started && e.mayMeet r

/-- An earlier acquire, this request's release, or an earlier request to one of its lines holds it back. A release at ENGINE scope waits for
nothing beyond R315 (13 R323). -/
def State.engHeld (s : State) (r : EngReq) : Bool :=
  let es := s.engReqs.filter (fun e => e.before r)
  es.any (fun e => e.acquires) || (r.rq.sem.getLsbD 1 && r.rq.scope != 0 && es.any (s.holdsRelease r.rq.scope.toNat))
    || es.any (fun e => e.precedes r)

/-- Where a request is cut for translation: offset and length of its parts in 2 MiB of the VA space (07 R159). -/
def engCut (va len : Nat) : List (Nat × Nat) :=
  let n := min len (2 ^ 21 - va % 2 ^ 21)
  if n = len then [(0, len)] else [(0, n), (n, len - n)]

/-- The agent of a request. -/
def EngReq.agent (r : EngReq) : Agent := .engine r.port r.rq.stream.toNat

/-- Change a request. -/
def State.modEng (s : State) (r : EngReq) (f : EngReq → EngReq) : State :=
  { s with engReqs := s.engReqs.map (fun x => if x.port = r.port ∧ x.rq.tag = r.rq.tag then f x else x) }

/-- The poison marks of the lines that `n` bytes of a WRITE from offset `o` go to: those with a byte of a bad piece of its beats. -/
def EngReq.marks (r : EngReq) (o n : Nat) : List Bool :=
  if r.bad.isEmpty then []
  else
    let first := (r.rq.va.toNat + o) % 64
    (List.range ((first + n + 63) / 64)).map (fun l => (List.range n).any (fun k => (first + k) / 64 == l && r.bad.contains ((o + k) / 64)))

/-- Start the accesses of a READ, a WRITE or an ATOMIC, each named by its offset, with 256 bytes of the partition's hold quota for each
aligned 256-byte window. (DEDUCED, log 68) -/
def State.engAccess (s : State) (r : EngReq) (kind : AccKind) (op : Option AtomicOp) : State :=
  let va := r.rq.va.toNat
  let parts := engCut va r.rq.len.toNat
  if !s.holdFree (quotaOf (some r.part)) r.holdBytes then s
  else
    let s := s.holdTake (quotaOf (some r.part)) r.holdBytes
    let s := s.modEng r (fun x => { x with started := true, parts := parts.map (fun x => (x.1, none)) })
    eachOf (fun (x : Nat × Nat) (t : State) =>
      let a := mkAccess r.agent (.engine r.port r.rq.tag.toNat x.1) kind (some r.part) 0 x.2
      t.launchVa { a with
        data := if kind = .write then cut r.beats x.1 x.2 else [],
        be := if kind = .write then (r.enables.drop x.1).take x.2 else [],
        poison := if kind = .write then r.marks x.1 x.2 else [], op := op, sem := r.rq.sem, scope := r.rq.scope } (BitVec.ofNat 64 (va + x.1)))
      parts s

/-- The beat of an ATOMIC breaks its layout (14 R347). -/
def atomicBeatOk (r : EngReq) : Bool :=
  let b := r.beats
  let size := byteAt b 17
  atomicOk (byteAt b 16) size && r.rq.len.toNat == size && r.rq.va.toNat % size == 0 && allZero (b.drop 18)
    && (byteAt b 16 == 0x0A || fld b 8 8 == 0)

/-- The beat of an ALLOC or a FREE keeps its layout (02 R41). -/
def allocBeatOk (r : EngReq) : Bool :=
  let b := r.beats
  if r.op = .alloc then
    decide (1 ≤ fld b 0 8) && decide (fld b 0 8 ≤ 2 ^ 41) && byteAt b 8 >>> 3 == 0 && allZero (b.drop 9)
  else decide (fld b 0 8 < 2 ^ 57) && allZero (b.drop 8)

/-- The slice link a request cannot cross (01 R15; 02 R46, R58): what an engine port asks of the hold crosses SL-B, a doorbell, which the
shore slice checks, SL-A too. A TRANSLATE stays in the engine slice. -/
def State.engWay (s : State) (op : EngineOp) : Option Status :=
  match op with
  | .translate => none
  | .doorbell => (s.linkFault .slB).or (s.linkFault .slA)
  | _ => s.linkFault .slB

/-- Perform a request whose beats are there and that nothing holds back; a slice link out of service ends it. -/
def State.engStart (s : State) (r : EngReq) : State :=
  let b := r.beats
  match s.engWay r.op with
  | some st => s.engDone r st 0 0
  | none => match r.op with
  | .translate =>
    (s.modEng r (fun x => { x with started := true })).launchVa
      (mkAccess r.agent (.xlate r.port r.rq.tag.toNat) .read (some r.part) 0 1) (r.rq.va.setWidth 64)
  | .read => s.engAccess r .read none
  | .write => s.engAccess r .write none
  | .atomic =>
    if !atomicBeatOk r then s.engDone r .malformed 0 0
    else s.engAccess r .atomic (some
      { subop := BitVec.ofNat 8 (byteAt b 16), size := byteAt b 17,
        operand := BitVec.ofNat 64 (fld b 0 8), swap := BitVec.ofNat 64 (fld b 8 8) })
  | .doorbell =>
    let t := s.engineDoorbell r.rq.va r.part (BitVec.ofNat 64 (fld b 0 8))
    t.2.engDone r t.1 0 0
  | .tideWait =>
    let n := fld b 0 2
    if !s.tideInRange n (some r.part) then s.engDone r .permission 0 0
    else if s.tideReached n (BitVec.ofNat 64 (fld b 8 8)) then s.engDone r .ok 0 0
    else s.modEng r (fun x => { x with started := true, waiting := true })
  | .alloc =>
    if !allocBeatOk r then s.engDone r .malformed 0 0
    else (s.modEng r (fun x => { x with started := true })).allocNew (.engine r.port r.rq.tag) r.part (fld b 0 8)
      (BitVec.ofNat 8 (byteAt b 8))
  | .free =>
    if !allocBeatOk r then s.engDone r .malformed 0 0
    else
      (s.modEng r (fun x => { x with started := true })).launchVa
        (recordRead r.agent (.engine r.port r.rq.tag) 1 (some r.part) (fld b 0 8)) (BitVec.ofNat 64 (fld b 0 8))

/-- Start a request if it may start: its beats are there, nothing holds it back, its port does not hold its work for a mode
change. -/
def State.engTry (r : EngReq) (s : State) : State :=
  match s.engReq r.port r.rq.tag with
  | some r =>
    if r.started || decide (r.nBeats < beatsNeeded r.op r.rq.len.toNat) || s.engHeld r || s.warmReset
        || s.portHeld r then s
    else s.engStart r
  | none => s

/-- Start every request that may start, in order of acceptance. -/
def State.enginePump (s : State) : State := eachOf State.engTry s.engReqs s

/-! ### Taking a request and its beats -/

/-- Put a beat into a request. -/
def EngReq.addBeat (r : EngReq) (b : EarlyBeat) : EngReq :=
  { r with beats := r.beats ++ padTo b.data 128, enables := r.enables ++ bitList 128 b.be.toNat, nBeats := r.nBeats + 1 }

/-- The beats of a tag that came early go to its request, as many as it needs. (DEDUCED, log 88) -/
def State.takeEarly (s : State) (r : EngReq) : State :=
  let own (b : EarlyBeat) : Bool := b.port == r.port && b.tag == r.rq.tag
  let l := (s.beats.filter own).take (beatsNeeded r.op r.rq.len.toNat)
  let rest := (s.beats.filter own).drop l.length
  State.modEng { s with beats := s.beats.filter (fun b => !own b) ++ rest } r (fun x => l.foldl EngReq.addBeat x)

/-- The engine slice takes engine requests: from READY, while no reset holds it (02 R57, 06 R143). -/
def State.engineReady (s : State) : Bool := (s.clock .en).porN && s.start.ready && !s.warmReset

/-- A request is checked as it is taken (02 R40, R41), and outstanding from then on. (DEDUCED, log 88) -/
def State.engAccept (s : State) (port : Nat) (op : EngineOp) (rq : EngineReq) : State :=
  if !s.engineReady || (s.engReq port rq.tag).isSome then s
  else
    let part := s.streamPart rq.stream.toNat
    let r : EngReq := { port := port, op := op, rq := rq, part := part, order := s.nextOrder, beats := [], enables := [], nBeats := 0,
                        started := false, parts := [], waiting := false }
    let s := State.takeEarly { s with nextOrder := s.nextOrder + 1, engReqs := s.engReqs ++ [r] } r
    let r := (s.engReq port rq.tag).getD r
    let isAlloc := op == .alloc || op == .free
    if !s.portOn port then s.engDone r .aborted 0 0
    else if rq.len = 0 ∨ 256 < rq.len.toNat ∨ 4 < rq.scope.toNat ∨ (isAlloc = true ∧ s.feature 8 = false) then
      s.engDone r .malformed 0 0
    else if !s.streamUse rq.stream.toNat then s.engDone r .permission 0 0
    else if !s.partOn part then s.engDone r .aborted 0 0
    else if isAlloc = true ∧ (rq.va ≠ 0 ∨ rq.len.toNat ≠ (if op = .alloc then 16 else 8)) then s.engDone r .malformed 0 0
    else s.enginePump

/-- A request with an operation outside the table. -/
def State.engUnknown (s : State) (port : Nat) (op : BitVec 4) (rq : EngineReq) : State :=
  if !s.engineReady || (decide (1 ≤ op.toNat) && decide (op.toNat ≤ 8)) || (s.engReq port rq.tag).isSome then s
  else s.drive (.engineRsp port rq.tag (if s.portOn port then .malformed else .aborted) 0 0)

/-- Count down the beats owed to requests that have ended; none if the beat belongs to no such request. (DEDUCED, log 88) -/
def takeOwed (port : Nat) (tag : BitVec 8) : List (Nat × BitVec 8 × Nat) → Option (List (Nat × BitVec 8 × Nat))
  | [] => none
  | (p, t, n) :: rest =>
    if p = port ∧ t = tag then some (if n ≤ 1 then rest else (p, t, n - 1) :: rest)
    else (takeOwed port tag rest).map ((p, t, n) :: ·)

/-- A write beat is taken for its tag. (DEDUCED, log 88) -/
def State.engBeat (s : State) (b : EarlyBeat) : State :=
  if !s.engineReady then s
  else match takeOwed b.port b.tag s.owedBeats with
    | some l => { s with owedBeats := l }
    | none =>
      match s.engReq b.port b.tag with
      | some r =>
        if r.nBeats < beatsNeeded r.op r.rq.len.toNat then (s.modEng r (fun x => x.addBeat b)).enginePump
        else { s with beats := s.beats ++ [b] }
      | none => { s with beats := s.beats ++ [b] }

/-! ### Ends -/

/-- The data of one part of a READ: each byte with the poison of its line. -/
def partMarks (va : Nat) (res : AccResult) : MarkedBytes :=
  ((List.range res.data.length).zip res.data).map (fun x => (x.2, res.poison.getD ((va % 64 + x.1) / 64) false))

/-- One read beat. The data of a poisoned beat carry no meaning. -/
def State.readBeat (r : EngReq) (all : MarkedBytes) (i : Nat) (s : State) : State :=
  let b := (all.drop (128 * i)).take 128
  let bad := b.any (·.2)
  let data := if bad then (List.range b.length).map (fun k => Config.poisonByte (BitVec.ofNat 64 (r.rq.va.toNat + 128 * i + k)))
    else b.map (·.1)
  s.drive (.engineBeat r.port r.rq.tag data (decide (all.length ≤ 128 * (i + 1))) bad)

/-- What the first part, in address order, that did not end OK ended with; a part of a READ with a poisoned line ends POISON
(07 R159; 02 R40). -/
def EngReq.firstBad (r : EngReq) (rs : List AccResult) : Option Status :=
  rs.findSome? (fun x => if x.status ≠ .ok then some x.status
    else if r.op = .read ∧ x.poison.any (· == true) = true then some .poison else none)

/-- Every part has ended: the beats, then the response (02 R39, R40); no beat where a part brought none. (DEDUCED, log 68) -/
def State.engFinish (s : State) (r : EngReq) (rs : List AccResult) : State :=
  if rs.any (fun x => x.status != .ok) then s.engDone r ((r.firstBad rs).getD .ok) 0 0
  else
    match r.op with
    | .read =>
      let all := (((r.parts.map (·.1)).zip rs).map (fun x => partMarks (r.rq.va.toNat + x.1) x.2)).flatten
      let s := eachOf (State.readBeat r all) (List.range ((all.length + 127) / 128)) s
      s.engDone r (if all.any (·.2) then .poison else .ok) 0 0
    | .atomic =>
      let d := ((rs.head?.map (·.data)).getD []).take 9
      (s.drive (.engineBeat r.port r.rq.tag (padTo d 128) true false)).engDone r .ok 0 0
    | _ => s.engDone r .ok 0 0

/-- A part of a request has ended. -/
def State.engBack (s : State) (port tag part : Nat) (res : AccResult) : State :=
  match s.engReq port (BitVec.ofNat 8 tag) with
  | none => s
  | some r =>
    let ps := r.parts.map (fun x => if x.1 = part then (x.1, some res) else x)
    let s := s.modEng r (fun x => { x with parts := ps })
    if ps.all (fun x => x.2.isSome) then (s.engFinish { r with parts := ps } (ps.filterMap (·.2))).enginePump else s

/-- A TRANSLATE has ended. -/
def State.xlateBack (s : State) (port tag : Nat) (res : AccResult) : State :=
  (if res.status = .ok then
    s.engEnd port (BitVec.ofNat 8 tag) .ok (BitVec.ofNat 60 (fld res.data 0 8)) (BitVec.ofNat 8 (byteAt res.data 8))
  else s.engEnd port (BitVec.ofNat 8 tag) res.status 0 0).enginePump

/-- A TIDE_WAIT's counter has reached its tidemark (13 R319). -/
def State.engTide (s : State) (port : Nat) (tag : BitVec 8) : State :=
  match s.engReq port tag with
  | some r =>
    if r.waiting && s.tideReached (fld r.beats 0 2) (BitVec.ofNat 64 (fld r.beats 8 8)) then (s.engDone r .ok 0 0).enginePump else s
  | none => s

/-- wait_limit has passed for a TIDE_WAIT. -/
def State.engExpire (s : State) (port : Nat) (tag : BitVec 8) : State :=
  match s.engReq port tag with
  | some r => if r.waiting && s.theChart.limits.waitLimit != 0 then (s.engDone r .timeout 0 0).enginePump else s
  | none => s

/-- TIDEMARK_REACHED. -/
def State.tidemark (s : State) (w : Waiter) : State :=
  match w with
  | .channel c => s.waitReached c.val
  | .engine e tag => s.engTide e.val tag

/-- WAIT_LIMIT_EXPIRY: of a wait on a tidemark, or on journal room (06 R148). -/
def State.waitLimit (s : State) (w : Waiter) : State :=
  match w with
  | .channel c => (s.waitExpired c.val).roomExpired (.channel c.val)
  | .engine e tag => (s.engExpire e.val tag).roomExpired (.engine e.val tag)

/-- enable of an engine port is written 1: taken where the chart enables the port and it is not fenced off (06 R143). -/
def State.portEnableOn (s : State) (e : Nat) : State :=
  if s.theChart.ports.engineEnable.getLsbD e && !s.fenced.engine.getLsbD e then s.setPortOn e true else s

/-- enable is written 0: every outstanding request of the port ends ABORTED. -/
def State.portEnableOff (s : State) (e : Nat) : State :=
  if s.theChart.ports.engineEnable.getLsbD e && !s.fenced.engine.getLsbD e then
    eachOf (fun r t => t.abortReq r) (s.engReqs.filter (fun r => r.port == e)) (s.setPortOn e false)
  else s

end Sys2Proof.Machine
end

