-- ==== Sys2Proof/Machine/Mgmt.lean ====
section
/-! DEFINITION. Managers and fan-out (04 R95; 11 R284-R286): CHART_FORWARD and IMAGE_FORWARD, the MGMT packets sent and served, and
the reports that come back. -/

namespace Sys2Proof.Machine

/-! ### Trees (04, HIERARCHY) -/

/-- Children of a level: 0 PACKAGE, 1 POD, 2 SYSTEM. -/
def State.children (s : State) (k : Nat) : List (BitVec 12) :=
  ((s.theChart.hier.levels[k]?).elim [] (·.children)).map (fun c => c.truncate 12)

/-- The level at which an instance is a child. -/
def State.childLevel (s : State) (c : BitVec 12) : Option Nat := [0, 1, 2].find? (fun k => (s.children k).contains c)

/-- The child towards an instance below this one. Package and pod of an ID are its upper bits (01 R18). The PACKAGE and SYSTEM trees have
depth 1 and the POD tree at most 2 (11, Managers and fan-out): only a pod's manager may have a package below it that lies under a child
which its chart does not tell. (DESIGN CHOICE, log 23) -/
def State.childFor (s : State) (t : BitVec 12) : Option (BitVec 12) :=
  if (s.childLevel t).isSome then some t
  else match (s.children 2).find? (fun c => c.toNat / 512 == t.toNat / 512) with
    | some c => some c
    | none => match (s.children 1).find? (fun c => c.toNat / 8 == t.toNat / 8) with
      | some c => some c
      | none =>
        let c := Config.podChild (BitVec.ofNat 12 s.ownId) t
        if s.theChart.hier.podManager.toNat = s.ownId ∧ t.toNat / 512 = s.ownId / 512 ∧ t.toNat / 8 ≠ s.ownId / 8
            ∧ (s.children 1).contains c = true then some c else none

/-- The parent, if this instance has one. -/
def State.parent (s : State) : Option (BitVec 12) :=
  (s.theChart.hier.levels.find? (fun l => l.parent != 0xFFFF)).map (fun l => l.parent.truncate 12)

/-! ### Registers that STATUS reports -/

/-- SH_START_STATUS (17). -/
def State.startWord (s : State) : BitVec 32 :=
  let t := s.start
  BitVec.ofNat 32 (t.step + 2 ^ 12 * b2n t.warm + t.failure.toNat * 2 ^ 16 + 2 ^ 29 * b2n t.stopped + 2 ^ 30 * b2n t.waiting
    + 2 ^ 31 * b2n t.ready)

/-- The code of a chart state. -/
def chartStateCode : ChartState → Nat
  | .empty => 0
  | .loading => 1
  | .checking => 2
  | .accepted => 3
  | .seed => 4
  | .rejected => 5

/-- What STATUS tells: parents, chart state and code, SH_START_STATUS, load results, and the kind of an unasked report.
(DEDUCED, log 60) -/
def State.statusBytes (s : State) (kind : Nat) : Bytes :=
  ((List.range 3).map (fun k => leBytes 2 ((s.theChart.hier.levels[k]?).elim 0xFFFF (·.parent.toNat)))).flatten
    ++ [BitVec.ofNat 8 (chartStateCode s.chart.state), s.chart.code] ++ leBytes 4 s.startWord.toNat
    ++ (List.range 7).map (fun c => BitVec.ofNat 8 (statusCode (s.core c).result)) ++ [BitVec.ofNat 8 kind]

/-- CHILD_STATUS. -/
def State.childEvent (s : State) (inst kind : Nat) (st : Status) (code : Nat) (results : Bytes) (start : Nat) : State :=
  s.pushUnsolicited {
    opcode := 0x8020, length := 16,
    payload := padTo (leBytes 2 inst ++ [BitVec.ofNat 8 kind, BitVec.ofNat 8 (statusCode st), BitVec.ofNat 8 code] ++ padTo results 7
      ++ leBytes 4 start) 52 }

/-! ### Sending (11 R285, R286) -/

/-- A MGMT packet for a target, to a neighbour. -/
def State.mgmtPacket (s : State) (dst target : BitVec 12) (subop addr : Nat) (payload : Bytes) : Packet :=
  { s.mkPacket .req 0x08 dst.toNat with
    subop := BitVec.ofNat 8 subop, addr := BitVec.ofNat 48 addr, aux := target.zeroExtend 32, payload := payload,
    length := BitVec.ofNat 9 payload.length }

/-- Send a MGMT packet and wait for its MGMT_ACK. -/
def State.mgmtSend (s : State) (k : Packet) : State :=
  let (tag, s) := s.takeTag
  let k := { k with tag := tag }
  State.sendPacket { s with relay := { s.relay with waits := s.relay.waits ++ [{ tag := tag, pkt := k, tries := 0 }] } } k

/-- Report upward: the instance, its status bytes. -/
def State.reportUp (s : State) (inst : BitVec 12) (b : Bytes) : State :=
  match s.parent with
  | some p => s.mgmtSend (s.mgmtPacket p inst 6 0 b)
  | none => s

/-- Send STATUS upward unasked: 1 chart checked, 2 image load ended, 3 start ready or stopped. (DEDUCED, log 72) -/
def State.statusUp (s : State) (kind : Nat) : State := s.reportUp (BitVec.ofNat 12 s.ownId) (s.statusBytes kind)

/-- Pieces of 256 bytes. -/
def pieces256 (n : Nat) : Nat := (n + 255) / 256

/-- The packet of a relay's next step: BEGIN, DATA, COMMIT; or DATA, LOAD. -/
def State.relayPacket (s : State) (r : Relay) : Option Packet :=
  let n := pieces256 r.data.length
  let p (subop addr : Nat) (b : Bytes) : Option Packet := some (s.mgmtPacket r.child r.target subop addr b)
  if r.isChart then
    if r.next = 0 then p 1 0 []
    else if r.next ≤ n then p 2 (r.next - 1) (cut r.data (256 * (r.next - 1)) 256)
    else if r.next = n + 1 then p 3 0 []
    else none
  else if r.next < n then p 4 r.next (cut r.data (256 * r.next) 256)
  else if r.next = n then p 5 0 (leBytes 8 r.place.toNat ++ leBytes 1 r.cores.toNat ++ zeros 7)
  else none

/-- A packet to a child awaits its answer. (DEDUCED, log 60) -/
def State.childWait (s : State) (c : BitVec 12) : Bool := s.relay.waits.any (fun w => w.pkt.dst == c)

/-- The next packet to a child, if none to it awaits an answer: STATUS before anything else, then the oldest relay's next step. -/
def State.relayGo (s : State) (c : BitVec 12) : State :=
  if s.childWait c then s
  else match s.relay.relays.find? (fun r => r.child == c) with
    | none => s
    | some r =>
      if !s.relay.asked.contains c then s.mgmtSend (s.mgmtPacket c c 6 0 [])
      else match s.relayPacket r with
        | some k => s.mgmtSend k
        | none => s

/-- The kind of a relay's report. -/
def Relay.kind (r : Relay) : Nat := if r.isChart then 1 else 2

/-- A relay's target is reported with a status of its child's (11 R284). -/
def State.relayFailed (st : Status) (code : Nat) (r : Relay) (s : State) : State := s.childEvent r.target.toNat r.kind st code [] 0

/-- A relay is over: its staged bytes leave mgmt_reserve (11 R285). (DEDUCED, log 68) -/
def State.relayOver (r : Relay) (s : State) : State := if r.held = 0 then s else s.holdGive 16 r.held

/-- A relay begins, unless the child named another parent: its target is then reported with HIERARCHY (04 R95). -/
def State.relayStart (s : State) (r : Relay) : State :=
  if s.relay.badKids.contains r.child then State.relayFailed (chartStatus 0x0F) 0x0F r (s.relayOver r)
  else State.relayGo { s with relay := { s.relay with relays := s.relay.relays ++ [r] } } r.child

/-! ### CHART_FORWARD and IMAGE_FORWARD (11 R284) -/

/-- A chart for this instance itself goes through its own staging. (DEDUCED, log 61) -/
def State.chartOwn (s : State) (b : Bytes) : State :=
  if s.chartMayBegin then
    let s := s.chartBegin 2
    { s with chart := { s.chart with staged := b, state := .checking } }
  else s.childEvent s.ownId 1 .permission 0 ((List.range 7).map (fun c => BitVec.ofNat 8 (statusCode (s.core c).result))) s.startWord.toNat

/-- An image's bytes are written where the load will find them. -/
def State.imagePlace (s : State) (place : Nat) (b : Bytes) : State :=
  eachOf (fun (x : Nat × Bytes) (t : State) => t.launch (mkWrite .block .image none (t.localPa x.1) x.2))
    (cutAll (b.length + 1) [.data place b]) s

/-- A load from a manager: at step 11 only. -/
def State.managerLoad (s : State) (place : Nat) (cores : BitVec 7) (b : Bytes) : State :=
  State.fwLoadGo { s.imagePlace place b with fw := { s.fw with addr := BitVec.ofNat 48 (place / 64 * 64) } } cores

/-- The instance a chart's header names. -/
def chartTarget (b : Bytes) : Nat := fld b 0x12 2 % 4096

/-- CHART_FORWARD. (DEDUCED, log 61) -/
def State.chartForward (s : State) (e : CmdEntry) (chart : ReadResult) : State :=
  s.ringCmd e 0x20 16 (fun s =>
    let t := cmdFld e 8 2
    let len := cmdFld e 0x0C 4
    let addr := cmdFld e 0x10 8
    if cmdFld e 0x0A 2 ≠ 0 ∨ len < 64 ∨ 65536 < len ∨ addr % 8 ≠ 0 ∨ 2 ^ 48 ≤ addr then s.respond e.seq .malformed
    else if t ≠ s.ownId ∧ (4096 ≤ t ∨ (s.childFor (BitVec.ofNat 12 t)).isNone = true) then s.respond e.seq .permission
    else match readStatus chart with
      | .inl st => s.respond e.seq st
      | .inr b =>
        let b := b.take len
        if chartTarget b ≠ t then s.respond e.seq .permission
        else
          let s := s.respond e.seq .ok
          if t = s.ownId then s.chartOwn b
          else match s.childFor (BitVec.ofNat 12 t) with
            | some c => s.relayStart {
                isChart := true, target := BitVec.ofNat 12 t, child := c, data := b, place := 0, cores := 0, next := 0 }
            | none => s)

/-- Instances below this one that a route leads to. (DESIGN CHOICE, log 23) -/
def State.allBelow (s : State) : List (BitVec 12) :=
  ((List.range 4096).map (BitVec.ofNat 12)).filter (fun t => t.toNat != s.ownId && (s.childFor t).isSome && s.routeMask t.toNat != 0)

/-- An image for one target. -/
def State.imageTo (b : Bytes) (place : Nat) (cores : BitVec 7) (t : BitVec 12) (s : State) : State :=
  if t.toNat = s.ownId then
    if s.startAt 11 && !s.fw.busy then s.managerLoad place cores b
    else s.childEvent s.ownId 2 .permission 0 ((List.range 7).map (fun c => BitVec.ofNat 8 (statusCode (s.core c).result))) s.startWord.toNat
  else match s.childFor t with
    | some c => s.relayStart {
        isChart := false, target := t, child := c, data := b, place := BitVec.ofNat 48 place, cores := cores, next := 0 }
    | none => s

/-- IMAGE_FORWARD. (DESIGN CHOICE, log 23; DEDUCED, log 61) -/
def State.imageForward (s : State) (e : CmdEntry) (image : ReadResult) : State :=
  s.ringCmd e 0x21 24 (fun s =>
    let t := cmdFld e 8 2
    let cores := cmdFld e 0x0A 1
    let len := cmdFld e 0x0C 4
    let addr := cmdFld e 0x10 8
    let place := cmdFld e 0x18 8
    if cmdFld e 0x0B 1 ≠ 0 ∨ 128 ≤ cores ∨ len < 292 ∨ 192 + 512 * 1024 + 96 < len ∨ addr % 64 ≠ 0 ∨ 2 ^ 48 ≤ addr ∨ place % 64 ≠ 0
        ∨ 2 ^ 48 ≤ place then s.respond e.seq .malformed
    else if t ≠ 0xFFFF ∧ t ≠ s.ownId ∧ (4096 ≤ t ∨ (s.childFor (BitVec.ofNat 12 t)).isNone = true) then s.respond e.seq .permission
    else match readStatus image with
      | .inl st => s.respond e.seq st
      | .inr b =>
        let ts := if t = 0xFFFF then s.allBelow else [BitVec.ofNat 12 t]
        eachOf (State.imageTo (b.take len) place (BitVec.ofNat 7 cores)) ts (s.respond e.seq .ok))

/-! ### Answers (11 R285, R286) -/

/-- The oldest relay to a child itself: the child's own report is its outcome. -/
def State.ownRelay (s : State) (c : BitVec 12) : Option Relay := s.relay.relays.find? (fun r => r.child == c && r.target == c)

/-- The kind of the report of a child that takes no relays: that of the relay it answers, or of the oldest one through it. -/
def State.childKind (s : State) (c : BitVec 12) : Nat :=
  match s.ownRelay c with
  | some r => r.kind
  | none => ((s.relay.relays.find? (fun r => r.child == c)).map Relay.kind).getD 1

/-- Relays through a child end, and each is reported (11 R284), but for the one that the child's own report answers. -/
def State.dropRelays (s : State) (c : BitVec 12) (st : Status) (code : Nat) : State :=
  let ended := s.relay.relays.filter (fun r => r.child == c)
  let told := match s.ownRelay c with
    | some r => ended.erase r
    | none => ended
  eachOf (State.relayFailed st code) told (eachOf State.relayOver ended
    { s with relay := { s.relay with relays := s.relay.relays.filter (fun r => r.child != c) } })

/-- A child has told its parents: it must name this instance at its level (04 R95). (DEDUCED, log 61) -/
def State.parentCheck (s : State) (c : BitVec 12) (reply : Bytes) : State :=
  let k := (s.childLevel c).getD 0
  if fld reply (2 * k) 2 = s.ownId then { s with relay := { s.relay with asked := s.relay.asked ++ [c] } }
  else
    let kind := s.childKind c
    let s := s.dropRelays c (chartStatus 0x0F) 0x0F
    let s := { s with relay := { s.relay with badKids := s.relay.badKids ++ [c] } }
    let s := s.record { s.errRec 5 (chartStatus 0x0F) .sh 0x0C 0 with inst := c.zeroExtend 16, detail0 := 0x0F }
    s.childEvent c.toNat kind (chartStatus 0x0F) 0x0F (cut reply 12 7) (fld reply 8 4)

/-- A step of a relay has been answered. -/
def State.stepAnswered (s : State) (k : Packet) (st : Status) : State :=
  match s.relay.relays.find? (fun r => r.child == k.dst) with
  | none => s
  | some r =>
    if st ≠ .ok then
      State.childEvent (State.relayOver r { s with relay := { s.relay with relays := s.relay.relays.erase r } }) r.target.toNat r.kind st 0 [] 0
    else
      let r' := { r with next := r.next + 1 }
      let rest := s.relay.relays.erase r
      if (s.relayPacket r').isSome then { s with relay := { s.relay with relays := r' :: rest } }
      else State.relayOver r { s with relay := { s.relay with relays := rest } }

/-- A MGMT_ACK for a MGMT packet of this instance. -/
def State.relayAcked (s : State) (a : Packet) : State :=
  match s.relay.waits.find? (fun w => w.tag == a.tag) with
  | none => s
  | some w =>
    let s := { s with relay := { s.relay with waits := s.relay.waits.filter (fun x => x.tag != a.tag) } }
    if w.pkt.subop = 6 ∧ w.pkt.payload.isEmpty = false then s
    else
      let s := if w.pkt.subop = 6 then s.parentCheck w.pkt.dst a.payload else s.stepAnswered w.pkt (statusOf a.status.toNat)
      s.relayGo w.pkt.dst

/-- MGMT_ACK: of a key exchange or of a MGMT packet. -/
def State.mgmtAckIn (s : State) (p : Nat) : State :=
  match s.takePacket p (fun k => k.opcode == 0x1B) with
  | none => s
  | some (k, s) =>
    if (s.peer p).keyx.awaitTag == some k.tag then s.keyxAcked p (statusOf k.status.toNat) else s.relayAcked k

/-- MGMT_RETRY: no MGMT_ACK within peer_timeout; after three more tries the child is reported. -/
def State.mgmtRetry (s : State) (tag : BitVec 16) : State :=
  match s.relay.waits.find? (fun w => w.tag == tag) with
  | none => s
  | some w =>
    if w.tries < 3 then
      State.sendPacket { s with relay := { s.relay with
        waits := s.relay.waits.map (fun x => if x.tag = tag then { x with tries := x.tries + 1 } else x) } } w.pkt
    else
      let s := { s with relay := { s.relay with waits := s.relay.waits.filter (fun x => x.tag != tag) } }
      if (s.childLevel w.pkt.dst).isNone then s
      else
        (s.dropRelays w.pkt.dst .remoteUnreachable 0).childEvent w.pkt.dst.toNat (s.childKind w.pkt.dst) .remoteUnreachable 0 [] 0

/-! ### Serving (11 R285) -/

/-- HARBOUR, or the SEC boot ROM during a start, serves MGMT packets. -/
def State.mgmtServes (s : State) : Bool := s.harbour || s.secAble

/-- Take a MGMT packet of a sub-operation. -/
def State.mgmtIn (s : State) (p subop : Nat) (f : Packet → State → State) : State :=
  if !s.mgmtServes then s
  else match s.takePacket p (fun k => k.opcode == 0x08 && k.subop.toNat == subop) with
    | none => s
    | some (k, s) => f k s

/-- The target of a MGMT packet. -/
def mgmtTarget (k : Packet) : BitVec 12 := k.aux.truncate 12

/-- What this manager stages for a target. -/
def State.stageOf (s : State) (isChart : Bool) (t : BitVec 12) : Option RelayStage :=
  s.relay.stages.find? (fun x => x.isChart == isChart && x.target == t)

/-- Replace it. -/
def State.setStage (s : State) (x : RelayStage) : State :=
  { s with relay := { s.relay with
    stages := s.relay.stages.filter (fun y => !(y.isChart == x.isChart && y.target == x.target)) ++ [x] } }

/-- A delivery for a target begins anew: what was staged for it leaves mgmt_reserve. -/
def State.stageFresh (s : State) (isChart : Bool) (t : BitVec 12) : State :=
  let n := ((s.stageOf isChart t).map (fun x => x.bytes.length)).getD 0
  let s := if t.toNat = s.ownId ∨ n = 0 then s else s.holdGive 16 n
  { s with relay := { s.relay with moved := s.relay.moved.filter (fun m => m != (isChart, t)) } }.setStage
    { isChart := isChart, target := t, bytes := [], place := 0 }

/-- Bytes put at a place, zeros between. -/
def putAt (b : Bytes) (off : Nat) (v : Bytes) : Bytes := overlay (padTo b (max b.length (off + v.length))) off v

/-- Stage bytes and acknowledge them. Those of another instance stand in mgmt_reserve (11 R285), and are refused with QUOTA where it has
no room. (DESIGN CHOICE, log 111) -/
def State.stagePut (s : State) (p : Nat) (k : Packet) (x : RelayStage) (off : Nat) : State :=
  let more := if x.target.toNat = s.ownId then 0 else max x.bytes.length (off + k.payload.length) - x.bytes.length
  if more ≠ 0 ∧ s.holdFree 16 more = false then s.mgmtAnswer p k .quota
  else
    let s := if more = 0 then s else s.holdTake 16 more
    (s.setStage { x with bytes := putAt x.bytes off k.payload }).mgmtAnswer p k .ok

/-- CHART_BEGIN. -/
def State.mgmtBegin (s : State) (p : Nat) : State :=
  s.mgmtIn p 1 (fun k s =>
    let t := mgmtTarget k
    if t.toNat = s.ownId then
      if s.chartMayBegin || (s.chart.state == .loading && s.chart.source == 2) then (s.chartBegin 2).mgmtAnswer p k .ok
      else s.mgmtAnswer p k .permission
    else if (s.childFor t).isSome then
      (s.stageFresh true t).mgmtAnswer p k .ok
    else s.mgmtAnswer p k .permission)

/-- CHART_DATA. -/
def State.mgmtChartData (s : State) (p : Nat) : State :=
  s.mgmtIn p 2 (fun k s =>
    let t := mgmtTarget k
    let off := k.addr.toNat % 65536 * 256
    if t.toNat = s.ownId then
      if s.chart.state == .loading && s.chart.source == 2 then
        let s := if off + k.payload.length ≤ 65536 then
            { s with chart := { s.chart with staged := putAt s.chart.staged off k.payload } }
          else { s with chart := { s.chart with overLong := true } }
        s.mgmtAnswer p k .ok
      else s.mgmtAnswer p k .permission
    else match s.stageOf true t with
      | some x => s.stagePut p k x off
      | none => s.mgmtAnswer p k .permission)

/-- A staged delivery moves on, and its bytes leave mgmt_reserve when it is over. (DESIGN CHOICE, log 111) -/
def State.stageOn (s : State) (x : RelayStage) (place : BitVec 48) (cores : BitVec 7) : State :=
  let s := { s with relay := { s.relay with
    stages := s.relay.stages.erase x,
    moved := s.relay.moved.filter (fun m => m != (x.isChart, x.target)) ++ [(x.isChart, x.target)] } }
  match s.childFor x.target with
  | some c => s.relayStart {
      isChart := x.isChart, target := x.target, child := c, data := x.bytes, place := place, cores := cores, next := 0,
      held := x.bytes.length }
  | none => s

/-- The delivery has moved on, so that a repeated COMMIT or LOAD has the same answer (11 R286). -/
def State.relaying (s : State) (isChart : Bool) (t : BitVec 12) : Bool := s.relay.moved.contains (isChart, t)

/-- CHART_COMMIT. -/
def State.mgmtCommit (s : State) (p : Nat) : State :=
  s.mgmtIn p 3 (fun k s =>
    let t := mgmtTarget k
    if t.toNat = s.ownId then
      if s.chart.state == .loading && s.chart.source == 2 then (s.chartCommit 2).mgmtAnswer p k .ok
      else s.mgmtAnswer p k (if s.chart.state = .empty ∨ s.chart.source = 1 then .permission else .ok)
    else match s.stageOf true t with
      | some x => (s.stageOn x 0 0).mgmtAnswer p k .ok
      | none => s.mgmtAnswer p k (if s.relaying true t then .ok else .permission))

/-- IMAGE_DATA: the bytes wait for the placement address, which IMAGE_LOAD brings. (DEDUCED, log 60) -/
def State.mgmtImageData (s : State) (p : Nat) : State :=
  s.mgmtIn p 4 (fun k s =>
    let t := mgmtTarget k
    if t.toNat = s.ownId ∨ (s.childFor t).isSome = true then
      let s := if k.addr.toNat % 2 ^ 24 = 0 ∨ (s.stageOf false t).isNone = true then s.stageFresh false t else s
      s.stagePut p k ((s.stageOf false t).getD { isChart := false, target := t, bytes := [], place := 0 }) (k.addr.toNat % 2 ^ 24 * 256)
    else s.mgmtAnswer p k .permission)

/-- IMAGE_LOAD. (DEDUCED, log 60) -/
def State.mgmtImageLoad (s : State) (p : Nat) : State :=
  s.mgmtIn p 5 (fun k s =>
    let t := mgmtTarget k
    let place := fld k.payload 0 8
    let cores := BitVec.ofNat 7 (byteAt k.payload 8)
    if k.payload.length ≠ 16 ∨ place % 64 ≠ 0 ∨ 2 ^ 48 ≤ place ∨ 128 ≤ byteAt k.payload 8 then s.mgmtAnswer p k .malformed
    else match s.stageOf false t with
      | some x =>
        if t.toNat = s.ownId then
          if s.startAt 11 && !s.fw.busy then
            (State.managerLoad { s with relay := { s.relay with stages := s.relay.stages.erase x } } place cores x.bytes).mgmtAnswer p k .ok
          else s.mgmtAnswer p k .permission
        else (s.stageOn x (BitVec.ofNat 48 place) cores).mgmtAnswer p k .ok
      | none =>
        let again := if t.toNat = s.ownId then s.fw.addr.toNat == place && s.fw.cores == cores else s.relaying false t
        s.mgmtAnswer p k (if again then .ok else .permission))

/-- The status an unasked report stands for. -/
def reportStatus (b : Bytes) : Status :=
  match byteAt b 19 with
  | 1 => if byteAt b 6 = 3 ∨ byteAt b 6 = 4 then .ok else if chartStatus (byteAt b 7) = .checkFail then .checkFail else .malformed
  | 2 => ((cut b 12 7).find? (fun x => x != 0)).elim .ok (fun x => statusOf x.toNat)
  | _ => if bit (fld b 8 4) 31 then .ok else .checkFail

/-- STATUS: a question to this instance is answered, one to another refused; a report from below is acknowledged, given to the driver and passed upward. -/
def State.mgmtStatusIn (s : State) (p : Nat) : State :=
  s.mgmtIn p 6 (fun k s =>
    if k.payload.isEmpty then
      if (mgmtTarget k).toNat = s.ownId then s.mgmtAnswer p k .ok (s.statusBytes 0) else s.mgmtAnswer p k .permission
    else
      let b := padTo k.payload 20
      let s := s.mgmtAnswer p k .ok
      let s := s.childEvent (mgmtTarget k).toNat (byteAt b 19) (reportStatus b) (byteAt b 7) (cut b 12 7) (fld b 8 4)
      s.reportUp (mgmtTarget k) b)

end Sys2Proof.Machine
end

