-- ==== Sys2Proof/Machine/Identity.lean ====
section
/-! DEFINITION. Endorsement (15 R361), SPDM and IDE_KM (R366-R369), measured regions, sealing and scrubbing (R370-R377), partition
release (06 R155; 14 R356) and QUEUE_SAVE (05 R124). -/

namespace Sys2Proof.Machine

/-- SEC firmware runs, and reaches the CORE domain. (DESIGN CHOICE, log 112) -/
def State.sec (s : State) : Bool := (s.core 0).state == .running && !s.ctrlLost .sh

/-! ### Endorsement (15 R361) -/

/-- After step 7 and before step 9. (DEDUCED, log 62) -/
def State.endorseTime (s : State) : Bool := s.coldAt 8

/-- begin empties the staging buffer. (DEDUCED, log 62) -/
def State.endorseBegin (s : State) : State := if s.endorseTime then { s with ident := { s.ident with staging := [] } } else s

/-- The next 4 bytes. -/
def State.endorseData (s : State) (v : BitVec 32) : State :=
  if s.endorseTime && decide (s.ident.staging.length < 192) then
    { s with ident := { s.ident with staging := s.ident.staging ++ leBytes 4 v.toNat } } else s

/-- commit checks the staged bytes. (DEDUCED, log 62) -/
def State.endorseCommit (s : State) : State :=
  if !s.endorseTime then s
  else
    let b := s.ident.staging
    let ok := b.length == 192 && s.endorseOk (b.take 96) (b.drop 96) s.ownId s.ident.devPub
    State.shIrq { s with ident := { s.ident with endorsed := ok, endorsement := if ok then some b else none } } 9

/-! ### SPDM (15 R367, R368) -/

/-- The DOE mailbox of a host port reaches SEC. -/
def State.spdmOn (s : State) (n : Nat) : Bool := s.sec && (s.host n).readyOut

/-- A response is put into the mailbox. -/
def State.spdmRsp (s : State) (n : Nat) (r : SpdmRsp) : State :=
  State.drive { s with ident := { s.ident with doeNo := s.ident.doeNo + 1, doeReady := some n } } (.spdm n r)

/-- A message of the live session has come by a port. -/
def State.spdmHeard (s : State) (n : Nat) : State :=
  match s.ident.session with
  | .live m => if m.val = n then { s with ident := { s.ident with missed := 0 } } else s
  | _ => s

/-- How far the connection of a port has come: 1 version, 2 capabilities, 3 algorithms. (PRESUMED, log 38) -/
def State.setConn (s : State) (n k : Nat) : State := { s with ident := { s.ident with negotiated := tabSet 0 s.ident.negotiated n k } }

/-- A request of a version on a port whose connection has come far enough. (PRESUMED, log 38) -/
def State.spdmReq (s : State) (n : Nat) (version : Byte) (need : Nat) (f : State → State) : State :=
  if !s.spdmOn n then s
  else
    let s := s.spdmHeard n
    if version ≠ 0x13 then s.spdmRsp n .versionMismatch
    else if tabGet 0 s.ident.negotiated n < need then s.spdmRsp n .unexpectedRequest
    else f s

/-- What the responder offers (15 R367). -/
def spdmCaps : List SpdmCap := [.cert, .chal, .measSigned, .keyEx, .encrypt, .mac, .hbeat, .keyUpd]

/-- What it selects (15 R367). -/
def spdmAlgos : List SpdmAlgo :=
  [.ecdsaP384, .sha384, .dheSecp384r1, .aes256Gcm, .spdmKeySchedule, .dmtfMeasurement, .measurementSha384]

/-- GET_VERSION begins a connection. (PRESUMED, log 38) -/
def State.getVersion (s : State) (n : Nat) : State := if s.spdmOn n then ((s.spdmHeard n).setConn n 1).spdmRsp n (.version [0x13]) else s

/-- GET_CAPABILITIES. -/
def State.getCapabilities (s : State) (n : Nat) (version : Byte) : State :=
  s.spdmReq n version 1 (fun s => (s.setConn n 2).spdmRsp n (.capabilities spdmCaps))

/-- NEGOTIATE_ALGORITHMS. -/
def State.negotiate (s : State) (n : Nat) (version : Byte) : State :=
  s.spdmReq n version 2 (fun s => (s.setConn n 3).spdmRsp n (.algorithms spdmAlgos))

/-- Slot 0 (15 R362). (DEDUCED, log 106) -/
def State.slot0 (s : State) : Bytes := s.ident.chain ++ s.ident.cert

/-- GET_DIGESTS. -/
def State.getDigests (s : State) (n : Nat) (version : Byte) : State :=
  s.spdmReq n version 3 (fun s => s.spdmRsp n (.digests (sha384 s.slot0)))

/-- GET_CERTIFICATE. -/
def State.getCertificate (s : State) (n : Nat) (version : Byte) (slot offset length : Nat) : State :=
  s.spdmReq n version 3 (fun s =>
    let c := s.slot0
    if slot ≠ 0 ∨ c.length ≤ offset then s.spdmRsp n .invalidRequest
    else
      let part := (c.drop offset).take length
      s.spdmRsp n (.certificate part (c.length - offset - part.length)))

/-- A random value of 32 bytes. -/
def State.random32 (s : State) : Bytes × State :=
  let (r, s) := s.draw
  (beBytes 32 (r.toNat % 2 ^ 256), s)

/-- A signature of the alias key over a transcript. -/
def State.aliasSign (s : State) (fields : Bytes) : Bytes × State :=
  let (r, s) := s.draw
  (ecdsaSign s.ident.aliasKey (r.toNat % (p384N - 1) + 1) (beBytes 48 (Config.spdmTranscript fields).toNat), s)

/-- CHALLENGE. -/
def State.challenge (s : State) (n : Nat) (version : Byte) (slot : Nat) (nonce : BitVec 256) : State :=
  s.spdmReq n version 3 (fun s =>
    if slot ≠ 0 then s.spdmRsp n .invalidRequest
    else if s.ident.entropyFail then s.spdmRsp n .unspecified
    else
      let d := sha384 s.slot0
      let (r, s) := s.random32
      let (g, s) := s.aliasSign (d ++ beBytes 32 nonce.toNat ++ r)
      s.spdmRsp n (.challengeAuth d r g))

/-! ### The manifest (15 R369) -/

/-- The record of the peer links. -/
def State.linkRecord (s : State) : Bytes :=
  ((List.range 4).map (fun p =>
    let x := s.peer p
    leBytes 4 (x.far.toNat + 2 ^ 12 * b2n (x.txKey.isSome && x.rxKey.isSome) + 2 ^ 13 * b2n x.auth))).flatten

/-- The flags of a region record. -/
def Region.flags (r : Region) : Nat := b2n r.intact + 2 * b2n r.sealed

/-- A region record. -/
def Region.bytes (r : Region) : Bytes :=
  leBytes 8 r.va.toNat ++ leBytes 8 r.len.toNat ++ padTo r.root 48 ++ leBytes 8 r.seq.toNat ++ [BitVec.ofNat 8 r.part, BitVec.ofNat 8 r.flags]
    ++ zeros 6 ++ leBytes 8 r.base.toNat ++ zeros 8

/-- The populated measurement blocks: index, value type, contents. -/
def State.manifest (s : State) : List (Nat × Byte × Bytes) :=
  [(1, 0x00, m1)]
    ++ (List.range 7).filterMap (fun c => if s.fenced.cores.getLsbD c then some (2 + c, 0x01, zeros 48)
        else (s.core c).measured.map (fun d => (2 + c, 0x01, d)))
    ++ (s.chart.m9.toList.map (fun d => (9, 0x03, d))) ++ (s.chart.m10.toList.map (fun d => (10, 0x03, d)))
    ++ [(11, 0x84, s.linkRecord)]
    ++ s.ident.regions.filterMap (fun e => e.2.map (fun r => (16 + e.1, 0x84, r.bytes)))

/-- GET_MEASUREMENTS. -/
def State.getMeasurements (s : State) (n : Nat) (version index : Byte) (signed : Bool) (nonce : BitVec 256) : State :=
  s.spdmReq n version 3 (fun s =>
    let all := s.manifest
    let blocks := if index = 0xFF then all else all.filter (fun b => b.1 == index.toNat)
    if index ≠ 0 ∧ blocks.isEmpty = true then s.spdmRsp n .invalidRequest
    else if s.ident.entropyFail then s.spdmRsp n .unspecified
    else
      let (r, s) := s.random32
      if !signed then s.spdmRsp n (.measurements all.length blocks r none)
      else
        let (g, s) := s.aliasSign ((blocks.map (fun b => BitVec.ofNat 8 b.1 :: b.2.1 :: b.2.2)).flatten ++ beBytes 32 nonce.toNat ++ r)
        s.spdmRsp n (.measurements all.length blocks r (some g)))

/-! ### Sessions (15 R368) -/

/-- KEY_EXCHANGE. -/
def State.keyExchange (s : State) (n : Fin 2) (version : Byte) (share : Bytes) (random : BitVec 256) : State :=
  s.spdmReq n.val version 3 (fun s =>
    if s.ident.session ≠ .none then s.spdmRsp n.val .sessionLimitExceeded
    else if s.ident.entropyFail then s.spdmRsp n.val .unspecified
    else
      let (r, s) := s.draw
      let d := r.toNat % (p384N - 1) + 1
      match ecdh d share with
      | none => s.spdmRsp n.val .invalidRequest
      | some z =>
        let pub := pubOf d
        let (rnd, s) := s.random32
        let (g, s) := s.aliasSign (share ++ beBytes 32 random.toNat ++ pub ++ rnd)
        State.spdmRsp { s with ident := { s.ident with session := .awaiting n, sessionKey := beNat z } } n.val (.keyExchangeRsp 60 rnd pub g))

/-- FINISH: the session is live where its MAC verifies. -/
def State.finishSession (s : State) (n : Fin 2) (version : Byte) (macOk : Bool) : State :=
  s.spdmReq n.val version 3 (fun s =>
    if s.ident.session ≠ .awaiting n then s.spdmRsp n.val .unexpectedRequest
    else if macOk then State.spdmRsp { s with ident := { s.ident with session := .live n, missed := 0 } } n.val .finishRsp
    else State.spdmRsp { s with ident := { s.ident with session := .none, sessionKey := 0 } } n.val .invalidRequest)

/-- A request inside the live session. -/
def State.inSession (s : State) (n : Fin 2) (version : Byte) (f : State → State) : State :=
  s.spdmReq n.val version 3 (fun s => if s.ident.session = .live n then f s else s.spdmRsp n.val .unexpectedRequest)

/-- The session ends. -/
def State.endSpdm (s : State) : State := { s with ident := { s.ident with session := .none, missed := 0, sessionKey := 0 } }

/-- HEARTBEAT. -/
def State.heartbeat (s : State) (n : Fin 2) (version : Byte) : State := s.inSession n version (fun s => s.spdmRsp n.val .heartbeatAck)

/-- KEY_UPDATE: the session's keys go on from the old ones. -/
def State.keyUpdate (s : State) (n : Fin 2) (version : Byte) : State :=
  s.inSession n version (fun s =>
    State.spdmRsp { s with ident := { s.ident with
      sessionKey := beNat (hkdf384 [] (beBytes 48 s.ident.sessionKey) (ascii "traffic upd") 48) } } n.val .keyUpdateAck)

/-- END_SESSION. -/
def State.endSession (s : State) (n : Fin 2) (version : Byte) : State := s.inSession n version (fun s => s.endSpdm.spdmRsp n.val .endSessionAck)

/-- Request codes of the subset (SPDM 1.3). -/
def spdmCodes : List Nat := [0x84, 0xE1, 0xE3, 0x81, 0x82, 0x83, 0xE0, 0xE4, 0xE5, 0xE8, 0xE9, 0xEC]

/-- Any other request. (PRESUMED, log 38) -/
def State.spdmOther (s : State) (n : Nat) (version code : Byte) : State :=
  if spdmCodes.contains code.toNat then s else s.spdmReq n version 0 (fun s => s.spdmRsp n .unsupportedRequest)

/-- A heartbeat period without a message; after two the session ends. -/
def State.heartbeatExpired (s : State) : State :=
  match s.ident.session with
  | .live _ => if 1 ≤ s.ident.missed then s.endSpdm else { s with ident := { s.ident with missed := s.ident.missed + 1 } }
  | _ => s

/-! ### IDE_KM (15 R366) -/

/-- An IDE_KM request inside the live session; outside it there is none. (DEDUCED, log 39) -/
def State.ideReq (s : State) (n : Fin 2) (f : State → State) : State :=
  if !s.spdmOn n.val then s
  else if s.ident.session = .live n then f (s.spdmHeard n.val) else s.spdmRsp n.val .unexpectedRequest

/-- An IDE_KM response. -/
def State.ideRsp (s : State) (n : Nat) (r : IdeRsp) : State :=
  State.drive { s with ident := { s.ident with doeNo := s.ident.doeNo + 1, doeReady := some n } } (.ideKm n r)

/-- The number of a supported stream. -/
def ideIndex : IdeStream → Option Nat
  | .cxlIo => some 0
  | .cxlCacheMem => some 1
  | .other => none

/-- QUERY. -/
def State.ideQuery (s : State) (n : Fin 2) : State := s.ideReq n (fun s => s.ideRsp n.val .queryResp)

/-- KEY_PROG. (DEDUCED, log 39) -/
def State.ideKey (s : State) (n : Fin 2) (st : IdeStream) (ks : Fin 2) (tx : Bool) (key : BitVec 256) : State :=
  s.ideReq n (fun s => match ideIndex st with
    | none => s.ideRsp n.val (.kpAck false)
    | some i => (s.modHost n.val (fun h => { h with
        ideKeys := tabSet none h.ideKeys (4 * i + 2 * ks.val + b2n tx) (some key) })).ideRsp n.val (.kpAck true))

/-- K_SET_GO: the key set is in force, if its key is there. (DEDUCED, log 39) -/
def State.ideGo (s : State) (n : Fin 2) (st : IdeStream) (ks : Fin 2) (tx : Bool) : State :=
  s.ideReq n (fun s => match ideIndex st with
    | none => s.ideRsp n.val .kGoStopAck
    | some i => (s.modHost n.val (fun h =>
        if (tabGet none h.ideKeys (4 * i + 2 * ks.val + b2n tx)).isSome then
          { h with ideActive := tabSet 0 h.ideActive (2 * i + b2n tx) (ks.val + 1) } else h)).ideRsp n.val .kGoStopAck)

/-- K_SET_STOP: the stream no longer uses the key set. -/
def State.ideStop (s : State) (n : Fin 2) (st : IdeStream) (ks : Fin 2) (tx : Bool) : State :=
  s.ideReq n (fun s => match ideIndex st with
    | none => s.ideRsp n.val .kGoStopAck
    | some i => (s.modHost n.val (fun h =>
        if tabGet 0 h.ideActive (2 * i + b2n tx) = ks.val + 1 then
          { h with ideActive := tabSet 0 h.ideActive (2 * i + b2n tx) 0 } else h)).ideRsp n.val .kGoStopAck)

/-! ### Measured regions (15 R370-R375) -/

/-- The answer to a MEASURE_REGION. (DEDUCED, log 63) -/
def State.regionRsp (s : State) (seq : BitVec 32) (st : Status) (num : BitVec 64) (flags : Nat) : State :=
  s.respond seq st (leBytes 8 num.toNat ++ [BitVec.ofNat 8 flags]) 17

/-- Give a region k its seal. -/
def State.putSeal (s : State) (k base len : Nat) : State :=
  s.setSealRange k { valid := true, base := BitVec.ofNat 48 base, size := BitVec.ofNat 48 (roundUp len leafBytes) }

/-- A write past the check of the sealed ranges that has not reached its completion point: one issued, or the home agent's own. -/
def Access.passedSeal (a : Access) : Bool :=
  a.kind != .read && (a.issued && a.checked || (match a.purpose with
    | .home _ => true
    | .homeWb _ _ _ => true
    | _ => false))

/-- A peer's write-back past that check that has not been answered. -/
def HomeTxn.passedSeal (t : HomeTxn) : Bool :=
  match t.req with
  | .peerWb _ _ _ _ => t.phase != .queued
  | _ => false

/-- The lines of a measured span that caches hold: channel 63 reads them through the home agent, so that a changed copy comes back
(15 R373; 14 R340). (DESIGN CHOICE, log 63) -/
def State.heldLines (s : State) (base len : Nat) : List Nat :=
  (s.home.filter.filter (fun e => e.mask != 0 && inRange e.line.toNat base len)).map (·.line.toNat)

/-- SEC begins a job: a seal is installed, the writes that passed the check before it are awaited, the watch stands, and the lines that
caches hold are read. -/
def State.jobBegin (s : State) (j : SecJob) : State × SecJob :=
  match j with
  | .measure m =>
    let lines := s.heldLines m.base.toNat (roundUp m.len.toNat leafBytes)
    let reads := (List.range lines.length).map (s.nextId + ·)
    let t := eachOf (fun (line : Nat) t =>
      t.launch { mkAccess (.channel 63) .none .read none (t.localPa line) 64 with mc := true }) lines s
    if m.doSeal then
      (t.putSeal m.k m.base.toNat m.len.toNat, .measure { m with
        started := true, waits := (s.accesses.filter Access.passedSeal).map (·.id) ++ reads,
        txns := (s.home.txns.filter HomeTxn.passedSeal).map (·.id) })
    else (t, .measure { m with started := true, waits := reads })
  | .scrub b =>
    (((s.clearIntact b.base b.len).bulkStart (.channel 63) none [.zero (s.ownId * 2 ^ 48 + b.base) b.len] (.scrub b.seq)),
      .scrub { b with started := true })
  | j => (s, j)

/-- UNSEAL and RETIRE. -/
def State.regionDrop (s : State) (seq : BitVec 32) (k : Nat) (retire : Bool) : State :=
  match s.region k with
  | none => s.respond seq .malformed
  | some r =>
    let s := s.setSealRange k {}
    if retire then (s.setRegion k none).regionRsp seq .ok r.seq 0
    else
      let r := { r with sealed := false }
      (s.setRegion k (some r)).regionRsp seq .ok r.seq r.flags

/-- A sealed range installed since a job was accepted forbids it: the status it is answered with (15 R373, R376). -/
def State.jobBarred (s : State) (j : SecJob) : Option (BitVec 32 × Status) :=
  match j with
  | .measure m => if !m.started && m.doSeal && s.sealHit m.base.toNat (roundUp m.len.toNat leafBytes) m.k then some (m.seq, .malformed)
      else none
  | .scrub b => if !b.started && s.sealHit b.base b.len then some (b.seq, .permission) else none
  | _ => none

/-- The front job of SEC begins, if none is in hand; what needs no time is done at once. -/
def State.secNext : Nat → State → State
  | 0, s => s
  | n + 1, s =>
    if !s.sec then s
    else match s.ident.jobs with
      | [] => s
      | .unseal seq k :: rest => State.secNext n (State.regionDrop { s with ident := { s.ident with jobs := rest } } seq k false)
      | .retire seq k :: rest => State.secNext n (State.regionDrop { s with ident := { s.ident with jobs := rest } } seq k true)
      | j :: rest =>
        let started := match j with
          | .measure m => m.started
          | .scrub b => b.started
          | _ => false
        if started then s
        else match s.jobBarred j with
          | some (seq, st) => State.secNext n (State.respond { s with ident := { s.ident with jobs := rest } } seq st)
          | none =>
            let x := s.jobBegin j
            { x.1 with ident := { x.1.ident with jobs := x.2 :: rest } }

/-- SEC takes what it has next. -/
def State.secGo (s : State) : State := State.secNext (s.ident.jobs.length + 1) s

/-- A job waits for its turn. -/
def State.secQueue (s : State) (j : SecJob) : State := State.secGo { s with ident := { s.ident with jobs := s.ident.jobs ++ [j] } }

/-- A span lies in no host window and within the local space. -/
def State.spanOk (s : State) (base len : Nat) : Bool :=
  decide (base + len ≤ 2 ^ 48) && !([0, 1, 2, 3].any (fun k =>
    (s.hostWin k).enable && overlaps base len ((s.hostWin k).base.toNat <<< 30) ((s.hostWin k).size.toNat <<< 30)))

/-- Every page of the span translates, with RD, to its place. -/
def State.leavesOk (s : State) (leaves : List LeafView) (va base pages : Nat) : Bool :=
  (List.range pages).all (fun i => leaves.any (fun l =>
    l.va.toNat == va + leafBytes * i && l.rd && l.pa == some (s.localPa (base + leafBytes * i))))

/-- MEASURE and MEASURE_AND_SEAL, after the checks of every command. (DEDUCED, log 81) -/
def State.measureCmd (e : CmdEntry) (leaves : List LeafView) (doSeal : Bool) (s : State) : State :=
  let k := cmdFld e 9 1
  let p := cmdFld e 0x0A 1
  let va := cmdFld e 0x10 8
  let len := cmdFld e 0x18 8
  let base := cmdFld e 0x20 8
  let span := roundUp len leafBytes
  if 63 < k ∨ 15 < p ∨ cmdFld e 0x0B 5 ≠ 0 ∨ va % leafBytes ≠ 0 ∨ len = 0 ∨ 2 ^ 47 < len ∨ base % leafBytes ≠ 0
      ∨ (doSeal = true ∧ s.feature 6 = false) ∨ s.partOn p = false ∨ s.spanOk base span = false
      ∨ s.leavesOk leaves va base (span / leafBytes) = false ∨ (doSeal = true ∧ s.sealHit base span k = true) then
    s.respond e.seq .malformed
  else s.secQueue (.measure {
    seq := e.seq, k := k, doSeal := doSeal, part := p, va := BitVec.ofNat 64 va, len := BitVec.ofNat 64 len, base := BitVec.ofNat 48 base,
    started := false, waits := [], fired := false })

/-- MEASURE. -/
def State.measure (s : State) (e : CmdEntry) (leaves : List LeafView) : State :=
  s.ringAct e 8 0x31 32 0 4 (State.measureCmd e leaves false)

/-- MEASURE_AND_SEAL. -/
def State.measureAndSeal (s : State) (e : CmdEntry) (leaves : List LeafView) : State :=
  s.ringAct e 8 0x31 32 1 4 (State.measureCmd e leaves true)

/-- UNSEAL and RETIRE use only the action and k. -/
def dropFieldsOk (e : CmdEntry) : Bool := decide (cmdFld e 9 1 ≤ 63) && allZero (cut (cmdBytes e) 2 30)

/-- UNSEAL. (DEDUCED, log 63) -/
def State.unsealCmd (s : State) (e : CmdEntry) : State :=
  s.ringAct e 8 0x31 32 2 4 (fun s =>
    if !dropFieldsOk e || !s.feature 6 then s.respond e.seq .malformed else s.secQueue (.unseal e.seq (cmdFld e 9 1)))

/-- RETIRE. (DEDUCED, log 63) -/
def State.retireCmd (s : State) (e : CmdEntry) : State :=
  s.ringAct e 8 0x31 32 3 4 (fun s => if !dropFieldsOk e then s.respond e.seq .malformed else s.secQueue (.retire e.seq (cmdFld e 9 1)))

/-- MEASUREMENT_COMPLETE: the region's contents have been read and hashed, once the writes that passed before a seal are done and the lines
held by caches are read. (DEDUCED, log 63) -/
def State.measured (s : State) (content : ReadResult) : State :=
  match s.ident.jobs with
  | .measure m :: rest =>
    if !s.sec || !m.started || m.waits.any (fun id => (s.acc id).isSome) || s.home.txns.any (fun t => m.txns.contains t.id) then s
    else
      let t := { s with ident := { s.ident with jobs := rest } }
      let publish (root : Bytes) (intact : Bool) (st : Status) : State :=
        let num := s.ident.measSeq + 1
        let r : Region := {
          part := m.part, va := m.va, len := m.len, base := m.base, root := root, seq := num, intact := intact,
          sealed := m.doSeal || (s.region m.k).elim false (·.sealed) }
        ((State.setRegion { t with ident := { t.ident with measSeq := num } } m.k (some r)).regionRsp m.seq st num r.flags).secGo
      match content with
      | .ok b => publish (treeHash (padTo b m.len.toNat)) (!m.fired) .ok
      | .poison _ => publish (zeros 48) false .poison
      | .busError => (t.respond m.seq .busError).secGo
      | .timeout => (t.respond m.seq .timeout).secGo
  | _ => s

/-! ### Scrubbing (15 R376) -/

/-- SCRUB. (DEDUCED, log 69) -/
def State.scrubCmd (s : State) (e : CmdEntry) : State :=
  s.ringCmd e 0x30 16 (fun s =>
    let base := cmdFld e 8 8
    let len := cmdFld e 0x10 8
    if base % leafBytes ≠ 0 ∨ len % leafBytes ≠ 0 ∨ len = 0 ∨ s.spanOk base len = false then s.respond e.seq .malformed
    else if s.sealHit base len then s.respond e.seq .permission
    else s.secQueue (.scrub { seq := e.seq, base := base, len := len, started := false, done := none }))

/-- The writes of a SCRUB have ended. -/
def State.scrubWritten (s : State) (seq : BitVec 32) (st : Status) : State :=
  { s with ident := { s.ident with jobs := s.ident.jobs.map (fun j => match j with
    | .scrub b => if b.seq = seq ∧ b.started = true then .scrub { b with done := some st } else .scrub b
    | j => j) } }

/-- SCRUB_COMPLETE: the last write is acknowledged. -/
def State.scrubEnd (s : State) : State :=
  match s.ident.jobs with
  | .scrub b :: rest =>
    match b.done with
    | some st => if s.sec then (State.respond { s with ident := { s.ident with jobs := rest } } b.seq st).secGo else s
    | none => s
  | _ => s

/-! ### Partition release (06 R155; 14 R356) -/

/-- Lines that caches hold in a partition's windows. -/
def State.partLines (s : State) (p : Nat) : List (BitVec 48) :=
  (s.home.filter.filter (fun e => s.linePartition e.line.toNat == some p)).map (·.line)

/-- Every line that caches hold in a partition's windows is back-invalidated (14 R356). -/
def State.recall (s : State) (p : Nat) : State := eachOf (fun (l : BitVec 48) t => t.openTxn l.toNat (.giveUp p)) (s.partLines p) s

/-- PARTITION_RELEASE: only of a DISABLED partition with no pool. (DEDUCED, log 64) -/
def State.releaseCmd (s : State) (e : CmdEntry) : State :=
  s.ringCmd e 0x41 1 (fun s =>
    let p := cmdFld e 8 1
    if 15 < p ∨ s.part p ≠ .disabled ∨ (s.pool p).isSome = true then s.respond e.seq .permission
    else
      let s := State.setPart { s with releases := s.releases ++ [{ part := p, seq := e.seq }] } p .releasing
      (s.invSubmit (otherInv .release .partition p 0 0)).recall p)

/-- The invalidation and the back-invalidations of a release are over. -/
def State.releaseReady (s : State) (p : Nat) : Bool :=
  !(s.inv.held ++ s.inv.atsWait).any (fun c => c.source == .release && c.part == p)
    && !s.home.txns.any (fun t => t.req == .giveUp p) && (s.partLines p).isEmpty

/-- What SEC zeroes and resets of a partition. -/
def State.releaseScrub (s : State) (p : Nat) : State :=
  match s.partEntry p with
  | none => s
  | some e =>
    let inT (n : Nat) : Bool := inRange n e.tideFirst e.tideCount
    let s := { s with tide := { s.tide with values := s.tide.values.filter (fun x => !inT x.1) } }
    let s := eachOf (fun (n : Nat) t => t.resetSlot n) ((List.range e.combineCount).map (· + e.combineFirst)) s
    let s := { s with queues := s.queues.filter (fun x => !inRange x.1 e.queueFirst e.queueCount) }
    let s := eachOf (fun (v : Nat) t => (t.modMsixEntry v (fun x => { x with mask := true })).setPendingBit v false)
      ((List.range e.msixCount).map (· + e.msixFirst)) s
    ((s.setLanding p {}).setRoot p {}).setHoldUsed p 0

/-- Lines granted since the back-invalidations of a release began are recalled before it ends (14 R356). -/
def State.recallLate (j : ReleaseJob) (s : State) : State :=
  if s.home.txns.any (fun t => t.req == .giveUp j.part) then s else s.recall j.part

/-- PARTITION_RELEASE_COMPLETE. -/
def State.releaseEnd (s : State) : State :=
  if !s.sec then s
  else match s.releases.find? (fun j => s.releaseReady j.part) with
    | none => eachOf State.recallLate s.releases s
    | some j =>
      let s := s.releaseScrub j.part
      (State.setPart { s with releases := s.releases.erase j } j.part .disabled).respond j.seq .ok

/-! ### QUEUE_SAVE (05 R124) -/

/-- QUEUE_SAVE: the whole queue table is written to the save area. -/
def State.queueSave (s : State) (e : CmdEntry) : State :=
  s.ringCmd e 0x11 0 (fun s =>
    s.bulkStart .block none [.data (s.ownId * 2 ^ 48 + s.mgmt.saveBase.toNat) s.saveArea] (.save e.seq))

/-- The save area has been written. -/
def State.saveWritten (s : State) (seq : BitVec 32) (st : Status) : State :=
  State.respond (if st = .ok then { s with mgmt := { s.mgmt with saveValid := true } } else s) seq st

end Sys2Proof.Machine
end

