-- ==== Sys2Proof/Machine/Settle.lean ====
section
/-! DEFINITION. What follows a command by itself: the owner of each access that ended goes on, and work that waited for something now
at hand proceeds. -/

namespace Sys2Proof.Machine

/-! ### Telling owners -/

/-- A line of the near-atomic buffer leaves it when its own WRITEBACK has been answered (14 R351). (DEDUCED, log 44) -/
def State.nearGone (s : State) (line : BitVec 60) (wb : Nat) : State :=
  { s with home := { s.home with near := s.home.near.filter (fun l => !(l.line == line && l.evicting && l.wb == wb)) } }

/-- A SIGNAL sent to another instance has been answered (09 R219). -/
def State.signalBack (s : State) (c : Nat) (st : Status) : State := if st = .ok then s.workDone c else s.endEarly c st

/-- The entry read of a walk is back; it waits for WALK_ENTRY_RETURN. -/
def State.entryBack (s : State) (walk : Nat) (res : AccResult) : State := s.modWalk walk (fun w => { w with got := some res })

/-- The owner of an ended access goes on. -/
def State.tell (s : State) (a : Access) (res : AccResult) : State :=
  let s := if res.status = .sealed ∧ a.va.isSome = true then s.sealedFault a else s
  match a.purpose with
  | .engine port tag part => s.engBack port tag part res
  | .xlate port tag => s.xlateBack port tag res
  | .descFetch c => s.fetchBack c res
  | .readBurst c b => s.readBack a c b res
  | .writeBurst c => s.writeBack a c res
  | .statusWrite c => s.fenceStep c
  | .fenceWrite c => s.fenceBack c res.status
  | .seqHeader c dst => s.seqHeaderBack c dst res
  | .seqEntry c dst b => s.seqEntryBack c dst b res
  | .rangeEntry c _ => s.rangeBack c res
  | .resultProbe c last => s.probeBack c last res
  | .walkEntry w => s.entryBack w res
  | .landing p => s.landingWritten p res.status
  | .ras => s.rasBack res.status
  | .event => s.eventBack res.status
  | .journal => s.jnlBack res.status
  | .resultWrite n => s.resultBack n res.status
  | .peerServe _ tag src => s.peerServed a tag src res
  | .home t => s.homeBack t res
  | .homeWb n tag line => s.wbBack n tag line
  | .hdm n tag => s.hdmBack n tag (a.kind == .read) res
  | .nearWb line => s.nearGone line a.id
  | .table j => s.seekBack j res
  | .bulk j => s.bulkBack j res.status
  | .freeRecord who n => s.freeBack a who n res
  | .count j => s.countBack j res
  | .contribPiece c => s.pieceBack c res.status (!a.got.isEmpty)
  | .signalSend c => s.signalBack c res.status
  | .modeFence => s
  | .invFence => if res.status = .ok then s.invVector else s
  | .image => s
  | .none => s

/-- Writes in bulk have all ended: their owner goes on. -/
def State.bulkOver (s : State) (b : BulkJob) : State :=
  match b.owner with
  | .alloc id => s.jobWritten id b.status
  | .create seq p pool => (if b.status = .ok then s.setPool p (some pool) else s).respond seq b.status
  | .mend seq p pool => s.poolMend seq p pool b.status
  | .attach seq p pool => s.attachEnd seq p pool b.status
  | .add seq => s.respond seq b.status
  | .scrub seq => s.scrubWritten seq b.status
  | .save seq => s.saveWritten seq b.status

/-- Tell the owners of bulk writes that have ended. -/
def State.bulkEnds : Nat → State → State
  | 0, s => s
  | fuel + 1, s =>
    match s.bulkDone with
    | some (b, t) => State.bulkEnds fuel (t.bulkOver b)
    | none => s

/-! ### Going on -/

/-- A channel goes on with its descriptor. -/
def State.chanGo (c : Nat) (s : State) : State := State.advanceChan c (State.advanceChan c (State.takeReads c 33 s))

/-- Every channel with a descriptor goes on. -/
def State.chansGo (s : State) : State := eachOf State.chanGo ((s.chans.filter (fun e => e.2.run.isSome)).map (·.1)) s

/-- Everything that waited proceeds as far as it can. (DESIGN CHOICE, log 30) -/
def State.round (s : State) : State :=
  let s := State.bulkEnds (s.alloc.bulks.length + 1) s.modePump.secGo
  let s := eachOf State.storedIn [0, 1, 2, 3] s
  let s := s.enginePump.chansGo.shedCheck.eventWrite.stallPump
  s.presentAll.nearPump.hostHeldGo.homePump.issueHeld

/-- Owners are told, and work proceeds, until nothing ends any more. (DESIGN CHOICE, log 30) -/
def State.settleFor : Nat → State → State
  | 0, s => s
  | fuel + 1, s =>
    match s.ended with
    | (a, r) :: rest => State.settleFor fuel (State.tell { s with ended := rest } a r)
    | [] =>
      let t := s.round.round
      if t.ended.isEmpty then t.ungate else State.settleFor fuel t

/-- What follows a command by itself. (DESIGN CHOICE, log 6; DESIGN CHOICE, log 30) -/
def State.settle (s : State) : State := State.settleFor (s.accesses.length + s.ended.length + 64) s

end Sys2Proof.Machine
end

