-- ==== Sys2Proof/Machine/Cycle.lean ====
section
/-! DEFINITION. The passing of one root cycle: what the block does on an empty queue (DESIGN CHOICE, log 3). -/

namespace Sys2Proof.Machine

/-- CTRL cycles at which a core's watchdog expires: its period, and never fewer than 0x0010_0000 (05 R107). -/
def Core.wdtLimit (k : Core) : Nat := max k.period.toNat 0x00100000

/-- A CTRL cycle of a slice: the watchdogs of its running cores count (05 R107; 01 R14). (DESIGN CHOICE, log 70) -/
def State.wdtTick (s : State) (sl : Slice) : State :=
  { s with cores := s.cores.map (fun e =>
    if e.2.state = .running ∧ coreSlice e.1 = sl then (e.1, { e.2 with wdt := e.2.wdt + 1 }) else e) }

/-- A slice is at the start of a CTRL cycle. -/
def State.ctrlStart (s : State) (sl : Slice) : Bool := (s.clock sl).porN && (s.clock sl).ctrl == 0

/-- The cores whose watchdog has counted its period out. -/
def State.wdtDue (s : State) : List Nat :=
  (List.range 7).filter (fun c => (s.core c).state == .running && decide ((s.core c).wdtLimit ≤ (s.core c).wdt))

/-- The clocks of the three slices move on by one root cycle, and the watchdogs count. (DESIGN CHOICE, log 3) -/
def State.count (s : State) : State :=
  let s := ((s.modClock .sh (ClockState.tick .sh)).modClock .en (ClockState.tick .en)).modClock .hd (ClockState.tick .hd)
  let s := if s.ctrlStart .sh then s.wdtTick .sh else s
  if s.ctrlStart .hd then s.wdtTick .hd else s

/-- One root cycle of every slice; a watchdog that has counted its period out expires.
(DESIGN CHOICE, log 3; DESIGN CHOICE, log 70) -/
def State.tick (s : State) : State :=
  let t := s.count
  if t.wdtDue.isEmpty then t else State.settle (eachOf (fun (c : Nat) u => u.wdtExpired c) t.wdtDue t)

end Sys2Proof.Machine
end

