-- ==== Sys2Proof/Machine/Reach.lean ====
section
/-! DEFINITION. The register space: mapped ranges, which slice holds an address, and which paths reach it (17 R409-R414;
02 R33, R35, R47). -/

namespace Sys2Proof.Machine

/-- The address lies in a mapped range (17 R409). -/
def mapped (a : Nat) : Bool :=
  decide (a < 0x060000) || inRange a 0x100000 0x10000 || inRange a 0x200000 0x14000 || inRange a 0x220000 0xD0000
    || inRange a 0x2E0000 0x10000 || inRange a 0x300000 0x300

/-- The slice that holds a mapped address. -/
def sliceOfAddr (a : Nat) : Slice :=
  if a < 0x100000 then .sh
  else if a < 0x200000 then .en
  else if a < 0x300000 then .hd
  else if a < 0x300100 then .sh
  else if a < 0x300200 then .en
  else .hd

/-- Step 3 of the start has ended, so that EN and HD addresses are mapped (17 R414). -/
def State.farMapped (s : State) : Bool := s.start.warm || s.start.ready || decide (4 ≤ s.start.step)

/-- The slice answers: it is out of cold reset, its slice link carries groups and neither end has lost its clock (02 R47). -/
def State.sliceAnswers (s : State) (sl : Slice) : Bool :=
  (s.clock .sh).porN && (match sl with
    | .sh => true
    | .en => (s.clock .en).porN && (s.link .slC).up && !(s.link .slC).down && !(s.clock .sh).dead.getLsbD 7
        && !(s.clock .en).dead.getLsbD 1
    | .hd => (s.clock .hd).porN && (s.link .slA).up && !(s.link .slA).down && !(s.clock .sh).dead.getLsbD 6
        && !(s.clock .hd).dead.getLsbD 0)

/-- The address is mapped now and aligned. -/
def State.addressed (s : State) (a : Nat) : Bool := mapped a && a % 4 == 0 && (sliceOfAddr a == .sh || s.farMapped)

/-- The host port serves a BAR0 access of the address: all of them, but in a warm start only the SH global range (02 R35).
(DEDUCED, log 12) -/
def State.bar0Serves (s : State) (n a : Nat) : Bool :=
  (s.host n).readyOut && (!(s.warmStart || s.warmReset) || decide (a < 0x10000))

/-- An access of the path reaches the register at the address (17 R410, R414). The control port and the firmware cores are in CTRL
(01; 05 R101), and reach no slice over a lost CORE-CTRL boundary (02 R47; 03 R66). (DESIGN CHOICE, log 112) -/
def State.reach (s : State) (path : Path) (a : Nat) : Bool :=
  s.addressed a && s.sliceAnswers (sliceOfAddr a) && (match path with
    | .cp => !s.ctrlLost .sh && !s.ctrlLost (sliceOfAddr a)
    | .bar0 n => s.bar0Serves n a
    | .core c => !s.ctrlLost (coreSlice c) && !s.ctrlLost (sliceOfAddr a) && ((s.core c).state == .running || (c.val == 0 && decide (2 ≤ s.start.step))))

/-- What the requester of an access that reaches no register is told: an error on the control port, Unsupported Request at a
host port for an address it does not serve (02 R33, R35, R47). (DESIGN CHOICE, log 11; DEDUCED, log 12) -/
def State.unreached (s : State) (path : Path) (a : Nat) : State :=
  match path with
  | .cp => if (s.clock .sh).porN then s.drive (.cpRsp 0 true) else s
  | .bar0 n => if (s.host n).readyOut && !(s.addressed a && s.bar0Serves n a) then s.drive (.cplUr n) else s
  | .core _ => s

/-- A write response, which only the control port gives: BAR0 writes are posted (17 R411). (DESIGN CHOICE, log 11) -/
def State.written (s : State) (path : Path) : State :=
  match path with
  | .cp => s.drive .cpWritten
  | _ => s

/-- A register write of a path: its effect where the register is reached. (DEDUCED, log 69) -/
def State.onPath (s : State) (path : Path) (a : Nat) (f : State → State) : State :=
  if s.reach path a then (f s).written path else s.unreached path a

/-- BAR0_INVALID_ACCESS: wrong size, misaligned, unmapped, or not served in a warm start. (DEDUCED, log 12) -/
def State.bar0Invalid (s : State) (n a size : Nat) : State :=
  if (s.host n).readyOut && (size != 4 || !s.addressed a || !s.bar0Serves n a) then s.drive (.cplUr n) else s

/-- CONTROL_PORT_INVALID_ACCESS: unmapped or misaligned. -/
def State.cpInvalid (s : State) (a : Nat) : State :=
  if (s.clock .sh).porN && !s.addressed a then s.drive (.cpRsp 0 true) else s

/-- CONTROL_PORT_TARGET_LOST: the address is mapped and its slice has lost its link or clock. -/
def State.cpLost (s : State) (a : Nat) : State :=
  if (s.clock .sh).porN && s.addressed a && (!s.sliceAnswers (sliceOfAddr a) || s.ctrlLost .sh || s.ctrlLost (sliceOfAddr a)) then s.drive (.cpRsp 0 true) else s

end Sys2Proof.Machine
end

