-- ==== Sys2Proof/Machine/ExecChannel.lean ====
section
/-! DEFINITION. Meanings of the commands of descriptors, bursts, tide counters, the allocator and combining. -/

namespace Sys2Proof.Machine

/-- COPY (R213). -/
def execCopy (c : Fin 64) (s : State) : Host.Outcome State Fault Refusal :=
  .next (State.settle (s.beginOp c 1))

/-- FILL (R214). -/
def execFill (c : Fin 64) (s : State) : Host.Outcome State Fault Refusal :=
  .next (State.settle (s.beginOp c 2))

/-- COMPARE (R215). -/
def execCompare (c : Fin 64) (s : State) : Host.Outcome State Fault Refusal :=
  .next (State.settle (s.beginOp c 3))

/-- REDUCE (R221). -/
def execReduce (c : Fin 64) (s : State) : Host.Outcome State Fault Refusal :=
  .next (State.settle (s.beginOp c 4))

/-- MERGE (R221). -/
def execMerge (c : Fin 64) (s : State) : Host.Outcome State Fault Refusal :=
  .next (State.settle (s.beginOp c 5))

/-- SIGNAL (R219). -/
def execSignal (c : Fin 64) (s : State) : Host.Outcome State Fault Refusal :=
  .next (State.settle (s.beginSignal c))

/-- WAIT (R220). -/
def execWait (c : Fin 64) (s : State) : Host.Outcome State Fault Refusal :=
  .next (State.settle (s.beginWait c))

/-- HASH (R216). -/
def execHash (c : Fin 64) (s : State) : Host.Outcome State Fault Refusal :=
  .next (State.settle (s.beginOp c 8))

/-- GATHER_SEQ (R218). -/
def execGatherSeq (c : Fin 64) (s : State) : Host.Outcome State Fault Refusal :=
  .next (State.settle (s.beginOp c 9))

/-- LINK (R222). -/
def execLink (c : Fin 64) (s : State) : Host.Outcome State Fault Refusal :=
  .next (State.settle (s.beginLink c))

/-- ALLOC (R148). -/
def execAlloc (c : Fin 64) (s : State) : Host.Outcome State Fault Refusal :=
  .next (State.settle (s.beginAlloc c))

/-- RELEASE (R151), of channel 16 · cluster + k. -/
def execRelease (cluster : Fin 4) (k : Fin 16) (s : State) : Host.Outcome State Fault Refusal :=
  .next (State.settle (s.beginRelease (16 * cluster + k)))

/-- ALLOCATOR_SLOW_PATH (R148). -/
def execAllocatorSlowPath (s : State) : Host.Outcome State Fault Refusal :=
  .next (State.settle (s.slowPath))

/-- JOURNAL_ROOM (R148). -/
def execJournalRoom (s : State) : Host.Outcome State Fault Refusal :=
  .next (State.settle (s.roomFreed))

/-- HD_JNL_CONS_WRITE (R149). -/
def execHdJnlConsWrite (path : Path) (value : BitVec 32) (s : State) : Host.Outcome State Fault Refusal :=
  .next (s.onPath path (0x20020C) (fun t => t.jnlConsWrite value))

/-- BURST_GRANT (R230). -/
def execBurstGrant (k : Fin 4) (wr : Bool) (s : State) : Host.Outcome State Fault Refusal :=
  .next (State.settle (s.grantBurst k wr))

/-- READ_BURST_RETURN (R227). -/
def execReadBurstReturn (c : Fin 64) (burst : Nat) (s : State) : Host.Outcome State Fault Refusal :=
  .next (State.settle ((s.burstArrive c burst).modeNote c))

/-- DESCRIPTOR_END (R224). -/
def execDescriptorEnd (c : Fin 64) (s : State) : Host.Outcome State Fault Refusal :=
  .next (State.settle (s.endDesc c))

/-- PACE_SAMPLE (R228). -/
def execPaceSample (c : Fin 64) (s : State) : Host.Outcome State Fault Refusal :=
  .next (State.settle (s.paceSample c))

/-- PACE_TIMEOUT (R228). -/
def execPaceTimeout (c : Fin 64) (s : State) : Host.Outcome State Fault Refusal :=
  .next (State.settle (s.paceExpired c))

/-- TIDEMARK_REACHED (R319). -/
def execTidemarkReached (w : Waiter) (s : State) : Host.Outcome State Fault Refusal :=
  .next (State.settle (s.tidemark w))

/-- WAIT_LIMIT_EXPIRY (R220). (DESIGN CHOICE, log 29) -/
def execWaitLimitExpiry (w : Waiter) (s : State) : Host.Outcome State Fault Refusal :=
  .next (State.settle (s.waitLimit w))

/-- HD_TIDE_LO_WRITE (R321). -/
def execHdTideLoWrite (path : Path) (n : Fin 65536) (value : BitVec 32) (s : State) : Host.Outcome State Fault Refusal :=
  .next (s.onPath path (0x240000 + 8 * n.val) (fun t => t.tideLoWrite path n value))

/-- HD_TIDE_HI_WRITE (R321). -/
def execHdTideHiWrite (path : Path) (n : Fin 65536) (value : BitVec 32) (s : State) : Host.Outcome State Fault Refusal :=
  .next (s.onPath path (0x240004 + 8 * n.val) (fun t => t.tideHiWrite path n value))

/-- HD_TIDE_MODE_WRITE (R334). -/
def execHdTideModeWrite (path : Path) (w : Fin 2048) (value : BitVec 32) (s : State) : Host.Outcome State Fault Refusal :=
  .next (s.onPath path (0x201000 + 4 * w.val) (fun t => t.tideModeWrite w value))

/-- CONTRIBUTION_PIECE (R294). -/
def execContributionPiece (c : Fin 64) (s : State) : Host.Outcome State Fault Refusal :=
  .next (State.settle (s.localPiece c))

/-- COMBINE_FOLD (R297). -/
def execCombineFold (sl : Fin 4096) (s : State) : Host.Outcome State Fault Refusal :=
  .next (State.settle (s.slotFold sl))

/-- COMBINE_TIMEOUT (R300). -/
def execCombineTimeout (sl : Fin 4096) (s : State) : Host.Outcome State Fault Refusal :=
  .next (State.settle (s.slotTimeout sl))

end Sys2Proof.Machine
end

