-- ==== Sys2Proof/Machine/Told.lean ====
section
/-! DEFINITION. What the parent is told when a start ends (12 R286). -/

namespace Sys2Proof.Machine

/-- The start has become ready or has stopped: STATUS goes to the manager above. (DEDUCED, log 72) -/
def State.startTold (s old : State) : State :=
  if (s.start.ready && !old.start.ready) || (s.start.stopped && !old.start.stopped) then s.statusUp 3 else s

end Sys2Proof.Machine
end

