-- ==== Sys2Proof/Machine/ExecChart.lean ====
section
/-! DEFINITION. Meanings of the chart, firmware and watchdog commands. -/

namespace Sys2Proof.Machine

/-- A manager above hears that the chart checks ended (12 R286). (DEDUCED, log 72) -/
def State.chartTold (s old : State) : State :=
  if old.chart.state == .checking && s.chart.state != .checking then s.statusUp 1 else s

/-- A manager above hears that a load ended. (DEDUCED, log 72) -/
def State.imageTold (s old : State) : State := if old.fw.busy && !s.fw.busy then s.statusUp 2 else s

/-- SH_CHART_BEGIN (R417). -/
def execShChartBegin (path : Path) (s : State) : Host.Outcome State Fault Refusal :=
  .next (s.onPath path (0x30) (fun t => t.chartBeginReg))

/-- SH_CHART_DATA_WRITE (R91). -/
def execShChartDataWrite (path : Path) (data : BitVec 32) (s : State) : Host.Outcome State Fault Refusal :=
  .next (s.onPath path (0x34) (fun t => t.chartData data))

/-- SH_CHART_COMMIT (R91). -/
def execShChartCommit (path : Path) (s : State) : Host.Outcome State Fault Refusal :=
  .next (s.onPath path (0x30) (fun t => t.chartCommit 1))

/-- CHART_CHECK_COMPLETE (R87). -/
def execChartCheckComplete (s : State) : Host.Outcome State Fault Refusal :=
  .next ((s.chartCheck.startTold s).chartTold s)

/-- FW_LOAD (R102). -/
def execFwLoad (path : Path) (cores : BitVec 7) (s : State) : Host.Outcome State Fault Refusal :=
  .next (s.onPath path (0x30108) (fun t => t.fwLoadGo cores))

/-- FW_RELOAD (R106). -/
def execFwReload (path : Path) (cores : BitVec 7) (s : State) : Host.Outcome State Fault Refusal :=
  .next (s.onPath path (0x30108) (fun t => t.fwReloadGo cores))

/-- IMAGE_VERIFY_COMPLETE (R104). -/
def execImageVerifyComplete (image : ReadResult) (s : State) : Host.Outcome State Fault Refusal :=
  .next (State.settle (((s.imageVerified image).startTold s).imageTold s))

/-- WATCHDOG_KICK (R107). -/
def execWatchdogKick (path : Path) (c : Fin 7) (value : BitVec 32) (s : State) : Host.Outcome State Fault Refusal :=
  .next (s.onPath path (0x30008 + 32 * c.val) (fun t => t.kick path c value))

/-- WATCHDOG_EXPIRY (R107). (DESIGN CHOICE, log 70) -/
def execWatchdogExpiry (c : Fin 7) (s : State) : Host.Outcome State Fault Refusal :=
  .next (State.settle (s.wdtExpired c))

end Sys2Proof.Machine
end

