-- ==== Sys2Proof/Machine/ExecEngine.lean ====
section
/-! DEFINITION. Meanings of the commands of the engine ports and the memory ports. -/

namespace Sys2Proof.Machine

/-- TRANSLATE (R40). -/
def execTranslate (e : Fin 8) (rq : EngineReq) (s : State) : Host.Outcome State Fault Refusal :=
  .next (State.settle (s.engAccept e .translate rq))

/-- READ (R40). -/
def execRead (e : Fin 8) (rq : EngineReq) (s : State) : Host.Outcome State Fault Refusal :=
  .next (State.settle (s.engAccept e .read rq))

/-- WRITE (R40). -/
def execWrite (e : Fin 8) (rq : EngineReq) (s : State) : Host.Outcome State Fault Refusal :=
  .next (State.settle (s.engAccept e .write rq))

/-- ATOMIC (R349). -/
def execAtomic (e : Fin 8) (rq : EngineReq) (s : State) : Host.Outcome State Fault Refusal :=
  .next (State.settle (s.engAccept e .atomic rq))

/-- ENGINE_DOORBELL (R133). -/
def execEngineDoorbell (e : Fin 8) (rq : EngineReq) (s : State) : Host.Outcome State Fault Refusal :=
  .next (State.settle (s.engAccept e .doorbell rq))

/-- TIDE_WAIT (R325). -/
def execTideWait (e : Fin 8) (rq : EngineReq) (s : State) : Host.Outcome State Fault Refusal :=
  .next (State.settle (s.engAccept e .tideWait rq))

/-- ENGINE_ALLOC (R148). -/
def execEngineAlloc (e : Fin 8) (rq : EngineReq) (s : State) : Host.Outcome State Fault Refusal :=
  .next (State.settle (s.engAccept e .alloc rq))

/-- ENGINE_FREE (R151). -/
def execEngineFree (e : Fin 8) (rq : EngineReq) (s : State) : Host.Outcome State Fault Refusal :=
  .next (State.settle (s.engAccept e .free rq))

/-- ENGINE_UNKNOWN_OP (R40). -/
def execEngineUnknownOp (e : Fin 8) (op : BitVec 4) (rq : EngineReq) (s : State) : Host.Outcome State Fault Refusal :=
  .next (State.settle (s.engUnknown e op rq))

/-- ENGINE_WRITE_BEAT (R39): en_wd_be comes in its two halves. -/
def execEngineWriteBeat (e : Fin 8) (tag : Byte) (data : Bytes) (beHi beLo : BitVec 64) (s : State) : Host.Outcome State Fault Refusal :=
  .next (State.settle (s.engBeat { port := e.val, tag := tag, data := data, be := beHi ++ beLo }))

/-- MEMORY_READ_RETURN (R44). (DEDUCED, log 8) -/
def execMemoryReadReturn (m : Fin 4) (tag : BitVec 10) (data : Bytes) (poison : BitVec 8) (err : Bool) (s : State) : Host.Outcome State Fault Refusal :=
  .next (State.settle (s.memReturned m tag data poison err))

/-- MEMORY_WRITE_ACK (R43). (DEDUCED, log 8) -/
def execMemoryWriteAck (m : Fin 4) (tag : BitVec 10) (err : Bool) (s : State) : Host.Outcome State Fault Refusal :=
  .next (State.settle (s.memAcked m tag err))

/-- MEMORY_PORT_TIMEOUT (R44). (DESIGN CHOICE, log 29) -/
def execMemoryPortTimeout (m : Fin 4) (tag : BitVec 10) (s : State) : Host.Outcome State Fault Refusal :=
  .next (State.settle (s.memExpired m tag))

/-- ENGINE_PORT_ENABLE (R143). -/
def execEnginePortEnable (path : Path) (e : Fin 8) (s : State) : Host.Outcome State Fault Refusal :=
  .next (s.onPath path (0x100E00 + 4 * e.val) (fun t => t.portEnableOn e))

/-- ENGINE_PORT_DISABLE (R143). -/
def execEnginePortDisable (path : Path) (e : Fin 8) (s : State) : Host.Outcome State Fault Refusal :=
  .next (State.settle (s.onPath path (0x100E00 + 4 * e.val) (fun t => t.portEnableOff e)))

/-- TOKEN_BUCKET_REFILL (R404). -/
def execTokenBucketRefill (t : Fin 4) (s : State) : Host.Outcome State Fault Refusal :=
  .next (State.settle (s.tokenRefill t.val))

end Sys2Proof.Machine
end

