-- ==== Sys2Proof/Machine/Regs.lean ====
section
/-! DEFINITION. What a register reads (17 R409-R421 and the register tables of the chapters), and the latches of a read (17 R413).
Register reads are no row of the table of operations; the function stands for them. -/

namespace Sys2Proof.Machine

/-- The low and high word of a 64-bit value. -/
def lo32 (v : Nat) : Nat := v % 2 ^ 32

/-- The high word. -/
def hi32 (v : Nat) : Nat := v / 2 ^ 32 % 2 ^ 32

/-- Half `i` of a value: 0 the low word. -/
def half (v i : Nat) : Nat := if i = 0 then lo32 v else hi32 v

/-- A vector register: bit 31 valid, the vector below. -/
def vecWord (valid : Bool) (v : BitVec 11) : Nat := 2 ^ 31 * b2n valid + v.toNat

/-! ### SH global, doorbells, peers (17; 06; 11) -/

/-- SH_PORT_STATUS. -/
def State.portStatus (s : State) : Nat :=
  maskOf ([0, 1].map (fun n => (s.host n).readyOut) ++ [0, 1].map (fun n => (s.host n).linkUp)
    ++ [0, 1, 2, 3].map (fun p => (s.peer p).readyOut) ++ [Link.slA, .slB, .slC].map (fun l => (s.link l).up)
    ++ [false] ++ [Link.slA, .slB, .slC].map (fun l => (s.link l).down))

/-- SH_FENCED_UNITS. -/
def State.fencedUnits (s : State) : Nat :=
  s.fenced.engine.toNat + s.fenced.host.toNat * 2 ^ 8 + s.fenced.peer.toNat * 2 ^ 10 + s.fenced.memory.toNat * 2 ^ 14
    + s.fenced.cores.toNat * 2 ^ 18

/-- A register of 0x00_0000 to 0x00_FFFF. -/
def State.readGlobal (s : State) (a : Nat) : Nat :=
  match a with
  | 0x00 => 0x00CAE001
  | 0x04 => 0x01020000
  | 0x08 => 2 ^ 31 * b2n s.charted + bits s.theChart.role.toNat 1 0 * 2 ^ 16 + s.ownId
  | 0x10 => 0xFFF
  | 0x20 => s.startWord.toNat
  | 0x24 => half s.fenced.channels.toNat 0
  | 0x28 => half s.fenced.channels.toNat 1
  | 0x2C => s.fencedUnits
  | 0x38 => chartStateCode s.chart.state + s.chart.source.toNat * 2 ^ 8 + s.chart.code.toNat * 2 ^ 16 + s.chart.section_.toNat * 2 ^ 24
  | 0x3C => s.chart.offset.toNat
  | 0x40 => s.portStatus
  | 0x44 => b2n (s.fuses.policy.getLsbD 0) + 2 ^ 31 * b2n s.fuses.sampled
  | 0x48 => s.fenced.walkers.toNat
  | 0x4C => s.fenced.lanes.toNat
  | 0x50 => s.irq.status.toNat
  | 0x54 => s.irq.enable.toNat
  | 0x58 => vecWord s.irq.vecValid s.irq.vector
  | 0x60 => s.ras.logCount.toNat
  | _ => if inRange a 0x1000 0x400 then fld (tabGet [] s.ras.log ((a - 0x1000) / 64)) (a % 64) 4 else 0

/-- The code of a peer port's state. -/
def peerStateCode : PeerState → Nat
  | .down => 0
  | .keying => 1
  | .up => 2
  | .failed => 3
  | .clockLost => 4

/-- Keys are installed on both directions. -/
def PeerPort.keyed (x : PeerPort) : Bool := x.txKey.isSome && x.rxKey.isSome

/-- A register of 0x02_0000 to 0x02_FFFF, by offset. -/
def State.readPeer (s : State) (o : Nat) : Nat :=
  if o < 0x100 then
    let x := s.peer (o / 64)
    match o % 64 with
    | 0x00 => b2n x.keyed + peerStateCode x.state * 16
    | 0x04 => x.replay.toNat
    | 0x08 => x.hdrDrop.toNat
    | 0x0C => x.misroute.toNat
    | 0x10 => x.late.toNat
    | 0x14 => x.creditErr.toNat
    | _ => 0
  else if o = 0x100 then s.outstanding
  else if o = 0x104 then s.unreach.toNat
  else if inRange o 0x1000 0x800 then
    (List.range 8).foldr (fun j t => 16 * t + (s.routeMask ((o - 0x1000) / 4 * 8 + j)).toNat) 0
  else 0

/-! ### Firmware, rings, identity, MSI-X (05; 15; 17) -/

/-- The code of a core's state. -/
def coreStateCode : CoreState → Nat
  | .held => 0
  | .verified => 1
  | .running => 2
  | .watchdog => 3
  | .fenced => 4

/-- A register of 0x03_0000 to 0x03_FFFF, by offset. -/
def State.readFw (s : State) (o : Nat) : Nat :=
  if o < 0xE0 then
    let k := s.core (o / 32)
    match o % 32 with
    | 0x00 => coreStateCode k.state + statusCode k.result * 2 ^ 8 + k.expiries.toNat * 2 ^ 16
    | 0x04 => k.period.toNat
    | _ => 0
  else match o with
  | 0x100 => half s.fw.addr.toNat 0
  | 0x104 => half s.fw.addr.toNat 1
  | 0x10C => statusCode s.fw.result + 2 ^ 16 * b2n s.fw.busy
  | 0x200 => half s.mgmt.cmdBase.toNat 0
  | 0x204 => half s.mgmt.cmdBase.toNat 1
  | 0x208 => s.mgmt.cmdProd.toNat
  | 0x20C => s.mgmt.cmdCons.toNat
  | 0x210 => half s.mgmt.evtBase.toNat 0
  | 0x214 => half s.mgmt.evtBase.toNat 1
  | 0x218 => s.mgmt.evtProd.toNat
  | 0x21C => s.mgmt.evtCons.toNat
  | 0x220 => vecWord s.mgmt.vecValid s.mgmt.vector
  | 0x224 => s.mgmt.overrun.toNat
  | 0x240 => half s.mgmt.saveBase.toNat 0
  | 0x244 => half s.mgmt.saveBase.toNat 1 + 2 ^ 31 * b2n s.mgmt.saveValid
  | _ => if inRange o 0x230 0x10 then lo32 (s.mgmt.agreed.toNat / 2 ^ (8 * (o - 0x230))) else 0

/-- SH_ID_STATUS. -/
def State.idStatus (s : State) : Nat :=
  maskOf [s.ident.entropyFail, s.ident.cdiDev.isSome, s.ident.cdiAlias.isSome,
    (match s.ident.session with
      | .live _ => true
      | _ => false), s.ident.endorsed, s.ident.chainOk]

/-- A word of a region's view. (DEDUCED, log 27) -/
def regionWord (r : Region) (o : Nat) : Nat :=
  match o with
  | 0x00 => maskOf [true, r.intact, r.sealed] + r.part * 2 ^ 8
  | 0x04 => half r.va.toNat 0
  | 0x08 => half r.va.toNat 1
  | 0x0C => half r.len.toNat 0
  | 0x10 => half r.len.toNat 1
  | 0x14 => half r.base.toNat 0
  | 0x18 => half r.base.toNat 1
  | 0x1C => half r.seq.toNat 0
  | 0x20 => half r.seq.toNat 1
  | _ => if inRange o 0x40 0x30 then fld r.root (o - 0x40) 4 else 0

/-- A register of 0x04_0000 to 0x04_FFFF, by offset, but for the latched high half of SH_MEAS_SEQ.
(PRESUMED, log 20; DEDUCED, log 27) -/
def State.readIdent (s : State) (path : Path) (o : Nat) : Nat :=
  match o with
  | 0x00 => s.idStatus
  | 0x0C => half s.ident.chainAddr.toNat 0
  | 0x10 => half s.ident.chainAddr.toNat 1
  | 0x14 => s.ident.chainLen.toNat
  | 0x18 => half s.ident.measSeq.toNat 0
  | 0x1C => (s.latch (pathIx path)).measHi.toNat
  | _ =>
    if inRange o 0x40 0x10 then
      let x := s.peer ((o - 0x40) / 4)
      x.far.toNat + 2 ^ 12 * b2n x.keyed + 2 ^ 13 * b2n x.auth
    else if inRange o 0x100 0x60 then fld s.ident.devPub (o - 0x100) 4
    else if inRange o 0x180 0x60 then fld s.ident.aliasPub (o - 0x180) 4
    else if inRange o 0x1000 0x2000 then (s.region ((o - 0x1000) / 128)).elim 0 (fun r => regionWord r (o % 128))
    else if inRange o 0xF000 0x1000 then
      (if s.ident.doeReady.isNone then 0 else (Config.doeWord s.ident.doeNo ((o - 0xF000) / 4)).toNat)
    else 0

/-- A register of 0x05_0000 to 0x05_FFFF, by offset. -/
def State.readMsix (s : State) (o : Nat) : Nat :=
  if o < 0x8000 then
    let e := s.msixEntry (o / 16)
    match o % 16 with
    | 0x0 => half e.addr.toNat 0
    | 0x4 => half e.addr.toNat 1
    | 0x8 => e.data.toNat
    | _ => b2n e.mask
  else if o < 0x8100 then maskOf ((List.range 32).map (fun b => s.pendingBit ((o - 0x8000) / 4 * 32 + b)))
  else 0

/-! ### EN (06; 07; 08) -/

/-- EN_WALK_STATUS. -/
def State.walkStatus (s : State) : Nat :=
  s.usableWalkers + s.poolSize * 2 ^ 8 + s.trans.walks.countP (fun w => w.walker.isSome) * 2 ^ 16

/-- The landing registers of a partition, by offset. -/
def Landing.word (l : Landing) (o : Nat) : Nat :=
  match o with
  | 0x00 => half l.base.toNat 0
  | 0x04 => half l.base.toNat 1
  | 0x08 => l.sizeLog2.toNat + 2 ^ 31 * b2n l.valid
  | 0x0C => l.prod.toNat
  | 0x10 => l.cons.toNat
  | 0x14 => l.lost.toNat
  | _ => 0

/-- The invalidation registers, by offset from 0xC00. -/
def State.invWord (s : State) (o : Nat) : Nat :=
  match o with
  | 0x00 => half s.inv.va.toNat 0
  | 0x04 => half s.inv.va.toNat 1
  | 0x08 => s.inv.pages.toNat
  | 0x10 => s.inv.issued.toNat
  | 0x14 => s.inv.completed.toNat
  | 0x18 => b2n (!s.inv.held.isEmpty) + s.inv.accept.toNat * 2 + statusCode s.inv.lastRes * 2 ^ 8 + s.inv.held.length * 2 ^ 16
  | 0x1C => s.inv.late.toNat
  | 0x20 => half s.inv.fence.toNat 0
  | 0x24 => half s.inv.fence.toNat 1
  | 0x28 => vecWord s.inv.vecValid s.inv.vector
  | _ => 0

/-- A register of 0x10_0000 to 0x10_FFFF, by offset. -/
def State.readEn (s : State) (o : Nat) : Nat :=
  if o < 0x80 then
    let r := s.root (o / 8)
    if o % 8 = 0 then half r.pa.toNat 0 + b2n r.valid else half r.pa.toNat 1
  else if inRange o 0x100 0x40 then
    let w := s.hostWin ((o - 0x100) / 16)
    match o % 16 with
    | 0x0 => w.base.toNat + 2 ^ 30 * b2n w.port + 2 ^ 31 * b2n w.enable
    | 0x4 => w.size.toNat
    | 0x8 => half w.hpa.toNat 0
    | _ => half w.hpa.toNat 1
  else if inRange o 0x400 0x400 then
    let r := s.sealRange ((o - 0x400) / 16)
    match o % 16 with
    | 0x0 => half r.base.toNat 0 + b2n r.valid
    | 0x4 => half r.base.toNat 1
    | 0x8 => half r.size.toNat 0
    | _ => half r.size.toNat 1
  else if inRange o 0x800 0x200 then (s.landing ((o - 0x800) / 32)).word (o % 32)
  else if inRange o 0xC00 0x100 then s.invWord (o - 0xC00)
  else if inRange o 0xD40 0x28 then
    maskOf ((List.range 32).map (fun b =>
      let st := (o - 0xD40) / 4 * 32 + b
      decide (st < 316) && (s.stall st).state != .running))
  else if inRange o 0xE00 0x20 then
    let e := (o - 0xE00) / 4
    b2n (s.portOn e) + 2 * b2n (s.engReqs.any (fun r => r.port == e))
  else match o with
  | 0x180 => s.walkStatus
  | 0x184 => s.trans.l2Hit.toNat
  | 0x188 => s.trans.l2Miss.toNat
  | 0x18C => s.trans.walkReads.toNat
  | 0x190 => s.trans.checkFail.toNat
  | 0x194 => s.trans.atsInv.toNat
  | 0xD04 => s.stale.toNat
  | _ => 0

/-! ### HD (06; 09; 10; 12; 13; 14; 16) -/

/-- The code of a partition's state (06 R127). -/
def partStateCode : PartState → Nat
  | .absent => 0
  | .disabled => 1
  | .enabled => 2
  | .stopping => 3
  | .aborting => 4
  | .releasing => 5

/-- A descriptor or an engine request of the partition waits on a translation fault. -/
def State.partFault (s : State) (p : Nat) : Bool :=
  s.stalls.any (fun e => e.2.state != .running && e.2.misses.any (fun m => m.part == p))

/-- Contributions of the partition are in flight, or a slot of it holds parked ones. -/
def State.partCombine (s : State) (p : Nat) : Bool :=
  (s.partChans p).any (fun c => ((s.chan c).run.elim false (fun r => decide (0 < r.cmb.open_))) || !(s.chan c).pieces.isEmpty)
    || s.cmb.slots.any (fun e => s.slotOwner e.1 == some p && !e.2.parked.isEmpty)

/-- HD_PART_WAIT. -/
def State.partWait (s : State) (p : Nat) : Nat :=
  maskOf [(s.partChans p).any (fun c => (s.chan c).run.isSome), s.partCombine p, s.engReqs.any (fun r => s.reqPart r == p), s.partFault p]

/-- The code of a channel's state. -/
def chStateCode : ChState → Nat
  | .unused => 0
  | .disabled => 1
  | .enabled => 2
  | .stopping => 3
  | .aborting => 4
  | .fenced => 5

/-- A read or a write burst of the channel is ready but for hold quota. -/
def State.quotaWait (s : State) (c : Nat) : Bool :=
  !s.holdFree (quotaOf (s.chanPart c)) 256 && (match (s.chan c).run with
    | some r => s.burstOpen c r && (s.readAtHand c r || s.writeAtHand c r)
    | none => false)

/-- HD_CH_RUN; a descriptor that waits for its pace level, that has only been checked, or that ends without having begun has not
started (09 R223). (DEDUCED, log 66) -/
def State.chanRun (s : State) (c : Nat) : Nat :=
  match (s.chan c).run with
  | some r =>
    let on := !r.unstarted
    (if on then dOp r.words else 0) + (r.queue.getD 0xFFF) * 2 ^ 16 + 2 ^ 28 * b2n (r.phase == .waiting || s.quotaWait c)
      + 2 ^ 29 * b2n ((s.stall (256 + c)).state != .running) + 2 ^ 30 * b2n (r.paused || r.phase == .paceWait) + 2 ^ 31 * b2n on
  | none => 0xFFF * 2 ^ 16 + 2 ^ 29 * b2n ((s.stall (256 + c)).state != .running)

/-- The management ring of a channel, by offset. -/
def Channel.ringWord (ch : Channel) (o : Nat) : Nat :=
  match o with
  | 0x40 => half ch.mBase.toNat 0
  | 0x44 => half ch.mBase.toNat 1
  | 0x48 => ch.mSizeLog2.toNat + ch.mPriority.toNat * 2 ^ 24
  | 0x4C => ch.mCons.toNat
  | 0x50 => ch.mProd.toNat
  | _ => 0

/-- The registers of a channel, by offset. (DEDUCED, log 66) -/
def State.chanWord (s : State) (c o : Nat) : Nat :=
  let ch := s.chan c
  let desc := (ch.run.map (fun r => if r.unstarted then 0 else r.addr.toNat)).getD 0
  match o with
  | 0x00 => b2n ch.enable + chStateCode ch.state * 16
  | 0x04 => s.chanRun c
  | 0x08 => ch.count.toNat
  | 0x0C => ch.under.toNat
  | 0x10 => half ch.paceBase.toNat 0
  | 0x14 => half ch.paceBase.toNat 1
  | 0x18 => ch.paceShift.toNat
  | 0x1C => ch.paceLevel.toNat
  | 0x20 => roundDown (half desc 0) 128
  | 0x24 => half desc 1 % 2 ^ 25
  | 0x28 => half ch.cmpFirst.toNat 0
  | 0x2C => half ch.cmpFirst.toNat 1
  | 0x30 => half ch.wrBytes.toNat 0
  | 0x34 => half ch.wrBytes.toNat 1
  | _ => if mgmtChan c then ch.ringWord o else 0

/-- The 32 bytes of a queue entry, by offset. -/
def State.queueWord (s : State) (q o : Nat) : Nat :=
  let k := s.queue q
  match o with
  | 0x00 => half k.base.toNat 0
  | 0x04 => half k.base.toNat 1
  | 0x08 => s.queueCfgWord q
  | 0x0C => s.queueStateWord q
  | 0x10 => k.prod.toNat
  | 0x14 => k.cons.toNat
  | 0x18 => half k.cursor.toNat 0
  | _ => half k.cursor.toNat 1

/-- WAIT descriptors and TIDE_WAIT requests now waiting. -/
def State.tideWaiting (s : State) : Nat :=
  s.chans.countP (fun e => e.2.run.elim false (fun r => r.phase == .waiting && dOp r.words == 7)) + s.engReqs.countP (fun r => r.waiting)

/-- A register of 0x20_0000 to 0x20_FFFF, by offset. -/
def State.readHd (s : State) (o : Nat) : Nat :=
  if inRange o 0x100 0x100 then
    let p := (o - 0x100) / 16
    match o % 16 with
    | 0x0 => b2n (s.part p == .enabled) + partStateCode (s.part p) * 16
    | 0x4 => min 0xFFFF ((s.holdUsed p + 0xFFFF) / 0x10000)
    | 0x8 => s.partWait p
    | _ => 0
  else if inRange o 0x240 0x40 then (s.pool ((o - 0x240) / 4)).elim 0 (fun x => x.stack.length)
  else if inRange o 0x1000 0x2000 then maskOf ((List.range 32).map (fun j => s.tidePkt ((o - 0x1000) / 4 * 32 + j)))
  else match o with
  | 0x00 => s.hold.corr1.toNat
  | 0x04 => s.hold.corr2.toNat
  | 0x08 => s.hold.uncorr.toNat
  | 0x0C => s.hold.lastWord.toNat + s.hold.lastKind.toNat * 2 ^ 20 + s.hold.lastBank.toNat * 2 ^ 24
  | 0x10 => s.hold.poisonIn.toNat
  | 0x14 => s.hold.poisonOut.toNat
  | 0x18 => s.hold.poisonDup.toNat
  | 0x1C => s.hold.interval.toNat + 2 ^ 31 * b2n s.hold.patrolOn
  | 0x20 => s.hold.passes.toNat
  | 0x200 => half s.alloc.jnlBase.toNat 0
  | 0x204 => half s.alloc.jnlBase.toNat 1
  | 0x208 => s.alloc.jnlProd.toNat
  | 0x20C => s.alloc.jnlCons.toNat
  | 0x210 => vecWord s.alloc.jnlVecOn s.alloc.jnlVector
  | 0x300 => s.tide.refused.toNat
  | 0x304 => s.tideWaiting
  | _ => 0

/-- Four cell numbers of a route, from position `k` on. -/
def routeWord (r : List Nat) (k : Nat) : Nat := leNat ((List.range 4).map (fun i => BitVec.ofNat 8 (r.getD (k + i) 0xFF)))

/-- The code of a slot's state (12). -/
def slotStateCode : SlotState → Nat
  | .free_ => 0
  | .open_ => 1
  | .writing => 2
  | .done => 3
  | .failed => 4

/-- A pipeline's registers, by offset. -/
def Pipeline.word (p : Pipeline) (o : Nat) : Nat :=
  match o with
  | 0x20 => routeWord p.route 0
  | 0x24 => routeWord p.route 4
  | 0x28 =>
    if p.ops.isEmpty then 0
    else (p.ops.length - 1) + 8 * b2n (fmtMx (pipeIn p.ops)) + fmtCode (pipeIn p.ops) * 16 + pipeOut p.ops * 2 ^ 8
      + 2 ^ 16 * b2n (pipeSlow p.ops) + 2 ^ 31
  | 0x30 => half p.elems.toNat 0
  | 0x34 => half p.elems.toNat 1
  | _ => if o < 0x20 then (p.ops.getD (o / 4) 0).toNat else 0

/-- A register of 0x2C_0000 to 0x2C_FFFF, by offset. -/
def State.readSluice (s : State) (o : Nat) : Nat :=
  if o < 0x800 then (s.pipe (o / 64)).word (o % 64)
  else if 0x8000 ≤ o then
    let k := s.slot ((o - 0x8000) / 8)
    if o % 8 = 0 then
      slotStateCode k.state + (if k.state = .open_ ∨ k.state = .writing then 0 else statusCode k.status) * 2 ^ 8 + k.folded * 2 ^ 16
    else min 0xFFFF k.parked.length + k.round.toNat * 2 ^ 16
  else match o with
  | 0x800 => s.fenced.cells.toNat
  | 0x804 => maskOf ((List.range 32).map (fun n => s.sluice.pipes.any (fun e => e.2.route.contains n)))
  | 0x808 => s.sluice.sat.toNat
  | 0x80C => s.sluice.ovf.toNat
  | 0x810 => s.sluice.foldCc.toNat
  | 0x1000 => s.cmb.slots.countP (fun e => e.2.state == .open_ || e.2.state == .writing)
  | 0x1004 => s.cmb.failed.toNat
  | 0x1008 => s.cmb.refused.toNat
  | 0x100C => s.cmb.endSlot.toNat + s.cmb.endPart.toNat * 2 ^ 12 + statusCode s.cmb.endStatus * 2 ^ 16
  | _ => 0

/-- A window's view, by offset. -/
def WinEntry.word (w : WinEntry) (o : Nat) : Nat :=
  match o with
  | 0x0 => w.partition + w.caches.toNat * 2 ^ 8 + 2 ^ 16 * b2n w.farAtomics + 2 ^ 31
  | 0x4 => w.base / 2 ^ 21
  | 0x8 => w.size / 2 ^ 21
  | _ => 0

/-- A register of 0x2D_0000 to 0x2D_FFFF, by offset. -/
def State.readHome (s : State) (o : Nat) : Nat :=
  if o < 8 then 2 ^ 31 * b2n (s.cacheOn (o / 4))
  else if o < 0x20 then (s.attach (o / 4)).toNat
  else if inRange o 0x100 0x400 then
    (s.theChart.windows.find? (fun w => w.window == (o - 0x100) / 16)).elim 0 (fun w => w.word (o % 16))
  else match o with
  | 0x800 => (s.home.filter.countP (fun e => e.mask != 0))
  | 0x804 => s.home.evict.toNat
  | 0x808 => s.home.stale.toNat
  | 0x80C => s.home.lost.toNat
  | 0x810 => min 2048 s.home.txns.length + s.home.wbBuf.sum * 2 ^ 16
  | 0x814 => s.home.conflict.toNat
  | 0x900 => b2n s.home.apEnable
  | 0x904 => s.home.apNear.toNat
  | 0x908 => s.home.apFar.toNat
  | _ => 0

/-- HD_MARGIN. -/
def State.marginWord (s : State) (k : Nat) : Nat :=
  let m := s.marginOf k
  let c := s.clock (sliceOf k)
  c.codeNow.toNat + 2 ^ 6 * b2n m.limit + 2 ^ 7 * b2n c.fallback + m.steps.toNat * 2 ^ 8 + m.minimum.toNat * 2 ^ 16

/-- HD_THERM. -/
def State.thermWord (s : State) (t : Nat) : Nat :=
  let x := s.stackState t
  x.code.toNat + 2 ^ 8 * b2n (s.theChart.thermal.connected.getLsbD t) + 2 ^ 9 * b2n x.throttled + 2 ^ 10 * b2n x.stale

/-- A register of 0x2E_0000 to 0x2E_FFFF, by offset. -/
def State.readHealth (s : State) (o : Nat) : Nat :=
  if o < 0xC0 then
    let k := o / 64
    let m := o % 64 / 4
    ((s.marginOf k).latest.getD m 0).toNat + ((s.marginOf k).first.getD m 0).toNat * 2 ^ 8
      + 2 ^ 16 * b2n (decide (8 ≤ m) && !(s.marginOf k).latest.isEmpty)
      + 2 ^ 17 * b2n (s.fenced.monitors.getLsbD (16 * k + m))
  else if inRange o 0x100 0xC then s.marginWord ((o - 0x100) / 4)
  else if inRange o 0x200 0x10 then s.thermWord ((o - 0x200) / 4)
  else match o with
  | 0x110 => s.health.scans.toNat
  | 0x210 => s.thermal.bit0.toNat + s.thermal.bit1.toNat * 2 ^ 8 + s.thermal.mode.toNat * 2 ^ 16
  | 0x214 => s.thermal.cc.toNat
  | 0x400 => half s.ras.base.toNat 0
  | 0x404 => half s.ras.base.toNat 1
  | 0x408 => s.ras.sizeLog2.toNat + 2 ^ 31 * b2n s.ras.valid
  | 0x40C => s.ras.prod.toNat
  | 0x410 => s.ras.cons.toNat
  | 0x414 => vecWord s.ras.vecValid s.ras.vector
  | 0x418 => s.ras.lost.toNat
  | 0x41C => s.ras.waiting.length
  | _ => 0

/-! ### Clocks (03) -/

/-- A register of a slice's clock block, by offset. -/
def State.readClock (s : State) (path : Path) (sl : Slice) (o : Nat) : Nat :=
  let k := s.clock sl
  match o with
  | 0x00 => maskOf [k.ebbNow, k.fbNow, k.exitCounting, k.warnSync]
  | 0x04 => k.crossTimeout.toNat
  | 0x08 => k.lost.toNat
  | 0x0C => k.overrun.toNat
  | 0x10 => k.overrunCount.toNat
  | 0x14 => k.ebbCount.toNat
  | 0x18 => half k.cycles.toNat 0
  | 0x1C => ((s.latch (pathIx path)).cyclesHi.getD (sliceIx sl) 0).toNat
  | _ => 0

/-! ### The whole space -/

/-- What an aligned mapped address reads, before any latching. (DEDUCED, log 9) -/
def State.readWord (s : State) (path : Path) (a : Nat) : Nat :=
  if a < 0x10000 then s.readGlobal a
  else if a < 0x20000 then (match a with
    | 0x10400 => s.dbCheck.toNat
    | 0x10404 => s.dbState.toNat
    | 0x10408 => s.dbLast.toNat
    | _ => 0)
  else if a < 0x30000 then s.readPeer (a - 0x20000)
  else if a < 0x40000 then s.readFw (a - 0x30000)
  else if a < 0x50000 then s.readIdent path (a - 0x40000)
  else if a < 0x60000 then s.readMsix (a - 0x50000)
  else if inRange a 0x100000 0x10000 then s.readEn (a - 0x100000)
  else if inRange a 0x200000 0x10000 then s.readHd (a - 0x200000)
  else if inRange a 0x210000 0x4000 then s.chanWord ((a - 0x210000) / 256) (a % 256)
  else if inRange a 0x220000 0x20000 then s.queueWord ((a - 0x220000) / 32) (a % 32)
  else if inRange a 0x240000 0x80000 then
    (if a % 8 = 0 then half (s.tideVal ((a - 0x240000) / 8)).toNat 0 else (tabGet 0 (s.latch (pathIx path)).tideHi ((a - 0x240000) / 8)).toNat)
  else if inRange a 0x2C0000 0x10000 then s.readSluice (a - 0x2C0000)
  else if inRange a 0x2D0000 0x10000 then s.readHome (a - 0x2D0000)
  else if inRange a 0x2E0000 0x10000 then s.readHealth (a - 0x2E0000)
  else if inRange a 0x300000 0x300 then s.readClock path (sliceOfAddr a) (a % 256)
  else 0

/-- The high halves that a read of a low register latches for its path (17 R413). (DEDUCED, log 9) -/
def State.readLatch (s : State) (path : Path) (a : Nat) : State :=
  if a = 0x40018 then s.modLatch (pathIx path) (fun l => { l with measHi := BitVec.ofNat 32 (hi32 s.ident.measSeq.toNat) })
  else if inRange a 0x240000 0x80000 && a % 8 == 0 then
    let n := (a - 0x240000) / 8
    s.modLatch (pathIx path) (fun l => { l with tideHi := tabSet 0 l.tideHi n (BitVec.ofNat 32 (hi32 (s.tideVal n).toNat)) })
  else if inRange a 0x300000 0x300 && a % 256 == 0x18 then
    let sl := sliceOfAddr a
    s.modLatch (pathIx path) (fun l => { l with
      cyclesHi := l.cyclesHi.set (sliceIx sl) (BitVec.ofNat 32 (hi32 (s.clock sl).cycles.toNat)) })
  else s

/-- A register read of a path: its value where the register is reached, and the state after it. (DEDUCED, log 9) -/
def State.readReg (s : State) (path : Path) (a : Nat) : Option (BitVec 32) × State :=
  if s.reach path a then (some (BitVec.ofNat 32 (s.readWord path a)), s.readLatch path a) else (none, s)

end Sys2Proof.Machine
end

