-- ==== Sys2Proof/Machine/RegWrite.lean ====
section
/-! DEFINITION. What a register write does (17 R409-R412 and the register tables of the chapters). A register whose write is a row of its
own takes that row's effect. Writes of read-only and reserved places, and writes the owning rules ignore, change nothing. -/

namespace Sys2Proof.Machine

/-- A 64-bit value with half `i` replaced. -/
def setHalf (v i w : Nat) : Nat := if i = 0 then v / 2 ^ 32 * 2 ^ 32 + w else w * 2 ^ 32 + v % 2 ^ 32

/-- Half `i` of a local address whose lowest `k` bits are reserved. -/
def setAddr (v : BitVec 48) (i k w : Nat) : BitVec 48 := BitVec.ofNat 48 (roundDown (setHalf v.toNat i w) (2 ^ k))

/-- A vector register's write: ignored where the vector is refused (05, SH_MGMT_VECTOR). (DEDUCED, log 65) -/
def State.vectorWrite (s : State) (v : BitVec 32) (f : Bool → BitVec 11 → State) : State :=
  if s.vectorRefused (bits v.toNat 10 0) then s else f (v.getLsbD 31) (v.truncate 11)

/-! ### SH -/

/-- SH_CHART_CTRL. -/
def State.chartCtrl (s : State) (v : BitVec 32) : State :=
  match bits v.toNat 1 0 with
  | 1 => s.chartBeginReg
  | 2 => s.chartCommit 1
  | _ => s

/-- SH_IRQ_STATUS: ones clear (17 R418). -/
def State.irqClear (s : State) (v : BitVec 32) : State :=
  s.shIrqSet (s.irq.status &&& ~~~(v.truncate 10)) s.irq.enable s.irq.vecValid s.irq.vector

/-- SH_IRQ_ENABLE, or SH_IRQ_VECTOR. -/
def State.irqEnable (s : State) (vectorReg : Bool) (v : BitVec 32) : State :=
  if vectorReg then s.vectorWrite v (fun on x => s.shIrqSet s.irq.status s.irq.enable on x)
  else s.shIrqSet s.irq.status (v.truncate 10) s.irq.vecValid s.irq.vector

/-- A register of 0x00_0000 to 0x00_FFFF. -/
def State.writeGlobal (s : State) (a : Nat) (v : BitVec 32) : State :=
  match a with
  | 0x30 => s.chartCtrl v
  | 0x34 => s.chartData v
  | 0x50 => s.irqClear v
  | 0x54 => s.irqEnable false v
  | 0x58 => s.irqEnable true v
  | _ => s

/-- SH_FW_LOAD_CTRL. -/
def State.loadCtrl (s : State) (v : BitVec 32) : State :=
  match bits v.toNat 9 8 with
  | 1 => s.fwLoadGo (v.truncate 7)
  | 2 => s.fwReloadGo (v.truncate 7)
  | _ => s

/-- The rings' bases are written only while no session is open (05 R110). -/
def State.ringBase (s : State) (evt : Bool) (i : Nat) (v : BitVec 32) : State :=
  if s.mgmt.session then s
  else if evt then { s with mgmt := { s.mgmt with evtBase := setAddr s.mgmt.evtBase i 12 v.toNat } }
  else { s with mgmt := { s.mgmt with cmdBase := setAddr s.mgmt.cmdBase i 12 v.toNat } }

/-- A register of 0x03_0000 to 0x03_FFFF, by offset. -/
def State.writeFw (s : State) (path : Path) (o : Nat) (v : BitVec 32) : State :=
  if o < 0xE0 then
    match o % 32 with
    | 0x04 => s.modCore (o / 32) (fun k => { k with period := v })
    | 0x08 => s.kick path (o / 32) v
    | _ => s
  else match o with
  | 0x100 => { s with fw := { s.fw with addr := setAddr s.fw.addr 0 6 v.toNat } }
  | 0x104 => { s with fw := { s.fw with addr := setAddr s.fw.addr 1 6 v.toNat } }
  | 0x108 => s.loadCtrl v
  | 0x200 => s.ringBase false 0 v
  | 0x204 => s.ringBase false 1 v
  | 0x208 => s.cmdProdWrite v
  | 0x210 => s.ringBase true 0 v
  | 0x214 => s.ringBase true 1 v
  | 0x21C => s.evtConsWrite v
  | 0x220 => s.vectorWrite v (fun on x => { s with mgmt := { s.mgmt with vecValid := on, vector := x } })
  | 0x240 => { s with mgmt := { s.mgmt with saveBase := setAddr s.mgmt.saveBase 0 6 v.toNat } }
  | 0x244 => { s with mgmt := { s.mgmt with saveBase := setAddr s.mgmt.saveBase 1 6 v.toNat, saveValid := v.getLsbD 31 } }
  | _ => s

/-- SH_ID_ENDORSE_CTRL: begin, then commit. (DEDUCED, log 62) -/
def State.endorseCtrl (s : State) (v : BitVec 32) : State :=
  let s := if v.getLsbD 0 then s.endorseBegin else s
  if v.getLsbD 1 then s.endorseCommit else s

/-- A register of 0x04_0000 to 0x04_FFFF, by offset. -/
def State.writeIdent (s : State) (o : Nat) (v : BitVec 32) : State :=
  match o with
  | 0x04 => s.endorseCtrl v
  | 0x08 => s.endorseData v
  | 0x0C => { s with ident := { s.ident with chainAddr := setAddr s.ident.chainAddr 0 0 v.toNat } }
  | 0x10 => { s with ident := { s.ident with chainAddr := setAddr s.ident.chainAddr 1 0 v.toNat } }
  | 0x14 => { s with ident := { s.ident with chainLen := v.truncate 16 } }
  | _ => s

/-- An MSI-X table entry (17 R420); writes of the pending bits are ignored. -/
def State.writeMsix (s : State) (o : Nat) (v : BitVec 32) : State :=
  if 0x8000 ≤ o then s
  else s.modMsixEntry (o / 16) (fun e => match o % 16 with
    | 0x0 => { e with addr := BitVec.ofNat 64 (setHalf e.addr.toNat 0 (roundDown v.toNat 4)) }
    | 0x4 => { e with addr := BitVec.ofNat 64 (setHalf e.addr.toNat 1 v.toNat) }
    | 0x8 => { e with data := v }
    | _ => { e with mask := v.getLsbD 0 })

/-! ### EN -/

/-- EN_LAND_BASE (08 R186). -/
def State.landBase (s : State) (p i : Nat) (v : BitVec 32) : State :=
  if s.part p = .disabled then s.modLanding p (fun l => { l with base := setAddr l.base i 12 v.toNat }) else s

/-- The landing registers of a partition, by offset. -/
def State.writeLanding_ (s : State) (p o : Nat) (v : BitVec 32) : State :=
  match o with
  | 0x00 => s.landBase p 0 v
  | 0x04 => s.landBase p 1 v
  | 0x08 => s.landCfgWrite p v
  | 0x10 => s.landConsWrite p v
  | _ => s

/-- The invalidation registers, by offset from 0xC00. -/
def State.writeInv (s : State) (o : Nat) (v : BitVec 32) : State :=
  match o with
  | 0x00 => { s with inv := { s.inv with va := BitVec.ofNat 57 (roundDown (setHalf s.inv.va.toNat 0 v.toNat) (2 ^ 21)) } }
  | 0x04 => { s with inv := { s.inv with va := BitVec.ofNat 57 (setHalf s.inv.va.toNat 1 (bits v.toNat 24 0)) } }
  | 0x08 => { s with inv := { s.inv with pages := v } }
  | 0x0C => s.invGo v
  | 0x20 => { s with inv := { s.inv with fence := setAddr s.inv.fence 0 4 v.toNat } }
  | 0x24 => { s with inv := { s.inv with fence := setAddr s.inv.fence 1 4 v.toNat } }
  | 0x28 => s.vectorWrite v (fun on x => { s with inv := { s.inv with vecValid := on, vector := x } })
  | _ => s

/-- EN_PORT_CTRL (06 R143). -/
def State.portCtrl (s : State) (e : Nat) (v : BitVec 32) : State := if v.getLsbD 0 then s.portEnableOn e else s.portEnableOff e

/-- A register of 0x10_0000 to 0x10_FFFF, by offset. -/
def State.writeEn (s : State) (o : Nat) (v : BitVec 32) : State :=
  if o < 0x80 then s.rootWrite (o / 8) (o % 8 == 4) v
  else if inRange o 0x100 0x40 then s.hostWinWrite ((o - 0x100) / 16) (o % 16 / 4) v
  else if inRange o 0x800 0x200 then s.writeLanding_ ((o - 0x800) / 32) (o % 32) v
  else if inRange o 0xC00 0x100 then s.writeInv (o - 0xC00) v
  else if o = 0xD00 then s.resume v
  else if inRange o 0xE00 0x20 then s.portCtrl ((o - 0xE00) / 4) v
  else s

/-! ### HD -/

/-- HD_PART_CTRL: the action, or else the enable bit (06 R127). -/
def State.partCtrl (s : State) (p : Nat) (v : BitVec 32) : State :=
  match bits v.toNat 15 8 with
  | 1 => s.partStop p
  | 2 => s.partAbort p
  | _ => if v.getLsbD 0 then s.partEnable p else s.partStop p

/-- A register of 0x20_0000 to 0x20_FFFF, by offset. -/
def State.writeHd (s : State) (o : Nat) (v : BitVec 32) : State :=
  if inRange o 0x100 0x100 then (if o % 16 = 0 then s.partCtrl ((o - 0x100) / 16) v else s)
  else if inRange o 0x1000 0x2000 then s.tideModeWrite ((o - 0x1000) / 4) v
  else match o with
  | 0x1C => { s with hold := { s.hold with patrolOn := v.getLsbD 31, interval := v.truncate 16 } }
  | 0x200 => { s with alloc := { s.alloc with jnlBase := setAddr s.alloc.jnlBase 0 12 v.toNat } }
  | 0x204 => { s with alloc := { s.alloc with jnlBase := setAddr s.alloc.jnlBase 1 12 v.toNat } }
  | 0x20C => s.jnlConsWrite v
  | 0x210 => s.vectorWrite v (fun on x => { s with alloc := { s.alloc with jnlVecOn := on, jnlVector := x } })
  | _ => s

/-- HD_CH_CTRL: the action, or else the enable bit (09 R232). -/
def State.chanCtrl (s : State) (path : Path) (c : Nat) (v : BitVec 32) : State :=
  if !s.chanWritable path c then s
  else match bits v.toNat 15 8 with
  | 1 => s.chanStop c
  | 2 => s.chanAbort c
  | _ => if v.getLsbD 0 then s.chanEnable c else s.chanStop c

/-- The management ring of a channel is configured only while it is DISABLED (09 R233). -/
def Channel.ringWrite (ch : Channel) (o : Nat) (v : BitVec 32) : Channel :=
  match o with
  | 0x40 => { ch with mBase := BitVec.ofNat 60 (roundDown (setHalf ch.mBase.toNat 0 v.toNat) 128), mPending := .ok }
  | 0x44 => { ch with mBase := BitVec.ofNat 60 (setHalf ch.mBase.toNat 1 (bits v.toNat 27 0)), mPending := .ok }
  | 0x48 => { ch with mPriority := BitVec.ofNat 2 (bits v.toNat 25 24), mSizeLog2 := v.truncate 8 }
  | _ => ch

/-- Pace registers are written only while the channel is DISABLED. -/
def Channel.paceWrite (ch : Channel) (o : Nat) (v : BitVec 32) : Channel :=
  match o with
  | 0x10 => { ch with paceBase := BitVec.ofNat 64 (setHalf ch.paceBase.toNat 0 v.toNat) }
  | 0x14 => { ch with paceBase := BitVec.ofNat 64 (setHalf ch.paceBase.toNat 1 v.toNat) }
  | 0x18 => { ch with paceShift := v.truncate 6 }
  | _ => ch

/-- HD_CH_COUNT (09 R231). -/
def State.chanCount (s : State) (c : Nat) (v : BitVec 32) : State := s.modChan c (fun ch => { ch with count := v })

/-- The registers of a channel, by offset. -/
def State.writeChan (s : State) (path : Path) (c o : Nat) (v : BitVec 32) : State :=
  if o = 0 then s.chanCtrl path c v
  else if o = 0x08 then s.chanCount c v
  else if o = 0x54 then s.mgmtDoorbellLo path c v
  else if o = 0x58 then s.mgmtDoorbellHi path c v
  else if (s.chan c).state = .disabled then
    s.modChan c (fun ch => if mgmtChan c && ringPath path c then (ch.paceWrite o v).ringWrite o v else ch.paceWrite o v)
  else s

/-- HD_Q_STATE: the action. -/
def State.queueAct (s : State) (q : Nat) (v : BitVec 32) : State :=
  match bits v.toNat 15 8 with
  | 1 => s.queueStop q
  | 2 => s.queueAbort q
  | _ => s

/-- The fields that only DISABLED and REFUSED let be written (06 R129); a write of the base clears pending (R139). -/
def Queue.fieldWrite (k : Queue) (o : Nat) (v : BitVec 32) : Queue :=
  match o with
  | 0x00 => { k with base := BitVec.ofNat 57 (roundDown (setHalf k.base.toNat 0 v.toNat) 128), pending := .ok }
  | 0x04 => { k with base := BitVec.ofNat 57 (setHalf k.base.toNat 1 (bits v.toNat 24 0)), pending := .ok }
  | 0x10 => { k with prod := v }
  | 0x14 => { k with cons := v }
  | 0x18 => { k with cursor := BitVec.ofNat 64 (roundDown (setHalf k.cursor.toNat 0 v.toNat) 128) }
  | 0x1C => { k with cursor := BitVec.ofNat 64 (setHalf k.cursor.toNat 1 (bits v.toNat 24 0)) }
  | _ => k

/-- The registers of a queue entry, by offset; an UNOWNED queue ignores every write (06 R127). -/
def State.writeQueue (s : State) (q o : Nat) (v : BitVec 32) : State :=
  if (s.queueOwner q).isNone then s
  else if o = 0x08 then s.queueCfg q v
  else if o = 0x0C then s.queueAct q v
  else if (s.queue q).open_ then s.modQueue q (fun k => k.fieldWrite o v)
  else s

/-- HD_WIN_ATTACH: those of the host ports are read-only (14 R357). -/
def State.attachReg (s : State) (i : Nat) (v : BitVec 32) : State := if i < 2 then s else s.attachWrite i v

/-- HD_RAS_CFG: valid needs a size from 6 to 16 (16). (DEDUCED, log 65) -/
def State.rasCfg (s : State) (v : BitVec 32) : State :=
  let size := bits v.toNat 4 0
  { s with ras := { s.ras with sizeLog2 := BitVec.ofNat 5 size, valid := v.getLsbD 31 && decide (6 ≤ size) && decide (size ≤ 16) } }

/-- HD_RAS_BASE: written only while valid is 0 (16 R392). -/
def State.rasBase (s : State) (i : Nat) (v : BitVec 32) : State :=
  if s.ras.valid then s else { s with ras := { s.ras with base := setAddr s.ras.base i 12 v.toNat } }

/-- A register of 0x2E_0000 to 0x2E_FFFF, by offset. -/
def State.writeHealth (s : State) (o : Nat) (v : BitVec 32) : State :=
  match o with
  | 0x210 => { s with thermal := { s.thermal with
      bit0 := v.truncate 6, bit1 := BitVec.ofNat 6 (bits v.toNat 13 8), mode := BitVec.ofNat 2 (bits v.toNat 17 16) } }
  | 0x400 => s.rasBase 0 v
  | 0x404 => s.rasBase 1 v
  | 0x408 => s.rasCfg v
  | 0x410 => s.rasConsWrite v
  | 0x414 => s.vectorWrite v (fun on x => { s with ras := { s.ras with vecValid := on, vector := x } })
  | _ => s

/-! ### Clocks (03) -/

/-- A register of a slice's clock block, by offset: a W1C view clears, the crossing itself stays lost (03 R68).
(DEDUCED, log 65) -/
def State.writeClock (s : State) (sl : Slice) (o : Nat) (v : BitVec 32) : State :=
  match o with
  | 0x04 => s.modClock sl (fun k => { k with crossTimeout := v.truncate 17 })
  | 0x08 => s.modClock sl (fun k => { k with lost := k.lost &&& ~~~(v.truncate 9) })
  | 0x0C => s.modClock sl (fun k => { k with overrun := k.overrun &&& ~~~(v.truncate 2) })
  | _ => s

/-! ### The whole space -/

/-- A write of an aligned mapped address. (DEDUCED, log 10) -/
def State.regWrite (s : State) (path : Path) (a : Nat) (v : BitVec 32) : State :=
  if a < 0x10000 then s.writeGlobal a v
  else if inRange a 0x30000 0x10000 then s.writeFw path (a - 0x30000) v
  else if inRange a 0x40000 0x10000 then s.writeIdent (a - 0x40000) v
  else if inRange a 0x50000 0x10000 then s.writeMsix (a - 0x50000) v
  else if inRange a 0x100000 0x10000 then s.writeEn (a - 0x100000) v
  else if inRange a 0x200000 0x10000 then s.writeHd (a - 0x200000) v
  else if inRange a 0x210000 0x4000 then s.writeChan path ((a - 0x210000) / 256) (a % 256) v
  else if inRange a 0x220000 0x20000 then s.writeQueue ((a - 0x220000) / 32) (a % 32) v
  else if inRange a 0x240000 0x80000 then
    (if a % 8 = 0 then s.tideLoWrite path ((a - 0x240000) / 8) v else s.tideHiWrite path ((a - 0x240000) / 8) v)
  else if inRange a 0x2D0000 0x20 then s.attachReg ((a - 0x2D0000) / 4) v
  else if a = 0x2D0900 then s.apCtrl v
  else if inRange a 0x2E0000 0x10000 then s.writeHealth (a - 0x2E0000) v
  else if inRange a 0x300000 0x300 then s.writeClock (sliceOfAddr a) (a % 256) v
  else s

end Sys2Proof.Machine
end

