-- ==== Sys2Proof/Machine/ExecHealth.lean ====
section
/-! DEFINITION. Meanings of the commands of patrol, error records, monitors, interrupts and the plain register write. -/

namespace Sys2Proof.Machine

/-- The register's write may end or begin accesses, or make room for an event. -/
def actionReg (a : Nat) : Bool :=
  a == 0x30208 || a == 0x3021C || a == 0x100D00 || inRange a 0x100E00 0x20 || inRange a 0x200100 0x100
    || (inRange a 0x210000 0x4000 && a % 256 == 0) || (inRange a 0x220000 0x20000 && (a % 32 == 8 || a % 32 == 12))

/-- A write of any register (17 R412). (DEDUCED, log 10) -/
def State.registerWritten (s : State) (path : Path) (a : Nat) (v : BitVec 32) : State :=
  let t := s.onPath path a (fun t => t.regWrite path a v)
  if actionReg a then t.settle else t

/-- PATROL_ROW_READ (R383). -/
def execPatrolRowRead (errors : List (Nat × Nat × Nat)) (s : State) : Host.Outcome State Fault Refusal :=
  .next (s.patrolRow errors)

/-- RAS_RECORD_WRITE (R392). -/
def execRasRecordWrite (s : State) : Host.Outcome State Fault Refusal :=
  .next (State.settle (s.rasWrite))

/-- HD_RAS_CONS_WRITE (R392). -/
def execHdRasConsWrite (path : Path) (value : BitVec 32) (s : State) : Host.Outcome State Fault Refusal :=
  .next (s.onPath path (0x2E0410) (fun t => t.rasConsWrite value))

/-- PATH_MONITOR_SCAN (R399). -/
def execPathMonitorScan (sl : Slice) (samples : Bytes) (s : State) : Host.Outcome State Fault Refusal :=
  .next (State.settle (s.pathScan (sliceIx sl) samples))

/-- MARGIN_RESCAN (R400). -/
def execMarginRescan (sl : Slice) (samples : Bytes) (s : State) : Host.Outcome State Fault Refusal :=
  .next (State.settle (s.rescan (sliceIx sl) samples))

/-- SH_IRQ_STATUS_CLEAR (R418). -/
def execShIrqStatusClear (path : Path) (value : BitVec 32) (s : State) : Host.Outcome State Fault Refusal :=
  .next (s.onPath path (0x50) (fun t => t.irqClear value))

/-- SH_IRQ_ENABLE_WRITE (R418). -/
def execShIrqEnableWrite (path : Path) (vectorReg : Bool) (value : BitVec 32) (s : State) : Host.Outcome State Fault Refusal :=
  .next (s.onPath path (if vectorReg then 0x58 else 0x54) (fun t => t.irqEnable vectorReg value))

/-- REGISTER_WRITE (R412). (DEDUCED, log 10) -/
def execRegisterWrite (path : Path) (addr : BitVec 24) (value : BitVec 32) (s : State) : Host.Outcome State Fault Refusal :=
  .next (s.registerWritten path addr.toNat value)

end Sys2Proof.Machine
end

