-- ==== Sys2Proof/Machine/ExecHost.lean ====
section
/-! DEFINITION. Meanings of the commands of the host ports, the control port and MSI-X. -/

namespace Sys2Proof.Machine

/-- A host doorbell at a port in service: in a warm start it is an access like any other, not served (02 R35). The queue table stands in
the hold: while SL-A is out of service a doorbell of the right form reaches no queue and is lost, not counted.
(DESIGN CHOICE, log 99) -/
def State.doorbellIn (s : State) (n page : Nat) (value : BitVec 64) : State :=
  if !(s.host n).readyOut then s
  else if s.warmReset || s.warmStart then s.drive (.cplUr n)
  else if doorbellOk page value && (s.linkFault .slA).isSome then s
  else s.hostDoorbell page value

/-- A MemSpecRd hint is dropped (14 R340). -/
def State.specDropped (s : State) (_n : Nat) : State := s

/-- HOST_LINK_UP (R30). -/
def execHostLinkUp (n : Fin 2) (s : State) : Host.Outcome State Fault Refusal :=
  .next (s.hostUp n)

/-- HOST_LINK_ERR (R30). -/
def execHostLinkErr (n : Fin 2) (s : State) : Host.Outcome State Fault Refusal :=
  .next (State.settle (s.hostErr n))

/-- BAR0_INVALID_ACCESS (R33). (DEDUCED, log 12) -/
def execBar0InvalidAccess (n : Fin 2) (_write : Bool) (addr : BitVec 24) (size : Nat) (s : State) : Host.Outcome State Fault Refusal :=
  .next (s.bar0Invalid n addr.toNat size)

/-- HOST_DOORBELL (R133). (DESIGN CHOICE, log 99) -/
def execHostDoorbell (n : Fin 2) (page : Fin 4096) (value : BitVec 64) (s : State) : Host.Outcome State Fault Refusal :=
  .next (s.doorbellIn n page.val value)

/-- BAR2_OTHER_WRITE (R33). -/
def execBar2OtherWrite (n : Fin 2) (offset : BitVec 24) (size : Nat) (s : State) : Host.Outcome State Fault Refusal :=
  .next (s.bar2Write n offset size)

/-- BAR2_READ (R33). -/
def execBar2Read (n : Fin 2) (_offset : BitVec 24) (_size : Nat) (s : State) : Host.Outcome State Fault Refusal :=
  .next (s.bar2Read n)

/-- CONFIGURATION_REQUEST (R32). -/
def execConfigurationRequest (n : Fin 2) (write : Bool) (reg : BitVec 12) (value : BitVec 32) (s : State) : Host.Outcome State Fault Refusal :=
  .next (s.configRequest n write reg value)

/-- IO_REQUEST (R31). -/
def execIoRequest (n : Fin 2) (s : State) : Host.Outcome State Fault Refusal :=
  .next (s.ioRequest n)

/-- HOST_SNOOP (R30). -/
def execHostSnoop (n : Fin 2) (addr : BitVec 64) (s : State) : Host.Outcome State Fault Refusal :=
  .next (s.hostCome n (.snoop addr))

/-- CXL_CACHE_COMPLETION (R225). -/
def execCxlCacheCompletion (n : Fin 2) (tag : Nat) (data : Bytes) (poison : Bool) (s : State) : Host.Outcome State Fault Refusal :=
  .next (State.settle (s.cacheReturned n tag data poison))

/-- ATS_INVALIDATION_REQUEST (R183). -/
def execAtsInvalidationRequest (n : Fin 2) (pasid : Option (BitVec 20)) (va : BitVec 64) (bytes : Nat) (tag : Nat) (s : State) : Host.Outcome State Fault Refusal :=
  .next (s.atsInvalidate n pasid va bytes tag)

/-- ATS_TRANSLATION_REQUEST (R184). -/
def execAtsTranslationRequest (n : Fin 2) (pasid : Option (BitVec 20)) (va : BitVec 64) (tag : Nat) (s : State) : Host.Outcome State Fault Refusal :=
  .next (s.atsTranslate n pasid va tag)

/-- MEMRD (R340). -/
def execMemrd (n : Fin 2) (addr : BitVec 48) (mv : MetaValue) (tag : Nat) (s : State) : Host.Outcome State Fault Refusal :=
  .next (State.settle (s.hostCome n (.read addr.toNat mv tag)))

/-- MEMRDDATA (R340). (DEDUCED, log 41) -/
def execMemrddata (n : Fin 2) (addr : BitVec 48) (tag : Nat) (s : State) : Host.Outcome State Fault Refusal :=
  .next (State.settle (s.hostCome n (.read addr.toNat .s tag)))

/-- MEMWR (R340). -/
def execMemwr (n : Fin 2) (addr : BitVec 48) (mv : MetaValue) (tag : Nat) (data : Bytes) (be : BitVec 64) (poison : Bool) (s : State) : Host.Outcome State Fault Refusal :=
  .next (State.settle (s.hostCome n (.write addr.toNat mv false tag data be poison)))

/-- MEMWRPTL (R340). (DEDUCED, log 41) -/
def execMemwrptl (n : Fin 2) (addr : BitVec 48) (tag : Nat) (data : Bytes) (be : BitVec 64) (poison : Bool) (s : State) : Host.Outcome State Fault Refusal :=
  .next (State.settle (s.hostCome n (.write addr.toNat .i true tag data be poison)))

/-- MEMSPECRD (R340). -/
def execMemspecrd (n : Fin 2) (_addr : BitVec 48) (s : State) : Host.Outcome State Fault Refusal :=
  .next (s.specDropped n)

/-- BICONFLICT (R342). -/
def execBiconflict (n : Fin 2) (addr : BitVec 48) (s : State) : Host.Outcome State Fault Refusal :=
  .next (s.hostCome n (.conflict addr))

/-- BIRSP (R355). (DEDUCED, log 41) -/
def execBirsp (n : Fin 2) (addr : BitVec 48) (st : BiRsp) (s : State) : Host.Outcome State Fault Refusal :=
  .next (State.settle (s.hostCome n (.answer (roundDown addr.toNat 64) st)))

/-- UNKNOWN_M2S_REQUEST (R340). -/
def execUnknownM2sRequest (n : Fin 2) (isRead : Bool) (addr : BitVec 48) (tag : Nat) (s : State) : Host.Outcome State Fault Refusal :=
  .next (s.hostCome n (.unknown isRead addr.toNat tag))

/-- HDM_H_REQUEST (R355). -/
def execHdmHRequest (n : Fin 2) (write : Bool) (addr : BitVec 48) (tag : Nat) (data : Bytes) (be : BitVec 64) (poison : Bool) (s : State) : Host.Outcome State Fault Refusal :=
  .next (State.settle (s.hostCome n (.hdm write addr.toNat tag data be poison)))

/-- SNOOP_TIMEOUT (R343). (DEDUCED, log 41) -/
def execSnoopTimeout (addr : BitVec 48) (cache : Fin 8) (s : State) : Host.Outcome State Fault Refusal :=
  .next (State.settle (s.snoopTimeout (roundDown addr.toNat 64) cache.val))

/-- CONTROL_PORT_INVALID_ACCESS (R47). -/
def execControlPortInvalidAccess (_write : Bool) (addr : BitVec 24) (s : State) : Host.Outcome State Fault Refusal :=
  .next (s.cpInvalid addr.toNat)

/-- CONTROL_PORT_TARGET_LOST (R47). -/
def execControlPortTargetLost (_write : Bool) (addr : BitVec 24) (s : State) : Host.Outcome State Fault Refusal :=
  .next (s.cpLost addr.toNat)

/-- MSIX_SEND (R420). -/
def execMsixSend (v : Fin 2048) (s : State) : Host.Outcome State Fault Refusal :=
  .next (s.vectorSend v.val)

/-- HOST_LINK_DOWN (R30). -/
def execHostLinkDown (n : Fin 2) (s : State) : Host.Outcome State Fault Refusal :=
  .next (s.hostDown n)

/-- CREDIT_RETURN (R28). -/
def execCreditReturn (src : CreditSource) (s : State) : Host.Outcome State Fault Refusal :=
  .next (State.settle (s.creditReturn src))

end Sys2Proof.Machine
end

