-- ==== Sys2Proof/Machine/ExecPeer.lean ====
section
/-! DEFINITION. Meanings of the commands of the peer ports. -/

namespace Sys2Proof.Machine

/-- PEER_LINK_UP (R280). -/
def execPeerLinkUp (p : Fin 4) (s : State) : Host.Outcome State Fault Refusal :=
  .next (s.peerUp p)

/-- PEER_LINK_DOWN (R38). -/
def execPeerLinkDown (p : Fin 4) (s : State) : Host.Outcome State Fault Refusal :=
  .next (State.settle ((s.peerDown p).losePaths))

/-- PEER_FLIT_RECEIVE (R280). (DEDUCED, log 46) -/
def execPeerFlitReceive (p : Fin 4) (flit : Bytes) (credit : BitVec 16) (s : State) : Host.Outcome State Fault Refusal :=
  .next (State.settle (((s.creditReturn (.peer p credit)).flitIn p flit).losePaths))

/-- PEER_NAK (R280). -/
def execPeerNak (p : Fin 4) (last : BitVec 63) (s : State) : Host.Outcome State Fault Refusal :=
  .next (State.settle ((s.peerNakIn p last.toNat).losePaths))

/-- PEER_ACK_TIMEOUT (R280). -/
def execPeerAckTimeout (p : Fin 4) (s : State) : Host.Outcome State Fault Refusal :=
  .next (State.settle ((s.replay p).losePaths))

/-- PEER_PAD_ACK (R280). -/
def execPeerPadAck (p : Fin 4) (s : State) : Host.Outcome State Fault Refusal :=
  .next (s.sendFlit p [] false)

/-- PEER_REQUEST_SEND (R275). -/
def execPeerRequestSend (id : Nat) (s : State) : Host.Outcome State Fault Refusal :=
  .next (State.settle (s.requestSend id))

/-- ZARIC_READ (R282). -/
def execZaricRead (p : Fin 4) (s : State) : Host.Outcome State Fault Refusal :=
  .next (State.settle (s.zaricRead p))

/-- ZARIC_WRITE (R282). -/
def execZaricWrite (p : Fin 4) (s : State) : Host.Outcome State Fault Refusal :=
  .next (State.settle (s.zaricWrite p))

/-- WRITEBACK (R341). -/
def execWriteback (p : Fin 4) (s : State) : Host.Outcome State Fault Refusal :=
  .next (State.settle (s.zaricWriteback p))

/-- ZARIC_ATOMIC (R348). -/
def execZaricAtomic (p : Fin 4) (s : State) : Host.Outcome State Fault Refusal :=
  .next (State.settle (s.zaricAtomic p))

/-- ZARIC_SIGNAL (R219). -/
def execZaricSignal (p : Fin 4) (s : State) : Host.Outcome State Fault Refusal :=
  .next (State.settle (s.zaricSignal p))

/-- CONTRIB (R294). -/
def execContrib (p : Fin 4) (s : State) : Host.Outcome State Fault Refusal :=
  .next (State.settle (s.zaricContrib p))

/-- OWN (R341). -/
def execOwn (p : Fin 4) (s : State) : Host.Outcome State Fault Refusal :=
  .next (State.settle (s.zaricOwn p))

/-- MGMT_CHART_BEGIN (R285). -/
def execMgmtChartBegin (p : Fin 4) (s : State) : Host.Outcome State Fault Refusal :=
  .next (s.mgmtBegin p)

/-- MGMT_CHART_DATA (R285). -/
def execMgmtChartData (p : Fin 4) (s : State) : Host.Outcome State Fault Refusal :=
  .next (s.mgmtChartData p)

/-- MGMT_CHART_COMMIT (R285). -/
def execMgmtChartCommit (p : Fin 4) (s : State) : Host.Outcome State Fault Refusal :=
  .next (State.settle (s.mgmtCommit p))

/-- MGMT_IMAGE_DATA (R285). -/
def execMgmtImageData (p : Fin 4) (s : State) : Host.Outcome State Fault Refusal :=
  .next (s.mgmtImageData p)

/-- MGMT_IMAGE_LOAD (R285). -/
def execMgmtImageLoad (p : Fin 4) (s : State) : Host.Outcome State Fault Refusal :=
  .next (State.settle (s.mgmtImageLoad p))

/-- MGMT_STATUS (R286). -/
def execMgmtStatus (p : Fin 4) (s : State) : Host.Outcome State Fault Refusal :=
  .next (State.settle (s.mgmtStatusIn p))

/-- SHARE (R363). -/
def execShare (p : Fin 4) (s : State) : Host.Outcome State Fault Refusal :=
  .next (s.shareIn p)

/-- IDENTITY (R363). -/
def execIdentity (p : Fin 4) (s : State) : Host.Outcome State Fault Refusal :=
  .next (s.identityIn p)

/-- ISSUER (R363). -/
def execIssuer (p : Fin 4) (s : State) : Host.Outcome State Fault Refusal :=
  .next (s.issuerIn p)

/-- PROOF (R364). -/
def execProof (p : Fin 4) (s : State) : Host.Outcome State Fault Refusal :=
  .next (s.proofIn p)

/-- KEYX_RETRY (R363). -/
def execKeyxRetry (p : Fin 4) (s : State) : Host.Outcome State Fault Refusal :=
  .next (s.keyxRetry p)

/-- KEYX_TIMEOUT (R364). -/
def execKeyxTimeout (p : Fin 4) (s : State) : Host.Outcome State Fault Refusal :=
  .next (s.keyxExpired p)

/-- SNP_INV (R351). -/
def execSnpInv (p : Fin 4) (s : State) : Host.Outcome State Fault Refusal :=
  .next (State.settle (s.zaricSnoop p 0x10))

/-- SNP_SHR (R351). -/
def execSnpShr (p : Fin 4) (s : State) : Host.Outcome State Fault Refusal :=
  .next (State.settle (s.zaricSnoop p 0x11))

/-- COMP (R283). -/
def execComp (p : Fin 4) (s : State) : Host.Outcome State Fault Refusal :=
  .next (State.settle (s.compIn p))

/-- SNP_RSP (R341). -/
def execSnpRsp (p : Fin 4) (s : State) : Host.Outcome State Fault Refusal :=
  .next (State.settle (s.snoopRspIn p 0x19))

/-- MGMT_ACK (R286). -/
def execMgmtAck (p : Fin 4) (s : State) : Host.Outcome State Fault Refusal :=
  .next (State.settle (s.mgmtAckIn p))

/-- RDDATA (R282). -/
def execRddata (p : Fin 4) (s : State) : Host.Outcome State Fault Refusal :=
  .next (State.settle (s.readDataIn p))

/-- ATOMIC_OLD (R347). -/
def execAtomicOld (p : Fin 4) (s : State) : Host.Outcome State Fault Refusal :=
  .next (State.settle (s.atomicOldIn p))

/-- SNP_DATA (R341). -/
def execSnpData (p : Fin 4) (s : State) : Host.Outcome State Fault Refusal :=
  .next (State.settle (s.snoopRspIn p 0x22))

/-- OWN_DATA (R350). -/
def execOwnData (p : Fin 4) (s : State) : Host.Outcome State Fault Refusal :=
  .next (State.settle (s.ownDataIn p))

/-- PEER_REQUEST_TIMEOUT (R283). (DESIGN CHOICE, log 29) -/
def execPeerRequestTimeout (tag : BitVec 16) (s : State) : Host.Outcome State Fault Refusal :=
  .next (State.settle (s.requestTimeout tag))

/-- PEER_TAG_RELEASE (R283). -/
def execPeerTagRelease (tag : BitVec 16) (s : State) : Host.Outcome State Fault Refusal :=
  .next (State.settle (s.tagRelease tag))

/-- MGMT_RETRY (R286). -/
def execMgmtRetry (tag : BitVec 16) (s : State) : Host.Outcome State Fault Refusal :=
  .next (State.settle (s.mgmtRetry tag))

end Sys2Proof.Machine
end

