-- ==== Sys2Proof/Machine/ExecQueues.lean ====
section
/-! DEFINITION. Meanings of the commands of partitions, queues and channel control. -/

namespace Sys2Proof.Machine

/-- STOP or ABORT of a function has nothing left to do: it reads DISABLED (06 R144). -/
def State.disabledNow (s : State) (t : DisableTarget) : State :=
  match t with
  | .queue q => State.queueSettle q s
  | .channel c => State.chanSettle c s
  | .part p => State.partSettle p s

/-- PARTITION_ENABLE (R127). -/
def execPartitionEnable (path : Path) (p : Fin 16) (s : State) : Host.Outcome State Fault Refusal :=
  .next (s.onPath path (0x200100 + 16 * p.val) (fun t => t.partEnable p))

/-- PARTITION_STOP (R127). -/
def execPartitionStop (path : Path) (p : Fin 16) (s : State) : Host.Outcome State Fault Refusal :=
  .next (State.settle (s.onPath path (0x200100 + 16 * p.val) (fun t => t.partStop p)))

/-- PARTITION_ABORT (R423). -/
def execPartitionAbort (path : Path) (p : Fin 16) (s : State) : Host.Outcome State Fault Refusal :=
  .next (State.settle (s.onPath path (0x200100 + 16 * p.val) (fun t => t.partAbort p)))

/-- QUEUE_ENABLE (R130). -/
def execQueueEnable (path : Path) (q : Fin 4096) (cfg : BitVec 32) (s : State) : Host.Outcome State Fault Refusal :=
  .next (State.settle (s.onPath path (0x220008 + 32 * q.val) (fun t => t.queueCfg q cfg)))

/-- QUEUE_STOP (R141). -/
def execQueueStop (path : Path) (q : Fin 4096) (s : State) : Host.Outcome State Fault Refusal :=
  .next (State.settle (s.onPath path (0x22000C + 32 * q.val) (fun t => t.queueStop q)))

/-- QUEUE_ABORT (R142). -/
def execQueueAbort (path : Path) (q : Fin 4096) (s : State) : Host.Outcome State Fault Refusal :=
  .next (State.settle (s.onPath path (0x22000C + 32 * q.val) (fun t => t.queueAbort q)))

/-- CHANNEL_ENABLE (R232). -/
def execChannelEnable (path : Path) (c : Fin 64) (s : State) : Host.Outcome State Fault Refusal :=
  .next (s.onPath path (0x210000 + 256 * c.val) (fun t => if t.chanWritable path c then t.chanEnable c else t))

/-- CHANNEL_STOP (R232). -/
def execChannelStop (path : Path) (c : Fin 64) (s : State) : Host.Outcome State Fault Refusal :=
  .next (State.settle (s.onPath path (0x210000 + 256 * c.val) (fun t => if t.chanWritable path c then t.chanStop c else t)))

/-- CHANNEL_ABORT (R232). -/
def execChannelAbort (path : Path) (c : Fin 64) (s : State) : Host.Outcome State Fault Refusal :=
  .next (State.settle (s.onPath path (0x210000 + 256 * c.val) (fun t => if t.chanWritable path c then t.chanAbort c else t)))

/-- DISABLE_COMPLETE (R144). -/
def execDisableComplete (t : DisableTarget) (s : State) : Host.Outcome State Fault Refusal :=
  .next (s.disabledNow t)

/-- COMPLETION_COUNT_WRITE (R231). -/
def execCompletionCountWrite (path : Path) (c : Fin 64) (value : BitVec 32) (s : State) : Host.Outcome State Fault Refusal :=
  .next (s.onPath path (0x210008 + 256 * c.val) (fun t => t.chanCount c value))

/-- MANAGEMENT_DOORBELL_LO (R234). -/
def execManagementDoorbellLo (path : Path) (c : Fin 64) (value : BitVec 32) (s : State) : Host.Outcome State Fault Refusal :=
  .next (s.onPath path (0x210054 + 256 * c.val) (fun t => t.mgmtDoorbellLo path c value))

/-- MANAGEMENT_DOORBELL_COMMIT (R234). -/
def execManagementDoorbellCommit (path : Path) (c : Fin 64) (value : BitVec 32) (s : State) : Host.Outcome State Fault Refusal :=
  .next (s.onPath path (0x210058 + 256 * c.val) (fun t => t.mgmtDoorbellHi path c value))

/-- DESCRIPTOR_BOUNDARY (R134). -/
def execDescriptorBoundary (c : Fin 64) (s : State) : Host.Outcome State Fault Refusal :=
  .next (State.settle (s.boundary c))

/-- DESCRIPTOR_FETCH_RETURN (R207). -/
def execDescriptorFetchReturn (c : Fin 64) (s : State) : Host.Outcome State Fault Refusal :=
  .next (State.settle (s.fetchReturn c))

end Sys2Proof.Machine
end

