-- ==== Sys2Proof/Machine/ExecRings.lean ====
section
/-! DEFINITION. Meanings of the commands of the management rings and of what firmware does for them. -/

namespace Sys2Proof.Machine

/-- SH_CMD_PROD_WRITE (R110). -/
def execShCmdProdWrite (path : Path) (value : BitVec 32) (s : State) : Host.Outcome State Fault Refusal :=
  .next (State.settle (s.onPath path (0x30208) (fun t => t.cmdProdWrite value)))

/-- HELLO (R114). -/
def execHello (e : CmdEntry) (s : State) : Host.Outcome State Fault Refusal :=
  .next (State.settle (s.hello e))

/-- GOODBYE (R114). -/
def execGoodbye (e : CmdEntry) (s : State) : Host.Outcome State Fault Refusal :=
  .next (State.settle (s.goodbye e))

/-- NOP (R111). -/
def execNop (e : CmdEntry) (s : State) : Host.Outcome State Fault Refusal :=
  .next (State.settle (s.nop e))

/-- MODE_CHANGE (R118). -/
def execModeChange (e : CmdEntry) (words : ReadResult) (s : State) : Host.Outcome State Fault Refusal :=
  .next (State.settle (s.modeChange e words))

/-- UNIT_PREPARE_ACK (R118). -/
def execUnitPrepareAck (u : UnitRef) (s : State) : Host.Outcome State Fault Refusal :=
  .next (State.settle (s.unitAck u))

/-- UNIT_COMMIT_CONFIRM (R119). -/
def execUnitCommitConfirm (u : UnitRef) (s : State) : Host.Outcome State Fault Refusal :=
  .next (State.settle (s.unitConfirm u))

/-- MODE_ROLLBACK (R120). -/
def execModeRollback (s : State) : Host.Outcome State Fault Refusal :=
  .next (State.settle (s.modeRevert))

/-- UNIT_SELF_REVERT (R121). -/
def execUnitSelfRevert (u : UnitRef) (s : State) : Host.Outcome State Fault Refusal :=
  .next (State.settle (s.unitAlone u))

/-- QUEUE_SAVE (R124). -/
def execQueueSave (e : CmdEntry) (s : State) : Host.Outcome State Fault Refusal :=
  .next (State.settle (s.queueSave e))

/-- CHART_FORWARD (R284). -/
def execChartForward (e : CmdEntry) (chart : ReadResult) (s : State) : Host.Outcome State Fault Refusal :=
  .next (State.settle (s.chartForward e chart))

/-- IMAGE_FORWARD (R284). -/
def execImageForward (e : CmdEntry) (image : ReadResult) (s : State) : Host.Outcome State Fault Refusal :=
  .next (State.settle (s.imageForward e image))

/-- SCRUB (R376). -/
def execScrub (e : CmdEntry) (s : State) : Host.Outcome State Fault Refusal :=
  .next (State.settle (s.scrubCmd e))

/-- SCRUB_COMPLETE (R376). -/
def execScrubComplete (s : State) : Host.Outcome State Fault Refusal :=
  .next (State.settle (s.scrubEnd))

/-- MEASURE (R373). -/
def execMeasure (e : CmdEntry) (leaves : List LeafView) (s : State) : Host.Outcome State Fault Refusal :=
  .next (State.settle (s.measure e leaves))

/-- MEASURE_AND_SEAL (R373). -/
def execMeasureAndSeal (e : CmdEntry) (leaves : List LeafView) (s : State) : Host.Outcome State Fault Refusal :=
  .next (State.settle (s.measureAndSeal e leaves))

/-- MEASUREMENT_COMPLETE (R373). -/
def execMeasurementComplete (content : ReadResult) (s : State) : Host.Outcome State Fault Refusal :=
  .next (State.settle (s.measured content))

/-- UNSEAL (R375). -/
def execUnseal (e : CmdEntry) (s : State) : Host.Outcome State Fault Refusal :=
  .next (State.settle (s.unsealCmd e))

/-- RETIRE (R375). -/
def execRetire (e : CmdEntry) (s : State) : Host.Outcome State Fault Refusal :=
  .next (State.settle (s.retireCmd e))

/-- ALLOC_POOL_CREATE (R146). -/
def execAllocPoolCreate (e : CmdEntry) (pages : ReadResult) (s : State) : Host.Outcome State Fault Refusal :=
  .next (State.settle (s.ringAct e 9 0x40 40 0 4 (State.allocPool · e 0 pages)))

/-- ALLOC_POOL_ADD (R146). -/
def execAllocPoolAdd (e : CmdEntry) (pages : ReadResult) (s : State) : Host.Outcome State Fault Refusal :=
  .next (State.settle (s.ringAct e 9 0x40 40 1 4 (State.allocPool · e 1 pages)))

/-- ALLOC_POOL_ATTACH (R146). -/
def execAllocPoolAttach (e : CmdEntry) (region : ReadResult) (s : State) : Host.Outcome State Fault Refusal :=
  .next (State.settle (s.ringAct e 9 0x40 40 2 4 (State.allocPool · e 2 region)))

/-- ALLOC_POOL_DETACH (R146). -/
def execAllocPoolDetach (e : CmdEntry) (s : State) : Host.Outcome State Fault Refusal :=
  .next (State.settle (s.ringAct e 9 0x40 40 3 4 (State.allocPool · e 3 (.ok []))))

/-- PARTITION_RELEASE (R155). -/
def execPartitionRelease (e : CmdEntry) (s : State) : Host.Outcome State Fault Refusal :=
  .next (State.settle (s.releaseCmd e))

/-- PARTITION_RELEASE_COMPLETE (R155). -/
def execPartitionReleaseComplete (s : State) : Host.Outcome State Fault Refusal :=
  .next (State.settle (s.releaseEnd))

/-- TELEMETRY (R406). -/
def execTelemetry (e : CmdEntry) (s : State) : Host.Outcome State Fault Refusal :=
  .next (State.settle (s.telemetryCmd e))

/-- AGEING_LOAD (R402). -/
def execAgeingLoad (e : CmdEntry) (history : ReadResult) (s : State) : Host.Outcome State Fault Refusal :=
  .next (State.settle (s.ageingLoad e history))

/-- MARGIN_TEST_SCAN (R401). -/
def execMarginTestScan (e : CmdEntry) (samples : List Bytes) (s : State) : Host.Outcome State Fault Refusal :=
  .next (State.settle (s.marginScan e samples))

/-- MARGIN_TEST_ACCEPT_FALLBACK (R401). -/
def execMarginTestAcceptFallback (e : CmdEntry) (s : State) : Host.Outcome State Fault Refusal :=
  .next (State.settle (s.acceptFallback e))

/-- SH_EVT_CONS_WRITE (R112). -/
def execShEvtConsWrite (path : Path) (value : BitVec 32) (s : State) : Host.Outcome State Fault Refusal :=
  .next (State.settle (s.onPath path (0x3021C) (fun t => t.evtConsWrite value)))

/-- UNKNOWN_COMMAND (R111). -/
def execUnknownCommand (opcode : BitVec 16) (seq : BitVec 32) (read : EntryRead) (s : State) : Host.Outcome State Fault Refusal :=
  .next (State.settle (s.unknownCmd opcode seq read))

end Sys2Proof.Machine
end

