-- ==== Sys2Proof/Machine/ExecSpdm.lean ====
section
/-! DEFINITION. Meanings of the SPDM, IDE_KM and endorsement commands. -/

namespace Sys2Proof.Machine

/-- GET_VERSION (R367). -/
def execGetVersion (n : Fin 2) (s : State) : Host.Outcome State Fault Refusal :=
  .next (s.getVersion n)

/-- GET_CAPABILITIES (R367). -/
def execGetCapabilities (n : Fin 2) (version : Byte) (s : State) : Host.Outcome State Fault Refusal :=
  .next (s.getCapabilities n version)

/-- NEGOTIATE_ALGORITHMS (R367). -/
def execNegotiateAlgorithms (n : Fin 2) (version : Byte) (s : State) : Host.Outcome State Fault Refusal :=
  .next (s.negotiate n version)

/-- GET_DIGESTS (R367). -/
def execGetDigests (n : Fin 2) (version : Byte) (s : State) : Host.Outcome State Fault Refusal :=
  .next (s.getDigests n version)

/-- GET_CERTIFICATE (R362). -/
def execGetCertificate (n : Fin 2) (version : Byte) (slot : Nat) (offset : Nat) (length : Nat) (s : State) : Host.Outcome State Fault Refusal :=
  .next (s.getCertificate n version slot offset length)

/-- CHALLENGE (R367). -/
def execChallenge (n : Fin 2) (version : Byte) (slot : Nat) (nonce : BitVec 256) (s : State) : Host.Outcome State Fault Refusal :=
  .next (s.challenge n version slot nonce)

/-- GET_MEASUREMENTS (R369). -/
def execGetMeasurements (n : Fin 2) (version : Byte) (index : Byte) (signed : Bool) (nonce : BitVec 256) (s : State) : Host.Outcome State Fault Refusal :=
  .next (s.getMeasurements n version index signed nonce)

/-- KEY_EXCHANGE (R368). -/
def execKeyExchange (n : Fin 2) (version : Byte) (share : Bytes) (random : BitVec 256) (s : State) : Host.Outcome State Fault Refusal :=
  .next (s.keyExchange n version share random)

/-- FINISH (R368). -/
def execFinish (n : Fin 2) (version : Byte) (macOk : Bool) (s : State) : Host.Outcome State Fault Refusal :=
  .next (s.finishSession n version macOk)

/-- HEARTBEAT (R368). -/
def execHeartbeat (n : Fin 2) (version : Byte) (s : State) : Host.Outcome State Fault Refusal :=
  .next (s.heartbeat n version)

/-- KEY_UPDATE (R367). -/
def execKeyUpdate (n : Fin 2) (version : Byte) (s : State) : Host.Outcome State Fault Refusal :=
  .next (s.keyUpdate n version)

/-- END_SESSION (R368). -/
def execEndSession (n : Fin 2) (version : Byte) (s : State) : Host.Outcome State Fault Refusal :=
  .next (s.endSession n version)

/-- UNSUPPORTED_SPDM_REQUEST (R367). -/
def execUnsupportedSpdmRequest (n : Fin 2) (version : Byte) (code : Byte) (s : State) : Host.Outcome State Fault Refusal :=
  .next (s.spdmOther n version code)

/-- SPDM_HEARTBEAT_EXPIRY (R368). -/
def execSpdmHeartbeatExpiry (s : State) : Host.Outcome State Fault Refusal :=
  .next (s.heartbeatExpired)

/-- QUERY (R366). -/
def execQuery (n : Fin 2) (s : State) : Host.Outcome State Fault Refusal :=
  .next (s.ideQuery n)

/-- KEY_PROG (R366). -/
def execKeyProg (n : Fin 2) (stream : IdeStream) (keySet : Fin 2) (tx : Bool) (key : BitVec 256) (s : State) : Host.Outcome State Fault Refusal :=
  .next (s.ideKey n stream keySet tx key)

/-- K_SET_GO (R366). -/
def execKSetGo (n : Fin 2) (stream : IdeStream) (keySet : Fin 2) (tx : Bool) (s : State) : Host.Outcome State Fault Refusal :=
  .next (s.ideGo n stream keySet tx)

/-- K_SET_STOP (R366). -/
def execKSetStop (n : Fin 2) (stream : IdeStream) (keySet : Fin 2) (tx : Bool) (s : State) : Host.Outcome State Fault Refusal :=
  .next (s.ideStop n stream keySet tx)

/-- SH_ID_ENDORSE_BEGIN (R361). -/
def execShIdEndorseBegin (path : Path) (s : State) : Host.Outcome State Fault Refusal :=
  .next (s.onPath path (0x40004) (fun t => t.endorseBegin))

/-- SH_ID_ENDORSE_DATA_WRITE (R361). -/
def execShIdEndorseDataWrite (path : Path) (data : BitVec 32) (s : State) : Host.Outcome State Fault Refusal :=
  .next (s.onPath path (0x40008) (fun t => t.endorseData data))

/-- SH_ID_ENDORSE_COMMIT (R361). -/
def execShIdEndorseCommit (path : Path) (s : State) : Host.Outcome State Fault Refusal :=
  .next (s.onPath path (0x40004) (fun t => t.endorseCommit))

end Sys2Proof.Machine
end

