-- ==== Sys2Proof/Machine/Links.lean ====
section
/-! DEFINITION. What the loss of a slice link or of a clock inside the hold slice ends beyond the accesses in flight: engine requests
that need SL-B, and rounds of combine slots (01 R15; 02 R46, R58; 03 R66; 12 R299). -/

namespace Sys2Proof.Machine

/-- Engine requests that cannot cross a slice link end (02 R46, R58). -/
def State.endEngines (s : State) : State :=
  eachOf (fun (r : EngReq) (t : State) => match t.engReq r.port r.rq.tag, t.engWay r.op with
    | some r, some st => t.cutReq st r
    | _, _ => t) s.engReqs s

/-- Rounds in one of some states end without a result credit (12 R299). -/
def State.endRounds (st : Status) (ks : List SlotState) (s : State) : State :=
  eachOf (fun n (t : State) => if ks.contains (t.slot n).state then t.slotFail n st else t) (s.cmb.slots.map (·.1)) s

/-- The hold cannot be reached from the hold slice's CORE domain (03 R66). (DESIGN CHOICE, log 103) -/
def State.storeLost (s : State) : Bool := (s.clock .hd).dead.getLsbD 2

/-- What else ends once SL-A or SL-B, or the CORE-STORE boundary of the hold slice, has left service: engine requests; rounds that
still collect contributions, which cross SL-A; and every access and round that needs the hold. (DESIGN CHOICE, log 103) -/
def State.afterLoss (s old : State) : State :=
  let newly (l : Link) : Bool := (s.linkFault l).isSome && (old.linkFault l).isNone
  let s := if newly .slA || newly .slB then s.endEngines else s
  let s := match old.linkFault .slA, s.linkFault .slA with
    | none, some st => (s.cutHome st).endRounds st [.open_]
    | _, _ => s
  if s.storeLost && !old.storeLost then (s.failWhere (fun a => a.agent != .block) .clockLost).endRounds .clockLost [.open_, .writing] else s

end Sys2Proof.Machine
end

