-- ==== Sys2Proof/Machine/ExecStart.lean ====
section
/-! DEFINITION. Meanings of the commands of reset, start, clocks, supplies, thermal codes and slice links. -/

namespace Sys2Proof.Machine

/-- POR_N_ASSERT (R73). -/
def execPorNAssert (sl : Slice) (s : State) : Host.Outcome State Fault Refusal :=
  .next (State.settle (s.coldAssert sl))

/-- POR_N_RELEASE (R97). -/
def execPorNRelease (sl : Slice) (s : State) : Host.Outcome State Fault Refusal :=
  .next (s.coldRelease sl)

/-- WRST_N_ASSERT (R57). -/
def execWrstNAssert (sl : Slice) (s : State) : Host.Outcome State Fault Refusal :=
  .next (State.settle (s.warmAssert sl))

/-- WRST_N_RELEASE (R97). -/
def execWrstNRelease (sl : Slice) (s : State) : Host.Outcome State Fault Refusal :=
  .next (State.settle ((s.warmGo sl).startTold s))

/-- FUSE_READ (R49). -/
def execFuseRead (uds : BitVec 256) (keyHash : BitVec 384) (policy : BitVec 16) (s : State) : Host.Outcome State Fault Refusal :=
  .next ((s.fuseRead uds keyHash policy).startTold s)

/-- FUSE_TIMEOUT (R49). -/
def execFuseTimeout (s : State) : Host.Outcome State Fault Refusal :=
  .next (s.fuseTimeout.startTold s)

/-- SLICE_LINK_BRING_UP (R56). -/
def execSliceLinkBringUp (l : Link) (s : State) : Host.Outcome State Fault Refusal :=
  .next ((s.linkBringUp l).startTold s)

/-- SLICE_LINK_BRING_UP_TIMEOUT (R56). (DEDUCED, log 93) -/
def execSliceLinkBringUpTimeout (l : Link) (s : State) : Host.Outcome State Fault Refusal :=
  .next ((s.linkSilent l).startTold s)

/-- SELF_TEST_COMPLETE (R100). -/
def execSelfTestComplete (failed : UnitSet) (s : State) : Host.Outcome State Fault Refusal :=
  .next ((s.selfTest failed).startTold s)

/-- HOLD_INITIALISATION (R97). -/
def execHoldInitialisation (s : State) : Host.Outcome State Fault Refusal :=
  .next (s.holdInit.startTold s)

/-- DEVICEID_DERIVATION (R358). -/
def execDeviceidDerivation (s : State) : Host.Outcome State Fault Refusal :=
  .next (s.deriveDevice.startTold s)

/-- PORT_READINESS (R97). -/
def execPortReadiness (s : State) : Host.Outcome State Fault Refusal :=
  .next (s.portsReady.startTold s)

/-- PEER_KEY_SETUP_COMPLETE (R364). -/
def execPeerKeySetupComplete (s : State) : Host.Outcome State Fault Refusal :=
  .next (s.peersReady.startTold s)

/-- ALIAS_KEY_DERIVATION (R358). -/
def execAliasKeyDerivation (chain : ReadResult) (s : State) : Host.Outcome State Fault Refusal :=
  .next ((s.deriveAlias chain).startTold s)

/-- SEC_READY (R105). -/
def execSecReady (s : State) : Host.Outcome State Fault Refusal :=
  .next (State.settle (s.secReadyGo.startTold s))

/-- START_INVALIDATION (R97). -/
def execStartInvalidation (s : State) : Host.Outcome State Fault Refusal :=
  .next (State.settle (s.startInvalidate.startTold s))

/-- START_STATE_RESET (R97). -/
def execStartStateReset (s : State) : Host.Outcome State Fault Refusal :=
  .next (State.settle (s.startReset.startTold s))

/-- QUEUE_STATE_RECOVERY (R125). -/
def execQueueStateRecovery (area : ReadResult) (s : State) : Host.Outcome State Fault Refusal :=
  .next (State.settle ((s.queueRecover area).startTold s))

/-- SUPPLY_WARN_RISE (R69). -/
def execSupplyWarnRise (sl : Slice) (s : State) : Host.Outcome State Fault Refusal :=
  .next (s.warnRise sl)

/-- SUPPLY_WARN_FALL (R69). -/
def execSupplyWarnFall (sl : Slice) (s : State) : Host.Outcome State Fault Refusal :=
  .next (s.warnFall sl)

/-- EBB_EXIT (R69). -/
def execEbbExit (sl : Slice) (s : State) : Host.Outcome State Fault Refusal :=
  .next (s.ebbExit sl)

/-- SUPPLY_ACK (R51). -/
def execSupplyAck (sl : Slice) (s : State) : Host.Outcome State Fault Refusal :=
  .next (State.settle (s.supplyAcked sl))

/-- SUPPLY_ACK_TIMEOUT (R51). -/
def execSupplyAckTimeout (sl : Slice) (s : State) : Host.Outcome State Fault Refusal :=
  .next (State.settle (s.supplyMissed sl))

/-- STACK_TEMPERATURE_CODE (R52). -/
def execStackTemperatureCode (t : Fin 4) (code : Byte) (s : State) : Host.Outcome State Fault Refusal :=
  .next (State.settle (s.stackCode t.val code))

/-- STACK_STALE_TIMEOUT (R52). -/
def execStackStaleTimeout (t : Fin 4) (s : State) : Host.Outcome State Fault Refusal :=
  .next (s.stackStale t.val)

/-- CLOCK_LOST (R58). -/
def execClockLost (sl : Slice) (crossing : Fin 9) (s : State) : Host.Outcome State Fault Refusal :=
  .next (State.settle ((s.clockLost sl crossing.val).afterLoss s))

/-- UNIT_CLOCK_GATE (R62). -/
def execUnitClockGate (u : UnitRef) (s : State) : Host.Outcome State Fault Refusal :=
  .next (s.gateUnit u)

/-- SLICE_LINK_GROUP_RECEIVE (R46). -/
def execSliceLinkGroupReceive (l : Link) (rx : Slice) (damaged : Bool) (s : State) : Host.Outcome State Fault Refusal :=
  .next (State.settle ((s.linkGroup l rx damaged).afterLoss s))

/-- TAP_INSTRUCTION (R54). -/
def execTapInstruction (sl : Slice) (i : TapInstr) (s : State) : Host.Outcome State Fault Refusal :=
  .next (s.tapDo sl i)

/-- ENTROPY_HEALTH_FAIL (R360). -/
def execEntropyHealthFail (s : State) : Host.Outcome State Fault Refusal :=
  .next (s.entropyFailed)

end Sys2Proof.Machine
end

