-- ==== Sys2Proof/Machine/ExecTrans.lean ====
section
/-! DEFINITION. Meanings of the commands of translation, faults, invalidation, roots, windows and attach registers. -/

namespace Sys2Proof.Machine

/-- Walker `w` takes a waiting miss, if it is free, not fenced, and the reservations and rotation give it one (07 R172).
(DEDUCED, log 37) -/
def State.walkStart (s : State) (w : Nat) : State :=
  if s.fenced.walkers.getLsbD w || s.trans.walks.any (fun k => k.walker == some w) then s
  else match s.nextWalkPart with
    | some (p, pool) => s.giveWalker p pool w
    | none => s

/-- The entry that walker `w` read is back: the walk goes on (07 R166). (DEDUCED, log 37) -/
def State.walkEntryIn (s : State) (w : Nat) : State :=
  match s.trans.walks.find? (fun k => k.walker == some w && k.got.isSome) with
  | some k => (match k.got with
    | some r => s.walkReturn k r
    | none => s)
  | none => s

/-- The command that may complete does (08 R198), and commands without drain that waited for its ticket with it; a free that
it served goes on to push its pages (06 R153). -/
def State.invalidated (s : State) : State :=
  match s.invReady with
  | none => s
  | some c =>
    let t := State.invNow 16 (s.invFinish c)
    match c.source with
    | .free_ w => t.freeDrained w
    | _ => t

/-- WALK_START (R172). -/
def execWalkStart (w : Fin 32) (s : State) : Host.Outcome State Fault Refusal :=
  .next (State.settle (s.walkStart w))

/-- WALK_ENTRY_RETURN (R166). -/
def execWalkEntryReturn (w : Fin 32) (s : State) : Host.Outcome State Fault Refusal :=
  .next (State.settle (s.walkEntryIn w))

/-- LANDING_RECORD_WRITE (R187). -/
def execLandingRecordWrite (p : Fin 16) (s : State) : Host.Outcome State Fault Refusal :=
  .next (State.settle (s.writeLanding p))

/-- EN_LAND_CONS_WRITE (R187). -/
def execEnLandConsWrite (path : Path) (p : Fin 16) (value : BitVec 32) (s : State) : Host.Outcome State Fault Refusal :=
  .next (s.onPath path (0x100810 + 32 * p.val) (fun t => t.landConsWrite p value))

/-- EN_LAND_CFG_WRITE (R186). -/
def execEnLandCfgWrite (path : Path) (p : Fin 16) (value : BitVec 32) (s : State) : Host.Outcome State Fault Refusal :=
  .next (s.onPath path (0x100808 + 32 * p.val) (fun t => t.landCfgWrite p value))

/-- RETRY (R190). -/
def execRetry (path : Path) (value : BitVec 32) (s : State) : Host.Outcome State Fault Refusal :=
  .next (State.settle (s.onPath path (0x100D00) (fun t => t.resume value)))

/-- FAIL (R191). -/
def execFail (path : Path) (value : BitVec 32) (s : State) : Host.Outcome State Fault Refusal :=
  .next (State.settle (s.onPath path (0x100D00) (fun t => t.resume value)))

/-- FAULT_TIMEOUT (R192). (DESIGN CHOICE, log 29) -/
def execFaultTimeout (stream : Fin 316) (s : State) : Host.Outcome State Fault Refusal :=
  .next (State.settle (s.faultExpire stream))

/-- EN_ROOT_WRITE (R161). -/
def execEnRootWrite (path : Path) (p : Fin 16) (hi : Bool) (value : BitVec 32) (s : State) : Host.Outcome State Fault Refusal :=
  .next (s.onPath path (0x100000 + 8 * p.val + if hi then 4 else 0) (fun t => t.rootWrite p hi value))

/-- EN_HOSTWIN_WRITE (R177). -/
def execEnHostwinWrite (path : Path) (k : Fin 4) (reg : Fin 4) (value : BitVec 32) (s : State) : Host.Outcome State Fault Refusal :=
  .next (s.onPath path (0x100100 + 16 * k.val + 4 * reg.val) (fun t => t.hostWinWrite k reg value))

/-- INVALIDATE_RANGE (R194). -/
def execInvalidateRange (path : Path) (value : BitVec 32) (s : State) : Host.Outcome State Fault Refusal :=
  .next (s.onPath path (0x100C0C) (fun t => t.invGo value))

/-- INVALIDATE_PARTITION (R194). -/
def execInvalidatePartition (path : Path) (value : BitVec 32) (s : State) : Host.Outcome State Fault Refusal :=
  .next (s.onPath path (0x100C0C) (fun t => t.invGo value))

/-- INVALIDATE_ALL (R194). -/
def execInvalidateAll (path : Path) (value : BitVec 32) (s : State) : Host.Outcome State Fault Refusal :=
  .next (s.onPath path (0x100C0C) (fun t => t.invGo value))

/-- INVALIDATION_TAKEN (R196). -/
def execInvalidationTaken (s : State) : Host.Outcome State Fault Refusal :=
  .next (State.settle (s.invTake))

/-- INVALIDATION_COMPLETE (R198). -/
def execInvalidationComplete (s : State) : Host.Outcome State Fault Refusal :=
  .next (State.settle (s.invalidated))

/-- INVALIDATION_DEADLINE (R199). -/
def execInvalidationDeadline (id : Nat) (s : State) : Host.Outcome State Fault Refusal :=
  .next (State.settle (s.invDeadline id))

/-- HD_WIN_ATTACH_WRITE (R336). -/
def execHdWinAttachWrite (path : Path) (i : Fin 8) (value : BitVec 32) (s : State) : Host.Outcome State Fault Refusal :=
  .next (s.onPath path (0x2D0000 + 4 * i.val) (fun t => t.attachReg i value))

/-- HD_AP_CLEAR (R349). -/
def execHdApClear (path : Path) (value : BitVec 32) (s : State) : Host.Outcome State Fault Refusal :=
  .next (s.onPath path (0x2D0900) (fun t => t.apCtrl value))

end Sys2Proof.Machine
end

