-- ==== Sys2Proof/Machine/Dispatch.lean ====
section
/-! DEFINITION. Which meaning each command has: one arm per constructor, one direct call each. -/

namespace Sys2Proof.Machine

/-- The effect of a command on everything but the queue. (DESIGN CHOICE, log 6) -/
def exec (i : Instr) (s : State) : Host.Outcome State Fault Refusal :=
  match i with
  | .porNAssert sl => Sys2Proof.Machine.execPorNAssert sl s
  | .porNRelease sl => Sys2Proof.Machine.execPorNRelease sl s
  | .wrstNAssert sl => Sys2Proof.Machine.execWrstNAssert sl s
  | .wrstNRelease sl => Sys2Proof.Machine.execWrstNRelease sl s
  | .fuseRead uds keyHash policy => Sys2Proof.Machine.execFuseRead uds keyHash policy s
  | .fuseTimeout => Sys2Proof.Machine.execFuseTimeout s
  | .sliceLinkBringUp l => Sys2Proof.Machine.execSliceLinkBringUp l s
  | .sliceLinkBringUpTimeout l => Sys2Proof.Machine.execSliceLinkBringUpTimeout l s
  | .selfTestComplete failed => Sys2Proof.Machine.execSelfTestComplete failed s
  | .holdInitialisation => Sys2Proof.Machine.execHoldInitialisation s
  | .deviceidDerivation => Sys2Proof.Machine.execDeviceidDerivation s
  | .portReadiness => Sys2Proof.Machine.execPortReadiness s
  | .peerKeySetupComplete => Sys2Proof.Machine.execPeerKeySetupComplete s
  | .aliasKeyDerivation chain => Sys2Proof.Machine.execAliasKeyDerivation chain s
  | .secReady => Sys2Proof.Machine.execSecReady s
  | .startInvalidation => Sys2Proof.Machine.execStartInvalidation s
  | .startStateReset => Sys2Proof.Machine.execStartStateReset s
  | .queueStateRecovery area => Sys2Proof.Machine.execQueueStateRecovery area s
  | .supplyWarnRise sl => Sys2Proof.Machine.execSupplyWarnRise sl s
  | .supplyWarnFall sl => Sys2Proof.Machine.execSupplyWarnFall sl s
  | .ebbExit sl => Sys2Proof.Machine.execEbbExit sl s
  | .supplyAck sl => Sys2Proof.Machine.execSupplyAck sl s
  | .supplyAckTimeout sl => Sys2Proof.Machine.execSupplyAckTimeout sl s
  | .stackTemperatureCode t code => Sys2Proof.Machine.execStackTemperatureCode t code s
  | .stackStaleTimeout t => Sys2Proof.Machine.execStackStaleTimeout t s
  | .clockLost sl crossing => Sys2Proof.Machine.execClockLost sl crossing s
  | .unitClockGate u => Sys2Proof.Machine.execUnitClockGate u s
  | .hostLinkUp n => Sys2Proof.Machine.execHostLinkUp n s
  | .hostLinkErr n => Sys2Proof.Machine.execHostLinkErr n s
  | .bar0InvalidAccess n write addr size => Sys2Proof.Machine.execBar0InvalidAccess n write addr size s
  | .hostDoorbell n page value => Sys2Proof.Machine.execHostDoorbell n page value s
  | .bar2OtherWrite n offset size => Sys2Proof.Machine.execBar2OtherWrite n offset size s
  | .bar2Read n offset size => Sys2Proof.Machine.execBar2Read n offset size s
  | .configurationRequest n write reg value => Sys2Proof.Machine.execConfigurationRequest n write reg value s
  | .ioRequest n => Sys2Proof.Machine.execIoRequest n s
  | .hostSnoop n addr => Sys2Proof.Machine.execHostSnoop n addr s
  | .cxlCacheCompletion n tag data poison => Sys2Proof.Machine.execCxlCacheCompletion n tag data poison s
  | .atsInvalidationRequest n pasid va bytes tag => Sys2Proof.Machine.execAtsInvalidationRequest n pasid va bytes tag s
  | .atsTranslationRequest n pasid va tag => Sys2Proof.Machine.execAtsTranslationRequest n pasid va tag s
  | .memrd n addr mv tag => Sys2Proof.Machine.execMemrd n addr mv tag s
  | .memrddata n addr tag => Sys2Proof.Machine.execMemrddata n addr tag s
  | .memwr n addr mv tag data be poison => Sys2Proof.Machine.execMemwr n addr mv tag data be poison s
  | .memwrptl n addr tag data be poison => Sys2Proof.Machine.execMemwrptl n addr tag data be poison s
  | .memspecrd n addr => Sys2Proof.Machine.execMemspecrd n addr s
  | .biconflict n addr => Sys2Proof.Machine.execBiconflict n addr s
  | .birsp n addr st => Sys2Proof.Machine.execBirsp n addr st s
  | .unknownM2sRequest n isRead addr tag => Sys2Proof.Machine.execUnknownM2sRequest n isRead addr tag s
  | .hdmHRequest n write addr tag data be poison => Sys2Proof.Machine.execHdmHRequest n write addr tag data be poison s
  | .snoopTimeout addr cache => Sys2Proof.Machine.execSnoopTimeout addr cache s
  | .getVersion n => Sys2Proof.Machine.execGetVersion n s
  | .getCapabilities n version => Sys2Proof.Machine.execGetCapabilities n version s
  | .negotiateAlgorithms n version => Sys2Proof.Machine.execNegotiateAlgorithms n version s
  | .getDigests n version => Sys2Proof.Machine.execGetDigests n version s
  | .getCertificate n version slot offset length => Sys2Proof.Machine.execGetCertificate n version slot offset length s
  | .challenge n version slot nonce => Sys2Proof.Machine.execChallenge n version slot nonce s
  | .getMeasurements n version index signed nonce => Sys2Proof.Machine.execGetMeasurements n version index signed nonce s
  | .keyExchange n version share random => Sys2Proof.Machine.execKeyExchange n version share random s
  | .finish n version macOk => Sys2Proof.Machine.execFinish n version macOk s
  | .heartbeat n version => Sys2Proof.Machine.execHeartbeat n version s
  | .keyUpdate n version => Sys2Proof.Machine.execKeyUpdate n version s
  | .endSession n version => Sys2Proof.Machine.execEndSession n version s
  | .unsupportedSpdmRequest n version code => Sys2Proof.Machine.execUnsupportedSpdmRequest n version code s
  | .spdmHeartbeatExpiry => Sys2Proof.Machine.execSpdmHeartbeatExpiry s
  | .query n => Sys2Proof.Machine.execQuery n s
  | .keyProg n stream keySet tx key => Sys2Proof.Machine.execKeyProg n stream keySet tx key s
  | .kSetGo n stream keySet tx => Sys2Proof.Machine.execKSetGo n stream keySet tx s
  | .kSetStop n stream keySet tx => Sys2Proof.Machine.execKSetStop n stream keySet tx s
  | .peerLinkUp p => Sys2Proof.Machine.execPeerLinkUp p s
  | .peerLinkDown p => Sys2Proof.Machine.execPeerLinkDown p s
  | .peerFlitReceive p flit credit => Sys2Proof.Machine.execPeerFlitReceive p flit credit s
  | .peerNak p last => Sys2Proof.Machine.execPeerNak p last s
  | .peerAckTimeout p => Sys2Proof.Machine.execPeerAckTimeout p s
  | .peerPadAck p => Sys2Proof.Machine.execPeerPadAck p s
  | .peerRequestSend id => Sys2Proof.Machine.execPeerRequestSend id s
  | .zaricRead p => Sys2Proof.Machine.execZaricRead p s
  | .zaricWrite p => Sys2Proof.Machine.execZaricWrite p s
  | .writeback p => Sys2Proof.Machine.execWriteback p s
  | .zaricAtomic p => Sys2Proof.Machine.execZaricAtomic p s
  | .zaricSignal p => Sys2Proof.Machine.execZaricSignal p s
  | .contrib p => Sys2Proof.Machine.execContrib p s
  | .own p => Sys2Proof.Machine.execOwn p s
  | .mgmtChartBegin p => Sys2Proof.Machine.execMgmtChartBegin p s
  | .mgmtChartData p => Sys2Proof.Machine.execMgmtChartData p s
  | .mgmtChartCommit p => Sys2Proof.Machine.execMgmtChartCommit p s
  | .mgmtImageData p => Sys2Proof.Machine.execMgmtImageData p s
  | .mgmtImageLoad p => Sys2Proof.Machine.execMgmtImageLoad p s
  | .mgmtStatus p => Sys2Proof.Machine.execMgmtStatus p s
  | .share p => Sys2Proof.Machine.execShare p s
  | .identity p => Sys2Proof.Machine.execIdentity p s
  | .issuer p => Sys2Proof.Machine.execIssuer p s
  | .proof p => Sys2Proof.Machine.execProof p s
  | .keyxRetry p => Sys2Proof.Machine.execKeyxRetry p s
  | .keyxTimeout p => Sys2Proof.Machine.execKeyxTimeout p s
  | .snpInv p => Sys2Proof.Machine.execSnpInv p s
  | .snpShr p => Sys2Proof.Machine.execSnpShr p s
  | .comp p => Sys2Proof.Machine.execComp p s
  | .snpRsp p => Sys2Proof.Machine.execSnpRsp p s
  | .mgmtAck p => Sys2Proof.Machine.execMgmtAck p s
  | .rddata p => Sys2Proof.Machine.execRddata p s
  | .atomicOld p => Sys2Proof.Machine.execAtomicOld p s
  | .snpData p => Sys2Proof.Machine.execSnpData p s
  | .ownData p => Sys2Proof.Machine.execOwnData p s
  | .peerRequestTimeout tag => Sys2Proof.Machine.execPeerRequestTimeout tag s
  | .peerTagRelease tag => Sys2Proof.Machine.execPeerTagRelease tag s
  | .mgmtRetry tag => Sys2Proof.Machine.execMgmtRetry tag s
  | .translate e rq => Sys2Proof.Machine.execTranslate e rq s
  | .read e rq => Sys2Proof.Machine.execRead e rq s
  | .write e rq => Sys2Proof.Machine.execWrite e rq s
  | .atomic e rq => Sys2Proof.Machine.execAtomic e rq s
  | .engineDoorbell e rq => Sys2Proof.Machine.execEngineDoorbell e rq s
  | .tideWait e rq => Sys2Proof.Machine.execTideWait e rq s
  | .engineAlloc e rq => Sys2Proof.Machine.execEngineAlloc e rq s
  | .engineFree e rq => Sys2Proof.Machine.execEngineFree e rq s
  | .engineUnknownOp e op rq => Sys2Proof.Machine.execEngineUnknownOp e op rq s
  | .engineWriteBeat e tag data beHi beLo => Sys2Proof.Machine.execEngineWriteBeat e tag data beHi beLo s
  | .memoryReadReturn m tag data poison err => Sys2Proof.Machine.execMemoryReadReturn m tag data poison err s
  | .memoryWriteAck m tag err => Sys2Proof.Machine.execMemoryWriteAck m tag err s
  | .memoryPortTimeout m tag => Sys2Proof.Machine.execMemoryPortTimeout m tag s
  | .sliceLinkGroupReceive l rx damaged => Sys2Proof.Machine.execSliceLinkGroupReceive l rx damaged s
  | .controlPortInvalidAccess write addr => Sys2Proof.Machine.execControlPortInvalidAccess write addr s
  | .controlPortTargetLost write addr => Sys2Proof.Machine.execControlPortTargetLost write addr s
  | .tapInstruction sl ix => Sys2Proof.Machine.execTapInstruction sl ix s
  | .shChartBegin path => Sys2Proof.Machine.execShChartBegin path s
  | .shChartDataWrite path data => Sys2Proof.Machine.execShChartDataWrite path data s
  | .shChartCommit path => Sys2Proof.Machine.execShChartCommit path s
  | .chartCheckComplete => Sys2Proof.Machine.execChartCheckComplete s
  | .fwLoad path cores => Sys2Proof.Machine.execFwLoad path cores s
  | .fwReload path cores => Sys2Proof.Machine.execFwReload path cores s
  | .imageVerifyComplete image => Sys2Proof.Machine.execImageVerifyComplete image s
  | .watchdogKick path c value => Sys2Proof.Machine.execWatchdogKick path c value s
  | .watchdogExpiry c => Sys2Proof.Machine.execWatchdogExpiry c s
  | .shCmdProdWrite path value => Sys2Proof.Machine.execShCmdProdWrite path value s
  | .hello e => Sys2Proof.Machine.execHello e s
  | .goodbye e => Sys2Proof.Machine.execGoodbye e s
  | .nop e => Sys2Proof.Machine.execNop e s
  | .modeChange e words => Sys2Proof.Machine.execModeChange e words s
  | .unitPrepareAck u => Sys2Proof.Machine.execUnitPrepareAck u s
  | .unitCommitConfirm u => Sys2Proof.Machine.execUnitCommitConfirm u s
  | .modeRollback => Sys2Proof.Machine.execModeRollback s
  | .unitSelfRevert u => Sys2Proof.Machine.execUnitSelfRevert u s
  | .queueSave e => Sys2Proof.Machine.execQueueSave e s
  | .chartForward e chart => Sys2Proof.Machine.execChartForward e chart s
  | .imageForward e image => Sys2Proof.Machine.execImageForward e image s
  | .scrub e => Sys2Proof.Machine.execScrub e s
  | .scrubComplete => Sys2Proof.Machine.execScrubComplete s
  | .measure e leaves => Sys2Proof.Machine.execMeasure e leaves s
  | .measureAndSeal e leaves => Sys2Proof.Machine.execMeasureAndSeal e leaves s
  | .measurementComplete content => Sys2Proof.Machine.execMeasurementComplete content s
  | .unseal e => Sys2Proof.Machine.execUnseal e s
  | .retire e => Sys2Proof.Machine.execRetire e s
  | .allocPoolCreate e pages => Sys2Proof.Machine.execAllocPoolCreate e pages s
  | .allocPoolAdd e pages => Sys2Proof.Machine.execAllocPoolAdd e pages s
  | .allocPoolAttach e region => Sys2Proof.Machine.execAllocPoolAttach e region s
  | .allocPoolDetach e => Sys2Proof.Machine.execAllocPoolDetach e s
  | .partitionRelease e => Sys2Proof.Machine.execPartitionRelease e s
  | .partitionReleaseComplete => Sys2Proof.Machine.execPartitionReleaseComplete s
  | .telemetry e => Sys2Proof.Machine.execTelemetry e s
  | .ageingLoad e history => Sys2Proof.Machine.execAgeingLoad e history s
  | .marginTestScan e samples => Sys2Proof.Machine.execMarginTestScan e samples s
  | .marginTestAcceptFallback e => Sys2Proof.Machine.execMarginTestAcceptFallback e s
  | .shEvtConsWrite path value => Sys2Proof.Machine.execShEvtConsWrite path value s
  | .partitionEnable path p => Sys2Proof.Machine.execPartitionEnable path p s
  | .partitionStop path p => Sys2Proof.Machine.execPartitionStop path p s
  | .partitionAbort path p => Sys2Proof.Machine.execPartitionAbort path p s
  | .queueEnable path q cfg => Sys2Proof.Machine.execQueueEnable path q cfg s
  | .queueStop path q => Sys2Proof.Machine.execQueueStop path q s
  | .queueAbort path q => Sys2Proof.Machine.execQueueAbort path q s
  | .channelEnable path c => Sys2Proof.Machine.execChannelEnable path c s
  | .channelStop path c => Sys2Proof.Machine.execChannelStop path c s
  | .channelAbort path c => Sys2Proof.Machine.execChannelAbort path c s
  | .enginePortEnable path e => Sys2Proof.Machine.execEnginePortEnable path e s
  | .enginePortDisable path e => Sys2Proof.Machine.execEnginePortDisable path e s
  | .disableComplete t => Sys2Proof.Machine.execDisableComplete t s
  | .completionCountWrite path c value => Sys2Proof.Machine.execCompletionCountWrite path c value s
  | .managementDoorbellLo path c value => Sys2Proof.Machine.execManagementDoorbellLo path c value s
  | .managementDoorbellCommit path c value => Sys2Proof.Machine.execManagementDoorbellCommit path c value s
  | .descriptorBoundary c => Sys2Proof.Machine.execDescriptorBoundary c s
  | .descriptorFetchReturn c => Sys2Proof.Machine.execDescriptorFetchReturn c s
  | .copy c => Sys2Proof.Machine.execCopy c s
  | .fill c => Sys2Proof.Machine.execFill c s
  | .compare c => Sys2Proof.Machine.execCompare c s
  | .reduce c => Sys2Proof.Machine.execReduce c s
  | .merge c => Sys2Proof.Machine.execMerge c s
  | .signal c => Sys2Proof.Machine.execSignal c s
  | .wait c => Sys2Proof.Machine.execWait c s
  | .hash c => Sys2Proof.Machine.execHash c s
  | .gatherSeq c => Sys2Proof.Machine.execGatherSeq c s
  | .link c => Sys2Proof.Machine.execLink c s
  | .alloc c => Sys2Proof.Machine.execAlloc c s
  | .release cluster k => Sys2Proof.Machine.execRelease cluster k s
  | .allocatorSlowPath => Sys2Proof.Machine.execAllocatorSlowPath s
  | .journalRoom => Sys2Proof.Machine.execJournalRoom s
  | .hdJnlConsWrite path value => Sys2Proof.Machine.execHdJnlConsWrite path value s
  | .burstGrant k wr => Sys2Proof.Machine.execBurstGrant k wr s
  | .readBurstReturn c burst => Sys2Proof.Machine.execReadBurstReturn c burst s
  | .descriptorEnd c => Sys2Proof.Machine.execDescriptorEnd c s
  | .paceSample c => Sys2Proof.Machine.execPaceSample c s
  | .paceTimeout c => Sys2Proof.Machine.execPaceTimeout c s
  | .tidemarkReached w => Sys2Proof.Machine.execTidemarkReached w s
  | .waitLimitExpiry w => Sys2Proof.Machine.execWaitLimitExpiry w s
  | .hdTideLoWrite path n value => Sys2Proof.Machine.execHdTideLoWrite path n value s
  | .hdTideHiWrite path n value => Sys2Proof.Machine.execHdTideHiWrite path n value s
  | .hdTideModeWrite path w value => Sys2Proof.Machine.execHdTideModeWrite path w value s
  | .contributionPiece c => Sys2Proof.Machine.execContributionPiece c s
  | .combineFold sl => Sys2Proof.Machine.execCombineFold sl s
  | .combineTimeout sl => Sys2Proof.Machine.execCombineTimeout sl s
  | .walkStart w => Sys2Proof.Machine.execWalkStart w s
  | .walkEntryReturn w => Sys2Proof.Machine.execWalkEntryReturn w s
  | .landingRecordWrite p => Sys2Proof.Machine.execLandingRecordWrite p s
  | .enLandConsWrite path p value => Sys2Proof.Machine.execEnLandConsWrite path p value s
  | .enLandCfgWrite path p value => Sys2Proof.Machine.execEnLandCfgWrite path p value s
  | .retry path value => Sys2Proof.Machine.execRetry path value s
  | .fail path value => Sys2Proof.Machine.execFail path value s
  | .faultTimeout stream => Sys2Proof.Machine.execFaultTimeout stream s
  | .enRootWrite path p hi value => Sys2Proof.Machine.execEnRootWrite path p hi value s
  | .enHostwinWrite path k reg value => Sys2Proof.Machine.execEnHostwinWrite path k reg value s
  | .invalidateRange path value => Sys2Proof.Machine.execInvalidateRange path value s
  | .invalidatePartition path value => Sys2Proof.Machine.execInvalidatePartition path value s
  | .invalidateAll path value => Sys2Proof.Machine.execInvalidateAll path value s
  | .invalidationTaken => Sys2Proof.Machine.execInvalidationTaken s
  | .invalidationComplete => Sys2Proof.Machine.execInvalidationComplete s
  | .invalidationDeadline id => Sys2Proof.Machine.execInvalidationDeadline id s
  | .hdWinAttachWrite path ix value => Sys2Proof.Machine.execHdWinAttachWrite path ix value s
  | .hdApClear path value => Sys2Proof.Machine.execHdApClear path value s
  | .shIdEndorseBegin path => Sys2Proof.Machine.execShIdEndorseBegin path s
  | .shIdEndorseDataWrite path data => Sys2Proof.Machine.execShIdEndorseDataWrite path data s
  | .shIdEndorseCommit path => Sys2Proof.Machine.execShIdEndorseCommit path s
  | .entropyHealthFail => Sys2Proof.Machine.execEntropyHealthFail s
  | .patrolRowRead errors => Sys2Proof.Machine.execPatrolRowRead errors s
  | .rasRecordWrite => Sys2Proof.Machine.execRasRecordWrite s
  | .hdRasConsWrite path value => Sys2Proof.Machine.execHdRasConsWrite path value s
  | .pathMonitorScan sl samples => Sys2Proof.Machine.execPathMonitorScan sl samples s
  | .marginRescan sl samples => Sys2Proof.Machine.execMarginRescan sl samples s
  | .msixSend v => Sys2Proof.Machine.execMsixSend v s
  | .shIrqStatusClear path value => Sys2Proof.Machine.execShIrqStatusClear path value s
  | .shIrqEnableWrite path vectorReg value => Sys2Proof.Machine.execShIrqEnableWrite path vectorReg value s
  | .registerWrite path addr value => Sys2Proof.Machine.execRegisterWrite path addr value s
  | .hostLinkDown n => Sys2Proof.Machine.execHostLinkDown n s
  | .creditReturn src => Sys2Proof.Machine.execCreditReturn src s
  | .tokenBucketRefill t => Sys2Proof.Machine.execTokenBucketRefill t s
  | .unknownCommand opcode seq read => Sys2Proof.Machine.execUnknownCommand opcode seq read s

end Sys2Proof.Machine
end

