-- ==== Sys2Proof/Machine/Step.lean ====
section
/-! DEFINITION. One step: the command at the front of the queue is taken and executed on the state with the queue's rest; on
an empty queue one root cycle passes (Cycle.lean). And where a word's command is put for the next step. -/

namespace Sys2Proof.Machine

/-- One step of the machine. (DESIGN CHOICE, log 1; DESIGN CHOICE, log 3) -/
def step (s : State) : Host.Outcome State Fault Refusal :=
  match s.pending with
  | c :: rest => exec c { s with pending := rest }
  | [] => .next s.tick

/-- The state with the command a word spells put at the front of its queue; unchanged where the word spells none.
(DEDUCED, log 4) -/
def State.withFetchWord (s : State) (nbits w : Nat) : State :=
  match Sys2Proof.decodeTableWord nbits w with
  | some c => { s with pending := c :: s.pending }
  | none => s

end Sys2Proof.Machine
end

