-- ==== Sys2Proof/Safety.lean ====
section
/-! DEFINITION. What a safe run is: no step of it stops, and what only a reset, a start step or a register write of its own may change
stays as it is and legal. -/

namespace Sys2Proof

/-- The step from a state answers a next state. -/
def Advances (s : Machine.State) : Prop := ∃ t, Machine.step s = .next t

namespace Machine

/-- The configuration of an instance: what the fuses, self-test, the chart and software's configuration registers say. A warm reset
keeps it (03 R74). -/
structure Conf where
  fuses     : Fuses
  fenced    : UnitSet
  chart     : Option Chart
  devKey    : Nat
  cdiDev    : Option Bytes
  endorsed  : Option Bytes
  chain     : BitVec 48 × BitVec 16
  rings     : BitVec 48 × BitVec 48 × BitVec 48
  mgmtVec   : Bool × BitVec 11
  msix      : Tab MsixEntry
  roots     : Tab Root
  hostWins  : Tab HostWin
  landings  : List (BitVec 48 × BitVec 5 × Bool)
  fence     : BitVec 48
  invVec    : Bool × BitVec 11
  patrol    : Bool × BitVec 16
  journal   : BitVec 48
  jnlVec    : Bool × BitVec 11
  packets   : Tab Bool
  attach    : Tab (BitVec 32)
  predict   : Bool
  throttle  : BitVec 2 × BitVec 6 × BitVec 6
  rasBase   : BitVec 48
  rasValid  : Bool
  rasSize   : BitVec 5
  rasVec    : Bool × BitVec 11
  deriving DecidableEq, Repr, Inhabited

/-- What software sets of the sixteen landing rings. -/
def landConf (t : Tab Landing) : List (BitVec 48 × BitVec 5 × Bool) :=
  (List.range 16).map (fun p => ((tabGet {} t p).base, (tabGet {} t p).sizeLog2, (tabGet {} t p).valid))

/-- The configuration of a state. -/
def State.conf (s : State) : Conf :=
  { fuses := s.fuses, fenced := s.fenced, chart := s.chart.chart, devKey := s.ident.devKey, cdiDev := s.ident.cdiDev,
    endorsed := s.ident.endorsement, chain := (s.ident.chainAddr, s.ident.chainLen),
    rings := (s.mgmt.cmdBase, s.mgmt.evtBase, s.mgmt.saveBase), mgmtVec := (s.mgmt.vecValid, s.mgmt.vector), msix := s.irq.msix,
    roots := s.trans.roots, hostWins := s.trans.hostWins,
    landings := landConf s.landings,
    fence := s.inv.fence, invVec := (s.inv.vecValid, s.inv.vector), patrol := (s.hold.patrolOn, s.hold.interval),
    journal := s.alloc.jnlBase, jnlVec := (s.alloc.jnlVecOn, s.alloc.jnlVector), packets := s.tide.packets, attach := s.home.attach,
    predict := s.home.apEnable, throttle := (s.thermal.mode, s.thermal.bit1, s.thermal.bit0), rasBase := s.ras.base,
    rasValid := s.ras.valid, rasSize := s.ras.sizeLog2, rasVec := (s.ras.vecValid, s.ras.vector) }

/-- A ring is valid only with a size from 6 to 16 (08 R186; 16 R392). -/
def ringOk (valid : Bool) (size : BitVec 5) : Bool := !valid || (decide (6 ≤ size.toNat) && decide (size.toNat ≤ 16))

/-- The attached peer caches: only 2 to 7 are listed, reserved bits are zero, and no two valid ones name one instance (14 R336, R357). -/
def attachOk (t : Tab (BitVec 32)) : Bool :=
  tabWf (0 : BitVec 32) t && t.all (fun e => decide (2 ≤ e.1) && decide (e.1 ≤ 7) && bits e.2.toNat 30 12 == 0)
    && t.all (fun e => t.all (fun f => e.1 == f.1 || !e.2.getLsbD 31 || !f.2.getLsbD 31 || bits e.2.toNat 11 0 != bits f.2.toNat 11 0))

/-- A legal configuration: sizes and alignments as the registers take them, and tables in canonical form. -/
def Conf.legal (c : Conf) : Bool :=
  ringOk c.rasValid c.rasSize && c.landings.all (fun l => ringOk l.2.2 l.2.1 && l.1.toNat % 4096 == 0)
    && c.rasBase.toNat % 4096 == 0 && c.journal.toNat % 4096 == 0 && c.rings.1.toNat % 4096 == 0 && c.rings.2.1.toNat % 4096 == 0
    && c.rings.2.2.toNat % 64 == 0 && c.fence.toNat % 16 == 0 && decide (c.fuses.policy.toNat < 2) && attachOk c.attach
    && tabWf ({} : Root) c.roots && tabWf ({} : HostWin) c.hostWins && tabWf false c.packets && tabWf ({} : MsixEntry) c.msix

end Machine

/-- The commands that may change the configuration: resets, start steps, the chart's acceptance and the registers' own writes. -/
def Instr.configures : Instr → Bool
  | .porNAssert _ => true
  | .fuseRead _ _ _ => true
  | .selfTestComplete _ => true
  | .chartCheckComplete => true
  | .deviceidDerivation => true
  | .shIdEndorseCommit _ => true
  | .registerWrite _ _ _ => true
  | .hdApClear _ _ => true
  | .hdWinAttachWrite _ _ _ => true
  | .hdTideModeWrite _ _ _ => true
  | .enHostwinWrite _ _ _ _ => true
  | .enRootWrite _ _ _ _ => true
  | .enLandCfgWrite _ _ _ => true
  | .partitionReleaseComplete => true
  | _ => false

end Sys2Proof
end

