-- ==== Sys2Proof/Certificates/Slice0/Obligations.lean ====
section
/-! DEFINITION. The statements for the provers: what the commands do, by the numbered rules of the spec, what they leave unchanged, and
what every step keeps. A statement's hypotheses speak of the state and the operands alone. Where a command's effect lets waiting work go
on, the state it answers is `State.settle` of the state its own effect gives: what `settle` may not change, and that it changes nothing
where nothing waits, are statements of their own. -/

open Sys2Proof Sys2Proof.Machine

/-- A step at a non-empty queue is `exec` of its front command on the state with the queue's rest, and `exec` answers a next state for every command (the queue is the model's own, log 1). -/
def Obligations.StepRunsFrontCommand : Prop :=
  ∀ (c : Instr) (s : State), step { s with pending := c :: s.pending } = exec c s ∧ ∃ t : State, exec c s = .next t

/-- The step on an empty queue is one root cycle (DESIGN CHOICE, log 3; phases of an odd period, log 96): clock phases and the mode in
force (03 R59, R69, R72), CK_CYCLES (R76) and watchdog counts move, and nothing else does; a watchdog that reaches its limit expires
(05 R107). -/
def Obligations.EmptyQueueIsOneRootCycle : Prop :=
  ∀ s : State, s.pending = [] →
    ((∀ c, c < 7 → (s.core c).state = .running → (s.core c).wdt + 1 < max (s.core c).period.toNat 0x00100000) → ∃ t : State,
      step s = .next t ∧
      (∀ sl : Slice, (s.clock sl).porN = false → t.clock sl = s.clock sl) ∧
      (∀ sl : Slice, (s.clock sl).porN = true →
        (t.clock sl).ctrl = ((s.clock sl).ctrl + 1) % 8 ∧
        (if (s.clock sl).phase + 1 < corePhase (s.clock sl) then
          (t.clock sl).phase = (s.clock sl).phase + 1 ∧ (t.clock sl).low = (s.clock sl).low ∧ (t.clock sl).cycles = (s.clock sl).cycles ∧
          (t.clock sl).ebbNow = (s.clock sl).ebbNow ∧ (t.clock sl).fbNow = (s.clock sl).fbNow
         else (t.clock sl).phase = 0 ∧ (t.clock sl).low = !(s.clock sl).low ∧ (t.clock sl).ebbNow = (s.clock sl).inEbb ∧
          (t.clock sl).cycles = (if (s.clock sl).low then (s.clock sl).cycles + 1 else (s.clock sl).cycles) ∧
          (t.clock sl).fbNow = (if (s.clock sl).low then (s.clock sl).fallback else (s.clock sl).fbNow))) ∧
      (∀ k, t.core k = { s.core k with
        wdt := if (s.core k).state = .running ∧ (s.clock (coreSlice k)).porN = true ∧ ((s.clock (coreSlice k)).ctrl + 1) % 8 = 0
               then (s.core k).wdt + 1 else (s.core k).wdt }) ∧
      t = { s with clocks := t.clocks, cores := t.cores }) ∧
    (∀ c, s.count.wdtDue = [c] → step s = .next (State.settle (s.count.wdtExpired c)))

/-- The machine right after reset holds what 17 and the chapters give for reset.
Clauses the spec leaves open follow the model's own readings: logs 2, 16. -/
def Obligations.ResetStateHoldsResetValues : Prop :=
  State.reset.start = 
    { step := 0, warm := false, ready := false, stopped := false, waiting := false, failure := 0, lost := false, unrestored := 0 } ∧
  State.reset.fuses.sampled = false ∧ State.reset.chart.state = .empty ∧ State.reset.chart.staged = [] ∧
  (∀ p, State.reset.part p = .absent) ∧ (∀ q, (State.reset.queue q).state = .disabled) ∧
  (∀ c, (State.reset.chan c).state = .unused) ∧ State.reset.irq.status = 0 ∧ State.reset.irq.enable = 0 ∧
  (∀ v, (tabGet ({} : MsixEntry) State.reset.irq.msix v).mask = true) ∧
  State.reset.ras.valid = false ∧ (∀ p, (State.reset.landing p).valid = false) ∧
  State.reset.hold.patrolOn = true ∧ State.reset.hold.interval = 16 ∧ State.reset.home.apEnable = true ∧
  (∀ n, State.reset.tideVal n = 0) ∧ State.reset.mgmt.session = false ∧ State.reset.mgmt.cmdProd = 0 ∧
  State.reset.mgmt.cmdCons = 0 ∧ State.reset.mgmt.evtProd = 0 ∧ State.reset.mgmt.evtCons = 0 ∧
  (∀ sl : Slice, (State.reset.clock sl).crossTimeout = 4096) ∧
  State.reset.pending = [] ∧ State.reset.accesses = [] ∧ State.reset.engReqs = [] ∧ State.reset.out = []

/-- POR_N_ASSERT: the slice's state takes its reset values (03 R74, column Cold reset; 01 R14 for the cores' slices). -/
def Obligations.ColdResetClearsSliceState : Prop :=
  ∀ (s : State) (sl : Slice), ∃ u : State, exec (.porNAssert sl) s = .next u.settle ∧
    u.clock sl = { warnPin := (s.clock sl).warnPin, warnSync := (s.clock sl).warnSync,
                   ebbSupply := (s.clock sl).ebbSupply && (s.clock sl).warnPin } ∧
    (∀ sl' : Slice, sl' ≠ sl → u.clock sl' = s.clock sl') ∧ u.accesses = [] ∧ u.pending = s.pending ∧
    (∀ c, coreSlice c = sl → u.core c = {}) ∧ (∀ c, coreSlice c ≠ sl → u.core c = s.core c) ∧
    (sl = .sh → u.fuses = {} ∧ u.start = {} ∧ u.fenced = State.reset.fenced ∧ u.chart = {} ∧ u.fw = {} ∧ u.mgmt = {} ∧
      u.irq = {} ∧ u.hosts = [] ∧ u.peers = [] ∧ u.tracker = [] ∧ u.ident = {} ∧ u.ras.log = [] ∧ u.ras.logCount = 0 ∧
      u.queues = s.queues ∧ u.tide = s.tide ∧ u.trans = s.trans) ∧
    (sl = .en → u.portEnable = [] ∧ u.engReqs = [] ∧ u.trans = {} ∧ u.landings = [] ∧ u.stalls = [] ∧ u.inv = {} ∧
      u.chart = s.chart ∧ u.queues = s.queues ∧ u.tide = s.tide) ∧
    (sl = .hd → u.parts = [] ∧ u.queues = [] ∧ u.alloc = {} ∧ u.chans = [] ∧ u.cmb = {} ∧ u.tide = {} ∧ u.home = {} ∧ u.hold = {} ∧
      u.health = {} ∧ u.ras.valid = false ∧ u.ras.prod = 0 ∧ u.ras.cons = 0 ∧ u.chart = s.chart ∧ u.trans = s.trans)

/-- POR_N_RELEASE and WRST_N_RELEASE (03 R72, R73; 05 R97).
Clauses the spec leaves open follow the model's own readings: logs 2, 107. -/
def Obligations.ReleasesOfResetBeginTheStart : Prop :=
  (∀ (s : State) (sl : Slice), (s.clock sl).porN = true → exec (.porNRelease sl) s = .next s) ∧
  (∀ (s : State) (sl : Slice), (s.clock sl).porN = false → ∃ t : State, exec (.porNRelease sl) s = .next t ∧
    (t.clock sl).porN = true ∧ (t.clock sl).phase = 0 ∧ (t.clock sl).low = false ∧ (t.clock sl).ctrl = 0 ∧
    (t.clock sl).ebbNow = (s.clock sl).inEbb ∧ (t.clock sl).fbNow = (s.clock sl).fallback ∧
    (t.clock sl).exitCounting = ((s.clock sl).ebbSupply && !(s.clock sl).warnPin) ∧ (t.clock sl).cycles = (s.clock sl).cycles ∧
    (∀ sl' : Slice, sl' ≠ sl → t.clock sl' = s.clock sl') ∧
    t.start = (if s.start.stopped then s.start
      else { step := if (t.clock .sh).porN && (t.clock .en).porN && (t.clock .hd).porN then 2 else 1 }) ∧
    t = { s with clocks := t.clocks, start := t.start }) ∧
  (∀ (s : State) (sl : Slice), (s.clock sl).wrstN = true → s.start.stopped = false →
    ((∃ sl' : Slice, sl' ≠ sl ∧ (s.clock sl').wrstN = true) → ∃ u : State, exec (.wrstNRelease sl) s = .next u.settle ∧
      (u.clock sl).wrstN = false ∧ (u.clock sl).phase = 0 ∧ (u.clock sl).ctrl = 0 ∧ u = { s with clocks := u.clocks }) ∧
    ((∀ sl' : Slice, sl' ≠ sl → (s.clock sl').wrstN = false) → (∃ l, (s.link l).up = false) → ∃ u : State,
      exec (.wrstNRelease sl) s = .next u.settle ∧ (u.clock sl).wrstN = false ∧
      u.start = { s.start with step := 3, waiting := false } ∧ u = { s with clocks := u.clocks, start := u.start }) ∧
    ((∀ sl' : Slice, sl' ≠ sl → (s.clock sl').wrstN = false) → (∀ l, (s.link l).up = true) → ∃ u : State,
      exec (.wrstNRelease sl) s = .next u.settle ∧
      u.start = { s.start with step := 11, waiting := true, failure := 0 } ∧ u.conf = s.conf))

/-- The events that end steps 2 to 7 of a cold start (05 R97).
Clauses the spec leaves open follow the model's own readings: logs 24, 29. -/
def Obligations.ColdStartStepsAdvance : Prop :=
  ∀ s : State, s.start.stopped = false → s.start.warm = false → s.warmReset = false →
    (s.start.step = 2 → s.fuses.sampled = false → ∀ uds kh pol, exec (.fuseRead uds kh pol) s =
      .next { s with fuses := { sampled := true, uds := uds, keyHash := kh, policy := if pol.toNat < 2 then pol else 0 },
                     start := { s.start with step := 3, waiting := false, failure := 0 } }) ∧
    (s.start.step = 2 → s.fuses.sampled = false → exec .fuseTimeout s =
      .next (State.statusUp (State.shIrq { s with start := { s.start with stopped := true, failure := 0x01 } } 0) 3)) ∧
    (s.start.step = 3 → ∀ l a b, (s.link l).up = false → linkEnds l = [a, b] → (∃ l', l' ≠ l ∧ (s.link l').up = false) →
      exec (.sliceLinkBringUp l) s = .next (((s.modLink l (fun k => { k with up := true, credits := [320, 320] })).drive
        (.linkGrant l a 320)).drive (.linkGrant l b 320))) ∧
    (s.start.step = 3 → ∀ l a b, (s.link l).up = false → linkEnds l = [a, b] → (∀ l', l' ≠ l → (s.link l').up = true) →
      exec (.sliceLinkBringUp l) s = .next { s.modLink l (fun k => { k with up := true, credits := [320, 320] }) with
        out := .linkGrant l b 320 :: .linkGrant l a 320 :: s.out,
        start := { s.start with step := 4, waiting := false, failure := 0 } }) ∧
    (s.start.step ≤ 3 → s.start.ready = false → (s.clock .sh).porN = true → ∀ l, (s.link l).up = false →
      (∃ e, e ∈ linkEnds l ∧ (s.clock e).porN = true) → exec (.sliceLinkBringUpTimeout l) s =
      .next (State.statusUp (State.shIrq { s with start := { s.start with stopped := true, failure := 0x02 } } 0) 3)) ∧
    (s.start.step = 4 → exec (.selfTestComplete State.reset.fenced) s =
      .next { s with fenced := State.reset.fenced, gated := [], start := { s.start with step := 5, waiting := false, failure := 0 } }) ∧
    (s.start.step = 5 → s.start.waiting = false → exec .holdInitialisation s =
      .next (State.shIrq { s with tide := { s.tide with values := [] },
                                  start := { s.start with step := 6, waiting := true, failure := 0 } } 0)) ∧
    (s.start.step = 7 → exec .deviceidDerivation s =
      .next { s with ident := { s.ident with
                       cdiDev := some (hmac384 (beBytes 32 s.fuses.uds.toNat) (ascii "CAERN-DEVICEID" ++ m1)),
                       devKey := keypair (hmac384 (beBytes 32 s.fuses.uds.toNat) (ascii "CAERN-DEVICEID" ++ m1)),
                       devPub := pubOf (keypair (hmac384 (beBytes 32 s.fuses.uds.toNat) (ascii "CAERN-DEVICEID" ++ m1))) },
                     start := { s.start with step := 8, waiting := false, failure := 0 } })

/-- SELF_TEST_COMPLETE with failed units (05 R100).
Clauses the spec leaves open follow the model's own readings: logs 24, 74. -/
def Obligations.SelfTestFencesFailedUnits : Prop :=
  ∀ (s : State) (f : UnitSet), s.start.stopped = false → s.start.warm = false → s.start.step = 4 →
    ∃ t : State, exec (.selfTestComplete f) s = .next t ∧
      t.fenced = { f with channels := f.channels ||| ctlChannels f.cores } ∧ t.gated = gatedOf t.fenced ∧
      (∀ c, c < 7 → f.cores.getLsbD c = true → (t.core c).state = .fenced) ∧
      (∀ c, c < 64 → (f.channels ||| ctlChannels f.cores).getLsbD c = true → (t.chan c).state = .fenced) ∧
      (if f.banks ≠ 0 ∨ f.identity = true ∨ f.linkEnds ≠ 0 ∨ f.memory = 0xF ∨ f.cores.getLsbD 0 = true ∨ f.cores.getLsbD 2 = true then
        t.start = { s.start with stopped := true, failure := 0x03 }
       else t.start = { s.start with step := 5, waiting := false, failure := 0 }) ∧
      t.fuses = s.fuses ∧ t.chart = s.chart ∧ t.tide = s.tide

/-- WRST_N_ASSERT (03 R74, column Warm reset).
Clauses the spec leaves open follow the model's own readings: logs 75, 101, 110. -/
def Obligations.WarmResetKeepsConfiguration : Prop :=
  ∀ (s : State) (sl : Slice), (s.clock sl).porN = true → s.start.stopped = false → (s.start.ready = true ∨ s.start.warm = true) →
    ∃ u : State, exec (.wrstNAssert sl) s = .next u.settle ∧
      (u.clock sl).wrstN = true ∧ (u.clock sl).porN = true ∧
      (s.mgmt.change = none → (u.clock sl).fallback = (s.clock sl).fallback) ∧
      (u.clock sl).supplyReq = (s.clock sl).supplyReq ∧ (u.clock sl).cycles = (s.clock sl).cycles ∧
      (u.clock sl).ebbCount = (s.clock sl).ebbCount ∧ (u.clock sl).overrunCount = (s.clock sl).overrunCount ∧
      (u.clock sl).dead = 0 ∧ (u.clock sl).lost = 0 ∧ (u.clock sl).overrun = 0 ∧
      u.start = { step := 1, warm := true, lost := s.start.lost || (s.clock sl).dead != 0 } ∧
      u.conf = s.conf ∧ u.tide.values = s.tide.values ∧
      (sl = .sh → u.ident.aliasKey = 0 ∧ u.ident.cdiAlias = none ∧ u.ident.session = .none ∧ u.mgmt.session = false) ∧
      (∀ c, coreSlice c = sl → (u.core c).state = if (s.core c).state = .fenced then .fenced else .held) ∧
      (∀ c, coreSlice c ≠ sl → u.core c = s.core c) ∧
      (sl = .en → u.engReqs = [] ∧ u.trans.l1 = [] ∧ u.trans.l2 = [] ∧ u.trans.walkPtrs = [] ∧ u.trans.walks = []) ∧
      (sl = .hd → u.queues = [] ∧ u.engReqs = [] ∧ u.cmb = {} ∧
        ∀ c, c < 64 → u.chan c = if s.fenced.channels.getLsbD c then { state := .fenced } else {})

/-- The events of steps 8 to 16 (05 R97).
Clauses the spec leaves open follow the model's own readings: logs 18, 19, 79, 106. -/
def Obligations.LateStartStepsAdvance : Prop :=
  ∀ s : State, s.start.stopped = false → s.warmReset = false →
    (s.start.warm = false → s.start.step = 8 → ∃ t : State, exec .portReadiness s = .next t ∧
      t.start = { s.start with step := 9, waiting := false, failure := 0 } ∧ t.conf = s.conf ∧
      ∀ n, n < 2 → t.host n = if s.hostMayRise n then { s.host n with readyOut := true, rxCredits := 64 } else s.host n) ∧
    (s.start.warm = false → s.start.step = 9 → (∀ p, p < 4 → s.peerSettled p = true) → s.inSeed = true → ∃ t : State,
      exec .peerKeySetupComplete s = .next t ∧ t.start = { s.start with step := 10, waiting := true, failure := 0 } ∧
      t = { s with start := t.start, irq := t.irq, out := t.out }) ∧
    (s.start.warm = false → s.start.step = 9 → (∀ p, p < 4 → s.peerSettled p = true) → s.inSeed = false → ∃ t : State,
      exec .peerKeySetupComplete s = .next t ∧ t.start = { s.start with step := 11, waiting := true, failure := 0 } ∧
      t.conf = s.conf) ∧
    (s.start.step = 12 → ∀ chain, ∃ t : State, exec (.aliasKeyDerivation chain) s = .next t ∧
      t.start = { s.start with step := 13, waiting := false, failure := 0 } ∧
      t.ident.cdiAlias = some (hmac384 (s.ident.cdiDev.getD []) (ascii "CAERN-ALIAS" ++ s.measures)) ∧
      t.ident.aliasKey = keypair (hmac384 (s.ident.cdiDev.getD []) (ascii "CAERN-ALIAS" ++ s.measures)) ∧
      t.ident.aliasPub = pubOf t.ident.aliasKey ∧
      (s.ident.entropyFail = true → t.ident.cert = [] ∧ t.rand = s.rand) ∧ (s.ident.entropyFail = false → t.rand = s.rand + 1) ∧ (t.core 0).state = .running ∧ (∀ c, c ≠ 0 → t.core c = s.core c) ∧
      t.conf = s.conf) ∧
    (s.start.step = 13 → s.ident.secReady = false → (s.core 0).state = .running → ∃ u : State,
      exec .secReady s = .next u.settle ∧ u.ident.secReady = true ∧ u.start = { s.start with waiting := true } ∧ u.conf = s.conf ∧
      ∀ c, 1 ≤ c → c ≤ 6 → (s.core c).state = .verified → (u.core c).state = .running) ∧
    (s.start.step = 14 → exec .startInvalidation s = .next (State.settle { s with
      trans := { s.trans with l1 := [], l2 := [], walkPtrs := [], walks := [] },
      start := { s.start with step := 15, waiting := false, failure := 0 } })) ∧
    (s.start.step = 15 → s.start.warm = true → ∃ u : State, exec .startStateReset s = .next u.settle ∧
      u.start = { s.start with step := 16, waiting := false, failure := 0 } ∧ u.queues = [] ∧ u.cmb = {} ∧ u.engReqs = [] ∧
      u.conf = s.conf) ∧
    (s.start.step = 15 → s.start.warm = false → ∃ u : State, exec .startStateReset s = .next u.settle ∧
      u.start = { s.start with step := 0x11, ready := true, waiting := false, failure := 0, lost := false } ∧ u.queues = [] ∧
      u.cmb = {} ∧ u.conf = s.conf) ∧
    (s.start.step = 16 → ∀ area, (∀ b, area = .ok b → (s.mgmt.saveValid && s.saveOk b) = false) → ∃ u : State,
      exec (.queueStateRecovery area) s = .next u.settle ∧ u.queues = s.queues ∧ u.conf = s.conf ∧
      u.start = { s.start with step := 0x11, ready := true, waiting := false, failure := 0x06, lost := false }) ∧
    (s.start.step = 16 → ∀ b, (s.mgmt.saveValid && s.saveOk b) = true → ∃ u : State,
      exec (.queueStateRecovery (.ok b)) s = .next u.settle ∧ u.start.ready = true ∧ u.start.failure = 0 ∧ u.conf = s.conf ∧
      ∀ q p, q < 4096 → s.queueOwner q = some p → bits (fld b (64 + 32 * q + 8) 4) 15 8 = p →
        (u.queue q).enable = false ∧ (u.queue q).state = .disabled ∧
        (u.queue q).prod = BitVec.ofNat 32 (fld b (64 + 32 * q + 0x10) 4) ∧
        (u.queue q).cons = BitVec.ofNat 32 (fld b (64 + 32 * q + 0x14) 4))

/-- SUPPLY_WARN_RISE, SUPPLY_WARN_FALL and EBB_EXIT (03 R69); SUPPLY_ACK and SUPPLY_ACK_TIMEOUT (02 R51); STACK_TEMPERATURE_CODE and
STACK_STALE_TIMEOUT (02 R52, 16 R403, R404). The record's class and unit follow 16 R391 and R397.
Clauses the spec leaves open follow the model's own readings: logs 54, 56, 64, 65, 96, 113. -/
def Obligations.SupplyStepsAndStackTemperature : Prop :=
  (∀ (s : State) (sl : Slice),
    ((s.clock sl).porN = true → ∃ t : State, exec (.supplyWarnRise sl) s = .next t ∧
      t.clock sl = { s.clock sl with
        warnPin := true, warnSync := true, ebbSupply := true, exitCounting := false,
        ebbCount := if (s.clock sl).ebbSupply = false ∧ (s.clock sl).ebbCount ≠ 0xFFFFFFFF then (s.clock sl).ebbCount + 1 else (s.clock sl).ebbCount,
        ebbStart := if (s.clock sl).ebbSupply then (s.clock sl).ebbStart else (s.clock sl).cycles } ∧
      (∀ sl' : Slice, sl' ≠ sl → t.clock sl' = s.clock sl') ∧ t = { s with clocks := t.clocks }) ∧
    ((s.clock sl).porN = true → (s.clock sl).wrstN = false → (s.clock sl).ebbSupply = true → ∃ t : State,
      exec (.supplyWarnFall sl) s = .next t ∧
      t.clock sl = { s.clock sl with warnPin := false, warnSync := false, exitCounting := true } ∧
      (∀ sl' : Slice, sl' ≠ sl → t.clock sl' = s.clock sl') ∧ t = { s with clocks := t.clocks }) ∧
    ((s.clock sl).exitCounting = true → ∃ u : State, exec (.ebbExit sl) s = .next u ∧
      (u.clock sl).ebbSupply = false ∧ (u.clock sl).exitCounting = false ∧ (u.clock sl).ebbCount = (s.clock sl).ebbCount ∧
      u.conf = s.conf) ∧
    ((s.clock sl).exitCounting = true → s.pwr = false →
      (∀ sl' : Slice, (s.clock sl').supplyGoal = none ∧ (s.clock sl').supplyBack = false) → ∃ u : State,
      exec (.ebbExit sl) s = .next u ∧ u.clock sl = { s.clock sl with ebbSupply := false, exitCounting := false } ∧
      (∀ sl' : Slice, sl' ≠ sl → u.clock sl' = s.clock sl') ∧ u = { s with clocks := u.clocks }) ∧
    ((s.clock sl).exitCounting = true → s.pwr = true → s.ctrlLost sl = false →
      (∀ sl' : Slice, (s.clock sl').supplyGoal = none ∧ (s.clock sl').supplyBack = false) → ∃ u : State,
      exec (.ebbExit sl) s = .next u ∧ u.clock sl = { s.clock sl with ebbSupply := false, exitCounting := false } ∧
      (u.marginOf (sliceIx sl)).ebbs = (s.marginOf (sliceIx sl)).ebbs + 1 ∧
      ((∀ t, (s.marginOf (sliceIx sl)).supplyRec = some t → 2 ^ 20 ≤ ((s.clock sl).cycles - t).toNat) →
        u.ras.nextSeq = s.ras.nextSeq + 1 ∧ (u.marginOf (sliceIx sl)).supplyRec = some (s.clock sl).cycles ∧
        (s.ras.waiting.length < 64 → u.ras.waiting = s.ras.waiting ++ [{ s.errRec 6 .ok sl 0x0E (sliceIx sl) with
          detail0 := (s.clock sl).cycles - (s.clock sl).ebbStart, detail1 := (s.clock sl).ebbCount.zeroExtend 64 }])) ∧
      (∀ t, (s.marginOf (sliceIx sl)).supplyRec = some t → ((s.clock sl).cycles - t).toNat < 2 ^ 20 → u.ras = s.ras)) ∧
    ((s.clock sl).exitCounting = true → s.pwr = false → (s.clock sl).supplyBack = true → (s.clock sl).ebbOrdered = false →
      (∀ sl' : Slice, sl' ≠ sl → (s.clock sl').inEbb = false) → (s.clock sl).supplyGoal = none →
      (∀ sl' : Slice, sl' ≠ sl → (s.clock sl').supplyGoal = none ∧ (s.clock sl').supplyBack = false) → ∃ u : State,
      exec (.ebbExit sl) s = .next u ∧ u.out = .supplyReq sl (s.clock sl).supplyOld :: s.out ∧
      u.clock sl = { s.clock sl with ebbSupply := false, exitCounting := false, supplyBack := false, supplyWait := false,
                                     supplyReq := (s.clock sl).supplyOld })) ∧
  (∀ (s : State) (sl : Slice), (s.clock sl).supplyBack = true → exec (.supplyAck sl) s = .next s.settle) ∧
  (∀ (s : State) (sl : Slice), (s.clock sl).supplyWait = true → (s.clock sl).supplyBack = false →
    ((s.clock sl).supplyGoal = some (s.clock sl).supplyReq → s.anyEbb = false → s.pwr = true → ∃ u : State, exec (.supplyAck sl) s = .next u.settle ∧
      u.clock sl = { s.clock sl with supplyWait := false, supplyGoal := none } ∧
      (∀ sl' : Slice, sl' ≠ sl → u.clock sl' = s.clock sl') ∧ u = { s with clocks := u.clocks }) ∧
    (((s.clock sl).supplyGoal = none ∨ s.pwr = false ∨ s.anyEbb = true) → ∃ u : State, exec (.supplyAck sl) s = .next u.settle ∧
      u.clock sl = { s.clock sl with supplyWait := false } ∧
      (∀ sl' : Slice, sl' ≠ sl → u.clock sl' = s.clock sl') ∧ u = { s with clocks := u.clocks }) ∧
    (∀ g c : BitVec 4, (s.clock sl).supplyGoal = some g → g ≠ (s.clock sl).supplyReq → s.anyEbb = false → s.pwr = true →
      c.toNat = (if (s.clock sl).supplyReq.toNat < g.toNat then (s.clock sl).supplyReq.toNat + 1 else (s.clock sl).supplyReq.toNat - 1) →
      ∃ u : State, exec (.supplyAck sl) s = .next u.settle ∧
      u.clock sl = { s.clock sl with supplyWait := true, supplyOld := (s.clock sl).supplyReq, supplyReq := c } ∧
      (∀ sl' : Slice, sl' ≠ sl → u.clock sl' = s.clock sl') ∧
      u = { s with clocks := u.clocks, out := .supplyReq sl c :: s.out }) ∧
    (s.ctrlLost sl = false → ∃ u : State, exec (.supplyAckTimeout sl) s = .next u.settle ∧
      (s.anyEbb = false → u.out = .supplyReq sl (s.clock sl).supplyOld :: s.out ∧
        u.clock sl = { s.clock sl with supplyWait := false, supplyReq := (s.clock sl).supplyOld, supplyGoal := none }) ∧
      (s.anyEbb = true → u.out = s.out ∧ u.clock sl = { s.clock sl with supplyBack := true, supplyGoal := none }) ∧
      (∀ sl' : Slice, sl' ≠ sl → u.clock sl' = s.clock sl') ∧ u.ras.nextSeq = s.ras.nextSeq + 1 ∧
      (s.ras.waiting.length < 64 → u.ras.waiting = s.ras.waiting ++ [{ s.errRec 6 .timeout sl 0x0E (sliceIx sl) with
        detail1 := (s.clock sl).ebbCount.zeroExtend 64 }]) ∧
      u.conf = s.conf ∧ u.health = s.health ∧ u.tide = s.tide)) ∧
  (∀ (s : State) (k : Fin 4), s.stackOn k = true → (s.stackSec k).thLo ≤ (s.stackSec k).thHi →
    (∀ code : Byte, code ≠ 0 → ∃ u : State, exec (.stackTemperatureCode k code) s = .next u.settle ∧
      u.stackState k = { s.stackState k with
        code := code, reported := true, stale := false,
        throttled := if (s.stackSec k).thHi < code.toNat then true else if code.toNat < (s.stackSec k).thLo then false
                     else (s.stackState k).throttled,
        tokens := if (s.stackSec k).thHi < code.toNat ∧ (s.stackState k).throttled = false then 1024 * (s.stackSec k).bucket
                  else (s.stackState k).tokens } ∧
      (∀ j, j ≠ k.val → u.stackState j = s.stackState j) ∧ u.conf = s.conf ∧ u.mems = s.mems ∧ u.accesses = s.accesses) ∧
    ((s.stackState k).reported = true → ∃ u : State, exec (.stackStaleTimeout k) s = .next u ∧
      (u.stackState k).stale = true ∧ (u.stackState k).throttled = true ∧
      ((s.stackState k).throttled = false → (u.stackState k).tokens = 1024 * (s.stackSec k).bucket) ∧
      (∀ j, j ≠ k.val → u.stackState j = s.stackState j) ∧ u.conf = s.conf ∧ u.mems = s.mems ∧ u.accesses = s.accesses))

/-- Translation through a leaf (07 R158): `w` is the address walked, `v` the access's own. -/
def Obligations.LeafKeepsLowerVirtualBits : Prop :=
  ∀ (s t : State) (p level e id k : Nat) (w v : BitVec 64) (l : Leaf) (a : Access),
    1 ≤ level → level ≤ 4 → s.walkCheck p w.toNat level e = .leaf l →
    let n := 21 + 9 * (level - 1)
    n ∈ [21, 30, 39] ∧ leafHits p v.toNat l = decide (v.toNat / 2 ^ n = w.toNat / 2 ^ n) ∧
    (v.toNat / 2 ^ n = w.toNat / 2 ^ n → t.acc id = some a → a.va = some v → permitted l a = true →
      ∃ q : BitVec 60, q.toNat % 2 ^ n = v.toNat % 2 ^ n ∧ q.toNat / 2 ^ n = bits e 47 9 * 2 ^ 21 / 2 ^ n ∧
        let u := t.stallDone (streamOf a.agent) id
        (∀ port tag, a.purpose = .xlate port tag →
          t.useLeaf id l k = u.finish id { status := .ok, data := leBytes 8 q.toNat ++ [leafAttr l], poison := [] }) ∧
        (∀ c last, a.purpose = .resultProbe c last →
          t.useLeaf id l k = u.finish id { status := .ok, data := leBytes 8 q.toNat ++ leBytes 8 l.vbase.toNat ++ [leafAttr l], poison := [] }) ∧
        ((∀ port tag, a.purpose ≠ .xlate port tag) → (∀ c last, a.purpose ≠ .resultProbe c last) →
          t.useLeaf id l k = (u.modAcc id (fun x => { x with pa := q, cw := l.cw, leaf := some l, stage := .held })).splitWindow id))

/-- CLOCK_LOST (02 R58, 03 R66, R68).
Clauses the spec leaves open follow the model's own readings: logs 42, 76, 103, 112. -/
def Obligations.ClockLossMarksCrossing : Prop :=
  ∀ (s : State) (sl : Slice) (k : Fin 9), (s.clock sl).porN = true → (s.clock sl).dead.getLsbD k = false →
    (crossAt sl k = .inner → (s.clock sl).fbNow = true) →
    (s.home.filter = [] → ∃ u : State, exec (.clockLost sl k) s = .next u.settle ∧
      (u.clock sl).dead = (s.clock sl).dead ||| BitVec.ofNat 9 (2 ^ k.val) ∧
      (u.clock sl).lost = (s.clock sl).lost ||| BitVec.ofNat 9 (2 ^ k.val) ∧
      (∀ sl' : Slice, sl' ≠ sl → u.clock sl' = s.clock sl') ∧ u.conf = s.conf ∧ u.irq.status.getLsbD 4 = true ∧
      (∀ n, crossAt sl k = .host n → (u.host n).readyOut = false ∧ ∀ j, j ≠ n → u.host j = s.host j) ∧
      (∀ p, crossAt sl k = .peer p → (u.peer p).readyOut = false ∧ (u.peer p).state = .clockLost ∧
        ((s.peer p).waiting = [] → ∀ j, j ≠ p → u.peer j = s.peer j)) ∧
      (∀ l, crossAt sl k = .link l → u.linkFault l = some .clockLost ∧ (∀ l', u.link l' = s.link l') ∧
        ∀ a, a ∈ u.accesses → needsLink l a = false ∨ a.purpose = .none))

/-- UNIT_CLOCK_GATE (03 R62), SLICE_LINK_GROUP_RECEIVE (02 R28, R45, R46), TAP_INSTRUCTION (02 R54), ENTROPY_HEALTH_FAIL (15 R360).
Clauses the spec leaves open follow the model's own readings: logs 6, 21, 58, 97. -/
def Obligations.GatingLinkGroupsTapAndEntropy : Prop :=
  ∀ s : State,
    (∀ r : UnitRef, s.unitIdle r = true → r ∉ s.gated → exec (.unitClockGate r) s = .next { s with gated := s.gated ++ [r] }) ∧
    (∀ (l : Link) (rx : Slice), (s.link l).up = true → (s.link l).down = false → s.linkFault l = none → rx ∈ linkEnds l →
      ((s.link l).failed = true ∨ 0 < (s.link l).credits.getD (1 - endIx l rx) 0) →
      exec (.sliceLinkGroupReceive l rx false) s = .next (State.settle ((s.setLink l { s.link l with
        failed := false, badReplays := 0, credits := if (s.link l).failed then (s.link l).credits else ((s.link l).spend l rx).credits,
        replays := if (s.link l).failed then sat32 (s.link l).replays else (s.link l).replays }).drive (.linkCredit l rx))) ∧
      (((s.link l).spend l rx).credits.getD (1 - endIx l rx) 0 = (s.link l).credits.getD (1 - endIx l rx) 0 - 1 ∧
        ((s.link l).spend l rx).credits.getD (endIx l rx) 0 = (s.link l).credits.getD (endIx l rx) 0) ∧
      ((s.link l).failed = false → exec (.sliceLinkGroupReceive l rx true) s =
        .next (State.settle ((s.setLink l { (s.link l).spend l rx with failed := true, badReplays := 0 }).drive (.linkReplay l rx)))) ∧
      ((s.link l).failed = true → (s.link l).badReplays < 7 → exec (.sliceLinkGroupReceive l rx true) s =
        .next (State.settle ((s.setLink l { s.link l with badReplays := (s.link l).badReplays + 1 }).drive (.linkReplay l rx)))) ∧
      ((s.link l).failed = true → 7 ≤ (s.link l).badReplays → ∃ u : State,
        exec (.sliceLinkGroupReceive l rx true) s = .next u.settle ∧ (u.link l).down = true ∧
        (∀ l', l' ≠ l → u.link l' = s.link l') ∧ u.irq.status.getLsbD 6 = true ∧ u.conf = s.conf ∧
        ∀ a, a ∈ u.accesses → needsLink l a = false ∨ a.purpose = .none)) ∧
    (∀ sl : Slice, ∃ t : State, exec (.tapInstruction sl .idcode) s = .next t ∧
      t.out = .tdo sl (match sl with | .sh => 0x20CA10F3 | .en => 0x20CA20F3 | .hd => 0x20CA30F3) :: s.out ∧
      t = { s with tap := t.tap, out := t.out }) ∧
    (∀ sl : Slice, ∃ t : State, exec (.tapInstruction sl .bypass) s = .next t ∧ t.out = .tdo sl 0 :: s.out ∧
      t = { s with tap := t.tap, out := t.out }) ∧
    (s.tapUnlock = false → ∀ (sl : Slice) (k : Nat) (v : BitVec 32),
      (∃ t : State, exec (.tapInstruction sl (.instrument k false v)) s = .next t ∧ t.out = .tdo sl 0 :: s.out ∧
        t = { s with tap := t.tap, out := t.out }) ∧
      (∃ t : State, exec (.tapInstruction sl (.instrument k true v)) s = .next t ∧ t = { s with tap := t.tap })) ∧
    (s.tapUnlock = true → ∀ (sl : Slice) (k : Nat) (v : BitVec 32), ∃ t : State,
      exec (.tapInstruction sl (.instrument k true v)) s = .next t ∧ t.instrumentData sl k = v ∧
      (∀ (sl' : Slice) (j : Nat), sl' ≠ sl ∨ j ≠ k → t.instrumentData sl' j = s.instrumentData sl' j) ∧
      t = { s with tap := t.tap, tapData := t.tapData }) ∧
    (∀ sl : Slice, ∃ t : State, exec (.tapInstruction sl .extest) s = .next t ∧ t.fresh = s.fresh + 1 ∧
      (∃ v, .boundary sl v ∈ t.out) ∧ t = { s with tap := t.tap, out := t.out, fresh := t.fresh }) ∧
    (∀ sl : Slice, ∃ t : State, exec (.tapInstruction sl .testReset) s = .next t ∧ (∀ i, tabGet i t.tap (sliceIx sl) = i) ∧
      t = { s with tap := t.tap }) ∧
    (s.start.ready = true → s.ident.entropyFail = false → s.ctrlLost .sh = false → ∃ t : State, exec .entropyHealthFail s = .next t ∧
      t.ident = { s.ident with entropyFail := true } ∧ t.irq.status.getLsbD 8 = true ∧ t.ras.nextSeq = s.ras.nextSeq + 1 ∧
      t.conf = s.conf ∧ t.accesses = s.accesses ∧ t.tide = s.tide)

/-- HOST_LINK_UP, HOST_LINK_DOWN and HOST_LINK_ERR (02 R30; 14 R354).
Clauses the spec leaves open follow the model's own readings: logs 79, 98. -/
def Obligations.HostLinkEventsMoveThePort : Prop :=
  ∀ (s : State) (n : Fin 2),
    (∃ t : State, exec (.hostLinkDown n) s = .next t ∧ t.host n = { s.host n with linkUp := false, needFall := false } ∧
      (∀ j, j ≠ n.val → t.host j = s.host j) ∧ t = { s with hosts := t.hosts }) ∧
    (s.portsOpen = true → (s.host n).readyOut = false → (s.host n).needFall = false → s.charted = true →
      s.theChart.ports.hostEnable.getLsbD n = true → s.fenced.host.getLsbD n = false → (s.clock .sh).dead.getLsbD n = false →
      ∃ t : State, exec (.hostLinkUp n) s = .next t ∧
      t.host n = { s.host n with linkUp := true, readyOut := true, rxCredits := 64 } ∧ (∀ j, j ≠ n.val → t.host j = s.host j) ∧
      t.out = .hostRwd n 128 :: .hostCredit n 64 :: s.out ∧ t = { s with hosts := t.hosts, out := t.out }) ∧
    ((s.portsOpen = false ∨ (s.host n).readyOut = true ∨ (s.host n).needFall = true ∨ s.charted = false ∨
        s.theChart.ports.hostEnable.getLsbD n = false ∨ s.fenced.host.getLsbD n = true ∨ (s.clock .sh).dead.getLsbD n = true) →
      ∃ t : State, exec (.hostLinkUp n) s = .next t ∧ t.host n = { s.host n with linkUp := true } ∧
      (∀ j, j ≠ n.val → t.host j = s.host j) ∧ t = { s with hosts := t.hosts }) ∧
    ((s.host n).readyOut = false → exec (.hostLinkErr n) s = .next s.settle) ∧
    ((s.host n).readyOut = true → ∃ u : State,
      exec (.hostLinkErr n) s = .next u.settle ∧ u.host n = { linkUp := (s.host n).linkUp, needFall := true } ∧
      (∀ j, j ≠ n.val → u.host j = s.host j) ∧ (∀ c, c ∈ u.cacheTags → c.port ≠ n.val) ∧
      (∀ a, a ∈ u.accesses → onHost n a = false) ∧ u.home.wbBuf.getD n 0 = 0 ∧ u.irq.status.getLsbD 6 = true ∧
      (s.ctrlLost .sh = false → (∀ e, e ∈ s.home.filter → e.mask.getLsbD n = false) → u.ras.nextSeq = s.ras.nextSeq + 1) ∧
      (s.ctrlLost .sh = false → s.ctrlLost .hd = false → u.clocks = s.clocks) ∧
      u.conf = s.conf ∧ u.tide = s.tide ∧ u.queues = s.queues)

/-- BAR0_INVALID_ACCESS, IO_REQUEST, BAR2_READ, BAR2_OTHER_WRITE, CONFIGURATION_REQUEST (02 R31-R33), HOST_SNOOP (R30), MEMSPECRD (14 R340). A snoop in a warm start is held until the start ends (02 R35).
Clauses the spec leaves open follow the model's own readings: logs 12, 25. -/
def Obligations.HostRequestsAnsweredOnTheSpot : Prop :=
  ∀ (s : State) (n : Fin 2), (s.host n).readyOut = true →
    (∀ (w : Bool) (a : BitVec 24) (size : Nat), (size ≠ 4 ∨ a.toNat % 4 ≠ 0 ∨ mapped a.toNat = false) →
      exec (.bar0InvalidAccess n w a size) s = .next (s.drive (.cplUr n))) ∧
    exec (.ioRequest n) s = .next (s.drive (.cplUr n)) ∧
    (∀ (off : BitVec 24) (size : Nat), exec (.bar2Read n off size) s = .next (s.drive (.cplData n 0))) ∧
    (∀ (off : BitVec 24) (size : Nat), (size ≠ 8 ∨ off.toNat % 4096 ≠ 0) →
      exec (.bar2OtherWrite n off size) s = .next { s with
        dbCheck := if s.dbCheck = 0xFFFFFFFF then s.dbCheck else s.dbCheck + 1, dbLast := BitVec.ofNat 12 (off.toNat / 4096) }) ∧
    (∀ v : BitVec 32, ∃ t : State, exec (.configurationRequest n true 0x14 v) s = .next t ∧
      t.host n = { s.host n with bar0 := v ++ (s.host n).bar0.truncate 32 } ∧ (∀ j, j ≠ n.val → t.host j = s.host j) ∧
      t.out = .cplOk n :: s.out ∧ t = { s with hosts := t.hosts, out := t.out }) ∧
    (exec (.configurationRequest n false 0 0) s = .next (s.drive (.cplData n
      ((s.theChart.ports.deviceId ++ s.theChart.ports.vendorId).zeroExtend 64)))) ∧
    (∀ a : BitVec 64, s.warmStart = false → s.warmReset = false → exec (.hostSnoop n a) s = .next (s.drive (.snoopMiss n a))) ∧
    (∀ a : BitVec 64, (s.warmStart = true ∨ s.warmReset = true) → exec (.hostSnoop n a) s =
      .next { s with home := { s.home with hostHeld := s.home.hostHeld ++ [(n.val, .snoop a)] } }) ∧
    (∀ a : BitVec 48, exec (.memspecrd n a) s = .next s)

/-- HOST_DOORBELL: the table of 06 R133, in order. -/
def Obligations.HostDoorbellChecksInOrder : Prop :=
  ∀ (s : State) (n : Fin 2) (q : Fin 4096) (v : BitVec 64), (s.host n).readyOut = true → s.warmReset = false →
    let new : BitVec 32 := v.truncate 32
    let e := new - (s.queue q).prod
    let d := new - (s.queue q).cons
    let sat (x : BitVec 32) : BitVec 32 := if x = 0xFFFFFFFF then x else x + 1
    (s.warmStart = true → exec (.hostDoorbell n q v) s = .next (s.drive (.cplUr n))) ∧
    (s.warmStart = false → s.linkFault .slA ≠ none → doorbellOk q v = true → exec (.hostDoorbell n q v) s = .next s) ∧
    (s.warmStart = false → s.linkFault .slA = none → ∃ t : State, exec (.hostDoorbell n q v) s = .next t ∧
      (if crc16 (leBytes 6 v.toNat) ≠ bits v.toNat 63 48 ∨ bits v.toNat 47 32 ≠ q.val then
        t = { s with dbCheck := sat s.dbCheck, dbLast := BitVec.ofNat 12 q }
       else match s.queueOwner q with
        | none => t = { s with dbCheck := sat s.dbCheck, dbLast := BitVec.ofNat 12 q }
        | some p =>
          if (s.queue q).dbEnable = false ∨ s.part p ≠ .enabled then t = { s with dbState := sat s.dbState, dbLast := BitVec.ofNat 12 q }
          else if 2 ^ 31 ≤ e.toNat ∨ e = 0 then t = s
          else if 2 ^ (s.queue q).sizeLog2.toNat < d.toNat then t = { s with dbCheck := sat s.dbCheck, dbLast := BitVec.ofNat 12 q }
          else t.queue q = { s.queue q with prod := new } ∧ (∀ j, j ≠ q.val → t.queue j = s.queue j) ∧
            t = { s with queues := t.queues }))

/-- CONTROL_PORT_INVALID_ACCESS, CONTROL_PORT_TARGET_LOST (02 R47), MSIX_SEND (17 R420), CREDIT_RETURN (02 R28, R38), UNKNOWN_M2S_REQUEST (14 R340),
BICONFLICT (14 R342).
Clauses the spec leaves open follow the model's own readings: logs 11, 12, 25, 43, 97. -/
def Obligations.PortErrorsMessagesAndCredits : Prop :=
  ∀ s : State,
    ((s.clock .sh).porN = true → ∀ (w : Bool) (a : BitVec 24),
      ((mapped a.toNat = false ∨ a.toNat % 4 ≠ 0) →
        exec (.controlPortInvalidAccess w a) s = .next { s with out := .cpRsp 0 true :: s.out }) ∧
      (s.addressed a.toNat = true → (s.sliceAnswers (sliceOfAddr a.toNat) = false ∨ s.ctrlLost .sh = true ∨
          s.ctrlLost (sliceOfAddr a.toNat) = true) →
        exec (.controlPortTargetLost w a) s = .next { s with out := .cpRsp 0 true :: s.out })) ∧
    (∀ (v : Fin 2048) (n : Nat), s.pendingBit v = true → s.readyHost = some n → (s.msixEntry v).mask = false →
      (s.host n).funcMask = false → ∃ t : State, exec (.msixSend v) s = .next t ∧ t.pendingBit v = false ∧
      (∀ w, w ≠ v.val → t.pendingBit w = s.pendingBit w) ∧ t.out = .msix n v (s.msixEntry v).addr (s.msixEntry v).data :: s.out ∧
      t = { s with irq := { s.irq with pba := t.irq.pba }, out := t.out }) ∧
    (∀ n : Fin 2, ∃ u : State, exec (.creditReturn (.host n)) s = .next u.settle ∧
      u.host n = { s.host n with txCredits := (s.host n).txCredits + 1 } ∧ (∀ j, j ≠ n.val → u.host j = s.host j) ∧
      u = { s with hosts := u.hosts }) ∧
    (∀ (l : Link) (sl : Slice), (s.link l).up = true → s.linkFault l = none → sl ∈ linkEnds l → ∃ u : State, exec (.creditReturn (.link l sl)) s = .next u.settle ∧
      u.link l = { s.link l with credits := (s.link l).credits.set (endIx l sl) (min 320 ((s.link l).credits.getD (endIx l sl) 0 + 1)) } ∧ (∀ l', l' ≠ l → u.link l' = s.link l') ∧
      u = { s with links := u.links }) ∧
    (∀ (p : Fin 4) (w : BitVec 16), (s.peer p).waiting = [] → ∃ u : State, exec (.creditReturn (.peer p w)) s = .next u.settle ∧
      (∀ k, k < (s.peer p).credits.length → k < 4 →
        (u.peer p).credits.getD k 0 = (s.peer p).credits.getD k 0 + min 8 (bits w.toNat (4 * k + 3) (4 * k))) ∧
      (u.peer p).creditErr.toNat = min ((s.peer p).creditErr.toNat + creditExcess w) 0xFFFFFFFF ∧
      (∀ j, j ≠ p.val → u.peer j = s.peer j) ∧ u = { s with peers := u.peers }) ∧
    (∀ (n : Fin 2) (rd : Bool) (a : BitVec 48) (tag : Nat), s.hostOn n = true → (s.windowAt a.toNat).isSome = true → s.linkFault .slA = none →
      s.ctrlLost .hd = false → ∃ t : State, exec (.unknownM2sRequest n rd a tag) s = .next t ∧ t.ras.nextSeq = s.ras.nextSeq + 1 ∧
      (rd = true → .memData n tag [] true ∈ t.out) ∧ .memCmp n tag .cmp ∈ t.out ∧
      t.home = s.home ∧ t.accesses = s.accesses ∧ t.tide = s.tide ∧ t.conf = s.conf) ∧
    (∀ (n : Fin 2) (a : BitVec 48), s.hostOn n = true → s.linkFault .slA = none → s.wbBusy (roundDown a.toNat 64) = false → exec (.biconflict n a) s =
      .next (State.drive { s with home := { s.home with conflict := sat32 s.home.conflict } }
        (.biConflictAck n (BitVec.ofNat 48 (roundDown a.toNat 64)))))

/-- MEMRD, MEMRDDATA, MEMWR, MEMWRPTL (14 R340) and HDM_H_REQUEST (14 R355); what comes in a warm start is
held (02 R35). That a window line's request ends with SL-A out of service is the model's choice (log 103).
Clauses the spec leaves open follow the model's own readings: logs 41, 75, 99, 104. -/
def Obligations.HostMemoryRequestsJoinTheirLine : Prop :=
  (∀ (s : State) (n : Fin 2) (addr : BitVec 48) (tag : Nat), (s.host n).readyOut = true → (s.warmStart = true ∨ s.warmReset = true) →
    let held (m : HostMsg) : State := { s with home := { s.home with hostHeld := s.home.hostHeld ++ [(n.val, m)] } }
    (∀ mv : MetaValue, exec (.memrd n addr mv tag) s = .next (held (.read addr.toNat mv tag)).settle) ∧
    exec (.memrddata n addr tag) s = .next (held (.read addr.toNat .s tag)).settle ∧
    (∀ (mv : MetaValue) (data : Bytes) (be : BitVec 64) (bad : Bool),
      exec (.memwr n addr mv tag data be bad) s = .next (held (.write addr.toNat mv false tag data be bad)).settle ∧
      exec (.memwrptl n addr tag data be bad) s = .next (held (.write addr.toNat .i true tag data be bad)).settle) ∧
    (∀ (w : Bool) (data : Bytes) (be : BitVec 64) (bad : Bool),
      exec (.hdmHRequest n w addr tag data be bad) s = .next (held (.hdm w addr.toNat tag data be bad)).settle)) ∧
  (∀ (s : State) (n : Fin 2) (addr : BitVec 48) (tag : Nat), s.hostOn n = true → (s.windowAt addr.toNat).isSome = true →
    s.linkFault .slA ≠ none → (∀ mv : MetaValue, exec (.memrd n addr mv tag) s =
      .next (State.settle { s with out := .memCmp n tag .cmp :: .memData n tag [] true :: s.out })) ∧
    (∀ (mv : MetaValue) (data : Bytes) (be : BitVec 64) (bad : Bool), exec (.memwr n addr mv tag data be bad) s =
      .next (State.settle { s with out := .memCmp n tag .cmp :: s.out }))) ∧
  ∀ (s : State) (n : Fin 2) (addr : BitVec 48) (tag : Nat), s.hostOn n = true → s.linkFault .slA = none →
    let line := addr.toNat / 64 * 64
    let new (r : HomeReq) : HomeTxn :=
      { id := s.home.nextTxn, line := BitVec.ofNat 48 line, req := r, phase := .queued, snoops := [], quiet := false, victim := none,
        wbs := 0, old := 0, swapped := false }
    ((s.windowAt addr.toNat).isSome = true →
      (∀ mv : MetaValue, exec (.memrd n addr mv tag) s = .next (State.settle { s with home := { s.home with
        nextTxn := s.home.nextTxn + 1, txns := s.home.txns ++ [new (.hostRead n tag mv)] } })) ∧
      exec (.memrddata n addr tag) s = .next (State.settle { s with home := { s.home with
        nextTxn := s.home.nextTxn + 1, txns := s.home.txns ++ [new (.hostRead n tag .s)] } }) ∧
      (128 ≤ s.home.wbBuf.getD n 0 → ∀ (mv : MetaValue) (data : Bytes) (be : BitVec 64) (bad : Bool),
        exec (.memwr n addr mv tag data be bad) s = .next s.settle ∧ exec (.memwrptl n addr tag data be bad) s = .next s.settle) ∧
      (s.snooper line n = none → s.home.wbBuf.getD n 0 < 128 → ∀ (mv : MetaValue) (data : Bytes) (be : BitVec 64),
        exec (.memwr n addr mv tag data be false) s = .next (State.settle { s with home := { s.home with
          nextTxn := s.home.nextTxn + 1, txns := s.home.txns ++ [new (.hostWrite n tag mv false data be false)],
          wbBuf := s.home.wbBuf.set n (s.home.wbBuf.getD n 0 + 1) } }) ∧
        exec (.memwrptl n addr tag data be false) s = .next (State.settle { s with home := { s.home with
          nextTxn := s.home.nextTxn + 1, txns := s.home.txns ++ [new (.hostWrite n tag .i true data be false)],
          wbBuf := s.home.wbBuf.set n (s.home.wbBuf.getD n 0 + 1) } }))) ∧
    ((s.windowAt addr.toNat).isSome = false → ∀ (w : Bool) (data : Bytes) (be : BitVec 64), ∃ (u : State) (a : Access),
      exec (.hdmHRequest n w addr tag data be false) s = .next u.settle ∧
      u = { s with accesses := s.accesses ++ [a], nextId := s.nextId + 1 } ∧ a.id = s.nextId ∧ a.purpose = .hdm n tag ∧
      a.kind = (if w then .write else .read) ∧ a.pa = s.localPa line ∧ a.stage = .held ∧ a.va = none ∧
      (w = false → a.len = 64) ∧ (w = true → data.length = 64 → a.len = 64 ∧ a.data = data ∧ a.be = bitList 64 be.toNat))

/-- BIRSP (14 R344, R355, R356) and SNOOP_TIMEOUT (14 R343).
Clauses the spec leaves open follow the model's own readings: logs 40, 42. -/
def Obligations.SnoopAnswersAndLostHolders : Prop :=
  ∀ (s : State) (addr : BitVec 48),
    let line := addr.toNat / 64 * 64
    ((s.warmStart = true ∨ s.warmReset = true) → ∀ (n : Fin 2) (r : BiRsp), (s.host n).readyOut = true → exec (.birsp n addr r) s =
      .next (State.settle { s with home := { s.home with hostHeld := s.home.hostHeld ++ [(n.val, .answer line r)] } })) ∧
    (s.warmStart = false → s.warmReset = false → ∀ (n : Fin 2) (r : BiRsp), (s.host n).readyOut = true → s.linkFault .slA = none →
      s.snooper line n = none →
      exec (.birsp n addr r) s = .next (State.settle { s with home := { s.home with stale := sat32 s.home.stale } })) ∧
    (s.warmStart = false → s.warmReset = false → ∀ (n : Fin 2) (t : HomeTxn), (s.host n).readyOut = true → s.linkFault .slA = none →
      s.snooper line n = some t → t.snoops.find? (fun x => x.1 == n.val) = some (n.val, true, true) →
      ∃ u : State, exec (.birsp n addr .i) s = .next u.settle ∧
      u.home.txns = s.home.txns.map (fun x => if x.id = t.id then { x with snoops := x.snoops.filter (fun y => y.1 != n.val) } else x) ∧
      u.home.filter = (s.home.filter.map (fun e =>
        if e.line.toNat = line then { e with mask := e.mask &&& ~~~(BitVec.ofNat 8 (2 ^ n.val)), excl := false } else e)).filter
          (fun e => e.mask != 0 || s.wayKept e.line) ∧
      u.home.stale = s.home.stale ∧ u = { s with home := { s.home with txns := u.home.txns, filter := u.home.filter } }) ∧
    (∀ c : Fin 8, s.snooper line c = none → exec (.snoopTimeout addr c) s = .next s.settle) ∧
    (∀ (c : Fin 8) (t : HomeTxn), s.snooper line c = some t → s.exclusive line ≠ some c.val → s.ctrlLost .hd = false → ∃ u : State,
      exec (.snoopTimeout addr c) s = .next u.settle ∧ u.ras.nextSeq = s.ras.nextSeq + 1 ∧ u.accesses = s.accesses ∧
      u.home.lost = s.home.lost ∧ u.conf = s.conf ∧ u.tide = s.tide ∧ u.queues = s.queues ∧ u.clocks = s.clocks) ∧
    (∀ (c : Fin 8) (t : HomeTxn), s.snooper line c = some t → s.exclusive line = some c.val → s.ctrlLost .hd = false → ∃ u : State,
      exec (.snoopTimeout addr c) s = .next u.settle ∧ u.home.lost = sat32 s.home.lost ∧ u.nextId = s.nextId + 1 ∧
      (∃ a, u.accesses = s.accesses ++ [a] ∧ a.purpose = .home t.id ∧ a.kind = .write ∧ a.pa = s.localPa line ∧ a.len = 64 ∧
        a.poison = [true]) ∧
      u.conf = s.conf ∧ u.tide = s.tide ∧ u.queues = s.queues ∧ u.clocks = s.clocks)

/-- CXL_CACHE_COMPLETION (07 R175, 09 R225), ATS_INVALIDATION_REQUEST (07 R183), ATS_TRANSLATION_REQUEST (07 R184).
Clauses the spec leaves open follow the model's own readings: log 33. -/
def Obligations.HostWindowCompletionsAndAts : Prop :=
  ∀ (s : State) (n : Fin 2),
    (∀ (tag : Nat) (data : Bytes) (bad : Bool) (c : CacheTag) (a : Access),
      s.cacheTags.find? (fun x => x.port == n.val && x.tag == tag) = some c → s.acc c.access = some a → a.kind = .write → a.held = none →
      (∀ x, x ∈ s.cacheTags → (x.port = n.val ∧ x.tag = tag) ∨ x.access ≠ a.id) →
      exec (.cxlCacheCompletion n tag data bad) s = .next (State.settle { s with
        cacheTags := s.cacheTags.filter (fun x => !(x.port == n.val && x.tag == tag)),
        accesses := s.accesses.filter (fun x => x.id != a.id),
        ended := s.ended ++ [(a, { status := .ok, data := [], poison := [] })] })) ∧
    ((s.host n).readyOut = false → ∀ (pasid : Option (BitVec 20)) (va : BitVec 64) (len tag : Nat),
      exec (.atsInvalidationRequest n pasid va len tag) s = .next s ∧ exec (.atsTranslationRequest n pasid va tag) s = .next s) ∧
    ((s.host n).readyOut = true →
    (16 ≤ s.inv.held.length → ∀ (va : BitVec 64) (len tag : Nat), ∃ t : State,
      exec (.atsInvalidationRequest n none va len tag) s = .next t ∧
      t.inv = { s.inv with atsWait := s.inv.atsWait ++ [otherInv (.ats n tag) .all 0 0 0] } ∧
      t.host n = { s.host n with rxCredits := (s.host n).rxCredits - 1 } ∧ (∀ j, j ≠ n.val → t.host j = s.host j) ∧
      t = { s with inv := t.inv, hosts := t.hosts }) ∧
    (s.inv.held.length < 16 → s.linkFault .slC = none → ∀ (va : BitVec 64) (len tag : Nat),
      exec (.atsInvalidationRequest n none va len tag) s = .next { s with inv := { s.inv with
        held := s.inv.held ++ [otherInv (.ats n tag) .all 0 0 0] } } ∧
      (∀ p : Nat, p < 16 → s.partExists p = true → exec (.atsInvalidationRequest n (some (BitVec.ofNat 20 p)) va len tag) s =
        .next { s with inv := { s.inv with held := s.inv.held ++ [otherInv (.ats n tag) .range p (va.toNat / 2 ^ 21 * 2 ^ 21)
          ((va.toNat + len + 2 ^ 21 - 1) / 2 ^ 21 - va.toNat / 2 ^ 21)] } })) ∧
    (∀ (p : BitVec 20) (va : BitVec 64) (len tag : Nat), s.pasidPart p = none →
      exec (.atsInvalidationRequest n (some p) va len tag) s = .next { s with
        trans := { s.trans with atsInv := sat32 s.trans.atsInv }, out := .atsInvDone n tag :: s.out }) ∧
    (∀ (pasid : Option (BitVec 20)) (va : BitVec 64) (tag : Nat),
      (s.theChart.trans.answerAts = false ∨ pasid.bind s.pasidPart = none ∨ ∃ p, pasid.bind s.pasidPart = some p ∧ s.partOn p = false) →
      exec (.atsTranslationRequest n pasid va tag) s = .next { s with out := .atsUr n tag :: s.out }) ∧
    (∀ (pasid : Option (BitVec 20)) (va : BitVec 64) (tag p : Nat) (l : Leaf), s.theChart.trans.answerAts = true →
      pasid.bind s.pasidPart = some p → s.partOn p = true → va.toNat < 2 ^ 57 → (s.root p).valid = true →
      s.trans.l2.find? (leafHits p va.toNat) = some l → ∃ t : State,
      exec (.atsTranslationRequest n pasid va tag) s = .next t ∧ t = { s with
        trans := { s.trans with l2Hit := sat32 s.trans.l2Hit }, out := t.out } ∧
      (∀ h, instOf l.pbase = s.ownId → l.cw = false → s.hdmAddr n (localOf l.pbase) = some h →
        t.out = .atsRsp n tag (BitVec.ofNat 64 h) (21 + 9 * (l.level - 1)) l.rd l.wr false :: s.out) ∧
      ((instOf l.pbase ≠ s.ownId ∨ l.cw = true ∨ s.hdmAddr n (localOf l.pbase) = none) →
        t.out = .atsRsp n tag 0 21 false false false :: s.out)))

/-- GET_VERSION, GET_CAPABILITIES, NEGOTIATE_ALGORITHMS, GET_DIGESTS, GET_CERTIFICATE and UNSUPPORTED_SPDM_REQUEST (15 R362, R367).
Clauses the spec leaves open follow the model's own readings: logs 19, 38. -/
def Obligations.SpdmRequestsAreAnswered : Prop :=
  ∀ (s : State) (n : Fin 2), s.sec = true → (s.host n).readyOut = true →
    let did (c : Instr) (conn : Tab Nat) (r : SpdmRsp) : Prop := exec c s = .next { s with
      ident := { s.ident with negotiated := conn, doeNo := s.ident.doeNo + 1, doeReady := some n.val,
                              missed := if s.ident.session = .live n then 0 else s.ident.missed },
      out := .spdm n r :: s.out }
    let at_ : Nat := tabGet 0 s.ident.negotiated n
    let same := s.ident.negotiated
    did (.getVersion n) (tabSet 0 same n 1) (.version [0x13]) ∧
    (1 ≤ at_ → did (.getCapabilities n 0x13) (tabSet 0 same n 2)
      (.capabilities [.cert, .chal, .measSigned, .keyEx, .encrypt, .mac, .hbeat, .keyUpd])) ∧
    (2 ≤ at_ → did (.negotiateAlgorithms n 0x13) (tabSet 0 same n 3)
      (.algorithms [.ecdsaP384, .sha384, .dheSecp384r1, .aes256Gcm, .spdmKeySchedule, .dmtfMeasurement, .measurementSha384])) ∧
    (3 ≤ at_ → did (.getDigests n 0x13) same (.digests (sha384 (s.ident.chain ++ s.ident.cert)))) ∧
    (3 ≤ at_ → ∀ off len : Nat, off < (s.ident.chain ++ s.ident.cert).length → did (.getCertificate n 0x13 0 off len) same
      (.certificate (((s.ident.chain ++ s.ident.cert).drop off).take len) ((s.ident.chain ++ s.ident.cert).length - off - len))) ∧
    (3 ≤ at_ → ∀ slot off len : Nat, slot ≠ 0 → did (.getCertificate n 0x13 slot off len) same .invalidRequest) ∧
    (∀ code : Byte, code.toNat ∉ spdmCodes → did (.unsupportedSpdmRequest n 0x13 code) same .unsupportedRequest) ∧
    (∀ v : Byte, v ≠ 0x13 → did (.getCapabilities n v) same .versionMismatch ∧ did (.negotiateAlgorithms n v) same .versionMismatch ∧
      did (.getDigests n v) same .versionMismatch ∧ (∀ a b c : Nat, did (.getCertificate n v a b c) same .versionMismatch) ∧
      (∀ (a : Nat) (x : BitVec 256), did (.challenge n v a x) same .versionMismatch) ∧
      (∀ (i : Byte) (b : Bool) (x : BitVec 256), did (.getMeasurements n v i b x) same .versionMismatch) ∧
      (∀ (b : Bytes) (x : BitVec 256), did (.keyExchange n v b x) same .versionMismatch) ∧
      (∀ b : Bool, did (.finish n v b) same .versionMismatch) ∧ did (.heartbeat n v) same .versionMismatch ∧
      did (.keyUpdate n v) same .versionMismatch ∧ did (.endSession n v) same .versionMismatch)

/-- CHALLENGE, GET_MEASUREMENTS, KEY_EXCHANGE and FINISH (15 R367-R369).
Clauses the spec leaves open follow the model's own readings: logs 13, 20, 38, 106. -/
def Obligations.SpdmSignedAnswersAndSession : Prop :=
  ∀ (s : State) (n : Fin 2), s.sec = true → (s.host n).readyOut = true → 3 ≤ tabGet 0 s.ident.negotiated n →
    let left (t : State) (draws : Nat) (ses : Session) (r : SpdmRsp) : Prop :=
      t.out = .spdm n r :: s.out ∧ t.rand = s.rand + draws ∧ t.ident.session = ses ∧
      t.ident.doeNo = s.ident.doeNo + 1 ∧ t.ident.doeReady = some n.val ∧ t.ident.regions = s.ident.regions ∧ t.ident.negotiated = s.ident.negotiated ∧
      t.ident.aliasKey = s.ident.aliasKey ∧ t.conf = s.conf ∧
      t = { s with ident := t.ident, out := t.out, rand := t.rand }
    let same := s.ident.session
    (s.ident.entropyFail = false → ∀ x : BitVec 256,
      (∃ (t : State) (rnd g : Bytes), exec (.challenge n 0x13 0 x) s = .next t ∧ left t 2 same (.challengeAuth (sha384 s.slot0) rnd g) ∧
        rnd = beBytes 32 ((Config.drbg s.rand).toNat % 2 ^ 256) ∧
        g = ecdsaSign s.ident.aliasKey ((Config.drbg (s.rand + 1)).toNat % (p384N - 1) + 1)
          (beBytes 48 (Config.spdmTranscript (sha384 s.slot0 ++ beBytes 32 x.toNat ++ rnd)).toNat)) ∧
      (∃ (t : State) (rnd g : Bytes), exec (.getMeasurements n 0x13 0xFF true x) s = .next t ∧
        left t 2 same (.measurements s.manifest.length s.manifest rnd (some g))) ∧
      (∀ i : Byte, i ≠ 0xFF → (i = 0 ∨ s.manifest.filter (fun b => b.1 == i.toNat) ≠ []) → ∃ (t : State) (rnd : Bytes),
        exec (.getMeasurements n 0x13 i false x) s = .next t ∧
        left t 1 same (.measurements s.manifest.length (s.manifest.filter (fun b => b.1 == i.toNat)) rnd none))) ∧
    (∀ (slot : Nat) (x : BitVec 256), slot ≠ 0 → ∃ t : State, exec (.challenge n 0x13 slot x) s = .next t ∧ left t 0 same .invalidRequest) ∧
    (∀ (i : Byte) (b : Bool) (x : BitVec 256), i ≠ 0 → i ≠ 0xFF → s.manifest.filter (fun e => e.1 == i.toNat) = [] → ∃ t : State,
      exec (.getMeasurements n 0x13 i b x) s = .next t ∧ left t 0 same .invalidRequest) ∧
    (s.ident.entropyFail = true → ∀ (x : BitVec 256) (share : Bytes),
      (∃ t : State, exec (.challenge n 0x13 0 x) s = .next t ∧ left t 0 same .unspecified) ∧
      (∃ t : State, exec (.getMeasurements n 0x13 0xFF true x) s = .next t ∧ left t 0 same .unspecified) ∧
      (same = .none → ∃ t : State, exec (.keyExchange n 0x13 share x) s = .next t ∧ left t 0 .none .unspecified)) ∧
    (∀ (x : BitVec 256) (share : Bytes), same ≠ .none → ∃ t : State, exec (.keyExchange n 0x13 share x) s = .next t ∧
      left t 0 same .sessionLimitExceeded) ∧
    (∀ (x : BitVec 256) (share z : Bytes), same = .none → s.ident.entropyFail = false →
      ecdh ((Config.drbg s.rand).toNat % (p384N - 1) + 1) share = some z → ∃ (t : State) (rnd g : Bytes),
      exec (.keyExchange n 0x13 share x) s = .next t ∧ t.ident.sessionKey = beNat z ∧
      left t 3 (.awaiting n) (.keyExchangeRsp 60 rnd (pubOf ((Config.drbg s.rand).toNat % (p384N - 1) + 1)) g)) ∧
    (∀ (x : BitVec 256) (share : Bytes), same = .none → s.ident.entropyFail = false →
      ecdh ((Config.drbg s.rand).toNat % (p384N - 1) + 1) share = none → ∃ t : State,
      exec (.keyExchange n 0x13 share x) s = .next t ∧ left t 1 .none .invalidRequest) ∧
    (same = .awaiting n →
      (∃ t : State, exec (.finish n 0x13 true) s = .next t ∧ left t 0 (.live n) .finishRsp ∧ t.ident.missed = 0) ∧
      (∃ t : State, exec (.finish n 0x13 false) s = .next t ∧ left t 0 .none .invalidRequest)) ∧
    (same ≠ .awaiting n → ∀ b, ∃ t : State, exec (.finish n 0x13 b) s = .next t ∧ left t 0 same .unexpectedRequest)

/-- HEARTBEAT, KEY_UPDATE, END_SESSION, SPDM_HEARTBEAT_EXPIRY (15 R368), QUERY, KEY_PROG, K_SET_GO, K_SET_STOP (15 R366).
Clauses the spec leaves open follow the model's own readings: logs 38, 39. -/
def Obligations.SessionMessagesAndIdeKeys : Prop :=
  ∀ (s : State) (n : Fin 2), s.ident.session = .live n →
    (s.ident.missed = 0 → exec .spdmHeartbeatExpiry s = .next { s with ident := { s.ident with missed := 1 } }) ∧
    (1 ≤ s.ident.missed → exec .spdmHeartbeatExpiry s =
      .next { s with ident := { s.ident with session := .none, missed := 0, sessionKey := 0 } }) ∧
    (s.sec = true → (s.host n).readyOut = true → 3 ≤ tabGet 0 s.ident.negotiated n →
      exec (.heartbeat n 0x13) s = .next { s with
        ident := { s.ident with missed := 0, doeNo := s.ident.doeNo + 1, doeReady := some n.val }, out := .spdm n .heartbeatAck :: s.out } ∧
      exec (.keyUpdate n 0x13) s = .next { s with
        ident := { s.ident with
          missed := 0, doeNo := s.ident.doeNo + 1, doeReady := some n.val, sessionKey := beNat (hkdf384 [] (beBytes 48 s.ident.sessionKey) (ascii "traffic upd") 48) },
        out := .spdm n .keyUpdateAck :: s.out } ∧
      exec (.endSession n 0x13) s = .next { s with
        ident := { s.ident with missed := 0, doeNo := s.ident.doeNo + 1, doeReady := some n.val, session := .none, sessionKey := 0 },
        out := .spdm n .endSessionAck :: s.out }) ∧
    (s.sec = true → (s.host n).readyOut = true →
      let ack (c : Instr) (r : IdeRsp) (h : HostPort) : Prop := ∃ t : State, exec c s = .next t ∧ t.host n = h ∧
        (∀ j, j ≠ n.val → t.host j = s.host j) ∧
        t = { s with hosts := t.hosts, ident := { s.ident with missed := 0, doeNo := s.ident.doeNo + 1, doeReady := some n.val }, out := .ideKm n r :: s.out }
      let h := s.host n
      ack (.query n) .queryResp h ∧
      (∀ (ks : Fin 2) (tx : Bool) (key : BitVec 256),
        ack (.keyProg n .other ks tx key) (.kpAck false) h ∧
        ack (.kSetGo n .other ks tx) .kGoStopAck h ∧ ack (.kSetStop n .other ks tx) .kGoStopAck h) ∧
      (∀ (st : IdeStream) (i : Nat) (ks : Fin 2) (tx : Bool) (key : BitVec 256), ideIndex st = some i →
        let k : Nat := 4 * i + 2 * ks.val + (if tx then 1 else 0)
        let d : Nat := 2 * i + (if tx then 1 else 0)
        ack (.keyProg n st ks tx key) (.kpAck true) { h with ideKeys := tabSet none h.ideKeys k (some key) } ∧
        (tabGet none h.ideKeys k ≠ none → ack (.kSetGo n st ks tx) .kGoStopAck { h with ideActive := tabSet 0 h.ideActive d (ks.val + 1) }) ∧
        (tabGet none h.ideKeys k = none → ack (.kSetGo n st ks tx) .kGoStopAck h) ∧
        (tabGet 0 h.ideActive d = ks.val + 1 → ack (.kSetStop n st ks tx) .kGoStopAck { h with ideActive := tabSet 0 h.ideActive d 0 }) ∧
        (tabGet 0 h.ideActive d ≠ ks.val + 1 → ack (.kSetStop n st ks tx) .kGoStopAck h)))

/-- SH_ID_ENDORSE_BEGIN, SH_ID_ENDORSE_DATA_WRITE, SH_ID_ENDORSE_COMMIT (15 R361).
Clauses the spec leaves open follow the model's own readings: logs 27, 62. -/
def Obligations.EndorsementIsCheckedAtCommit : Prop :=
  ∀ s : State, (s.reach .cp 0x40004 = true → s.reach .cp 0x40008 = true → s.start.step = 8 → s.start.stopped = false → s.start.warm = false →
    exec (.shIdEndorseBegin .cp) s = .next { s with ident := { s.ident with staging := [] }, out := .cpWritten :: s.out } ∧
    (s.ident.staging.length < 192 → ∀ v : BitVec 32, exec (.shIdEndorseDataWrite .cp v) s = .next { s with
      ident := { s.ident with staging := s.ident.staging ++ leBytes 4 v.toNat }, out := .cpWritten :: s.out }) ∧
    (∃ t : State, exec (.shIdEndorseCommit .cp) s = .next t ∧ t.irq.status.getLsbD 9 = true ∧
      t.ident = { s.ident with endorsed := t.ident.endorsed, endorsement := t.ident.endorsement } ∧
      (t.ident.endorsed = true ↔ s.ident.staging.length = 192 ∧ keyHashOk (s.ident.staging.take 96) s.fuses.keyHash = true ∧
        ecdsaVerify (s.ident.staging.take 96) (endorseDigest s.ownId s.ident.devPub) (s.ident.staging.drop 96) = true) ∧
      t.ident.endorsement = (if t.ident.endorsed then some s.ident.staging else none) ∧
      t.fuses = s.fuses ∧ t.start = s.start ∧ t.chart = s.chart ∧ t.tide = s.tide)) ∧
    (s.start.step ≠ 8 → ∀ (path : Path) (v : BitVec 32),
      (∃ t : State, exec (.shIdEndorseBegin path) s = .next t ∧ t.ident = s.ident) ∧
      (∃ t : State, exec (.shIdEndorseDataWrite path v) s = .next t ∧ t.ident = s.ident) ∧
      (∃ t : State, exec (.shIdEndorseCommit path) s = .next t ∧ t.ident = s.ident))

/-- ZARIC_READ, ZARIC_WRITE, WRITEBACK, ZARIC_ATOMIC, ZARIC_SIGNAL, OWN, SNP_INV and SNP_SHR at their destination (11 R281, R282; 14 R341, R352).
Clauses the spec leaves open follow the model's own readings: logs 46, 84, 102. -/
def Obligations.PeerRequestsAreServed : Prop :=
  ∀ (s : State) (p : Fin 4) (k : Packet), s.warmStart = false → s.warmReset = false →
    let s1 : State := s.unbox p k
    let oldest (op : Nat) (sub : Option Nat) : Prop := s.homeFull k = false ∧
      (s.peer p).inbox.find? (fun x => x.opcode.toNat == op && (sub.elim true (fun n => x.subop.toNat == n))) = some k
    let starts (c : Instr) (kind : AccKind) (len : Nat) (more : Access → Prop) : Prop := ∃ (u : State) (a : Access),
      exec c s = .next u.settle ∧ u = { s1 with accesses := s1.accesses ++ [a], nextId := s1.nextId + 1 } ∧
      a.agent = .peer k.src.toNat ∧ a.purpose = .peerServe p k.tag k.src ∧ a.kind = kind ∧ a.len = len ∧
      a.part = (if k.mc then none else some k.part.toNat) ∧ a.mc = k.mc ∧ a.pa = s.localPa k.addr.toNat ∧ a.va = none ∧
      a.tide = (if k.tide = 0xFFFF then none else some k.tide.toNat) ∧ a.sem = k.sem ∧ a.scope = k.scope ∧ more a
    ((s1.peer p).inbox = (s.peer p).inbox.erase k ∧
      (s1.peer p).room = (s.peer p).room.set (clsCode k.cls) ((s.peer p).room.getD (clsCode k.cls) 0 + (packetSlots k).length) ∧
      (∀ j, j ≠ p.val → s1.peer j = s.peer j) ∧ ((s.peer p).readyOut = false → s1.out = s.out) ∧
      ((s.peer p).readyOut = true → s1.out = ((List.range (((packetSlots k).length + 7) / 8)).map (fun i => Out.peerCredit p
        (BitVec.ofNat 16 (min 8 ((packetSlots k).length - 8 * i) * 2 ^ (4 * clsCode k.cls))))).reverse ++ s.out)) ∧
    (∀ st : Status, s.linkFault .slA = some st → k.cls = .req →
      let refused (c : Instr) : Prop := exec c s = .next (s1.refusePacket k st).settle
      (oldest 0x01 none → refused (.zaricRead p)) ∧ (oldest 0x02 (some 0) → refused (.zaricWrite p)) ∧
      (oldest 0x02 (some 1) → refused (.writeback p)) ∧ (oldest 0x03 none → refused (.zaricAtomic p)) ∧
      (oldest 0x04 none → refused (.zaricSignal p)) ∧ (oldest 0x05 none → refused (.contrib p)) ∧
      (oldest 0x06 none → refused (.own p))) ∧
    (∀ st : Status, s.linkFault .slA = some st → k.cls ≠ .req → (oldest 0x10 none → exec (.snpInv p) s = .next s1.settle) ∧
      (oldest 0x11 none → exec (.snpShr p) s = .next s1.settle)) ∧
    ((∀ x, x ∈ (s.peer p).inbox → x.opcode = 0x06 → s.homeFull x = true) → exec (.own p) s = .next s.settle) ∧
    ((∀ x, x ∈ (s.peer p).inbox → x.opcode = 0x02 → x.subop = 1 → s.homeFull x = true) → exec (.writeback p) s = .next s.settle) ∧
    (s.linkFault .slA = none →
    (oldest 0x01 none → starts (.zaricRead p) .read k.aux.toNat (fun a => a.data = [])) ∧
    (oldest 0x02 (some 0) → (∀ b, b ∈ packetMarks k → b = false) → starts (.zaricWrite p) .write k.payload.length
      (fun a => a.data = k.payload ∧ a.be = if k.hasBe then k.be else List.replicate k.payload.length true)) ∧
    (oldest 0x02 (some 1) → k.poison ≠ 0 → ∃ u : State, exec (.writeback p) s = .next u.settle ∧ u.hold.poisonIn = sat32 s.hold.poisonIn ∧
      u.home = (s1.openTxn (k.addr.toNat / 64 * 64) (.peerWb k.tag k.src k.payload true)).home ∧ u.accesses = s.accesses ∧
      u.conf = s.conf ∧ u.tide = s.tide) ∧
    (oldest 0x02 (some 1) → k.poison = 0 → exec (.writeback p) s = .next (State.settle
      (s1.openTxn (k.addr.toNat / 64 * 64) (.peerWb k.tag k.src k.payload false)))) ∧
    (oldest 0x06 none → exec (.own p) s = .next (State.settle (s1.openTxn (k.addr.toNat / 64 * 64) (.peerOwn p k.tag k.src)))) ∧
    (oldest 0x03 none → ∀ size : Nat, size = 4 ∨ size = 8 → k.aux.toNat = size → 1 ≤ k.subop.toNat → k.subop.toNat ≤ 0x0B →
      k.addr.toNat % size = 0 → (k.length = 16 ↔ k.subop = 0x0A) → starts (.zaricAtomic p) .atomic size (fun a => a.op = some {
        subop := k.subop, size := size, operand := BitVec.ofNat 64 (fld k.payload 0 8), swap := BitVec.ofNat 64 (fld k.payload 8 8) })) ∧
    (oldest 0x04 none → s.tideInRange k.tide.toNat (if k.mc then none else some k.part.toNat) = true →
      exec (.zaricSignal p) s = .next (State.settle
        ((s1.modTideVal k.tide.toNat (fun v => v + BitVec.ofNat 64 (fld k.payload 0 8))).sendPacket (s.answer .rsp 0x18 k.src k.tag .ok 0 [] 0)))) ∧
    (oldest 0x04 none → s.tideInRange k.tide.toNat (if k.mc then none else some k.part.toNat) = false → ∃ u : State,
      exec (.zaricSignal p) s = .next u.settle ∧ u.tide.values = s.tide.values ∧ u.conf = s.conf) ∧
    (let line : BitVec 60 := BitVec.ofNat 60 (k.src.toNat * 2 ^ 48 + k.addr.toNat / 64 * 64)
     (oldest 0x10 none → s.nearAt line = none → exec (.snpInv p) s = .next (State.settle
        (s1.sendPacket (s.answer .rsp 0x19 k.src k.tag .ok 0 [] 0)))) ∧
     (oldest 0x11 none → s.nearAt line = none → exec (.snpShr p) s = .next (State.settle
        (s1.sendPacket (s.answer .rsp 0x19 k.src k.tag .ok 0 [] 0)))) ∧
     (oldest 0x10 none → ∀ l : NearLine, s.nearAt line = some l → ∃ u : State, exec (.snpInv p) s = .next u.settle ∧
        u.home.near = s.home.near.filter (fun x => x.line != line) ∧ u.conf = s.conf ∧ u.tide = s.tide ∧ u.accesses = s.accesses) ∧
     (oldest 0x11 none → ∀ l : NearLine, s.nearAt line = some l → ∃ u : State, exec (.snpShr p) s = .next u.settle ∧
        u.home.near = s.home.near.filter (fun x => x.line != line) ∧ u.conf = s.conf ∧ u.tide = s.tide ∧ u.accesses = s.accesses)))

/-- COMP, RDDATA, ATOMIC_OLD, OWN_DATA, SNP_RSP and SNP_DATA (11 R277, R281; 14 R341, R350).
Clauses the spec leaves open follow the model's own readings: logs 44, 47, 105. -/
def Obligations.PeerAnswersReachTheirRequests : Prop :=
  ∀ (s : State) (p : Fin 4) (k : Packet), s.holdsPackets p = false →
    let s1 : State := s.unbox p k
    let freed : State := { s1 with tracker := s1.tracker.filter (fun e => e.tag != k.tag) }
    let oldest (op : Nat) : Prop := (s.peer p).inbox.find? (fun x => x.opcode.toNat == op) = some k
    (∀ (e : Tracker) (a : Access), s.tracked k.tag = some e → s.acc e.access = some a →
      (oldest 0x18 → e.opcode.toNat ≠ 0x01 → e.opcode.toNat ≠ 0x03 → exec (.comp p) s =
        .next (State.settle ((freed.modAcc e.access (fun x => { x with got := [(0, statusOf k.status.toNat, [], false)] })).fail
          e.access (statusOf k.status.toNat)))) ∧
      (oldest 0x20 → k.poison = 0 → exec (.rddata p) s = .next (State.settle (freed.finish e.access
        { status := .ok, data := padTo k.payload a.len,
          poison := ((bitList 4 0).drop (a.pa.toNat % 256 / 64)).take (lineCount a.pa.toNat a.len) }))) ∧
      (oldest 0x21 → (∀ x, x ∈ s.tracker → x.tag = k.tag → x = e) → (∃ n, e.comp = some (.ok, n)) → exec (.atomicOld p) s =
        .next (State.settle (freed.finish e.access
          { status := .ok, data := padTo k.payload 8 ++ [BitVec.ofNat 8 (byteAt k.payload 8)] ++ [0], poison := [] }))) ∧
      (oldest 0x23 → statusOf k.status.toNat = .ok → k.poison = 0 → a.held = none → ∀ op : AtomicOp, a.op = some op →
        s.nearAt (paLine a.pa) = none → ∃ u : State, exec (.ownData p) s = .next u.settle ∧
        let line : Bytes := padTo k.payload 64
        let off : Nat := a.pa.toNat % 64
        let old : Nat := fld line off op.size
        u.home.near = s.home.near ++ [{ line := paLine a.pa, data := overlay line off (leBytes op.size (atomicNew op old).1),
                                        bad := false, evicting := false, count := 1 }] ∧
        u.home.apNear = sat32 s.home.apNear ∧ u.tracker = freed.tracker ∧ u.accesses = s.accesses.filter (fun x => x.id != e.access) ∧
        u.ended = s.ended ++ [({ a with near := some false },
          { status := .ok, data := leBytes 8 old ++ [BitVec.ofNat 8 (b2n (atomicNew op old).2), 0], poison := [] })] ∧
        u.conf = s.conf ∧ u.tide = s.tide) ∧
      (oldest 0x23 → statusOf k.status.toNat ≠ .ok → statusOf k.status.toNat ≠ .permission → exec (.ownData p) s =
        .next (State.settle (freed.fail e.access (statusOf k.status.toNat))))) ∧
    (∀ (e : Tracker) (t : HomeTxn) (i : Nat), s.tracked k.tag = some e → s.txn e.access = some t → s.cacheOfInst e.dst.toNat = some i →
      t.snoops.any (fun x => x.1 == i) = true →
      (s.linkFault .slA ≠ none → (oldest 0x19 → exec (.snpRsp p) s = .next freed.settle) ∧
        (oldest 0x22 → exec (.snpData p) s = .next freed.settle)) ∧
      (s.linkFault .slA = none →
      (oldest 0x19 → exec (.snpRsp p) s = .next (State.settle
        (State.countStale (freed.snoopAnswered t (t.victim.getD t.line).toNat i false)))) ∧
      (oldest 0x22 → k.poison = 0 → s.sealHit (t.victim.getD t.line).toNat 64 = true → exec (.snpData p) s = .next (State.settle
        (freed.snoopAnswered t (t.victim.getD t.line).toNat i false))) ∧
      (oldest 0x22 → s.sealHit (t.victim.getD t.line).toNat 64 = false → ∃ (u : State) (a : Access), exec (.snpData p) s = .next u.settle ∧
        u.accesses = s.accesses ++ [a] ∧ a.kind = .write ∧ a.purpose = .home t.id ∧ a.data = padTo k.payload 64 ∧
        a.pa = s.localPa (t.victim.getD t.line).toNat ∧ a.poison = [k.poison != 0] ∧ u.tracker = freed.tracker ∧ u.conf = s.conf ∧
        (k.poison ≠ 0 → u.hold.poisonIn = sat32 s.hold.poisonIn)))) ∧
    (s.tracked k.tag = none →
      let late (c : Instr) : Prop := ∃ u : State, exec c s = .next u.settle ∧ (u.peer p).late = sat32 (s.peer p).late ∧
        (u.peer p).inbox = (s.peer p).inbox.erase k ∧ (∀ j, j ≠ p.val → u.peer j = s.peer j) ∧ u.tracker = s.tracker ∧
        u.accesses = s.accesses ∧ u.ended = s.ended ∧ u.conf = s.conf
      (oldest 0x18 → late (.comp p)) ∧ (oldest 0x20 → late (.rddata p)) ∧ (oldest 0x21 → late (.atomicOld p)) ∧
      (oldest 0x23 → late (.ownData p)))

/-- PEER_LINK_UP, PEER_LINK_DOWN (02 R36, R38), PEER_FLIT_RECEIVE, PEER_NAK, PEER_ACK_TIMEOUT, PEER_PAD_ACK (11 R279, R280).
Clauses the spec leaves open follow the model's own readings: logs 45, 46, 79, 102. -/
def Obligations.PeerLinkEventsAndReplay : Prop :=
  ∀ (s : State) (p : Fin 4),
    ((s.peer p).linkUp = false → s.portsOpen = true → (s.peer p).readyOut = false → s.charted = true →
      s.theChart.ports.peerEnable.getLsbD p = true → s.fenced.peer.getLsbD p = false → (s.clock .sh).dead.getLsbD (2 + p.val) = false →
      ∃ t : State, exec (.peerLinkUp p) s = .next t ∧ (t.peer p).linkUp = true ∧ (t.peer p).readyOut = true ∧ (t.peer p).state = .keying ∧
      (t.peer p).txKey = none ∧ (t.peer p).rxKey = none ∧ (t.peer p).rxNext = 0 ∧ .peerGrant p [512, 128, 256, 4096] ∈ t.out ∧
      (∀ j, j ≠ p.val → t.peer j = s.peer j) ∧ t.conf = s.conf) ∧
    ((s.peer p).linkUp = false → s.portsOpen = false → ∃ t : State,
      exec (.peerLinkUp p) s = .next t ∧ t.peer p = { s.peer p with linkUp := true } ∧ (∀ j, j ≠ p.val → t.peer j = s.peer j) ∧
      t = { s with peers := t.peers }) ∧
    (s.home.filter = [] → (s.peer p).waiting = [] →
      ((s.peer p).linkUp = true → ∃ u : State, exec (.peerLinkDown p) s = .next u.settle ∧
        u.peer p = { s.peer p with
          linkUp := false, readyOut := false, txKey := none, rxKey := none, keyx := {}, replayBuf := [], slots := [], owed := none,
          state := if (s.peer p).state = .failed then .failed else if (s.peer p).state = .clockLost then .clockLost else .down } ∧
        (∀ j, j ≠ p.val → u.peer j = s.peer j) ∧ ((s.peer p).state = .up → u.irq.status.getLsbD 6 = true) ∧
        u.tracker = s.tracker ∧ u.accesses = s.accesses ∧ u.conf = s.conf) ∧
      (∀ (f body h : Bytes) (k : Packet), (s.peer p).linkUp = true → (s.peer p).readyOut = true → f.length = 256 →
        fld f 224 8 = (s.peer p).rxNext → openFlit (s.peer p) f = some body → (s.peer p).replayBuf = [] → bit (fld f 232 8) 63 = false →
        (s.peer p).slots = [] → (s.peer p).rxKey ≠ none → slotsOf 7 body = h :: List.replicate 6 (zeros 32) → allZero h = false →
        slotCount (headOf h) = 1 → packetOf [h] = k → crc32c (h.take 28) = fld h 28 4 → headOk h k = true → k.dst.toNat = s.ownId →
        s.inSeed = false → s.warmStart = false → s.warmReset = false → 1 ≤ (s.peer p).room.getD 0 0 → k.cls = .req → k.opcode ≠ 0x08 → k.opcode ≠ 0x09 → ∃ u : State,
        exec (.peerFlitReceive p f 0) s = .next u.settle ∧ (u.peer p).rxNext = (s.peer p).rxNext + 1 ∧ (u.peer p).rxDiscard = false ∧
        (u.peer p).inbox = (s.peer p).inbox ++ [k] ∧ (∀ j, j ≠ p.val → u.peer j = s.peer j) ∧ u.out = s.out ∧ u.conf = s.conf) ∧
      (∀ f : Bytes, (s.peer p).linkUp = true → (s.peer p).readyOut = true → f.length = 256 → fld f 224 8 ≠ (s.peer p).rxNext →
        ∃ u : State, exec (.peerFlitReceive p f 0) s = .next u.settle ∧ (u.peer p).rxNext = (s.peer p).rxNext ∧
        (u.peer p).inbox = (s.peer p).inbox ∧ (u.peer p).rxDiscard = true ∧
        ((s.peer p).rxDiscard = false → 512 ≤ (s.peer p).replayBuf.length → (u.peer p).owed = some true) ∧
        (u.peer p).txSeq = (if (s.peer p).rxDiscard = true ∨ 512 ≤ (s.peer p).replayBuf.length then (s.peer p).txSeq else (s.peer p).txSeq + 1) ∧
        (∀ j, j ≠ p.val → u.peer j = s.peer j) ∧ u.accesses = s.accesses ∧ u.conf = s.conf) ∧
      ((s.peer p).readyOut = false → exec (.peerAckTimeout p) s = .next s.settle) ∧
      ((s.peer p).readyOut = true → ∀ (q : Nat) (b : Bytes) (rest : List (Nat × Bytes)), (s.peer p).replayBuf = (q, b) :: rest →
        ((s.peer p).badReplay = 0 ∨ (s.peer p).lastReplayAck ≠ q ∨ (s.peer p).badReplay < 8) → ∃ u : State,
        exec (.peerAckTimeout p) s = .next u.settle ∧ u.out = (((q, b) :: rest).map (fun e => Out.peerFlit p e.2)).reverse ++ s.out ∧
        (u.peer p).replayBuf = (s.peer p).replayBuf ∧ (u.peer p).badReplay =
          (if (s.peer p).badReplay ≠ 0 ∧ (s.peer p).lastReplayAck = q then (s.peer p).badReplay + 1 else 1) ∧
        (∀ j, j ≠ p.val → u.peer j = s.peer j) ∧ u.conf = s.conf) ∧
      ((s.peer p).readyOut = true → ∀ (last : BitVec 63) (q : Nat) (b : Bytes) (rest : List (Nat × Bytes)), (s.peer p).replayBuf = (q, b) :: rest →
        (∀ e, e ∈ (s.peer p).replayBuf → 2 ^ 62 ≤ (last.toNat + 2 ^ 63 - e.1) % 2 ^ 63) →
        ((s.peer p).badReplay = 0 ∨ (s.peer p).lastReplayAck ≠ q ∨ (s.peer p).badReplay < 8) → ∃ u : State,
        exec (.peerNak p last) s = .next u.settle ∧ u.out = (((q, b) :: rest).map (fun e => Out.peerFlit p e.2)).reverse ++ s.out ∧
        (u.peer p).replayBuf = (s.peer p).replayBuf ∧ (∀ j, j ≠ p.val → u.peer j = s.peer j) ∧ u.conf = s.conf) ∧
      ((s.peer p).readyOut = true → ∀ (q : Nat) (b : Bytes) (rest : List (Nat × Bytes)), (s.peer p).replayBuf = (q, b) :: rest → (s.peer p).lastReplayAck = q →
        8 ≤ (s.peer p).badReplay → ∃ u : State, exec (.peerAckTimeout p) s = .next u.settle ∧ (u.peer p).state = .failed ∧
        (u.peer p).readyOut = false ∧ u.irq.status.getLsbD 6 = true ∧ (s.ctrlLost .sh = false → u.ras.nextSeq = s.ras.nextSeq + 1) ∧
        (∀ j, j ≠ p.val → u.peer j = s.peer j) ∧ u.conf = s.conf)) ∧
    ((s.peer p).readyOut = false → exec (.peerPadAck p) s = .next s) ∧
    ((s.peer p).readyOut = true → 512 ≤ (s.peer p).replayBuf.length → ∃ t : State, exec (.peerPadAck p) s = .next t ∧
      t.peer p = { s.peer p with owed := some ((s.peer p).owed == some true) } ∧ (∀ j, j ≠ p.val → t.peer j = s.peer j) ∧
      t = { s with peers := t.peers }) ∧
    ((s.peer p).readyOut = true → (s.peer p).replayBuf.length < 512 → ∃ (t : State) (f : Bytes), exec (.peerPadAck p) s = .next t ∧ t.out = .peerFlit p f :: s.out ∧
      t.peer p = { s.peer p with txSeq := (s.peer p).txSeq + 1, replayBuf := (s.peer p).replayBuf ++ [((s.peer p).txSeq, f)] } ∧
      ((s.peer p).txKey = none → f = zeros 224 ++ leBytes 8 (s.peer p).txSeq ++ leBytes 8 (s.peer p).ackNow ++ zeros 16) ∧
      (∀ j, j ≠ p.val → t.peer j = s.peer j) ∧ t = { s with peers := t.peers, out := t.out })

/-- PEER_REQUEST_SEND (11 R273-R277), PEER_REQUEST_TIMEOUT, PEER_TAG_RELEASE (11 R283).
Clauses the spec leaves open follow the model's own readings: log 68. -/
def Obligations.PeerRequestsAreTracked : Prop :=
  ∀ s : State,
    (∀ (id : Nat) (a : Access), s.acc id = some a → a.stage = .peerReady → s.warmReset = false → (a.kind = .atomic → a.near ≠ none) →
      (∀ st : Status, s.portFor (s.requestOf a) = .inl st → exec (.peerRequestSend id) s = .next (State.settle
        (State.fail { s with unreach := if st = .remoteUnreachable then sat32 s.unreach else s.unreach } id st))) ∧
      (∀ q : Nat, s.portFor (s.requestOf a) = .inr q → (s.trackRoom = false ∨ s.reserveRoom a = false) →
        exec (.peerRequestSend id) s = .next s.settle) ∧
      (∀ q : Nat, s.portFor (s.requestOf a) = .inr q → s.trackRoom = true → s.reserveRoom a = true → (∃ tag : BitVec 16, tag ∉ s.usedTags) → ∃ (u : State) (e : Tracker),
        exec (.peerRequestSend id) s = .next u.settle ∧ u.tracker = s.tracker ++ [e] ∧ e.access = id ∧ e.port = q ∧
        e.opcode = (s.requestOf a).opcode ∧ e.dst = (s.requestOf a).dst ∧ e.ended = false ∧ e.tag ∉ s.usedTags ∧
        u.acc id = some {
          a with stage := .peer e.tag, tried := a.near.elim a.tried (fun n => a.tried ++ [n]),
                 held := if a.kind = .write ∨ a.reserved = true then a.held else some (quotaOf a.part) } ∧
        u.ended = s.ended ∧ u.conf = s.conf ∧ u.tide = s.tide)) ∧
    (∀ (tag : BitVec 16) (e : Tracker), s.tracked tag = some e → e.opcode ≠ 0x10 → e.opcode ≠ 0x11 → ∃ u : State,
      exec (.peerRequestTimeout tag) s = .next u.settle ∧ u.unreach = sat32 s.unreach ∧
      u.tracker = s.tracker.map (fun x => if x.tag = tag then { x with ended := true } else x) ∧
      u.accesses = s.accesses.filter (fun x => x.id != e.access) ∧
      (∀ a, s.acc e.access = some a → u.ended = s.ended ++ [(a, { status := .remoteUnreachable, data := [], poison := [] })]) ∧
      u.conf = s.conf ∧ u.tide = s.tide ∧ u.home = s.home) ∧
    (∀ tag : BitVec 16, exec (.peerTagRelease tag) s = .next (State.settle { s with
      tracker := s.tracker.filter (fun e => !(e.tag == tag && e.ended)) }))

/-- MGMT packets at this instance and their acknowledgement (11 R285-R287).
Clauses the spec leaves open follow the model's own readings: logs 49, 60, 61, 111. -/
def Obligations.ManagementPacketsAreServed : Prop :=
  ∀ (s : State) (p : Fin 4) (k : Packet),
    let s1 : State := s.unbox p k
    let oldest (sub : Nat) : Prop := s.mgmtServes = true ∧ s.holdsPackets p = false ∧ (s.peer p).inbox.find? (fun x => x.opcode == 0x08 && x.subop.toNat == sub) = some k
    let ok (t : State) : State := t.mgmtAnswer p k .ok
    let own : Prop := (mgmtTarget k).toNat = s.ownId
    let off : Nat := k.addr.toNat % 65536 * 256
    (k.opcode ≠ 0x09 → ∀ (t : State) (st : Status) (b : Bytes) (q : Nat), t.portFor (t.answer .rsp 0x1B k.src k.tag st 0 b 0) = .inr q →
      t.mgmtAnswer p k st b = t.queueOn q (t.answer .rsp 0x1B k.src k.tag st 0 b 0)) ∧
    (k.opcode ≠ 0x09 → ∀ (t : State) (st x : Status) (b : Bytes), t.portFor (t.answer .rsp 0x1B k.src k.tag st 0 b 0) = .inl x →
      t.mgmtAnswer p k st b = t) ∧
    (k.opcode = 0x09 → ∀ (t : State) (st : Status) (b : Bytes),
      t.mgmtAnswer p k st b = t.queueOn p (t.answer .rsp 0x1B k.src k.tag st 0 b 0)) ∧
    (oldest 1 → own → s.chartMayBegin = true → exec (.mgmtChartBegin p) s = .next (ok { s1 with chart := { s1.chart with
      state := .loading, code := 0, section_ := 0, offset := 0, source := 2, staged := [], stagedBad := [],
      overLong := false } })) ∧
    (oldest 2 → own → s.chart.state = .loading → s.chart.source = 2 → off + k.payload.length ≤ 65536 → exec (.mgmtChartData p) s =
      .next (ok { s1 with chart := { s1.chart with staged := putAt s1.chart.staged off k.payload } })) ∧
    (oldest 3 → own → s.chart.state = .loading → s.chart.source = 2 → exec (.mgmtChartCommit p) s =
      .next (State.settle (ok { s1 with chart := { s1.chart with state := .checking } }))) ∧
    (oldest 4 → own → s.stageOf false (mgmtTarget k) = none → exec (.mgmtImageData p) s = .next (ok (State.setStage
      { s1 with relay := { s1.relay with moved := s1.relay.moved.filter (fun m => m != (false, mgmtTarget k)) } }
      { isChart := false, target := mgmtTarget k, bytes := putAt [] (k.addr.toNat % 2 ^ 24 * 256) k.payload, place := 0 }))) ∧
    (oldest 5 → k.payload.length ≠ 16 → exec (.mgmtImageLoad p) s =
      .next (State.settle (s1.mgmtAnswer p k .malformed))) ∧
    (oldest 5 → own → k.payload.length = 16 → fld k.payload 0 8 % 64 = 0 → fld k.payload 0 8 < 2 ^ 48 → byteAt k.payload 8 < 128 →
      s.startAt 11 = true → s.fw.busy = false → ∀ x : RelayStage, s.stageOf false (mgmtTarget k) = some x → ∃ u : State,
      exec (.mgmtImageLoad p) s = .next u.settle ∧ u.relay.stages = s.relay.stages.erase x ∧
      u.fw.addr.toNat = fld k.payload 0 8 ∧ u.conf = s.conf ∧ u.tide = s.tide) ∧
    (oldest 6 → k.payload = [] → ¬ own → exec (.mgmtStatus p) s = .next (State.settle (s1.mgmtAnswer p k .permission))) ∧
    (oldest 6 → k.payload = [] → own → exec (.mgmtStatus p) s =
      .next (State.settle (s1.mgmtAnswer p k .ok (s1.statusBytes 0)))) ∧
    (s.holdsPackets p = false → (s.peer p).inbox.find? (fun x => x.opcode == 0x1B) = some k →
      ((s.peer p).keyx.awaitTag = some k.tag → statusOf k.status.toNat = .ok → (s.peer p).keyx.running = true →
        (s.peer p).keyx.sent + 1 < 3 → ∃ (u : State) (tag : BitVec 16), exec (.mgmtAck p) s = .next u.settle ∧
        (u.peer p).keyx = { (s.peer p).keyx with sent := (s.peer p).keyx.sent + 1, awaitTag := some tag, tries := 0 } ∧
        (∀ j, j ≠ p.val → u.peer j = s.peer j) ∧ u.relay = s.relay ∧ u.conf = s.conf) ∧
      ((s.peer p).keyx.awaitTag = some k.tag → statusOf k.status.toNat ≠ .ok → ∃ u : State, exec (.mgmtAck p) s = .next u.settle ∧
        (u.peer p).keyx = { (s.peer p).keyx with running := false, awaitTag := none } ∧
        (∀ j, j ≠ p.val → u.peer j = s.peer j) ∧ u.relay = s.relay ∧ u.conf = s.conf) ∧
      ((s.peer p).keyx.awaitTag ≠ some k.tag → ∀ w : MgmtWait, s.relay.waits.find? (fun x => x.tag == k.tag) = some w →
        w.pkt.subop = 6 → w.pkt.payload ≠ [] → exec (.mgmtAck p) s = .next (State.settle
          { s1 with relay := { s1.relay with waits := s1.relay.waits.filter (fun x => x.tag != k.tag) } }))) ∧
    (∀ (tag : BitVec 16) (w : MgmtWait), s.relay.waits.find? (fun x => x.tag == tag) = some w → w.tries < 3 →
      exec (.mgmtRetry tag) s = .next (State.settle (State.sendPacket { s with relay := { s.relay with
        waits := s.relay.waits.map (fun x => if x.tag = tag then { x with tries := x.tries + 1 } else x) } } w.pkt)))

/-- SHARE, IDENTITY, ISSUER, PROOF, KEYX_RETRY and KEYX_TIMEOUT (15 R363, R364).
Clauses the spec leaves open follow the model's own readings: logs 22, 48. -/
def Obligations.KeyExchangeStepsAreTaken : Prop :=
  ∀ (s : State) (p : Fin 4),
    (∀ (k : Packet),
      let s1 : State := s.unbox p k
      let oldest (step : Nat) : Prop := s.holdsPackets p = false ∧ (s.peer p).inbox.find? (fun x => x.opcode == 0x09 && x.subop.toNat == step) = some k
      let bad : State := s1.queueOn p (s.answer .rsp 0x1B k.src k.tag .malformed 0 [] 0)
      (oldest 1 → k.payload.length ≠ 136 → exec (.share p) s = .next bad) ∧
      (oldest 2 → k.payload.length ≠ 192 → exec (.identity p) s = .next bad) ∧
      (oldest 3 → k.payload.length ≠ 96 → exec (.issuer p) s = .next bad) ∧
      (oldest 4 → k.payload.length ≠ 96 → exec (.proof p) s = .next bad) ∧
      (oldest 4 → k.payload.length = 96 → (s.peer p).keyx.running = true → 4 ≤ (s.peer p).keyx.sent →
        ecdsaVerify (((s.peer p).keyx.ident.getD []).take 96) (s.keyxT p) k.payload = true →
        (s.farEndorsed p = true ∨ s.fuses.policy.getLsbD 0 = true) →
        ecdh (s.peer p).keyx.secret (((s.peer p).keyx.share.getD []).take 96) ≠ none → ∃ t : State, exec (.proof p) s = .next t ∧
        (t.peer p).state = .up ∧ (t.peer p).txKey ≠ none ∧ (t.peer p).rxKey ≠ none ∧ (t.peer p).auth = s.farEndorsed p ∧
        (t.peer p).keyx = {} ∧ (∀ j, j ≠ p.val → t.peer j = s.peer j) ∧ t.conf = s.conf) ∧
      ((s.peer p).keyx.running = true → (s.peer p).keyx.awaitTag ≠ none →
        let did (c : Instr) (far : BitVec 12) (x : Keyx) : Prop := ∃ t : State, exec c s = .next t ∧ (t.peer p).keyx = x ∧
          (t.peer p).far = far ∧ (∀ j, j ≠ p.val → t.peer j = s.peer j) ∧ t.conf = s.conf ∧ t.accesses = s.accesses
        let x := (s.peer p).keyx
        let far := (s.peer p).far
        let done_ : Keyx := { x with running := false, awaitTag := none }
        (oldest 1 → k.payload.length = 136 → x.share = none →
          did (.share p) (BitVec.ofNat 12 (fld k.payload 128 2)) { x with share := some k.payload }) ∧
        (oldest 2 → k.payload.length = 192 → x.ident = none → did (.identity p) far { x with ident := some k.payload }) ∧
        (oldest 2 → k.payload.length = 192 → x.ident ≠ none → did (.identity p) far done_) ∧
        (oldest 3 → k.payload.length = 96 → x.issuer = none → did (.issuer p) far { x with issuer := some k.payload }) ∧
        (oldest 3 → k.payload.length = 96 → x.issuer ≠ none → did (.issuer p) far done_) ∧
        (oldest 4 → k.payload.length = 96 → ecdsaVerify ((x.ident.getD []).take 96) (s.keyxT p) k.payload = false →
          did (.proof p) far done_) ∧
        (oldest 4 → k.payload.length = 96 → ecdsaVerify ((x.ident.getD []).take 96) (s.keyxT p) k.payload = true → x.sent < 4 →
          did (.proof p) far { x with proofOk := true }))) ∧
    (∀ tag : BitVec 16, (s.peer p).keyx.awaitTag = some tag →
      ((s.peer p).keyx.tries < 3 → ∃ t : State, exec (.keyxRetry p) s = .next t ∧
        (t.peer p).keyx = { (s.peer p).keyx with tries := (s.peer p).keyx.tries + 1 } ∧ (∀ j, j ≠ p.val → t.peer j = s.peer j) ∧
        t.conf = s.conf) ∧
      (3 ≤ (s.peer p).keyx.tries → ∃ t : State, exec (.keyxRetry p) s = .next t ∧
        (t.peer p).keyx = { (s.peer p).keyx with running := false, awaitTag := none } ∧ (∀ j, j ≠ p.val → t.peer j = s.peer j) ∧
        t.out = s.out ∧ t.conf = s.conf)) ∧
    (s.charted = true → s.theChart.ports.peerEnable.getLsbD p = true → s.fenced.peer.getLsbD p = false → (s.peer p).state = .keying →
      (s.peer p).waiting = [] → s.ctrlLost .sh = false → ∃ t : State, exec (.keyxTimeout p) s = .next t ∧ (t.peer p).state = .failed ∧
      (t.peer p).readyOut = false ∧ (t.peer p).keyx = {} ∧ (∀ j, j ≠ p.val → t.peer j = s.peer j) ∧ t.irq.status.getLsbD 6 = true ∧
      t.ras.nextSeq = s.ras.nextSeq + 1 ∧ t.conf = s.conf)

/-- The checks on taking an engine request, in order (02 R40, R41); ENGINE_UNKNOWN_OP.
Clauses the spec leaves open follow the model's own readings: logs 88, 103. -/
def Obligations.EngineRequestsAreCheckedInOrder : Prop :=
  ∀ (s : State) (e : Fin 8) (rq : EngineReq), s.engineReady = true → s.engReq e rq.tag = none →
    (∀ op : BitVec 4, op.toNat = 0 ∨ 8 < op.toNat → exec (.engineUnknownOp e op rq) s = .next (State.settle
      { s with out := .engineRsp e rq.tag (if s.portOn e then .malformed else .aborted) 0 0 :: s.out })) ∧
    (∀ (c : Instr) (op : EngineOp), (c, op) ∈ [(Instr.translate e rq, EngineOp.translate), (.read e rq, .read), (.write e rq, .write),
        (.atomic e rq, .atomic), (.engineDoorbell e rq, .doorbell), (.tideWait e rq, .tideWait), (.engineAlloc e rq, .alloc),
        (.engineFree e rq, .free)] →
      (∀ b, b ∈ s.beats → b.port ≠ e.val ∨ b.tag ≠ rq.tag) →
      let alloc_ : Bool := op == .alloc || op == .free
      let ends (st : Status) : Prop := ∃ u : State, exec c s = .next u.settle ∧ u.out = .engineRsp e rq.tag st 0 0 :: s.out ∧
        u.engReqs = s.engReqs ∧ u.accesses = s.accesses ∧ u.tide = s.tide ∧ u.queues = s.queues ∧ u.alloc = s.alloc ∧ u.conf = s.conf ∧
        u.owedBeats = (if beatsNeeded op rq.len.toNat = 0 then s.owedBeats else s.owedBeats ++ [(e.val, rq.tag, beatsNeeded op rq.len.toNat)])
      let form : Prop := rq.len = 0 ∨ 256 < rq.len.toNat ∨ 4 < rq.scope.toNat ∨ (alloc_ = true ∧ s.feature 8 = false)
      (s.portOn e = false → ends .aborted) ∧
      (s.portOn e = true → form → ends .malformed) ∧
      (s.portOn e = true → ¬ form → s.streamUse rq.stream.toNat = false → ends .permission) ∧
      (s.portOn e = true → ¬ form → s.streamUse rq.stream.toNat = true → s.partOn (s.streamPart rq.stream.toNat) = false → ends .aborted) ∧
      (s.portOn e = true → ¬ form → s.streamUse rq.stream.toNat = true → s.partOn (s.streamPart rq.stream.toNat) = true → alloc_ = true →
        (rq.va ≠ 0 ∨ rq.len.toNat ≠ if op = .alloc then 16 else 8) → ends .malformed))

/-- TRANSLATE, READ, WRITE, ATOMIC, ENGINE_DOORBELL, TIDE_WAIT, ENGINE_ALLOC and ENGINE_FREE performed (02 R40, R41), and what a free
does once its record has been read (06 R151).
Clauses the spec leaves open follow the model's own readings: logs 68, 88, 103. -/
def Obligations.EngineRequestsArePerformed : Prop :=
  ∀ (s : State) (e : Fin 8) (rq : EngineReq), s.engineReady = true → s.engReqs = [] → s.portOn e = true → rq.len ≠ 0 →
    rq.len.toNat ≤ 256 → rq.scope.toNat ≤ 4 → s.streamUse rq.stream.toNat = true → s.partOn (s.streamPart rq.stream.toNat) = true →
    s.modeHeld (.enginePort e) = false → (∀ l : Link, s.linkFault l = none) →
    let part := s.streamPart rq.stream.toNat
    let r (op : EngineOp) : EngReq :=
      { port := e, op := op, rq := rq, part := part, order := s.nextOrder, beats := [], enables := [], nBeats := 0,
        started := false, parts := [], waiting := false }
    let ag : Agent := .engine e rq.stream.toNat
    let hold : Nat := 256 * ((rq.va.toNat % 256 + rq.len.toNat + 255) / 256)
    let with_ (q : EngReq) : State := { s with engReqs := [q], nextOrder := s.nextOrder + 1, beats := [] }
    (s.beats = [] → exec (.translate e rq) s = .next (State.settle (State.launchVa (with_ { r .translate with started := true })
      (mkAccess ag (.xlate e rq.tag.toNat) .read (some part) 0 1) (rq.va.setWidth 64)))) ∧
    (s.beats = [] → s.holdFree part hold = true →
      let piece (o n : Nat) : Access :=
        { mkAccess ag (.engine e rq.tag.toNat o) .read (some part) 0 n with sem := rq.sem, scope := rq.scope }
      let n := 2 ^ 21 - rq.va.toNat % 2 ^ 21
      (rq.len.toNat ≤ n → exec (.read e rq) s = .next (State.settle
        (State.launchVa (State.holdTake (with_ { r .read with started := true, parts := [(0, none)] }) part hold)
          (piece 0 rq.len.toNat) (rq.va.setWidth 64)))) ∧
      (n < rq.len.toNat → exec (.read e rq) s = .next (State.settle (State.launchVa
        (State.launchVa (State.holdTake (with_ { r .read with started := true, parts := [(0, none), (n, none)] }) part hold)
          (piece 0 n) (rq.va.setWidth 64)) (piece n (rq.len.toNat - n)) (BitVec.ofNat 64 (rq.va.toNat + n)))))) ∧
    (s.beats = [] → s.holdFree part hold = false → exec (.read e rq) s = .next (State.settle (with_ (r .read)))) ∧
    (∀ b : EarlyBeat, s.beats = [b] → b.port = e.val → b.tag = rq.tag →
      let data := padTo b.data 128
      (rq.va.toNat % 2 ^ 21 + rq.len.toNat ≤ 2 ^ 21 → rq.len.toNat ≤ 128 → s.holdFree part hold = true → exec (.write e rq) s = .next (State.settle
        (State.launchVa (State.holdTake (with_ { (r .write).addBeat b with started := true, parts := [(0, none)] }) part hold)
          { mkAccess ag (.engine e rq.tag.toNat 0) .write (some part) 0 rq.len.toNat with
            data := cut data 0 rq.len.toNat, be := (bitList 128 b.be.toNat).take rq.len.toNat, sem := rq.sem, scope := rq.scope }
          (rq.va.setWidth 64)))) ∧
      (atomicBeatOk ((r .atomic).addBeat b) = true → s.holdFree part 256 = true → exec (.atomic e rq) s = .next (State.settle
        (State.launchVa (State.holdTake (with_ { (r .atomic).addBeat b with started := true, parts := [(0, none)] }) part 256)
          { mkAccess ag (.engine e rq.tag.toNat 0) .atomic (some part) 0 rq.len.toNat with
            op := some { subop := BitVec.ofNat 8 (byteAt data 16), size := byteAt data 17,
                         operand := BitVec.ofNat 64 (fld data 0 8), swap := BitVec.ofNat 64 (fld data 8 8) },
            sem := rq.sem, scope := rq.scope }
          (rq.va.setWidth 64)))) ∧
      (∀ q : Nat, q < 4096 → rq.va.toNat = 4096 * q → s.doorbellCheck q (BitVec.ofNat 64 (fld data 0 8))
          (doorbellOk q (BitVec.ofNat 64 (fld data 0 8))) (some part) = 0 → ∃ u : State, exec (.engineDoorbell e rq) s = .next u.settle ∧
        u.queue q = { s.queue q with prod := BitVec.ofNat 32 (fld data 0 4) } ∧ (∀ j, j ≠ q → u.queue j = s.queue j) ∧
        u.out = .engineRsp e rq.tag .ok 0 0 :: s.out ∧ u.engReqs = [] ∧ u.beats = [] ∧ u.conf = s.conf ∧ u.tide = s.tide) ∧
      (s.tideInRange (fld data 0 2) (some part) = true →
        ((s.tideVal (fld data 0 2) - BitVec.ofNat 64 (fld data 8 8)).toNat < 2 ^ 63 → ∃ u : State, exec (.tideWait e rq) s = .next u.settle ∧
          u.out = .engineRsp e rq.tag .ok 0 0 :: s.out ∧ u.engReqs = [] ∧ u.tide = s.tide ∧ u.conf = s.conf) ∧
        (2 ^ 63 ≤ (s.tideVal (fld data 0 2) - BitVec.ofNat 64 (fld data 8 8)).toNat →
          exec (.tideWait e rq) s = .next (State.settle (with_ { (r .tideWait).addBeat b with started := true, waiting := true })))) ∧
      (s.feature 8 = true → rq.va = 0 → rq.len = 16 → allocBeatOk ((r .alloc).addBeat b) = true → exec (.engineAlloc e rq) s =
        .next (State.settle (State.allocNew (with_ { (r .alloc).addBeat b with started := true }) (.engine e rq.tag) part (fld data 0 8)
          (BitVec.ofNat 8 (byteAt data 8))))) ∧
      (s.feature 8 = true → rq.va = 0 → rq.len = 8 → allocBeatOk ((r .free).addBeat b) = true → exec (.engineFree e rq) s =
        .next (State.settle (State.launchVa (with_ { (r .free).addBeat b with started := true })
          (mkAccess ag (.freeRecord (.engine e rq.tag) 1) .read (some part) 0 (min 64 (512 - fld data 0 8 % 512))) (BitVec.ofNat 64 (fld data 0 8)))))) ∧
    (∀ (t : State) (a : Access) (res : AccResult) (who : AllocAsker) (n : Nat), a.purpose = .freeRecord who n → res.status ≠ .sealed →
      let refused (st : Status) : State := match who with
        | .channel c => t.endEarly c st
        | .engine p tag => t.engEnd p tag st 0 0
        | _ => t
      let d := a.data ++ res.data
      (res.status ≠ .ok → t.tell a res = refused res.status) ∧
      (res.status = .ok → res.bad = true → t.tell a res = refused .checkFail) ∧
      (res.status = .ok → res.bad = false → ∀ v : BitVec 64, a.va = some v →
        (d.length < 64 → t.tell a res = t.launchVa
          { mkAccess a.agent a.purpose .read a.part (a.pa + BitVec.ofNat 60 d.length) (64 - d.length) with data := d, mc := a.mc }
          (v + BitVec.ofNat 64 d.length)) ∧
        (64 ≤ d.length → ∀ x, t.freeNew who (if a.mc then none else a.part) d (v - BitVec.ofNat 64 a.data.length) n = x →
          t.tell a res = match x with
            | .inl st => refused st
            | .inr u => u)))

/-- ENGINE_WRITE_BEAT (02 R39), MEMORY_READ_RETURN, MEMORY_WRITE_ACK, MEMORY_PORT_TIMEOUT (02 R44), ENGINE_PORT_ENABLE, ENGINE_PORT_DISABLE (06 R143),
TOKEN_BUCKET_REFILL (16 R404).
Clauses the spec leaves open follow the model's own readings: logs 17, 88, 90. -/
def Obligations.BeatsMemoryAnswersAndPortControl : Prop :=
  ∀ s : State,
    (s.engineReady = true → ∀ (e : Fin 8) (tag : Byte) (data : Bytes) (beHi beLo : BitVec 64),
      (s.owedBeats = [] → s.engReq e tag = none → exec (.engineWriteBeat e tag data beHi beLo) s = .next (State.settle
        { s with beats := s.beats ++ [{ port := e, tag := tag, data := data, be := beHi ++ beLo }] })) ∧
      (∀ (n : Nat) (rest : List (Nat × BitVec 8 × Nat)), s.owedBeats = (e.val, tag, n) :: rest →
        exec (.engineWriteBeat e tag data beHi beLo) s = .next (State.settle
          { s with owedBeats := if n ≤ 1 then rest else (e.val, tag, n - 1) :: rest }))) ∧
    (∀ (m : Fin 4) (tag : BitVec 10) (x : MemTag) (a : Access), (s.mem m).out.find? (fun t => t.tag == tag) = some x →
      s.acc x.access = some a → a.purpose ≠ .ras → (∀ c, a.agent = .channel c → (s.core (3 + c / 16)).state ≠ .watchdog) →
      let ends (c : Instr) (recs : BitVec 32) (dead : List (BitVec 10 × Bool)) (p : AccResult → Prop) : Prop := ∃ (u : State) (res : AccResult),
        exec c s = .next u.settle ∧ p res ∧ u.accesses = s.accesses.filter (fun y => y.id != a.id) ∧ u.ended = s.ended ++ [(a, res)] ∧
        u.mem m = { s.mem m with out := (s.mem m).out.filter (fun t => t.tag != tag), dead := dead } ∧
        (∀ j, j ≠ m.val → u.mem j = s.mem j) ∧ (s.ctrlLost .hd = false → u.ras.nextSeq = s.ras.nextSeq + recs) ∧
        u.conf = s.conf ∧ u.tide = s.tide
      (x.write = false → ∀ data : Bytes, ends (.memoryReadReturn m tag data 0 false) 0 (s.mem m).dead
        (fun res => res.status = .ok ∧ res.data = ownBytes a (padTo data (64 * x.lines)) ∧ ∀ b, b ∈ res.poison → b = false)) ∧
      (x.write = false → ∀ (data : Bytes) (bad : BitVec 8), ends (.memoryReadReturn m tag data bad true) 1 (s.mem m).dead
        (fun res => res = { status := .busError, data := [], poison := [] })) ∧
      (x.write = true → ends (.memoryWriteAck m tag false) 0 (s.mem m).dead (fun res => res = { status := .ok, data := [], poison := [] })) ∧
      (x.write = true → ends (.memoryWriteAck m tag true) 1 (s.mem m).dead (fun res => res = { status := .busError, data := [], poison := [] })) ∧
      ends (.memoryPortTimeout m tag) 1 ((s.mem m).dead ++ [(tag, true)]) (fun res => res = { status := .timeout, data := [], poison := [] })) ∧
    (∀ (m : Fin 4) (tag : BitVec 10) (counted : Bool) (data : Bytes) (bad : BitVec 8) (err : Bool),
      (s.mem m).out.find? (fun t => t.tag == tag) = none → (s.mem m).dead.find? (fun d => d.1 == tag) = some (tag, counted) → ∃ u : State,
      exec (.memoryReadReturn m tag data bad err) s = .next u.settle ∧ exec (.memoryWriteAck m tag err) s = .next u.settle ∧
      u.mem m = { s.mem m with dead := (s.mem m).dead.filter (fun d => d.1 != tag), late := if counted then sat32 (s.mem m).late else (s.mem m).late } ∧
      (∀ j, j ≠ m.val → u.mem j = s.mem j) ∧ u.accesses = s.accesses ∧ u.ended = s.ended) ∧
    (∀ e : Fin 8, s.reach .cp (0x100E00 + 4 * e.val) = true → s.theChart.ports.engineEnable.getLsbD e = true → s.fenced.engine.getLsbD e = false →
      (∃ t : State, exec (.enginePortEnable .cp e) s = .next t ∧ t.portOn e = true ∧ (∀ j, j ≠ e.val → t.portOn j = s.portOn j) ∧
        t = { s with portEnable := t.portEnable, out := .cpWritten :: s.out }) ∧
      (∃ u : State, exec (.enginePortDisable .cp e) s = .next u.settle ∧ u.portOn e = false ∧ (∀ j, j ≠ e.val → u.portOn j = s.portOn j) ∧
        u.engReqs = s.engReqs.filter (fun r => r.port != e.val) ∧
        (∀ q, q ∈ s.engReqs → q.port = e.val → .engineRsp e q.rq.tag .aborted 0 0 ∈ u.out) ∧ u.conf = s.conf ∧ u.tide = s.tide)) ∧
    (∀ k : Fin 4, (s.stackState k).throttled = true → s.theChart.thermal.useThrottleReq = false → ∃ u : State,
      exec (.tokenBucketRefill k) s = .next u.settle ∧ u.stackState k = { s.stackState k with
        tokens := min (1024 * (s.stackSec k).bucket) ((s.stackState k).tokens + (s.stackSec k).share * 8 * 1024 / (256 * s.stackCount)) } ∧
      (∀ j, j ≠ k.val → u.stackState j = s.stackState j) ∧ u.accesses = s.accesses ∧ u.conf = s.conf)

/-- SH_CHART_BEGIN, SH_CHART_DATA_WRITE, SH_CHART_COMMIT (04 R91, 17 R417).
Clauses the spec leaves open follow the model's own readings: log 78. -/
def Obligations.ChartDeliveryFillsStaging : Prop :=
  ∀ (s : State) (path : Path), s.reach path 0x30 = true → s.reach path 0x34 = true →
    let wr (c : Instr) (x : ChartUnit) : Prop := exec c s = .next (State.written { s with chart := x } path)
    (6 ≤ s.start.step → s.start.stopped = false → (s.chart.state = .empty ∨ s.chart.state = .seed ∨ s.chart.state = .rejected) →
      wr (.shChartBegin path) { s.chart with
        state := .loading, code := 0, section_ := 0, offset := 0, source := 1, staged := [], stagedBad := [],
        overLong := false }) ∧
    ((s.start.step < 6 ∨ s.start.stopped = true ∨ s.chart.state = .loading ∨ s.chart.state = .checking ∨ s.chart.state = .accepted) →
      wr (.shChartBegin path) s.chart) ∧
    (s.chart.state = .loading → s.chart.source = 1 →
      (∀ v : BitVec 32, s.chart.staged.length + 4 ≤ 65536 →
        wr (.shChartDataWrite path v) { s.chart with staged := s.chart.staged ++ leBytes 4 v.toNat }) ∧
      (∀ v : BitVec 32, 65536 < s.chart.staged.length + 4 → wr (.shChartDataWrite path v) { s.chart with overLong := true }) ∧
      wr (.shChartCommit path) { s.chart with state := .checking }) ∧
    (s.chart.state ≠ .loading → ∀ v : BitVec 32, wr (.shChartDataWrite path v) s.chart ∧ wr (.shChartCommit path) s.chart)

/-- CHART_CHECK_COMPLETE (04 R87; 05 R97).
Clauses the spec leaves open follow the model's own readings: logs 71, 77, 78, 108, 109. -/
def Obligations.ChartIsAcceptedWholeOrRejected : Prop :=
  ∀ s : State,
    (s.chart.state ≠ .checking → ∃ t : State, exec .chartCheckComplete s = .next t ∧ t = s) ∧
    (s.chart.state = .checking →
      let fails := (chartSpoilt s.chart.staged s.chart.stagedBad).or <| firstCheck (chartChecks s.chart.staged s.chart.overLong s.fuses.keyHash (s.fuses.policy.getLsbD 0) s.fenced
        (if s.inSeed then some s.chart.image else none))
      (∀ code sec off : Nat, fails = some (code, sec, off) → ∃ t : State, exec .chartCheckComplete s = .next t ∧
        t.chart = { s.chart with
          state := .rejected, code := BitVec.ofNat 8 code, section_ := BitVec.ofNat 8 sec, offset := BitVec.ofNat 17 off,
          staged := [], stagedBad := [] } ∧
        t.conf = s.conf ∧ t.tide = s.tide ∧ (s.ctrlLost .sh = false → t.ras.nextSeq = s.ras.nextSeq + 1) ∧ t.irq.status.getLsbD 1 = true ∧
        (s.start.step = 6 → s.start.stopped = false → s.warmReset = false → t.start = { s.start with failure := 0x04, waiting := true }) ∧
        (s.start.step ≠ 6 → s.start.step ≠ 10 → t.start = s.start)) ∧
      (fails = none → ∃ t : State, exec .chartCheckComplete s = .next t ∧ t.chart.chart = some (chartOf s.chart.staged) ∧
        t.chart.state = (if (chartOf s.chart.staged).seed then .seed else .accepted) ∧ t.irq.status.getLsbD 1 = true ∧
        t.fuses = s.fuses ∧ t.fenced = s.fenced ∧ t.ident.devKey = s.ident.devKey ∧ t.irq.msix = s.irq.msix ∧
        t.mgmt.cmdBase = s.mgmt.cmdBase ∧ t.tide.values = s.tide.values ∧
        (s.start.step = 6 → s.start.stopped = false → s.warmReset = false →
          t.start = { s.start with step := 7, waiting := false, failure := 0 })))

/-- FW_LOAD, FW_RELOAD and IMAGE_VERIFY_COMPLETE (05 R102-R106).
Clauses the spec leaves open follow the model's own readings: logs 59, 73, 100. -/
def Obligations.FirmwareImagesAreVerified : Prop :=
  ∀ s : State,
    (∀ (path : Path) (cores : BitVec 7), s.reach path 0x30108 = true →
      (s.start.step = 11 → s.start.stopped = false → s.warmReset = false → s.fw.busy = false → exec (.fwLoad path cores) s =
        .next (State.written { s with fw := { s.fw with busy := true, reload := false, cores := cores },
                                      start := { s.start with waiting := false } } path)) ∧
      (s.start.ready = true → s.fw.busy = false → cores ≠ 0 → cores.getLsbD 0 = false →
        (∀ c, c < 7 → cores.getLsbD c = true → (s.core c).state = .watchdog) → exec (.fwReload path cores) s =
        .next (State.written { s with fw := { s.fw with busy := true, reload := true, cores := cores } } path)) ∧
      (cores.getLsbD 0 = true ∨ s.start.ready = false → exec (.fwReload path cores) s = .next (State.written s path))) ∧
    (s.fw.busy = true → (∀ a, a ∈ s.accesses → a.purpose ≠ .image) → ∀ b : Bytes,
      let r := imageCheck b false s.fw.cores s.fenced.cores
      (s.fw.reload = false → ∃ u : State, exec (.imageVerifyComplete (.ok b)) s = .next u.settle ∧ u.fw = { s.fw with busy := false, result := r } ∧
        (∀ c, (c < 7 → s.fw.cores.getLsbD c = false) → u.core c = s.core c) ∧
        (∀ c, c < 7 → s.fw.cores.getLsbD c = true → (s.core c).state ≠ .fenced → u.core c =
          if r = .ok then { s.core c with
            result := r, state := .verified, measured := some (sha384 (imageBody b)), release := BitVec.ofNat 32 (fld b 8 4),
            sram := (imageBody b).drop 192, entry := BitVec.ofNat 32 (fld b 0x18 4) }
          else { s.core c with result := r, state := .held, measured := none }) ∧
        u.irq.status.getLsbD 2 = true ∧ u.conf = s.conf ∧ u.tide = s.tide) ∧
      (s.fw.reload = true → (∃ c, c < 7 ∧ s.fw.cores.getLsbD c = true ∧ (s.core c).measured ≠ some (sha384 (imageBody b))) →
        ∃ u : State, exec (.imageVerifyComplete (.ok b)) s = .next u.settle ∧ u.fw.busy = false ∧
        u.fw.result = (if r = .ok then .checkFail else r) ∧
        (∀ c, (u.core c).state = (s.core c).state ∧ (u.core c).measured = (s.core c).measured) ∧ u.conf = s.conf))

/-- WATCHDOG_KICK and WATCHDOG_EXPIRY (05 R107, R108).
Clauses the spec leaves open follow the model's own readings: logs 50, 70. -/
def Obligations.WatchdogsKickAndExpire : Prop :=
  ∀ (s : State) (c : Fin 7),
    (s.reach (.core c) (0x30008 + 32 * c.val) = true → ∀ v : BitVec 32,
      (v.toNat % 256 = 0xA5 → ∃ t : State, exec (.watchdogKick (.core c) c v) s = .next t ∧ t.core c = { s.core c with wdt := 0 } ∧
        (∀ j, j ≠ c.val → t.core j = s.core j) ∧ t = { s with cores := t.cores }) ∧
      (v.toNat % 256 ≠ 0xA5 → exec (.watchdogKick (.core c) c v) s = .next s)) ∧
    (∀ (path : Path) (v : BitVec 32), path ≠ .core c → ∃ t : State, exec (.watchdogKick path c v) s = .next t ∧ t.cores = s.cores) ∧
    ((s.core c).state = .running → ∃ u : State, exec (.watchdogExpiry c) s = .next u.settle ∧
      u.core c = { s.core c with
        state := .watchdog, wdt := 0, expiries := if (s.core c).expiries = 0xFFFF then 0xFFFF else (s.core c).expiries + 1 } ∧
      (∀ j, j ≠ c.val → u.core j = s.core j) ∧ (c.val = 0 → u.ident.session = .none) ∧ (c.val = 2 → u.mgmt.session = false) ∧
      (c.val ≠ 0 → u.ident.session = s.ident.session) ∧ (c.val ≠ 2 → u.mgmt.session = s.mgmt.session) ∧ u.conf = s.conf ∧ u.tide = s.tide) ∧
    ((s.core c).state ≠ .running → exec (.watchdogExpiry c) s = .next s.settle)

/-- The checks of every command (05 R111); `e` stands for any entry, `x` for what the commands read of device memory, `l` for the leaves and
`m` for the samples that two of them bring, and `own` says that the action byte is the form's own, or none's.
Clauses the spec leaves open follow the model's own readings: log 81. -/
def Obligations.RingCommandsAreChecked : Prop :=
  ∀ (s : State) (e : CmdEntry) (x : ReadResult) (l : List LeafView) (m : List Bytes) (c : Instr) (op len : Nat) (own : Bool),
    let act (off a n : Nat) : Bool := cmdFld e off 1 == a || decide (n ≤ cmdFld e off 1)
    (c, op, len, own) ∈ [(Instr.hello e, 0x01, 24, true), (.goodbye e, 0x02, 0, true), (.nop e, 0x03, 0, true),
      (.modeChange e x, 0x10, 32, true), (.queueSave e, 0x11, 0, true), (.chartForward e x, 0x20, 16, true),
      (.imageForward e x, 0x21, 24, true), (.scrub e, 0x30, 16, true), (.measure e l, 0x31, 32, act 8 0 4),
      (.measureAndSeal e l, 0x31, 32, act 8 1 4), (.unseal e, 0x31, 32, act 8 2 4), (.retire e, 0x31, 32, act 8 3 4),
      (.allocPoolCreate e x, 0x40, 40, act 9 0 4), (.allocPoolAdd e x, 0x40, 40, act 9 1 4), (.allocPoolAttach e x, 0x40, 40, act 9 2 4),
      (.allocPoolDetach e, 0x40, 40, act 9 3 4), (.partitionRelease e, 0x41, 1, true), (.telemetry e, 0x50, 2, true),
      (.ageingLoad e x, 0x51, 0, true), (.marginTestScan e m, 0x52, 2, act 8 0 2), (.marginTestAcceptFallback e, 0x52, 2, act 8 1 2)] →
    (own = false → exec c s = .next s.settle) ∧ (own = true →
    (s.ringReady = false → exec c s = .next s.settle) ∧
    (s.ringReady = true →
      let used : State := { s with mgmt := { s.mgmt with cmdCons := s.mgmt.cmdCons + 1 } }
      (s.mgmt.session = false → op ≠ 0x01 → op ≠ 0x03 → exec c s = .next (State.settle (used.respond e.seq .permission))) ∧
      (s.mgmt.session = true → e.seq ≠ s.mgmt.prevSeq + 1 → exec c s = .next (State.settle (used.respond e.seq .malformed))) ∧
      (s.mgmt.session = true → e.seq = s.mgmt.prevSeq + 1 → (e.length.toNat ≠ len ∨ allZero ((cmdBytes e).drop len) = false) →
        exec c s = .next (State.settle (State.respond { s with mgmt := { s.mgmt with
          cmdCons := s.mgmt.cmdCons + 1, prevSeq := e.seq } } e.seq .malformed)))))

/-- SH_CMD_PROD_WRITE, SH_EVT_CONS_WRITE (05 R110), HELLO, GOODBYE (R114, R115), NOP, UNKNOWN_COMMAND (R111).
Clauses the spec leaves open follow the model's own readings: logs 52, 82. -/
def Obligations.RingSessionsAndIndices : Prop :=
  ∀ s : State,
    (∀ (path : Path) (v : BitVec 32), s.reach path 0x30208 = true → s.reach path 0x3021C = true →
      ((v - s.mgmt.cmdCons).toNat ≤ s.theChart.limits.cmdRing → exec (.shCmdProdWrite path v) s =
        .next (State.settle (State.written { s with mgmt := { s.mgmt with cmdProd := v } } path))) ∧
      (s.theChart.limits.cmdRing < (v - s.mgmt.cmdCons).toNat → v ≠ s.mgmt.cmdProd → exec (.shCmdProdWrite path v) s =
        .next (State.settle (State.written { s with mgmt := { s.mgmt with overrun := sat32 s.mgmt.overrun } } path))) ∧
      exec (.shEvtConsWrite path v) s = .next (State.settle (State.written { s with mgmt := { s.mgmt with evtCons := v } } path))) ∧
    (s.ringReady = true →
      let event (seq : BitVec 32) (code : Byte) : Event :=
        { opcode := 0x8001, length := 8, payload := leBytes 4 seq.toNat ++ [code] ++ zeros 47 }
      (∀ e : CmdEntry, s.mgmt.session = true → e.seq = s.mgmt.prevSeq + 1 → e.length = 0 → allZero (cmdBytes e) = true →
        exec (.nop e) s = .next (State.settle { s with mgmt := { s.mgmt with
          cmdCons := s.mgmt.cmdCons + 1, prevSeq := e.seq, queue := s.mgmt.queue ++ [event e.seq 0x00] } }) ∧
        exec (.goodbye e) s = .next (State.settle { s with mgmt := { s.mgmt with
          cmdCons := s.mgmt.cmdCons + 1, prevSeq := e.seq, queue := s.mgmt.queue ++ [event e.seq 0x00], session := false } })) ∧
      (∀ e : CmdEntry, s.mgmt.session = false → e.length = 24 → allZero ((cmdBytes e).drop 24) = true → cmdFld e 8 1 = 1 →
        allZero (cut (cmdBytes e) 2 6) = true →
        let word : BitVec 128 := BitVec.ofNat 128 (cmdFld e 0x10 16) &&& offeredWord
        (word = s.mgmt.agreed ∨ ∀ q, q ∈ s.queues → q.2.enable = false) → ∃ u : State, exec (.hello e) s = .next u.settle ∧
        u.mgmt.session = true ∧ u.mgmt.agreed = word ∧ u.mgmt.sessionNo = s.mgmt.sessionNo + 1 ∧ u.mgmt.prevSeq = e.seq ∧
        u.mgmt.cmdCons = s.mgmt.cmdCons + 1 ∧ u.mgmt.queue.length = s.mgmt.queue.length + 1 ∧ u.conf = s.conf ∧ u.tide = s.tide ∧
        u.queues = s.queues ∧
        (s.start.step = 13 → s.start.stopped = false → s.warmReset = false →
          u.start = { s.start with step := 14, waiting := false, failure := 0 }) ∧
        (s.start.step ≠ 13 → u.start = s.start)) ∧
      (∀ (op : BitVec 16) (seq : BitVec 32) (r : EntryRead) (code : Byte),
        (r, code) ∈ [(EntryRead.crcFail, (0x05 : Byte)), (.poison, 0x05), (.busError, 0x01), (.timeout, 0x07)] →
        exec (.unknownCommand op seq r) s = .next (State.settle { s with mgmt := { s.mgmt with
          cmdCons := s.mgmt.cmdCons + 1, queue := s.mgmt.queue ++ [event (s.mgmt.prevSeq + 1) code] } })) ∧
      (∀ (op : BitVec 16) (n : BitVec 16) (b : Bytes), knownCommand op.toNat = false → s.mgmt.session = true →
        exec (.unknownCommand op (s.mgmt.prevSeq + 1) (.good n b)) s = .next (State.settle { s with mgmt := { s.mgmt with
          cmdCons := s.mgmt.cmdCons + 1, prevSeq := s.mgmt.prevSeq + 1,
          queue := s.mgmt.queue ++ [event (s.mgmt.prevSeq + 1) (BitVec.ofNat 8 (statusCode .malformed))] } })))

/-- MODE_CHANGE, UNIT_PREPARE_ACK, UNIT_COMMIT_CONFIRM, MODE_ROLLBACK and UNIT_SELF_REVERT (05 R117-R121).
Clauses the spec leaves open follow the model's own readings: logs 52, 53, 54. -/
def Obligations.ModeChangesAreTwoPhase : Prop :=
  ∀ s : State,
    let back (m : ModeChange) (r : UnitRef) (u : State) : Prop :=
      (∀ sl, r = .clockUnit sl → m.kind = 4 → (u.clock sl).ebbOrdered = (m.old == 1)) ∧
      (∀ sl, r = .clockUnit sl → m.kind = 3 → (u.clock sl).fallback = (m.old == 1)) ∧
      (∀ sl, r = .supply sl → m.kind = 3 → (u.clock sl).supplyGoal = some (m.old.truncate 4) ∨
        (u.clock sl).supplyGoal = none ∧ (u.clock sl).supplyReq = m.old.truncate 4) ∧
      (r = .hold → m.kind = 1 → u.burstTear m.target.toNat = (m.old == 1)) ∧
      (∀ n : Fin 32, r = .cell n → m.kind = 2 → let p := s.pipe m.target.toNat
        p.route.idxOf n.val < p.ops.length → (u.pipe m.target.toNat).ops.getD (p.route.idxOf n.val) 0 =
          m.oldWords.getD (p.route.idxOf n.val) 0)
    let tells (m : ModeChange) (outcome phase : Byte) (u : State) : Prop := s.evtFull = false → ∃ (ev : Event) (l : List Event),
      u.mgmt.queue = s.mgmt.queue ++ ev :: l ∧ (s.mgmt.changes = [] → l = []) ∧ ev.opcode = 0x8010 ∧ ev.length = 32 ∧
      ev.payload.take 8 = leBytes 4 m.seq.toNat ++ [outcome, m.kind, m.target, phase]
    let still : Prop := ∀ sl : Slice, (s.clock sl).supplyGoal = none ∧ (s.clock sl).supplyBack = false
    (∀ (e : CmdEntry) (x : ReadResult), s.ringReady = true → s.mgmt.session = true → e.seq = s.mgmt.prevSeq + 1 → e.length = 32 →
      allZero ((cmdBytes e).drop 32) = true → s.modeFieldsOk e = true → cmdFld e 8 1 = 4 →
      let m : ModeChange := { mkChange e.seq 4 (cmdFld e 9 1) (BitVec.ofNat 32 (cmdFld e 0x0C 4)) with
        fence := BitVec.ofNat 48 (cmdFld e 0x18 8), fenceVal := BitVec.ofNat 64 (cmdFld e 0x20 8) }
      (∀ c : ModeChange, s.mgmt.change = some c → ∃ u : State, exec (.modeChange e x) s = .next u.settle ∧
        u.mgmt.change = s.mgmt.change ∧ u.mgmt.changes = s.mgmt.changes ++ [m] ∧ u.mgmt.queue.length = s.mgmt.queue.length + 1 ∧
        u.conf = s.conf ∧ u.clocks = s.clocks) ∧
      (s.mgmt.change = none → s.mgmt.changes = [] → ∃ (u : State) (c : ModeChange), exec (.modeChange e x) s = .next u.settle ∧
        u.mgmt.change = some c ∧ c.phase = .prepare ∧ c.units = s.modeUnits 4 (cmdFld e 9 1) false ∧ c.waitFor = c.units ∧
        c.seq = e.seq ∧ c.value = m.value ∧ u.mgmt.changes = [] ∧ u.conf = s.conf ∧ u.clocks = s.clocks)) ∧
    (∀ (m : ModeChange) (r : UnitRef), s.mgmt.change = some m → m.orphan = false → r ∈ m.waitFor → r ∉ m.gone →
      (m.phase = .prepare → s.unitReady m r = true → m.waitFor.erase r ≠ [] → exec (.unitPrepareAck r) s = .next (State.settle { s with
        mgmt := { s.mgmt with change := some { m with waitFor := m.waitFor.erase r } } })) ∧
      (m.phase = .prepare → s.unitReady m r = true → m.waitFor = [r] → m.units ≠ [] → m.kind ≠ 3 → exec (.unitPrepareAck r) s =
        .next (State.settle { s with mgmt := { s.mgmt with change := some { m with phase := .commit, waitFor := m.units } } })) ∧
      (∀ sl : Slice, r = .clockUnit sl → m.phase = .commit → m.kind = 4 → m.waitFor.erase r ≠ [] → ∃ u : State,
        exec (.unitCommitConfirm r) s = .next u.settle ∧
        u.mgmt.change = some { m with waitFor := m.waitFor.erase r, switched := m.switched ++ [r] } ∧
        (u.clock sl).ebbOrdered = (m.value == 1) ∧ (still → ∀ sl' : Slice, sl' ≠ sl → u.clock sl' = s.clock sl') ∧ u.conf = s.conf) ∧
      (∀ sl : Slice, r = .clockUnit sl → m.phase = .commit → m.kind = 4 → m.waitFor = [r] → s.mgmt.changes = [] → ∃ u : State,
        exec (.unitCommitConfirm r) s = .next u.settle ∧ u.mgmt.change = none ∧ tells m 1 0 u ∧
        (u.clock sl).ebbOrdered = (m.value == 1) ∧ (still → ∀ sl' : Slice, sl' ≠ sl → u.clock sl' = s.clock sl') ∧ u.conf = s.conf) ∧
      (s.harbour = true → ∃ u : State, exec .modeRollback s = .next u.settle ∧ (∀ x, x ∈ m.units → back m x u) ∧
        tells m 2 (if m.phase = .prepare then 1 else 2) u ∧ (s.mgmt.changes = [] → u.mgmt.change = none) ∧
        (∀ (n : ModeChange) (rest : List ModeChange), s.mgmt.changes = n :: rest →
          s.modeUnits n.kind.toNat n.target.toNat n.fallback ≠ [] → ∃ n' : ModeChange, u.mgmt.change = some n' ∧ n'.seq = n.seq ∧
          n'.units = s.modeUnits n.kind.toNat n.target.toNat n.fallback ∧ n'.waitFor = n'.units ∧ u.mgmt.changes = rest) ∧
        u.conf = s.conf ∧ u.tide = s.tide ∧ u.queues = s.queues)) ∧
    (∀ (m : ModeChange) (r : UnitRef), s.mgmt.change = some m → m.orphan = true → s.mgmt.changes = [] → r ∈ m.units → r ∉ m.gone →
      ∃ u : State, exec (.unitSelfRevert r) s = .next u.settle ∧ u.mgmt.change = (if ∀ x ∈ m.units, x ∈ m.gone ++ [r] then none
        else some { m with gone := m.gone ++ [r], heldBy := [] }) ∧ back m r u ∧ u.conf = s.conf ∧ u.tide = s.tide)

/-- SCRUB, SCRUB_COMPLETE (15 R376), MEASURE, MEASURE_AND_SEAL, MEASUREMENT_COMPLETE (R371-R373), UNSEAL, RETIRE (R375).
Clauses the spec leaves open follow the model's own readings: logs 63, 69. -/
def Obligations.SecWorkRunsInOrder : Prop :=
  ∀ s : State,
    (∀ (e : CmdEntry) (leaves : List LeafView) (j : MeasureJob) (rest : List SecJob), s.ringReady = true → s.mgmt.session = true →
      e.seq = s.mgmt.prevSeq + 1 → s.ident.jobs = .measure j :: rest → j.started = true →
      let joins (c : Instr) (p : SecJob → Prop) : Prop := ∃ (u : State) (n : SecJob), exec c s = .next u.settle ∧ p n ∧
        u = { s with mgmt := { s.mgmt with cmdCons := s.mgmt.cmdCons + 1, prevSeq := e.seq },
                     ident := { s.ident with jobs := s.ident.jobs ++ [n] } }
      let base := cmdFld e 8 8
      let len := cmdFld e 0x10 8
      (e.length = 16 → allZero ((cmdBytes e).drop 16) = true → base % leafBytes = 0 → len % leafBytes = 0 → len ≠ 0 →
        s.spanOk base len = true → s.sealHit base len = false → joins (.scrub e) (fun n => n =
          .scrub { seq := e.seq, base := base, len := len, started := false, done := none })) ∧
      (e.length = 32 → allZero ((cmdBytes e).drop 32) = true → cmdFld e 9 1 ≤ 63 →
        (cmdFld e 8 1 = 2 → s.feature 6 = true → allZero (cut (cmdBytes e) 2 30) = true →
          joins (.unseal e) (fun n => n = .unseal e.seq (cmdFld e 9 1))) ∧
        (cmdFld e 8 1 = 3 → allZero (cut (cmdBytes e) 2 30) = true → joins (.retire e) (fun n => n = .retire e.seq (cmdFld e 9 1))) ∧
        (cmdFld e 0x0A 1 ≤ 15 → cmdFld e 0x0B 5 = 0 → cmdFld e 0x10 8 % leafBytes = 0 → cmdFld e 0x18 8 ≠ 0 → cmdFld e 0x18 8 ≤ 2 ^ 47 →
          cmdFld e 0x20 8 % leafBytes = 0 → s.partOn (cmdFld e 0x0A 1) = true →
          s.spanOk (cmdFld e 0x20 8) (roundUp (cmdFld e 0x18 8) leafBytes) = true →
          s.leavesOk leaves (cmdFld e 0x10 8) (cmdFld e 0x20 8) (roundUp (cmdFld e 0x18 8) leafBytes / leafBytes) = true →
          (cmdFld e 8 1 = 0 → joins (.measure e leaves) (fun n => ∃ m, n = .measure m ∧ m.doSeal = false ∧ m.k = cmdFld e 9 1 ∧
            m.started = false ∧ m.len = BitVec.ofNat 64 (cmdFld e 0x18 8) ∧ m.base = BitVec.ofNat 48 (cmdFld e 0x20 8))) ∧
          (cmdFld e 8 1 = 1 → s.feature 6 = true →
            s.sealHit (cmdFld e 0x20 8) (roundUp (cmdFld e 0x18 8) leafBytes) (cmdFld e 9 1) = false →
            joins (.measureAndSeal e leaves) (fun n => ∃ m, n = .measure m ∧ m.doSeal = true ∧ m.k = cmdFld e 9 1 ∧ m.started = false))))) ∧
    (s.sec = true → ∀ (b : ScrubJob) (st : Status), s.ident.jobs = [.scrub b] → b.done = some st → exec .scrubComplete s =
      .next (State.settle (State.respond { s with ident := { s.ident with jobs := [] } } b.seq st))) ∧
    (s.sec = true → ∀ m : MeasureJob, s.ident.jobs = [.measure m] → m.started = true → (∀ id, id ∈ m.waits → s.acc id = none) →
      (∀ x, x ∈ s.home.txns → x.id ∉ m.txns) →
      let gives (content : ReadResult) (root : Bytes) (intact : Bool) (st : Status) : Prop := ∃ u : State,
        exec (.measurementComplete content) s = .next u.settle ∧ u.ident.jobs = [] ∧ u.ident.measSeq = s.ident.measSeq + 1 ∧
        u.region m.k = some {
          part := m.part, va := m.va, len := m.len, base := m.base, root := root, seq := s.ident.measSeq + 1, intact := intact,
          sealed := m.doSeal || (s.region m.k).elim false (·.sealed) } ∧
        (∀ j, j ≠ m.k → u.region j = s.region j) ∧ u.mgmt.queue = s.mgmt.queue ++ [{
          opcode := 0x8001, length := 17, payload := padTo (leBytes 4 m.seq.toNat ++ [BitVec.ofNat 8 (statusCode st), 0, 0, 0]
            ++ (leBytes 8 (s.ident.measSeq + 1).toNat
              ++ [BitVec.ofNat 8 (b2n intact + 2 * b2n (m.doSeal || (s.region m.k).elim false (·.sealed)))])) 52 }] ∧
        u.conf = s.conf ∧ u.tide = s.tide
      (∀ b : Bytes, gives (.ok b) (treeHash (padTo b m.len.toNat)) (!m.fired) .ok) ∧
      (∀ b : Bytes, gives (.poison b) (zeros 48) false .poison) ∧
      exec (.measurementComplete .busError) s = .next (State.settle (State.respond { s with ident := { s.ident with jobs := [] } } m.seq .busError)) ∧
      exec (.measurementComplete .timeout) s = .next (State.settle (State.respond { s with ident := { s.ident with jobs := [] } } m.seq .timeout)))

/-- ALLOC_POOL (06 R146), QUEUE_SAVE (05 R124), PARTITION_RELEASE and PARTITION_RELEASE_COMPLETE (06 R155; 14 R356).
Clauses the spec leaves open follow the model's own readings: logs 64, 80, 81, 101. -/
def Obligations.PoolsQueueSaveAndRelease : Prop :=
  ∀ s : State,
    (∀ e : CmdEntry, s.ringReady = true → s.mgmt.session = true → e.seq = s.mgmt.prevSeq + 1 →
      let taken : State := { s with mgmt := { s.mgmt with cmdCons := s.mgmt.cmdCons + 1, prevSeq := e.seq } }
      let b := padTo e.payload 52
      let p := byteAt b 0
      (e.length = 0 → allZero (cmdBytes e) = true → exec (.queueSave e) s = .next (State.settle (taken.bulkStart .block none
        [.data (s.ownId * 2 ^ 48 + s.mgmt.saveBase.toNat) taken.saveArea] (.save e.seq)))) ∧
      (e.length = 1 → allZero ((cmdBytes e).drop 1) = true → p = cmdFld e 8 1 →
        (s.part p ≠ .disabled ∨ s.pool p ≠ none → exec (.partitionRelease e) s = .next (State.settle (taken.respond e.seq .permission))) ∧
        (p ≤ 15 → s.part p = .disabled → s.pool p = none → s.partLines p = [] → ∃ u : State,
          exec (.partitionRelease e) s = .next u.settle ∧ u.part p = .releasing ∧ (∀ j, j ≠ p → u.part j = s.part j) ∧
          u.releases = s.releases ++ [{ part := p, seq := e.seq }] ∧ u.inv.held ++ u.inv.atsWait =
            (if s.inv.held.length < 16 then s.inv.held ++ [otherInv .release .partition p 0 0] ++ s.inv.atsWait
             else s.inv.held ++ s.inv.atsWait ++ [otherInv .release .partition p 0 0]) ∧ u.conf = s.conf ∧ u.tide = s.tide)) ∧
      (e.length = 40 → allZero ((cmdBytes e).drop 40) = true → s.feature 8 = true → s.partExists p = true → poolFieldsOk b = true →
        byteAt b 1 = cmdFld e 9 1 →
        (byteAt b 1 = 0 → ∀ arr : Bytes, s.pool p = none → taken.pagesOk (arr.take (8 * fld b 0x20 4)) = true →
          (pagesOf (arr.take (8 * fld b 0x20 4))).length ≤ fld b 4 4 → ∃ k : Pool, k.slots = fld b 4 4 ∧ k.used = [] ∧ k.pages = [] ∧
          k.arenaBase = BitVec.ofNat 64 (fld b 8 8) ∧ k.metaBase = BitVec.ofNat 64 (fld b 0x10 8) ∧
          k.stack = (pagesOf (arr.take (8 * fld b 0x20 4))).reverse ∧ exec (.allocPoolCreate e (.ok arr)) s =
            .next (State.settle ((taken.untorn p true).bulkStart .block (some p)
              [.zero k.bitmapAt (k.stackAt - k.bitmapAt), k.pushChunk (pagesOf (arr.take (8 * fld b 0x20 4))).length, k.headerChunk p]
              (.create e.seq p k)))) ∧
        (byteAt b 1 = 1 → ∀ (arr : Bytes) (k : Pool), s.pool p = some k → taken.pagesOk (arr.take (8 * fld b 0x20 4)) = true →
          k.stack.length + (pagesOf (arr.take (8 * fld b 0x20 4))).length ≤ k.slots → ∃ u : State,
          exec (.allocPoolAdd e (.ok arr)) s = .next u.settle ∧
          u.pool p = some { k with stack := (pagesOf (arr.take (8 * fld b 0x20 4))).reverse ++ k.stack } ∧
          (∀ j, j ≠ p → u.pool j = s.pool j) ∧ u.conf = s.conf ∧ u.tide = s.tide) ∧
        (byteAt b 1 = 2 → ∀ r : Bytes, s.pool p = none →
          (crc32c (r.take 60) ≠ fld r 60 4 ∨ fld r 0 4 ≠ 0x4C4F4F50 ∨ byteAt r 4 ≠ p ∨ fld r 8 4 ≠ fld b 4 4 →
            exec (.allocPoolAttach e (.ok r)) s = .next (State.settle (taken.respond e.seq .checkFail))) ∧
          (crc32c (r.take 60) = fld r 60 4 → fld r 0 4 = 0x4C4F4F50 → byteAt r 4 = p → fld r 8 4 = fld b 4 4 →
            (allZero (cut r 5 3) = false ∨ allZero (cut r 0x18 36) = false →
              exec (.allocPoolAttach e (.ok r)) s = .next (State.settle (taken.respond e.seq .malformed))) ∧
            (allZero (cut r 5 3) = true → allZero (cut r 0x18 36) = true →
              (s.tornOf p = [] → s.resumable p = [] → exec (.allocPoolAttach e (.ok r)) s =
                .next (State.settle (State.respond ((taken.setPool p (some (poolOf b r))).untorn p true) e.seq .ok))) ∧
              (s.tornOf p = [] → s.resumable p ≠ [] → exec (.allocPoolAttach e (.ok r)) s = .next (State.settle
                (eachOf (fun (j : AllocJob) (t : State) => t.jobNew (.attach e.seq) p true j.size 0 j.recVa j.phys 0 j.first)
                  (s.resumable p) ((taken.setPool p (some (poolOf b r))).untorn p true)))) ∧
              (s.tornOf p ≠ [] → ∃ (u : State) (l : List Chunk), exec (.allocPoolAttach e (.ok r)) s = .next u.settle ∧
                u = taken.bulkStart .block none l (.mend e.seq p ((s.tornOf p).foldl Pool.lose (poolOf b r))) ∧
                (∀ x ∈ s.tornOf p, ∀ i ∈ tornSlots x, ∀ v : Nat, x.1.leafAt (poolOf b r) i = some v → Chunk.data v (zeros 8) ∈ l) ∧
                u.pool p = none ∧ u.conf = s.conf ∧ u.tide = s.tide)))) ∧
        (byteAt b 1 = 3 → ∀ k : Pool, s.pool p = some k → exec (.allocPoolDetach e) s =
          .next (State.settle (if k.used = [] then ((taken.untorn p true).setPool p none).respond e.seq .ok else taken.respond e.seq .permission))))) ∧
    (s.sec = true → ∀ j : ReleaseJob, s.releases = [j] → s.releaseReady j.part = true → ∀ x : PartEntry, s.partEntry j.part = some x →
      ∃ u : State, exec .partitionReleaseComplete s = .next u.settle ∧ u.part j.part = .disabled ∧ u.releases = [] ∧
        u.holdUsed j.part = 0 ∧ (∀ n, inRange n x.tideFirst x.tideCount = true → tabGet 0 u.tide.values n = 0) ∧
        (∀ n, inRange n x.tideFirst x.tideCount = false → tabGet 0 u.tide.values n = tabGet 0 s.tide.values n) ∧
        (∀ y ∈ u.queues, inRange y.1 x.queueFirst x.queueCount = false) ∧ (∀ i, i ≠ j.part → u.part i = s.part i) ∧
        u.mgmt.queue.length = s.mgmt.queue.length + 1)

/-- CHART_FORWARD and IMAGE_FORWARD (05 R111, R116).
Clauses the spec leaves open follow the model's own readings: logs 23, 61. -/
def Obligations.ForwardsStartRelays : Prop :=
  ∀ (s : State) (e : CmdEntry), s.ringReady = true → s.mgmt.session = true → e.seq = s.mgmt.prevSeq + 1 →
    let taken : State := { s with mgmt := { s.mgmt with cmdCons := s.mgmt.cmdCons + 1, prevSeq := e.seq } }
    let t := cmdFld e 8 2
    let len := cmdFld e 0x0C 4
    let addr := cmdFld e 0x10 8
    (e.length = 16 → allZero ((cmdBytes e).drop 16) = true → cmdFld e 0x0A 2 = 0 → 64 ≤ len → len ≤ 65536 → addr % 8 = 0 → addr < 2 ^ 48 →
      (∀ x : ReadResult, t ≠ s.ownId → t < 4096 → s.childFor (BitVec.ofNat 12 t) = none →
        exec (.chartForward e x) s = .next (State.settle (taken.respond e.seq .permission))) ∧
      (∀ c : BitVec 12, t ≠ s.ownId → t < 4096 → s.childFor (BitVec.ofNat 12 t) = some c →
        exec (.chartForward e .busError) s = .next (State.settle (taken.respond e.seq .busError)) ∧
        exec (.chartForward e .timeout) s = .next (State.settle (taken.respond e.seq .timeout)) ∧
        (∀ b : Bytes, chartTarget (b.take len) ≠ t →
          exec (.chartForward e (.ok b)) s = .next (State.settle (taken.respond e.seq .permission))) ∧
        (∀ b : Bytes, chartTarget (b.take len) = t → exec (.chartForward e (.ok b)) s =
          .next (State.settle (State.relayStart (taken.respond e.seq .ok) {
            isChart := true, target := BitVec.ofNat 12 t, child := c, data := b.take len, place := 0, cores := 0, next := 0 })))) ∧
      (t = s.ownId → s.chartMayBegin = true → ∀ b : Bytes, chartTarget (b.take len) = t → ∃ u : State,
        exec (.chartForward e (.ok b)) s = .next u.settle ∧ u.chart.staged = b.take len ∧ u.chart.state = .checking ∧
        u.chart.source = 2 ∧ u.mgmt.queue.length = s.mgmt.queue.length + 1 ∧ u.conf = s.conf ∧ u.tide = s.tide)) ∧
    (e.length = 24 → allZero ((cmdBytes e).drop 24) = true → cmdFld e 0x0B 1 = 0 → cmdFld e 0x0A 1 < 128 → 292 ≤ len →
      len ≤ 192 + 512 * 1024 + 96 → addr % 64 = 0 → addr < 2 ^ 48 → cmdFld e 0x18 8 % 64 = 0 → cmdFld e 0x18 8 < 2 ^ 48 →
      t ≠ s.ownId → t < 4096 →
      (∀ x : ReadResult, s.childFor (BitVec.ofNat 12 t) = none →
        exec (.imageForward e x) s = .next (State.settle (taken.respond e.seq .permission))) ∧
      (∀ c : BitVec 12, s.childFor (BitVec.ofNat 12 t) = some c →
        exec (.imageForward e .busError) s = .next (State.settle (taken.respond e.seq .busError)) ∧
        (∀ b : Bytes, exec (.imageForward e (.ok b)) s =
          .next (State.settle (State.relayStart (taken.respond e.seq .ok) {
            isChart := false, target := BitVec.ofNat 12 t, child := c, data := b.take len,
            place := BitVec.ofNat 48 (cmdFld e 0x18 8), cores := BitVec.ofNat 7 (cmdFld e 0x0A 1), next := 0 })))))

/-- TELEMETRY (16 R406), MARGIN_TEST (R401), AGEING_LOAD (R402).
Clauses the spec leaves open follow the model's own readings: logs 54, 55. -/
def Obligations.TelemetryMarginAndAgeingCommands : Prop :=
  ∀ (s : State) (e : CmdEntry), s.ringReady = true → s.mgmt.session = true → e.seq = s.mgmt.prevSeq + 1 →
    let taken : State := { s with mgmt := { s.mgmt with cmdCons := s.mgmt.cmdCons + 1, prevSeq := e.seq } }
    let a := cmdFld e 8 1
    let k := cmdFld e 9 1
    (e.length = 2 → allZero ((cmdBytes e).drop 2) = true →
      (s.telemetryPage a k = none → exec (.telemetry e) s = .next (State.settle (taken.respond e.seq .malformed))) ∧
      (∀ b : Bytes, s.telemetryPage a k = some b →
        ((s.core 2).shedding = false → exec (.telemetry e) s =
          .next (State.settle ((taken.respond e.seq .ok).pushUnsolicited {
            opcode := 0x8050, length := BitVec.ofNat 16 (2 + b.length),
            payload := padTo ([BitVec.ofNat 8 a, BitVec.ofNat 8 k] ++ b) 52 }))) ∧
        ((s.core 2).shedding = true → ∃ u : State, exec (.telemetry e) s = .next u.settle ∧ (u.core 2).shed = sat32 (s.core 2).shed ∧
          u.mgmt.dropped = sat32 s.mgmt.dropped ∧ u.mgmt.queue.length = s.mgmt.queue.length + 1)) ∧
      (∀ l : List Bytes, a = 0 → k ≤ 3 →
        (s.pwr = false → exec (.marginTestScan e l) s = .next (State.settle (taken.respond e.seq .permission))) ∧
        (s.pwr = true → exec (.marginTestScan e l) s =
          .next (State.settle (State.scanAll (if k = 3 then [0, 1, 2] else [k]) l (taken.respond e.seq .ok)))) ∧
        (s.pwr = true → k ≠ 3 → ∃ u : State, exec (.marginTestScan e l) s = .next u.settle ∧ u.health.scans = sat32 s.health.scans ∧
          (u.marginOf k).latest = (List.range 16).map (fun i => if (s.monitors k).contains i then (padTo (l.headD []) 16).getD i 0 else 0))) ∧
      (a = 1 → k ≤ 2 →
        (s.pwr = false ∨ (s.marginOf k).offered = false ∨ (s.clock (sliceOf k)).fallback = true →
          exec (.marginTestAcceptFallback e) s = .next (State.settle (taken.respond e.seq .permission))) ∧
        (s.pwr = true → (s.marginOf k).offered = true → (s.clock (sliceOf k)).fallback = false →
          exec (.marginTestAcceptFallback e) s = .next (State.settle ((taken.respond e.seq .ok).modeQueue {
            mkChange e.seq 3 k ((s.clock (sliceOf k)).supplyReq.zeroExtend 32) with fallback := true }))))) ∧
    (e.length = 0 → allZero (cmdBytes e) = true →
      (s.pwr = false → ∀ x : ReadResult, exec (.ageingLoad e x) s = .next (State.settle (taken.respond e.seq .permission))) ∧
      (s.pwr = true →
        exec (.ageingLoad e .busError) s = .next (State.settle (taken.respond e.seq .busError)) ∧
        exec (.ageingLoad e .timeout) s = .next (State.settle (taken.respond e.seq .timeout)) ∧
        (∀ b : Bytes, exec (.ageingLoad e (.poison b)) s = .next (State.settle (taken.respond e.seq .checkFail))) ∧
        (∀ b : Bytes, fld b 0 4 = 0 → ∃ u : State, exec (.ageingLoad e (.ok b)) s = .next u.settle ∧ u.health.allScans = 0 ∧
          u.health.lifetime = 0 ∧ u.health.logNext = 0 ∧ u.mgmt.queue.length = s.mgmt.queue.length + 1 ∧ u.conf = s.conf ∧ u.clocks = s.clocks) ∧
        (∀ b : Bytes, fld b 0 4 ≠ 0 → historyChecks b = false →
          exec (.ageingLoad e (.ok b)) s = .next (State.settle (taken.respond e.seq .checkFail))) ∧
        (∀ b : Bytes, historyChecks b = true → fld b 0 4 ≠ 0 →
          fld b 0 4 ≠ 0x31454741 ∨ fld b 4 2 ≠ 1 ∨ fld b 6 2 ≠ s.ownId ∨ historyRsv b = true →
          exec (.ageingLoad e (.ok b)) s = .next (State.settle (taken.respond e.seq .malformed))) ∧
        (∀ b : Bytes, historyChecks b = true → fld b 0 4 = 0x31454741 → fld b 4 2 = 1 → fld b 6 2 = s.ownId → historyRsv b = false →
          ∃ u : State,
          exec (.ageingLoad e (.ok b)) s = .next u.settle ∧
          u.health.allScans = BitVec.ofNat 64 (fld b 8 8) + s.health.allScans ∧
          u.health.lifetime = BitVec.ofNat 64 (fld b 0x10 8) + s.health.lifetime ∧
          u.health.logNext = BitVec.ofNat 32 (fld b 0x18 4) ∧
          (∃ l : List Event, u.mgmt.queue = s.mgmt.queue ++
            { opcode := 0x8001, length := 8, payload := leBytes 4 e.seq.toNat ++ zeros 48 } :: l) ∧
          ∀ k : Nat, k < 3 →
            let c := s.clock (sliceOf k)
            let o := 0x40 + 0x40 * k
            let goal : BitVec 4 := BitVec.ofNat 4
              (max (max (c.supplyGoal.getD c.supplyReq).toNat s.theChart.margin.initialCode) (byteAt b o % 16))
            ((u.clock (sliceOf k)).supplyGoal = some goal ∨
              (u.clock (sliceOf k)).supplyGoal = none ∧ (u.clock (sliceOf k)).supplyReq = goal) ∧
            (bit (byteAt b (o + 1)) 0 = true → (u.marginOf k).told = true ∧ (c.fallback = false →
              ∃ m, m ∈ u.mgmt.change.toList ++ u.mgmt.changes ∧ m.kind = 3 ∧ m.target.toNat = k ∧ m.fallback = true)))))

/-- PARTITION_ENABLE (06 R127), QUEUE_ENABLE (R129, R130), CHANNEL_ENABLE (09 R232).
Clauses the spec leaves open follow the model's own readings: log 65. -/
def Obligations.EnablesTakeEffectUnderConditions : Prop :=
  ∀ (s : State) (w : Path),
    (∀ p : Fin 16, s.reach w (0x200100 + 16 * p.val) = true →
      (s.part p = .disabled → s.burstTear p = false ∨ s.feature 7 = true →
        exec (.partitionEnable w p) s = .next (State.written (s.setPart p .enabled) w)) ∧
      (s.part p ≠ .disabled ∨ (s.burstTear p = true ∧ s.feature 7 = false) → exec (.partitionEnable w p) s = .next (s.written w))) ∧
    (∀ (q : Fin 4096) (v : BitVec 32), s.reach w (0x220008 + 32 * q.val) = true →
      let k := s.queue q
      let k1 : Queue := { k with dbEnable := v.getLsbD 27, priority := BitVec.ofNat 2 (bits v.toNat 25 24) }
      let k2 : Queue := { k1 with channel := BitVec.ofNat 8 (bits v.toNat 23 16), sizeLog2 := BitVec.ofNat 8 (bits v.toNat 7 0) }
      let c := bits v.toNat 23 16
      let gives (x : Queue) : Prop := ∃ u : State, exec (.queueEnable w q v) s = .next (State.settle (u.written w)) ∧ u.queue q = x ∧
        (∀ j : Nat, j ≠ q → u.queue j = s.queue j) ∧ u.conf = s.conf ∧ u.chans = s.chans ∧ u.parts = s.parts
      (s.queueOwner q = none → exec (.queueEnable w q v) s = .next (State.settle (s.written w))) ∧
      (∀ p : Nat, s.queueOwner q = some p → v.getLsbD 26 = true →
        (k.state = .disabled ∨ k.state = .refused →
          (4 ≤ bits v.toNat 7 0 → bits v.toNat 7 0 ≤ 16 → c < 60 → (s.chanEntry c).inUse = true → (s.chan c).state ≠ .fenced →
            (s.chanEntry c).partition = p → s.part p = .enabled → s.start.ready = true →
            gives { k2 with enable := true, state := .enabled }) ∧
          (bits v.toNat 7 0 < 4 ∨ 16 < bits v.toNat 7 0 ∨ 60 ≤ c ∨ (s.chanEntry c).inUse = false ∨ (s.chan c).state = .fenced ∨
            (s.chanEntry c).partition ≠ p ∨ s.part p ≠ .enabled ∨ s.start.ready = false →
            gives { k2 with enable := false, state := .refused })) ∧
        (k.state ≠ .disabled → k.state ≠ .refused → gives k1))) ∧
    (∀ c : Fin 64, s.reach w (0x210000 + 256 * c.val) = true → ringPath w c = true →
      ((s.chan c).state = .disabled → (c.val < 60 ∨ (4 ≤ (s.chan c).mSizeLog2.toNat ∧ (s.chan c).mSizeLog2.toNat ≤ 16)) →
        exec (.channelEnable w c) s = .next (State.written (s.setChan c { s.chan c with state := .enabled, enable := true }) w)) ∧
      ((s.chan c).state ≠ .disabled → exec (.channelEnable w c) s = .next (s.written w)))

/-- QUEUE_STOP (06 R141), QUEUE_ABORT (R142), CHANNEL_STOP, CHANNEL_ABORT (09 R232), PARTITION_STOP (06 R127), PARTITION_ABORT
(17 R423), DISABLE_COMPLETE (06 R144).
Clauses the spec leaves open follow the model's own readings: log 85. -/
def Obligations.StopsAbortsAndTheirCompletion : Prop :=
  ∀ (s : State) (w : Path),
    (∀ (q : Fin 4096) (p : Nat), s.queueOwner q = some p → s.reach w (0x22000C + 32 * q.val) = true →
      let k := s.queue q
      let ends (c : Instr) (x : Queue) : Prop := ∃ u : State, exec c s = .next (State.settle (u.written w)) ∧ u.queue q = x ∧
        (∀ j : Nat, j ≠ q → u.queue j = s.queue j) ∧ u.conf = s.conf ∧ u.parts = s.parts
      (k.state = .enabled → ends (.queueStop w q) { k with state := .stopping, enable := false } ∧
        ends (.queueAbort w q) { k with state := .aborting, enable := false, abortProd := k.prod }) ∧
      (k.state = .stopping → ends (.queueAbort w q) { k with state := .aborting, enable := false, abortProd := k.prod }) ∧
      (k.state = .disabled → exec (.queueStop w q) s = .next (State.settle (s.written w)) ∧
        exec (.queueAbort w q) s = .next (State.settle (s.written w)))) ∧
    (∀ c : Fin 64, s.reach w (0x210000 + 256 * c.val) = true → ringPath w c = true →
      let ends (i : Instr) (n : ChState) (m : QState) : Prop := ∃ u : State, exec i s = .next (State.settle (u.written w)) ∧
        (u.chan c).state = n ∧ (u.chan c).enable = false ∧
        (∀ d : Nat, d ≠ c → (u.chan d).state = (s.chan d).state) ∧
        (∀ q : Nat, c.val < 60 → q ∈ s.boundQueues c → (s.queue q).state = .enabled → (u.queue q).state = m) ∧
        (∀ q : Nat, q ∉ s.boundQueues c → u.queue q = s.queue q) ∧ u.conf = s.conf ∧ u.parts = s.parts
      ((s.chan c).state = .enabled → ends (.channelStop w c) .stopping .stopping) ∧
      ((s.chan c).state = .enabled ∨ (s.chan c).state = .stopping → ends (.channelAbort w c) .aborting .aborting) ∧
      ((s.chan c).state = .disabled → exec (.channelStop w c) s = .next (State.settle (s.written w)) ∧
        exec (.channelAbort w c) s = .next (State.settle (s.written w)))) ∧
    (∀ p : Fin 16, s.reach w (0x200100 + 16 * p.val) = true →
      let moved (m : QState) : ChState := if m = .aborting then .aborting else .stopping
      let ends (i : Instr) (n : PartState) (m : QState) : Prop := ∃ u : State, exec i s = .next (State.settle (u.written w)) ∧
        u.part p = n ∧ (∀ j : Nat, j ≠ p → u.part j = s.part j) ∧
        (∀ q : Nat, q ∈ s.partQueues p → (s.queue q).state = .enabled → (u.queue q).state = m) ∧
        (∀ q : Nat, s.queueOwner q ≠ some p.val → u.queue q = s.queue q) ∧
        (∀ c : Nat, c ∈ s.partChans p → (s.chan c).state = .enabled → (u.chan c).state = moved m ∧ (u.chan c).enable = false) ∧
        (∀ c : Nat, c ∈ s.partChans p → (s.chan c).state = .stopping → (u.chan c).state = moved m) ∧
        (∀ c : Nat, c ∉ s.partChans p → (u.chan c).state = (s.chan c).state) ∧ u.conf = s.conf
      (s.part p = .enabled → ends (.partitionStop w p) .stopping .stopping) ∧
      (s.part p = .enabled ∨ s.part p = .stopping → ends (.partitionAbort w p) .aborting .aborting) ∧
      (s.part p = .disabled → exec (.partitionStop w p) s = .next (State.settle (s.written w)) ∧
        exec (.partitionAbort w p) s = .next (State.settle (s.written w)))) ∧
    (∀ q : Fin 4096, let k := s.queue q
      (k.state = .stopping ∨ (k.state = .aborting ∧ k.cons = k.abortProd ∧ k.cursor = 0) →
        ((s.chan k.channel.toNat).run = none → (s.chan k.channel.toNat).fetch = none →
          exec (.disableComplete (.queue q)) s = .next (s.setQueue q { k with state := .disabled, enable := false })) ∧
        (∀ r : Running, (s.chan k.channel.toNat).run = some r → r.queue = some q.val → exec (.disableComplete (.queue q)) s = .next s)) ∧
      (k.state = .enabled → exec (.disableComplete (.queue q)) s = .next s)) ∧
    (∀ c : Fin 64, let ch := s.chan c
      (ch.state = .stopping ∨ ch.state = .aborting → (∀ q ∈ s.boundQueues c, (s.queue q).state ≠ .stopping ∧ (s.queue q).state ≠ .aborting) →
        ch.run = none → ch.fetch = none → c.val < 60 ∨ ch.state = .stopping ∨ (ch.mCons = ch.mAbort ∧ ch.mCursor = 0) →
          exec (.disableComplete (.channel c)) s = .next (s.setChan c { ch with state := .disabled, enable := false })) ∧
      (ch.run ≠ none ∨ ch.fetch ≠ none ∨ (ch.state ≠ .stopping ∧ ch.state ≠ .aborting) →
        ∃ u : State, exec (.disableComplete (.channel c)) s = .next u ∧ u.chans = s.chans)) ∧
    (∀ p : Fin 16, s.part p = .stopping ∨ s.part p = .aborting →
      ((∀ q ∈ s.partQueues p, (s.queue q).state = .disabled ∨ (s.queue q).state = .refused) →
        (∀ c ∈ s.partChans p, (s.chan c).run = none ∧ (s.chan c).fetch = none ∧ (s.chan c).state ≠ .stopping ∧ (s.chan c).state ≠ .aborting) →
        (∀ r ∈ s.engReqs, s.reqPart r ≠ p) →
        (∀ e ∈ s.cmb.slots, s.slotOwner e.1 = some p.val → e.2.state ≠ .open_ ∧ e.2.state ≠ .writing) →
        exec (.disableComplete (.part p)) s = .next (s.setPart p .disabled)) ∧
      ((∃ r ∈ s.engReqs, s.reqPart r = p) ∨
        (∃ e ∈ s.cmb.slots, s.slotOwner e.1 = some p.val ∧ (e.2.state = .open_ ∨ e.2.state = .writing)) ∨
        (∃ c ∈ s.partChans p, (s.chan c).run ≠ none) →
        ∃ u : State, exec (.disableComplete (.part p)) s = .next u ∧ u.parts = s.parts))

/-- COMPLETION_COUNT_WRITE (09 R231), MANAGEMENT_DOORBELL_LO and _COMMIT (R234), DESCRIPTOR_BOUNDARY (06 R134),
DESCRIPTOR_FETCH_RETURN (09 R207).
Clauses the spec leaves open follow the model's own readings: log 85. -/
def Obligations.CountsDoorbellsAndFetches : Prop :=
  ∀ (s : State) (c : Fin 64),
    (∀ (w : Path) (v : BitVec 32), s.reach w (0x210008 + 256 * c.val) = true → exec (.completionCountWrite w c v) s =
      .next (State.written (s.setChan c { s.chan c with count := v }) w)) ∧
    (∀ (w : Path) (v : BitVec 32), ringPath w c = true →
      (60 ≤ c.val → s.reach w (0x210054 + 256 * c.val) = true → exec (.managementDoorbellLo w c v) s =
        .next (State.written (s.setChan c { s.chan c with mDbLo := some v }) w)) ∧
      (60 ≤ c.val → s.reach w (0x210058 + 256 * c.val) = true →
        ((s.chan c).mDbLo = none → exec (.managementDoorbellCommit w c v) s =
          .next (State.written { s with dbCheck := sat32 s.dbCheck } w)) ∧
        (∀ lo : BitVec 32, (s.chan c).mDbLo = some lo →
          let t := s.setChan c { s.chan c with mDbLo := none }
          let ch := s.chan c
          let good : Prop := crc16 (leBytes 6 (v ++ lo).toNat) = bits (v ++ lo).toNat 63 48 ∧ bits (v ++ lo).toNat 47 32 = 0x1000 + c.val
          (¬ good → exec (.managementDoorbellCommit w c v) s = .next (State.written { t with dbCheck := sat32 s.dbCheck } w)) ∧
          (good → ch.state = .unused ∨ ch.state = .fenced →
            exec (.managementDoorbellCommit w c v) s = .next (State.written { t with dbState := sat32 s.dbState } w)) ∧
          (good → ch.state ≠ .unused → ch.state ≠ .fenced →
            (2 ^ 31 ≤ (lo - ch.mProd).toNat ∨ lo = ch.mProd → exec (.managementDoorbellCommit w c v) s = .next (t.written w)) ∧
            ((lo - ch.mProd).toNat < 2 ^ 31 → lo ≠ ch.mProd → 2 ^ ch.mSizeLog2.toNat < (lo - ch.mCons).toNat →
              exec (.managementDoorbellCommit w c v) s = .next (State.written { t with dbCheck := sat32 s.dbCheck } w)) ∧
            ((lo - ch.mProd).toNat < 2 ^ 31 → lo ≠ ch.mProd → (lo - ch.mCons).toNat ≤ 2 ^ ch.mSizeLog2.toNat →
              ∃ u : State, exec (.managementDoorbellCommit w c v) s = .next (u.written w) ∧
                u.chan c = { ch with mDbLo := none, mProd := lo } ∧ (∀ d : Nat, d ≠ c → u.chan d = s.chan d) ∧ u.queues = s.queues))))) ∧
    ((s.chan c).run = none → (s.chan c).fetch = none → (s.chan c).state = .enabled → s.modeHeld (.channel c) = false → c.val < 60 →
      (s.queues.filter (s.servable c) = [] → exec (.descriptorBoundary c) s = .next s.settle) ∧
      (∀ (q : Nat) (k : Queue), s.queues.filter (s.servable c) = [(q, k)] →
        let at_ : BitVec 64 :=
          if k.cursor ≠ 0 then k.cursor else BitVec.ofNat 64 (k.base.toNat + 128 * (k.cons.toNat % 2 ^ k.sizeLog2.toNat))
        exec (.descriptorBoundary c) s = .next (State.settle ((s.setChan c { s.chan c with
          lastQ := q, fetch := some { addr := at_, queue := some q, aborting := k.state == .aborting, result := none } }).chanAccess c
          { mkAccess (.channel c) (.descFetch c) .read none 0 128 with fetch := true } at_)))) ∧
    ((s.chan c).fetch = none → exec (.descriptorFetchReturn c) s = .next s.settle) ∧
    (∀ (f : Fetch) (res : AccResult) (q : Nat), (s.chan c).fetch = some f → f.result = some res → f.queue = some q →
      let idle := s.setChan c { s.chan c with fetch := none }
      let st := (s.queue q).state
      (st ≠ .enabled → st ≠ .aborting → exec (.descriptorFetchReturn c) s = .next idle.settle) ∧
      (st = .enabled ∨ st = .aborting → res.status ≠ .ok → ∃ u : State, exec (.descriptorFetchReturn c) s = .next u.settle ∧
        (u.queue q).cons = (s.queue q).cons + 1 ∧ (u.queue q).cursor = 0 ∧ (u.queue q).pending =
          (if (s.queue q).pending = .ok then (if f.aborting then .aborted else res.status) else (s.queue q).pending) ∧
        (∀ j, j ≠ q → u.queue j = s.queue j) ∧ u.chans = idle.chans ∧ u.conf = s.conf) ∧
      (st = .enabled ∨ st = .aborting → res.status = .ok → res.bad = false →
        let d := wordsOf res.data
        let starts (p : Running → Prop) : Prop := ∃ (u : State) (r : Running), exec (.descriptorFetchReturn c) s = .next u.settle ∧
          p r ∧ r.words = d ∧ r.addr = f.addr ∧ r.queue = some q ∧ u = idle.setChan c { s.chan c with fetch := none, run := some r }
        (f.aborting = false → dCrcOk res.data = false → starts (fun r => r.early = some .checkFail ∧ r.noFence = true ∧
          r.listEnds = true ∧ r.phase = .drained)) ∧
        (f.aborting = true → dCrcOk res.data = true → starts (fun r => r.early = some .aborted ∧ r.phase = .drained)) ∧
        (f.aborting = false → dCrcOk res.data = true → dNext d % 128 ≠ 0 → starts (fun r => r.early = some .malformed ∧
          r.listEnds = true ∧ r.phase = .drained)) ∧
        (f.aborting = false → dCrcOk res.data = true → dNext d % 128 = 0 → dFence d % 16 = 0 → c.val < 60 → s.descOk d false = true →
          (dFlag d 4 = false → starts (fun r => r.phase = .checked ∧ r.early = none ∧ r.cls = (s.queue q).priority.toNat)) ∧
          (dFlag d 4 = true → s.paceOwned c d = true → starts (fun r => r.phase = .paceWait ∧ r.early = none)) ∧
          (dFlag d 4 = true → s.paceOwned c d = false → starts (fun r => r.early = some .permission ∧ r.phase = .drained)))))

/-- COPY (09 R213), FILL (R214), COMPARE (R215), HASH (R216), GATHER_SEQ (R218), SIGNAL (R219), WAIT (R220), REDUCE and MERGE (R221),
LINK (R222), ALLOC (06 R148), RELEASE (R151).
Clauses the spec leaves open follow the model's own readings: logs 68, 80, 84. -/
def Obligations.CheckedDescriptorsBegin : Prop :=
  ∀ (s : State) (c : Fin 64) (r : Running), (s.chan c).run = some r → r.phase = .checked →
    let d := r.words
    let row := rowBytes (s.pipeOps d) d
    let q := quotaOf (s.chanPart c)
    let begun (src : Bool) : State := State.holdTake (s.setChan c { s.chan c with run := some { r with
      phase := .headers, cls := s.classNow c r.queue, rowHold := row, lfsr := BitVec.ofNat 32 (dOperand d),
      prbs := BitVec.ofNat 31 (dOperand d), seqS := if src then some (openSeq (dSrc d)) else none, seqD := none } }) q row
    let starts (x : Running) : State :=
      let t := s.setChan c { s.chan c with run := some { x with unstarted := false } }
      if r.unstarted then t.setCursor c r.queue (BitVec.ofNat 64 (dNext d)) else t
    let done : State := starts { r with phase := .active, quit := true }
    let ends (i : Instr) (st : Status) (p : State → Prop) : Prop := ∃ (u : State) (r' : Running), exec i s = .next u.settle ∧
      (u.chan c).run = some r' ∧ r'.words = d ∧ r'.early = some (r.early.getD st) ∧ r'.phase = .active ∧ r'.quit = true ∧ p u
    let idle (u : State) : Prop := u.tide = s.tide ∧ u.conf = s.conf
    (dFlag d 3 = false → dFlag d 2 = false → s.holdFree q row = true →
      (dOp d = 1 → exec (.copy c) s = .next (begun false).settle) ∧ (dOp d = 2 → exec (.fill c) s = .next (begun false).settle) ∧
      (dOp d = 3 → exec (.compare c) s = .next (begun false).settle) ∧ (dOp d = 8 → exec (.hash c) s = .next (begun false).settle) ∧
      (dOp d = 9 → exec (.gatherSeq c) s = .next (State.settle ((begun true).readSeqHeader c false (BitVec.ofNat 64 (dSrc d))))) ∧
      (dOp d = 4 → exec (.reduce c) s = .next (State.settle ((begun false).probeResult c d))) ∧
      (dOp d = 5 → exec (.merge c) s = .next (State.settle ((begun false).probeResult c d)))) ∧
    (s.holdFree q row = false → dOp d = 1 → exec (.copy c) s = .next s.settle) ∧
    (dOp d = 6 →
      (dDst d = s.ownId → s.tideInRange (dTide d) (s.chanPart c) = true → ∃ u : State, exec (.signal c) s = .next u.settle ∧
        u.tideVal (dTide d) = s.tideVal (dTide d) + BitVec.ofNat 64 (dOperand d) ∧
        (∀ n, n ≠ dTide d → u.tideVal n = s.tideVal n) ∧ u.chans = done.chans ∧ u.queues = done.queues ∧ u.conf = s.conf) ∧
      (dDst d = s.ownId → s.tideInRange (dTide d) (s.chanPart c) = false → ends (.signal c) .permission (fun u =>
        u.tide = { s.tide with refused := sat32 s.tide.refused })) ∧
      (dDst d ≠ s.ownId → s.routeMask (dDst d) = 0 → ends (.signal c) .remoteUnreachable idle)) ∧
    (dOp d = 7 →
      (s.tideInRange (dTide d) (s.chanPart c) = false → ends (.wait c) .permission idle) ∧
      (s.tideInRange (dTide d) (s.chanPart c) = true →
        ((s.tideVal (dTide d) - BitVec.ofNat 64 (dOperand d)).toNat < 2 ^ 63 → exec (.wait c) s = .next done.settle) ∧
        (2 ^ 63 ≤ (s.tideVal (dTide d) - BitVec.ofNat 64 (dOperand d)).toNat → exec (.wait c) s =
          .next (State.settle (starts { r with phase := .waiting }))))) ∧
    (dOp d = 10 → exec (.link c) s = .next done.settle) ∧
    (dOp d = 11 → ∀ p : Nat, s.chanPart c = some p →
      let pages := pagesFor (bits (dOperand d) 47 0)
      (64 < pages → ∃ (u : State) (j : AllocJob), exec (.alloc c) s = .next u.settle ∧ u.alloc.jobs = s.alloc.jobs ++ [j] ∧
        j.stage = .slow ∧ j.n = pages ∧ j.part = p ∧ j.asker = .channel c ∧ j.isFree = false ∧ idle u) ∧
      (pages ≤ 64 → s.pool p = none ∨
        (∃ k, s.pool p = some k ∧ (k.stack.length < pages ∨ s.theChart.limits.journalRing < pages)) → ends (.alloc c) .quota idle)) ∧
    (∀ (g : Fin 4) (i : Fin 16), c.val = 16 * g.val + i.val →
      (dOp d = 12 → exec (.release g i) s = .next (State.settle ((s.setChan c { s.chan c with
        run := some { r with phase := .sending } }).chanAccess c
        (mkAccess (.channel c) (.freeRecord (.channel c) (bits (dOperand d) 31 0)) .read none 0 (min 64 (512 - dSrc d % 512)))
        (BitVec.ofNat 64 (dSrc d))))) ∧
      (dOp d ≠ 12 → exec (.release g i) s = .next s.settle)) ∧
    (dOp d ≠ 1 → exec (.copy c) s = .next s.settle) ∧ (dOp d ≠ 2 → exec (.fill c) s = .next s.settle) ∧
    (dOp d ≠ 6 → exec (.signal c) s = .next s.settle) ∧ (dOp d ≠ 7 → exec (.wait c) s = .next s.settle) ∧
    (dOp d ≠ 10 → exec (.link c) s = .next s.settle) ∧ (dOp d ≠ 11 → exec (.alloc c) s = .next s.settle)

/-- BURST_GRANT (09 R230), READ_BURST_RETURN (R227), PACE_SAMPLE and PACE_TIMEOUT (R228), DESCRIPTOR_END (R224), ALLOCATOR_SLOW_PATH
and JOURNAL_ROOM (06 R148), HD_JNL_CONS_WRITE (R149).
Clauses the spec leaves open follow the model's own readings: logs 67, 68, 82, 83. -/
def Obligations.BurstsPacingEndsAndJournal : Prop :=
  ∀ s : State,
    (∀ k : Fin 4, (∀ i, i < 16 → s.readReady (16 * k.val + i) = false) → exec (.burstGrant k false) s = .next s.settle) ∧
    (∀ k : Fin 4, (∀ i, i < 16 → s.writeReady (16 * k.val + i) = false) → exec (.burstGrant k true) s = .next s.settle) ∧
    (∀ (k : Fin 4) (wr : Bool) (c : Nat) (turn : Arbiter) (r : Running) (adr : BitVec 64),
      (∀ (i : Nat) (x : Running), i < 16 → (s.chan (16 * k.val + i)).run = some x → dFlag x.words 4 = false) →
      (s.chan c).run = some r → dFlag r.words 4 = false → badPhysical c adr = false →
      let goes (y : Running) (arb : State → Arbiter) (acc : Access) : Prop := ∃ u : State,
        exec (.burstGrant k wr) s = .next (State.settle (u.chanAccess c acc adr)) ∧ (u.chan c).run = some y ∧ arb u = turn ∧
        u.hold = (s.holdTake (quotaOf (s.chanPart c)) 256).hold ∧ (∀ j : Nat, j ≠ c → (u.chan j).run = (s.chan j).run) ∧
        u.accesses = s.accesses ∧ u.conf = s.conf ∧ u.tide = s.tide
      (∀ n : Nat, wr = false → s.arbitrate k s.readReady 5 (s.readArb k) = some (c, turn) → (s.nextRead c r).1 = some (adr, n) →
        goes { r with srcNext := r.srcNext + n, nextBurst := r.nextBurst + 1, reads := r.reads ++ [{ burst := r.nextBurst, result := none, arrived := false }] }
          (fun u => u.readArb k) (mkAccess (.channel c) (.readBurst c r.nextBurst) .read none 0 n)) ∧
      (∀ (b : OutByte) (rest : List OutByte), wr = true → s.arbitrate k s.writeReady 5 (s.writeArb k) = some (c, turn) →
        r.nextWrite (s.pipeOps r.words) = b :: rest → r.seqD = none → b.addr = adr →
        let p := (b :: rest).take (256 - adr.toNat % 256)
        goes { r with outQ := r.outQ.drop p.length } (fun u => u.writeArb k) {
          mkWrite (.channel c) (.writeBurst c) none 0 (p.map (·.val)) (linePoison adr.toNat p) with
            tide := dTideOpt r.words, sem := if dTide r.words = 0xFFFF then 0 else 2, scope := if dTide r.words = 0xFFFF then 0 else 4,
            bad := p.map (·.poison) })) ∧
    (∀ (c : Fin 64) (r : Running), (s.chan c).run = some r →
      let with_ (x : Running) : State := s.setChan c { s.chan c with run := some x }
      (∀ (a b : ReadBurst) (rest : List ReadBurst), r.reads = a :: b :: rest → a.result = none → a.arrived = false → b.result ≠ none →
        s.mgmt.change = none → (∀ x ∈ a :: rest, x.burst ≠ b.burst) →
        exec (.readBurstReturn c b.burst) s =
          .next (State.settle (with_ { r with reads := a :: { b with arrived := true } :: rest }))) ∧
      (let l := s.paceLevel c r.words
       let noted : State := s.setChan c { s.chan c with paceLevel := BitVec.ofNat 16 (min l 0xFFFF) }
       let goes (x : Running) : State := s.setChan c { s.chan c with paceLevel := BitVec.ofNat 16 (min l 0xFFFF), run := some x }
       (r.phase = .paceWait → dPaceHi r.words ≤ l →
         exec (.paceSample c) s = .next (State.settle (goes { r with paused := false, phase := .checked }))) ∧
       (r.paused = true → r.phase ≠ .paceWait → dPaceHi r.words ≤ l →
         exec (.paceSample c) s = .next (State.settle (goes { r with paused := false }))) ∧
       (r.phase = .paceWait ∨ r.paused = true → l < dPaceHi r.words → exec (.paceSample c) s = .next noted.settle) ∧
       (r.phase ≠ .paceWait → r.paused = false → exec (.paceSample c) s = .next s.settle)) ∧
      (r.paused = true → s.theChart.limits.waitLimit ≠ 0 → ∃ (u : State) (r' : Running), exec (.paceTimeout c) s = .next u.settle ∧
        (u.chan c).run = some r' ∧ r'.early = some (r.early.getD .timeout) ∧ r'.quit = true ∧ r'.stopWrites = true ∧
        r'.paused = false ∧ u.conf = s.conf ∧ u.tide = s.tide) ∧
      (r.paused = false ∨ s.theChart.limits.waitLimit = 0 → exec (.paceTimeout c) s = .next s.settle) ∧
      (∀ (a : Access) (n : Nat) (res : AccResult), a.purpose = .freeRecord (.channel c) n → res.status ≠ .sealed → a.data = [] → 64 ≤ res.data.length →
        let ended (st : Status) : Prop := ∃ r' : Running, s.tell a res = s.endEarly c st ∧ ((s.tell a res).chan c).run = some r' ∧
          r'.early = some (r.early.getD st) ∧ r'.quit = true ∧ r'.words = r.words
        (res.status ≠ .ok → ended res.status) ∧
        (res.status = .ok → res.bad = true ∨ recordOk res.data = false → ended .checkFail) ∧
        (res.status = .ok → res.bad = false → recordOk res.data = true →
          (∀ p : Nat, a.mc = false → a.part = some p → p ≠ byteAt res.data 4 → ended .permission) ∧
          (a.mc = true ∨ a.part = some (byteAt res.data 4) → s.pool (byteAt res.data 4) = none → ended .quota) ∧
          (∀ k : Pool, a.mc = true ∨ a.part = some (byteAt res.data 4) → s.pool (byteAt res.data 4) = some k →
            recordRsv res.data = true ∨ fld res.data 8 8 < k.arenaBase.toNat ∨ fld res.data 0x10 8 = 0 → ended .malformed))) ∧
      (r.phase ≠ .drained → exec (.descriptorEnd c) s = .next s.settle) ∧
      (r.phase = .drained → r.noStatus = false → exec (.descriptorEnd c) s =
        .next (State.settle ((with_ { r with phase := .statusWrite }).chanAccess c
          (mkWrite (.channel c) (.statusWrite c) none 0 (leBytes 4 r.statusWord)) (r.addr + 0x78)))) ∧
      (r.early = none → dOp r.words ≠ 3 → r.cmb.poison = false → r.statusWord = 2 ^ 8) ∧
      (∀ st, r.early = some st → st ≠ .ok → dOp r.words ≠ 3 → r.statusWord = statusCode st + 2 ^ 8 + 2 ^ 9)) ∧
    (s.harbour = false → exec .allocatorSlowPath s = .next s.settle) ∧
    (s.harbour = true → ∀ (j : AllocJob) (rest : List AllocJob), s.alloc.jobs = j :: rest → j.stage = .slow → j.isFree = false →
      (∀ k, s.pool j.part = some k → j.n ≤ k.stack.length → j.n ≤ s.theChart.limits.journalRing → s.journalRoom j.n = false →
        (∀ x ∈ rest, x.id ≠ j.id) → exec .allocatorSlowPath s =
          .next (State.settle { s with alloc := { s.alloc with jobs := { j with stage := .room } :: rest } })) ∧
      (s.pool j.part = none → exec .allocatorSlowPath s = .next (State.settle (s.jobEnd j .quota)))) ∧
    ((∀ j ∈ s.alloc.jobs, j.stage ≠ .room) → exec .journalRoom s = .next s.settle) ∧
    (∀ (j : AllocJob) (rest : List AllocJob), s.alloc.jobs = j :: rest → j.stage = .room →
      (s.journalRoom j.n = true → exec .journalRoom s = .next (State.settle (s.jobGo j))) ∧
      (s.journalRoom j.n = false → exec .journalRoom s = .next s.settle)) ∧
    (∀ (w : Path) (v : BitVec 32), s.reach w 0x20020C = true →
      exec (.hdJnlConsWrite w v) s = .next (State.written { s with alloc := { s.alloc with jnlCons := v } } w))

/-- TIDEMARK_REACHED (13 R319), WAIT_LIMIT_EXPIRY (09 R220; 13 R326), HD_TIDE_LO_WRITE, HD_TIDE_HI_WRITE (R321), HD_TIDE_MODE_WRITE (R334). -/
def Obligations.TideWaitsAndDriverWrites : Prop :=
  ∀ s : State,
    (∀ (c : Fin 64) (r : Running), (s.chan c).run = some r → r.phase = .waiting →
      let away : BitVec 64 := s.tideVal (dTide r.words) - BitVec.ofNat 64 (dOperand r.words)
      (away.toNat < 2 ^ 63 → r.unstarted = false → exec (.tidemarkReached (.channel c)) s = .next (State.settle
        (s.setChan c { s.chan c with run := some { r with phase := .active, quit := true } }))) ∧
      (away.toNat < 2 ^ 63 → ∃ (u : State) (r' : Running), exec (.tidemarkReached (.channel c)) s = .next u.settle ∧
        (u.chan c).run = some r' ∧ r'.words = r.words ∧ r'.phase = .active ∧ r'.quit = true ∧ r'.early = r.early ∧
        u.tide = s.tide ∧ u.conf = s.conf) ∧
      (2 ^ 63 ≤ away.toNat → exec (.tidemarkReached (.channel c)) s = .next s.settle) ∧
      ((∀ j ∈ s.alloc.jobs, j.asker ≠ .channel c) →
        (s.theChart.limits.waitLimit = 0 → exec (.waitLimitExpiry (.channel c)) s = .next s.settle) ∧
        (s.theChart.limits.waitLimit ≠ 0 → ∃ (u : State) (r' : Running), exec (.waitLimitExpiry (.channel c)) s = .next u.settle ∧
          (u.chan c).run = some r' ∧ r'.early = some (r.early.getD .timeout) ∧ r'.phase = .active ∧ r'.quit = true ∧
          u.tide = s.tide ∧ u.conf = s.conf))) ∧
    (∀ (e : Fin 8) (tag : BitVec 8) (r : EngReq), s.engReq e.val tag = some r → r.waiting = true →
      let away : BitVec 64 := s.tideVal (fld r.beats 0 2) - BitVec.ofNat 64 (fld r.beats 8 8)
      (away.toNat < 2 ^ 63 → exec (.tidemarkReached (.engine e tag)) s = .next (State.settle ((s.engDone r .ok 0 0).enginePump))) ∧
      (2 ^ 63 ≤ away.toNat → exec (.tidemarkReached (.engine e tag)) s = .next s.settle) ∧
      (s.theChart.limits.waitLimit ≠ 0 → exec (.waitLimitExpiry (.engine e tag)) s =
        .next (State.settle (State.roomExpired ((s.engDone r .timeout 0 0).enginePump) (.engine e.val tag)))) ∧
      (s.theChart.limits.waitLimit = 0 → exec (.waitLimitExpiry (.engine e tag)) s = .next s.settle)) ∧
    (∀ (w : Path) (n : Fin 65536) (v lo : BitVec 32),
      let may : Prop := ∀ p : Nat, s.tideOwner n.val = some p → s.part p = .disabled
      (s.reach w (0x240000 + 8 * n.val) = true →
        (may → ∃ t : State, exec (.hdTideLoWrite w n v) s = .next (t.written w) ∧
          (t.latch (pathIx w)).staged = some (n.val, v) ∧ t.tide = s.tide ∧ t.conf = s.conf) ∧
        (¬ may → exec (.hdTideLoWrite w n v) s = .next (s.written w))) ∧
      (s.reach w (0x240004 + 8 * n.val) = true →
        (may → (s.latch (pathIx w)).staged = some (n.val, lo) → ∃ t : State, exec (.hdTideHiWrite w n v) s = .next (t.written w) ∧
          t.tideVal n.val = v ++ lo ∧ (t.latch (pathIx w)).staged = none ∧
          (∀ j, j ≠ n.val → t.tideVal j = s.tideVal j) ∧ t.tide.packets = s.tide.packets ∧ t.conf = s.conf) ∧
        ((s.latch (pathIx w)).staged = none → exec (.hdTideHiWrite w n v) s = .next (s.written w)) ∧
        (∀ m : Nat, m ≠ n.val → (s.latch (pathIx w)).staged = some (m, lo) → exec (.hdTideHiWrite w n v) s = .next (s.written w)) ∧
        (¬ may → exec (.hdTideHiWrite w n v) s = .next (s.written w)))) ∧
    (∀ (w : Path) (k : Fin 2048) (v : BitVec 32), s.reach w (0x201000 + 4 * k.val) = true → ∃ t : State,
      exec (.hdTideModeWrite w k v) s = .next (t.written w) ∧ t.tide.values = s.tide.values ∧
      (∀ j, j < 32 → (∀ p : Nat, s.tideOwner (32 * k.val + j) = some p → s.part p = .disabled) →
        t.tidePkt (32 * k.val + j) = v.getLsbD j) ∧
      (∀ j (p : Nat), j < 32 → s.tideOwner (32 * k.val + j) = some p → s.part p ≠ .disabled →
        t.tidePkt (32 * k.val + j) = s.tidePkt (32 * k.val + j)) ∧
      (∀ n, n < 32 * k.val ∨ 32 * k.val + 32 ≤ n → t.tidePkt n = s.tidePkt n))

/-- CONTRIB (12 R294), CONTRIBUTION_PIECE (R294), COMBINE_FOLD (R297), COMBINE_TIMEOUT (R300).
Clauses the spec leaves open follow the model's own readings: logs 87, 103. -/
def Obligations.CombineSlotsRefuseFoldAndExpire : Prop :=
  ∀ s : State,
    (∀ (k : Packet) (st : Status),
      let sl := s.slot (pieceSlot k)
      let data : Prop := pieceAt k ≠ 0 ∧ pieceAt k % 256 + k.payload.length ≤ 256 ∧ pieceAt k + k.payload.length ≤ 16777216
      let same : Prop := sl.round.toNat = pieceRound k
      let refused : Prop := (256 < pieceAt k % 256 + k.payload.length ∧ st = .malformed) ∨
        (data ∧ s.pieceOwned k = false ∧ st = .permission) ∨
        (data ∧ s.pieceOwned k = true ∧ ((sl.state = .open_ ∨ sl.state = .writing) ∧ ¬ same ∧ st = .quota ∨
          sl.state = .done ∧ same ∧ st = .malformed ∨ sl.state = .failed ∧ same ∧ st = sl.status ∨
          s.partOn (s.slotPart (pieceSlot k)) = false ∧ st = .permission ∧
            (sl.state = .free_ ∨ (¬ same ∧ (sl.state = .done ∨ sl.state = .failed)))))
      refused →
        (∀ p : Fin 4, s.warmStart = false → s.warmReset = false → s.linkFault .slA = none → (s.peer p).inbox.find? (fun x => x.opcode == 0x05) = some k →
          ∃ u : State, exec (.contrib p) s = .next (State.settle (u.sendPacket (s.answer .rsp 0x18 k.src k.tag st 0 [] 0))) ∧
            (u.peer p).inbox = (s.peer p).inbox.erase k ∧ u.cmb = { s.cmb with refused := sat32 s.cmb.refused 1 } ∧
            u.tide = s.tide ∧ u.conf = s.conf) ∧
        (∀ (c : Fin 64) (rest : List Packet) (r : Running), (s.chan c).pieces = k :: rest → (s.chan c).run = some r → r.early = none →
          st ≠ .ok → ∃ (u : State) (r' : Running), exec (.contributionPiece c) s = .next u.settle ∧ (u.chan c).pieces = rest ∧
            (u.chan c).run = some r' ∧ r'.early = some st ∧ r'.quit = true ∧ r'.cmb.resent = true ∧
            u.cmb = { s.cmb with refused := sat32 s.cmb.refused 1 } ∧ u.tide = s.tide ∧ u.conf = s.conf)) ∧
    (∀ (k : Packet) (x : Slot),
      let n := pieceSlot k
      let i := pieceIndex k
      let sl := s.slot n
      let h := cmbHeaderOf (k.payload.take 64)
      let parks : Prop := pieceAt k ≠ 0 ∧ k.payload ≠ [] ∧ pieceAt k % 256 + k.payload.length ≤ 256 ∧
        pieceAt k + k.payload.length ≤ 16777216 ∧ s.pieceOwned k = true ∧ sl.state = .open_ ∧ sl.round.toNat = pieceRound k ∧
        (∀ e ∈ sl.refused, e.1 ≠ i) ∧ i ∉ sl.accepted ∧ (i, pieceAt k / 256) ∉ sl.served ∧ s.holdFree (s.slotPart n) 256 = true ∧
        x = { sl with served := sl.served ++ [(i, pieceAt k / 256)],
                      parked := sl.parked ++ [{ index := i, first := pieceAt k, data := (pieceData k).2 }] }
      let opens : Prop := pieceAt k = 0 ∧ k.payload.length = 64 ∧ s.headerCheck k h = .ok ∧ h.failed = false ∧ h.index < h.k ∧
        sl.state = .free_ ∧ s.partOn (s.slotPart n) = true ∧ s.holdFree (s.slotPart n) h.accBytes = true ∧
        x = { state := .open_, round := BitVec.ofNat 16 (pieceRound k), accepted := [h.index], header := some h, reserved := h.accBytes,
              acc := List.replicate h.count (zeros h.outSize, false, 0) }
      parks ∨ opens →
        (∀ p : Fin 4, s.warmStart = false → s.warmReset = false → s.linkFault .slA = none → (s.peer p).inbox.find? (fun y => y.opcode == 0x05) = some k →
          ∃ u : State, exec (.contrib p) s = .next (State.settle (u.sendPacket (s.answer .rsp 0x18 k.src k.tag .ok 0 [] 0))) ∧
            (u.peer p).inbox = (s.peer p).inbox.erase k ∧ u.slot n = x ∧ (∀ j, j ≠ n → u.slot j = s.slot j) ∧
            u.tide = s.tide ∧ u.conf = s.conf) ∧
        (∀ (c : Fin 64) (rest : List Packet) (r : Running), (s.chan c).pieces = k :: rest → (s.chan c).run = some r →
          ∃ u : State, exec (.contributionPiece c) s = .next u.settle ∧ (u.chan c).pieces = rest ∧
            (u.chan c).run = some { r with cmb := { r.cmb with open_ := r.cmb.open_ - 1 } } ∧ u.slot n = x ∧
            (∀ j, j ≠ n → u.slot j = s.slot j) ∧ u.tide = s.tide ∧ u.conf = s.conf)) ∧
    (∀ c : Fin 64, (s.chan c).pieces = [] → exec (.contributionPiece c) s = .next s.settle) ∧
    (∀ n : Fin 4096, let k := s.slot n
      (k.header = none ∨ k.state ≠ .open_ → exec (.combineFold n) s = .next s.settle) ∧
      (∀ h : CmbHeader, k.header = some h → k.state = .open_ →
        let acc := ((List.range k.acc.length).zip k.acc).map (fun x =>
          if k.accepted.contains x.2.2.2 then foldAt h k.parked x.2.2.2 x.1 x.2 else x.2)
        exec (.combineFold n) s = .next (State.settle (State.slotSettle
          ((if acc = k.acc then s else s.foldCycles).setSlot n { k with acc := acc }) n))) ∧
      (k.state = .open_ → ∃ u : State, exec (.combineTimeout n) s = .next u.settle ∧ (u.slot n).state = .failed ∧
        (u.slot n).status = .timeout ∧ (u.slot n).parked = [] ∧ (u.slot n).acc = [] ∧ (u.slot n).reserved = 0 ∧
        (u.slot n).round = k.round ∧ u.cmb.endStatus = .timeout ∧ u.cmb.endSlot = BitVec.ofNat 12 n.val ∧
        u.cmb.failed = sat32 s.cmb.failed ∧ (∀ j : Nat, j ≠ n → u.slot j = s.slot j) ∧ u.tide = s.tide ∧ u.conf = s.conf) ∧
      (k.state ≠ .open_ → exec (.combineTimeout n) s = .next s.settle))

/-- EN_ROOT_WRITE (07 R161), EN_HOSTWIN_WRITE (R177), WALK_START (R172), WALK_ENTRY_RETURN (R166), INVALIDATE_RANGE, _PARTITION, _ALL (08
R194, R195), INVALIDATION_TAKEN (R196), _COMPLETE (R198), _DEADLINE (R199).
Clauses the spec leaves open follow the model's own readings: logs 31, 32, 36, 37, 65, 115, 116. -/
def Obligations.RootsWindowsWalksAndInvalidations : Prop :=
  ∀ (s : State) (w : Path) (v : BitVec 32),
    (∀ (p : Fin 16) (hi : Bool), s.reach w (0x100000 + 8 * p.val + (if hi then 4 else 0)) = true →
      (s.part p ≠ .disabled → exec (.enRootWrite w p hi v) s = .next (s.written w)) ∧
      (s.part p = .disabled → ∃ t : State, exec (.enRootWrite w p hi v) s = .next (t.written w) ∧
        (∀ j : Nat, j ≠ p → t.root j = s.root j) ∧ t.part = s.part ∧
        (hi = false → (t.root p).pa = BitVec.ofNat 60 ((s.root p).pa.toNat / 2 ^ 32 * 2 ^ 32 + v.toNat / 4096 * 4096)) ∧
        (hi = true → (t.root p).pa = BitVec.ofNat 60 (bits v.toNat 27 0 * 2 ^ 32 + (s.root p).pa.toNat % 2 ^ 32)) ∧
        ((t.root p).valid = true → instOf (t.root p).pa = s.ownId ∧ (hi = false → v.getLsbD 0 = true)) ∧
        (instOf (t.root p).pa = s.ownId → (t.root p).valid = (if hi then (s.root p).valid else v.getLsbD 0)))) ∧
    (∀ k reg : Fin 4, s.reach w (0x100100 + 16 * k.val + 4 * reg.val) = true →
      (s.allPartsDisabled = false → exec (.enHostwinWrite w k reg v) s = .next (s.written w)) ∧
      (s.allPartsDisabled = true → ∃ t : State, exec (.enHostwinWrite w k reg v) s = .next (t.written w) ∧
        (∀ j : Nat, j ≠ k → t.hostWin j = s.hostWin j) ∧
        (reg.val = 0 → (t.hostWin k).base = BitVec.ofNat 18 v.toNat ∧ (t.hostWin k).port = v.getLsbD 30 ∧
          ((t.hostWin k).enable = true → v.getLsbD 31 = true ∧ s.hostWinBad k (t.hostWin k) = false)) ∧
        (reg.val = 1 → (t.hostWin k).size = BitVec.ofNat 18 v.toNat ∧ (t.hostWin k).enable = (s.hostWin k).enable))) ∧
    (∀ k : Fin 32, (s.fenced.walkers.getLsbD k = true ∨ (∃ x ∈ s.trans.walks, x.walker = some k.val) ∨ s.nextWalkPart = none →
        exec (.walkStart k) s = .next s.settle) ∧
      (s.fenced.walkers.getLsbD k = false → (∀ x ∈ s.trans.walks, x.walker ≠ some k.val) → ∀ (p : Nat) (pool : Bool), s.nextWalkPart = some (p, pool) →
        exec (.walkStart k) s = .next (State.settle (s.giveWalker p pool k))) ∧
      ((∀ x ∈ s.trans.walks, x.walker ≠ some k.val ∨ x.got = none) → exec (.walkEntryReturn k) s = .next s.settle) ∧
      (∀ (x : Walk) (r : AccResult), s.trans.walks.find? (fun y => y.walker == some k.val && y.got.isSome) = some x → x.got = some r →
        (r.status ≠ .ok → exec (.walkEntryReturn k) s = .next (State.settle (eachOf (tellError r.status) x.askers (s.dropWalk x.id)))) ∧
        (r.status = .ok → r.poison = [true] → exec (.walkEntryReturn k) s = .next (State.settle (s.walkFault x .checkFail))) ∧
        (r.status = .ok → true ∉ r.poison →
          let e := leNat r.data
          let sound : Prop := crc8 (leBytes 7 e) = e >>> 56
          let pa := bits e 47 9 * 2 ^ 21
          let size := 2 ^ (21 + 9 * (x.level - 1))
          let t := BitVec.ofNat 60 (bits e 55 8 * 4096)
          let l : Leaf := {
            part := x.part, level := x.level, vbase := BitVec.ofNat 64 (roundDown x.va.toNat size), pbase := BitVec.ofNat 60 pa
            rd := e.testBit 2, wr := e.testBit 3, at_ := e.testBit 4, cw := e.testBit 5 }
          (¬ sound → exec (.walkEntryReturn k) s = .next (State.settle (s.walkFault x .checkFail))) ∧
          (sound → e.testBit 0 = false → exec (.walkEntryReturn k) s = .next (State.settle (s.walkFault x .notPresent))) ∧
          (sound → e.testBit 0 = true → e.testBit 1 = false → 2 ≤ x.level → e &&& 0xFC = 0 → (bits e 55 8 * 4096) >>> 48 = s.ownId →
            ∃ u : State, exec (.walkEntryReturn k) s = .next u.settle ∧ u.trans.l2 = s.trans.l2 ∧ u.conf = s.conf ∧ u.tide = s.tide ∧
              u.trans.walks = s.trans.walks.map (fun y => if y.id = x.id then { x with level := x.level - 1, table := t, got := none } else y) ∧
              u.accesses = s.accesses ++ [{ mkAccess .block (.walkEntry x.id) .read (some x.part)
                (BitVec.ofNat 60 (t.toNat + 8 * ((x.va.toNat >>> (21 + 9 * (x.level - 2))) % 512))) 8 with id := s.nextId }] ∧
              (x.marked = true → u.trans.walkPtrs = s.trans.walkPtrs) ∧
              (x.marked = false → ∃ y ∈ u.trans.walkPtrs, y.part = x.part ∧ y.level = x.level ∧ y.table = t)) ∧
          (sound → e.testBit 0 = true → e.testBit 1 = true → 1 ≤ x.level → x.level ≤ 3 → e &&& 0x1C0 = 0 → pa % size = 0 →
            (e.testBit 4 = true → e.testBit 2 = true ∧ e.testBit 3 = true) →
            s.windowConsistent x.part (pa >>> 48) (pa % 2 ^ 48) size (e.testBit 5) = true →
            pa >>> 48 = s.ownId ∨ s.routeMask (pa >>> 48) ≠ 0 →
            (x.marked = true → exec (.walkEntryReturn k) s = .next (State.settle (eachOf (walkAgain x) x.askers (s.dropWalk x.id)))) ∧
            (x.marked = false → ∃ u : State, exec (.walkEntryReturn k) s = .next (State.settle (eachOf (tellLeaf l) x.askers u)) ∧
              l ∈ u.trans.l2 ∧ u.trans.walks = s.trans.walks.filter (fun y => y.id != x.id) ∧ u.accesses = s.accesses ∧
              u.stalls = s.stalls ∧ u.conf = s.conf ∧ u.tide = s.tide) ∧
            (∀ (u : State) (id n : Nat) (a : Access) (va : BitVec 64) (c b : Nat), u.acc id = some a → a.va = some va →
              a.purpose = .readBurst c b → l.rd = true → a.kind = .read →
              (tellLeaf l (.access id, n) u).acc id = some { a with
                pa := BitVec.ofNat 60 (pa + (va.toNat - l.vbase.toNat)), cw := l.cw, leaf := some l, stage := .held }))))) ∧
    (s.reach w 0x100C0C = true → ∀ c : Instr,
      c = .invalidateRange w v ∨ c = .invalidatePartition w v ∨ c = .invalidateAll w v →
      let p := bits v.toNat 27 24
      let scope := bits v.toNat 21 20
      (v.getLsbD 31 = false → exec c s = .next (s.written w)) ∧
      (v.getLsbD 31 = true → 16 ≤ s.inv.held.length → exec c s = .next (State.written { s with inv := { s.inv with accept := 1 } } w)) ∧
      (v.getLsbD 31 = true → s.inv.held.length < 16 →
        scope = 3 ∨ (scope ≠ 2 ∧ s.partExists p = false) ∨ (scope = 0 ∧ s.inv.pages = 0) →
        exec c s = .next (State.written { s with inv := { s.inv with accept := 2 } } w)) ∧
      (v.getLsbD 31 = true → s.inv.held.length < 16 → scope ≠ 3 → scope = 2 ∨ s.partExists p = true → scope ≠ 0 ∨ s.inv.pages ≠ 0 →
        ∃ x : InvCmd, exec c s = .next (State.written { s with inv := {
            s.inv with accept := 0, issued := s.inv.issued + 1, held := s.inv.held ++ [x] } } w) ∧
          x.source = .driver ∧ x.ticket = s.inv.issued + 1 ∧ x.part = p ∧ x.va = s.inv.va.toNat ∧ x.pages = s.inv.pages.toNat ∧
          x.drain = v.getLsbD 16 ∧ x.taken = false ∧ (x.scope = .range ↔ scope = 0) ∧ (x.scope = .partition ↔ scope = 1))) ∧
    ((∀ x ∈ s.inv.held, x.taken = true) → exec .invalidationTaken s = .next s.settle) ∧
    (∀ (x : InvCmd) (rest : List InvCmd), s.inv.held = x :: rest →
      x.taken = false → (∀ y ∈ rest, y.taken = false) →
        (x.drain = true → ∃ u : State, exec .invalidationTaken s = .next u.settle ∧
          u.inv.held = { x with taken := true, inFlight := s.invFlight x } :: rest ∧
          (∀ l, l ∈ u.trans.l2 ↔ l ∈ s.trans.l2 ∧ x.covers l = false) ∧ u.accesses = s.accesses ∧ u.conf = s.conf ∧ u.tide = s.tide) ∧
        (x.drain = false → x.source = .driver → s.inv.atsWait = [] →
          (∀ y ∈ rest, y.source = .driver → (y.ticket - x.ticket).toNat < 2 ^ 31) →
          ∃ u : State, exec .invalidationTaken s = .next u.settle ∧ u.inv.held = rest ∧ u.inv.completed = x.ticket ∧
            (∀ l, l ∈ u.trans.l2 ↔ l ∈ s.trans.l2 ∧ x.covers l = false) ∧ u.conf = s.conf ∧ u.tide = s.tide)) ∧
    ((∀ x ∈ s.inv.held, x.taken = false ∨ ∃ i ∈ x.inFlight, s.inFlightStill i = true) →
      exec .invalidationComplete s = .next s.settle) ∧
    (∀ (pre : List InvCmd) (x : InvCmd) (rest : List InvCmd), s.inv.held = pre ++ x :: rest →
      (∀ y ∈ pre, y.taken = false ∨ ∃ i ∈ y.inFlight, s.inFlightStill i = true) →
      x.taken = true → (∀ i ∈ x.inFlight, s.inFlightStill i = false) → (∀ y ∈ rest, y.taken = true → y.drain = true) →
      s.inv.atsWait = [] →
        (x.source = .driver → (∀ y ∈ pre ++ rest, y.source = .driver → (y.ticket - x.ticket).toNat < 2 ^ 31) →
          ∃ u : State, exec .invalidationComplete s = .next u.settle ∧ u.inv.held = pre ++ rest ∧ u.inv.completed = x.ticket ∧
            u.inv.lastRes = (if x.late then .timeout else .ok) ∧ u.trans = s.trans ∧ u.conf = s.conf ∧ u.tide = s.tide ∧
            (s.inv.fence.toNat ≠ 0 → u.accesses.length = s.accesses.length + 1) ∧
            (s.inv.fence.toNat = 0 → u.accesses = s.accesses)) ∧
        (∀ n tag : Nat, x.source = .ats n tag → ∃ u : State, exec .invalidationComplete s = .next u.settle ∧
          u.inv.held = pre ++ rest ∧ u.inv.completed = s.inv.completed ∧ u.trans.atsInv = sat32 s.trans.atsInv ∧
          (x.late = false → u.out = .atsInvDone n tag :: s.out) ∧
          u.conf = s.conf ∧ u.tide = s.tide)) ∧
    (∀ i : Nat, (∀ x ∈ s.inv.held, x.taken = false ∨ i ∉ x.inFlight) ∨ s.inFlightStill i = false →
      exec (.invalidationDeadline i) s = .next s.settle) ∧
    (∀ (i : Nat) (x : InvCmd), s.inv.held.find? (fun y => y.taken && y.inFlight.contains i && s.inFlightStill i) = some x →
      x.inFlight.filter (fun k => s.inFlightStill k && s.samePath i k) = [i] →
      let gone : State := s.fail i .timeout
      let left := s.inv.unacked.filter (fun e => e.1 != i)
      let marked : State := { gone with inv := {
        s.inv with unacked := left, late := sat32 s.inv.late
                   held := s.inv.held.map (fun y => if y.inFlight.contains i then { y with late := true } else y) } }
      gone.acc i = none ∧
      (∀ a : Access, s.acc i = some a → gone.ended = s.ended ++ [(a, { status := .timeout, data := [], poison := [] })] ∧
        (a.issued = false ∨ a.kind = .read →
          exec (.invalidationDeadline i) s = .next (State.settle { gone with inv := { s.inv with unacked := left } })) ∧
        (a.issued = true → a.kind ≠ .read → exec (.invalidationDeadline i) s = .next marked.settle)) ∧
      (s.acc i = none → exec (.invalidationDeadline i) s = .next marked.settle))

/-- EN_LAND_CFG_WRITE (08 R186), EN_LAND_CONS_WRITE, LANDING_RECORD_WRITE (R187), RETRY (R189, R190), FAIL (R191), FAULT_TIMEOUT (R192).
Clauses the spec leaves open follow the model's own readings: logs 34, 65, 82, 117, 118. -/
def Obligations.LandingsAndResumes : Prop :=
  ∀ (s : State) (w : Path) (v : BitVec 32),
    let failed (st : Nat) : State := State.stallGo st (eachOf (fun (m : LandRec) t => match m.acc with
      | some id => State.fail t id m.resolves
      | none => t) (s.stall st).misses (s.setStall st { s.stall st with state := .failing, misses := [], timer := false }))
    let gone (st : Nat) : Prop := (∀ m ∈ (s.stall st).misses, ∀ id : Nat, m.acc = some id → (failed st).acc id = none) ∧
      ((failed st).stall st).misses = [] ∧ (s.missLive st = false → (failed st).stall st = {}) ∧
      (∀ j : Nat, j ≠ st → (failed st).stall j = s.stall j) ∧ (failed st).conf = s.conf
    (∀ p : Fin 16,
      (s.reach w (0x100808 + 32 * p.val) = true →
        (s.part p ≠ .disabled → exec (.enLandCfgWrite w p v) s = .next (s.written w)) ∧
        (s.part p = .disabled →
          let l := s.landing p
          let on : Bool := v.getLsbD 31 && decide (6 ≤ bits v.toNat 4 0) && decide (bits v.toNat 4 0 ≤ 16) && (l.valid || s.feature 0)
          exec (.enLandCfgWrite w p v) s =
            .next (State.written (s.setLanding p { l with sizeLog2 := BitVec.ofNat 5 (bits v.toNat 4 0), valid := on }) w))) ∧
      (s.reach w (0x100810 + 32 * p.val) = true →
        ((v - (s.landing p).cons).toNat ≤ ((s.landing p).prod - (s.landing p).cons).toNat →
          exec (.enLandConsWrite w p v) s = .next (State.written (s.setLanding p { s.landing p with cons := v }) w)) ∧
        (((s.landing p).prod - (s.landing p).cons).toNat < (v - (s.landing p).cons).toNat →
          exec (.enLandConsWrite w p v) s = .next (s.written w))) ∧
      (∀ (r : LandRec) (rest : List LandRec), (s.landing p).waiting = r :: rest → (s.landing p).writing = none →
        let l := s.landing p
        let r' : LandRec := { r with pending := s.missCount r.stream }
        (l.valid = true → l.room = true → exec (.landingRecordWrite p) s = .next (State.settle (State.launch
          (s.setLanding p { l with waiting := rest, writing := some r' })
          (mkWrite .block (.landing p) none (s.localPa (l.base.toNat + 64 * (l.prod.toNat % 2 ^ l.sizeLog2.toNat))) (landBytes r'))))) ∧
        (l.valid = false ∨ l.room = false → exec (.landingRecordWrite p) s = .next s.settle)) ∧
      ((s.landing p).waiting = [] → exec (.landingRecordWrite p) s = .next s.settle)) ∧
    (s.reach w 0x100D00 = true →
      let st := bits v.toNat 8 0
      let stale : State := State.written { s with stale := sat32 s.stale } w
      let ok : Prop := st < 316 ∧ (s.stall st).state = .stalled ∧ (s.stall st).latest.toNat % 2 ^ 16 = bits v.toNat 31 16 ∧
        ∀ m ∈ (s.stall st).misses, (s.landing m.part).valid = true
      (∀ c : Instr, c = .retry w v ∨ c = .fail w v →
        (¬ ok ∨ bits v.toNat 13 12 = 0 ∨ bits v.toNat 13 12 = 3 → exec c s = .next stale.settle) ∧
        (ok → bits v.toNat 13 12 = 2 → exec c s = .next (State.settle (State.written (failed st) w)) ∧ gone st) ∧
        (ok → bits v.toNat 13 12 = 1 → exec c s = .next (State.settle (State.written (s.retryStream st) w)) ∧
          ((s.stall st).misses = [] → ∃ u : State, exec c s = .next (State.settle (u.written w)) ∧ u.stall st = {} ∧
            (∀ j, j ≠ st → u.stall j = s.stall j) ∧ u.accesses = s.accesses ∧ u.conf = s.conf)))) ∧
    (∀ k : Fin 316, let part := ((s.stall k).misses.head?.map (·.part)).getD 0
      ((s.stall k).state ≠ .stalled ∨ s.partEntry part = none → exec (.faultTimeout k) s = .next s.settle) ∧
      (∀ x : PartEntry, (s.stall k).state = .stalled → s.partEntry part = some x →
        (x.faultTimeout = 0 → exec (.faultTimeout k) s = .next s.settle) ∧
        (x.faultTimeout ≠ 0 → exec (.faultTimeout k) s = .next (State.settle (failed k)) ∧ gone k)))

/-- PATROL_ROW_READ (16 R383), RAS_RECORD_WRITE and HD_RAS_CONS_WRITE (R392), PATH_MONITOR_SCAN and MARGIN_RESCAN (R399, R400).
Clauses the spec leaves open follow the model's own readings: logs 26, 82, 112. -/
def Obligations.PatrolRecordsAndMonitorScans : Prop :=
  ∀ s : State,
    (∀ l : List (Nat × Nat × Nat),
      (s.hold.patrolOn = false ∨ (s.clock .hd).porN = false → exec (.patrolRowRead l) s = .next s) ∧
      (s.hold.patrolOn = true → (s.clock .hd).porN = true → s.start.ready = true →
        ((∀ x ∈ l, x.2.1 % 2 ^ 18 / 8 ≠ s.hold.row) → exec (.patrolRowRead l) s = .next {
          s with hold := {
            s.hold with row := (s.hold.row + 1) % 32768, passes := if s.hold.row = 32767 then s.hold.passes + 1 else s.hold.passes } }) ∧
        (∃ t : State, exec (.patrolRowRead l) s = .next t ∧ t.hold.row = (s.hold.row + 1) % 32768 ∧ t.conf = s.conf ∧ t.tide = s.tide))) ∧
    (∀ (r : ErrRec) (rest : List ErrRec), s.ras.waiting = r :: rest → s.ras.writing = none → s.charted = true → s.ras.valid = true →
      ((s.ras.prod - s.ras.cons).toNat < 2 ^ s.ras.sizeLog2.toNat → exec .rasRecordWrite s =
        .next (State.settle (State.launch { s with ras := { s.ras with waiting := rest, writing := some r } }
          (mkWrite .block .ras none (s.localPa (s.ras.base.toNat + 64 * (s.ras.prod.toNat % 2 ^ s.ras.sizeLog2.toNat))) (errBytes r))))) ∧
      (2 ^ s.ras.sizeLog2.toNat ≤ (s.ras.prod - s.ras.cons).toNat → exec .rasRecordWrite s = .next s.settle)) ∧
    (s.ras.waiting = [] → exec .rasRecordWrite s = .next s.settle) ∧
    (∀ (p : Path) (v : BitVec 32), s.reach p 0x2E0410 = true →
      ((v - s.ras.cons).toNat ≤ (s.ras.prod - s.ras.cons).toNat →
        exec (.hdRasConsWrite p v) s = .next (State.written { s with ras := { s.ras with cons := v } } p)) ∧
      ((s.ras.prod - s.ras.cons).toNat < (v - s.ras.cons).toNat → exec (.hdRasConsWrite p v) s = .next (s.written p))) ∧
    (s.pwr = true → ∀ (sl : Slice) (b : Bytes), s.ctrlLost sl = false →
      let k := sliceIx sl
      let scans (c : Instr) : Prop := ∃ u : State, exec c s = .next u.settle ∧ u.health.scans = sat32 s.health.scans ∧
        (u.marginOf k).latest = (List.range 16).map (fun i => if (s.monitors k).contains i then (padTo b 16).getD i 0 else 0)
      (∀ n : Nat, (s.marginOf k).due = some n → scans (.pathMonitorScan sl b)) ∧
      ((s.marginOf k).due = none → (s.core 1).shedding = false → scans (.pathMonitorScan sl b)) ∧
      ((s.marginOf k).due = none → (s.core 1).shedding = true → exec (.pathMonitorScan sl b) s =
        .next (State.settle (s.modCore 1 (fun c => { c with shed := sat32 c.shed })))) ∧
      ((s.marginOf k).rescan = true → scans (.marginRescan sl b)) ∧
      ((s.marginOf k).rescan = false → exec (.marginRescan sl b) s = .next s.settle))

/-- SH_IRQ_STATUS_CLEAR, SH_IRQ_ENABLE_WRITE (17 R418), HD_WIN_ATTACH_WRITE (14 R357), HD_AP_CLEAR (R349), REGISTER_WRITE (17 R412).
Clauses the spec leaves open follow the model's own readings: logs 12, 65. -/
def Obligations.RegisterWritesTakeEffect : Prop :=
  ∀ (s : State) (p : Path) (v : BitVec 32),
    let takes (i : Fin 8) (x : BitVec 32) : State := if x = s.attach i.val then s else (s.setAttach i.val x).forget i.val
    (s.reach p 0x50 = true → exec (.shIrqStatusClear p v) s =
      .next (State.written { s with irq := { s.irq with status := s.irq.status &&& ~~~(v.truncate 10) } } p)) ∧
    (s.reach p 0x54 = true → ∃ t : State, exec (.shIrqEnableWrite p false v) s = .next (t.written p) ∧
      t.irq.enable = v.truncate 10 ∧ t.irq.status = s.irq.status ∧ t.irq.vecValid = s.irq.vecValid ∧ t.conf = s.conf ∧
      t.accesses = s.accesses ∧
      (s.irq.vecValid = false → t = { s with irq := { s.irq with enable := v.truncate 10 } })) ∧
    (s.reach p 0x58 = true → s.vectorRefused (bits v.toNat 10 0) = true → exec (.shIrqEnableWrite p true v) s = .next (s.written p)) ∧
    (∀ i : Fin 8, s.reach p (0x2D0000 + 4 * i.val) = true →
      (i.val < 2 ∨ s.allPartsDisabled = false → exec (.hdWinAttachWrite p i v) s = .next (s.written p)) ∧
      (2 ≤ i.val → s.allPartsDisabled = true →
        (∀ j, j ∈ [2, 3, 4, 5, 6, 7] → j ≠ i.val → s.cacheOn j = true → s.cacheInst j ≠ bits v.toNat 11 0) → bits v.toNat 11 0 ≠ s.ownId →
        exec (.hdWinAttachWrite p i v) s = .next (State.written (takes i (BitVec.ofNat 32 (bits v.toNat 11 0 + 2 ^ 31 * b2n (v.getLsbD 31)))) p)) ∧
      (2 ≤ i.val → s.allPartsDisabled = true → bits v.toNat 11 0 = s.ownId ∨
          (∃ j, j ∈ [2, 3, 4, 5, 6, 7] ∧ j ≠ i.val ∧ s.cacheOn j = true ∧ s.cacheInst j = bits v.toNat 11 0) →
        exec (.hdWinAttachWrite p i v) s = .next (State.written (takes i (BitVec.ofNat 32 (bits v.toNat 11 0))) p)) ∧
      (∀ e ∈ (s.forget i.val).home.filter, e.mask.getLsbD i.val = false ∧ (e.mask ≠ 0 ∨ s.wayKept e.line = true))) ∧
    (s.reach p 0x2D0900 = true → exec (.hdApClear p v) s = .next (State.written { s with home := {
      s.home with apEnable := v.getLsbD 0, predictor := if v.getLsbD 1 then [] else s.home.predictor } } p)) ∧
    (s.reach p 0 = true → exec (.registerWrite p 0 v) s = .next (s.written p)) ∧
    (s.reach p 0x20001C = true → exec (.registerWrite p 0x20001C v) s =
      .next (State.written { s with hold := { s.hold with patrolOn := v.getLsbD 31, interval := v.truncate 16 } } p)) ∧
    (s.reach p 0x200200 = true → ∃ t : State, exec (.registerWrite p 0x200200 v) s = .next (t.written p) ∧
      t = { s with alloc := { s.alloc with jnlBase := t.alloc.jnlBase } } ∧
      t.alloc.jnlBase.toNat = s.alloc.jnlBase.toNat / 2 ^ 32 * 2 ^ 32 + v.toNat / 4096 * 4096) ∧
    (∀ a : BitVec 24, s.reach p a.toNat = true → exec (.registerWrite p a v) s =
      .next (let t : State := State.written (s.regWrite p a.toNat v) p
             if actionReg a.toNat then t.settle else t)) ∧
    (∀ a : BitVec 24, s.reach p a.toNat = false → actionReg a.toNat = false →
      exec (.registerWrite p a v) s = .next (s.unreached p a.toNat)) ∧
    (s.reach p 0x50 = false → exec (.shIrqStatusClear p v) s = .next (s.unreached p 0x50)) ∧
    (s.reach p 0x2E0410 = false → exec (.hdRasConsWrite p v) s = .next (s.unreached p 0x2E0410)) ∧
    (s.reach p 0x2D0900 = false → exec (.hdApClear p v) s = .next (s.unreached p 0x2D0900)) ∧
    (∀ a : Nat, (s.unreached p a).conf = s.conf ∧ (s.unreached p a).tide = s.tide ∧ (s.unreached p a).irq = s.irq ∧
      (s.written p).conf = s.conf ∧ (s.written p).tide = s.tide)

/-- The identification registers (01 R1). -/
def Obligations.IdentificationReadsRelease : Prop :=
  ∀ (s : State) (w : Path),
    (s.reach w 0x000000 = true → s.readReg w 0x000000 = (some 0x00CAE001, s)) ∧
    (s.reach w 0x000004 = true → s.readReg w 0x000004 = (some 0x01020000, s) ∧
      ∀ v : BitVec 32, (s.readReg w 0x000004).1 = some v → bits v.toNat 31 24 = 1 ∧ bits v.toNat 23 16 = 2 ∧ bits v.toNat 15 0 = 0)

/-- The order of folds (01 R23) of COMBINE_FOLD; the elements of READ_BURST_RETURN (09 R209, R213, R215, R216, R227; 10 R240-R266).
Clauses the spec leaves open follow the model's own readings: logs 14, 15, 83, 86, 87. -/
def Obligations.FoldsAndElementsInOrder : Prop :=
  (∀ (s : State) (n : Fin 4096), ∃ u : State, exec (.combineFold n) s = .next u.settle ∧
    (∀ j : Nat, j ≠ n → u.slot j = s.slot j) ∧ (u.slot n).acc.length = (s.slot n).acc.length ∧
    ((s.slot n).header = none ∨ (s.slot n).state ≠ .open_ → u = s) ∧
    ∀ (j : Nat) (a b : Bytes × Bool × Nat), (s.slot n).acc[j]? = some a → (u.slot n).acc[j]? = some b → b = a ∨
      (b.2.2 = a.2.2 + 1 ∧ a.2.2 ∈ (s.slot n).accepted ∧ ∃ (h : CmbHeader) (c : MarkedBytes), (s.slot n).header = some h ∧
        cmbElem h (s.slot n).parked a.2.2 j = some c ∧
        b.1 = (if a.2.2 = 0 then h.widen (c.map (·.1)) else h.foldElem a.1 (c.map (·.1))))) ∧
  (∀ (s : State) (c : Fin 64) (r : Running) (a : ReadBurst) (bs : MarkedBytes), (s.chan c).run = some r → r.reads = [a] →
    a.result = some (.ok, bs) → r.quit = false → r.stopWrites = false → s.mgmt.change = none → r.seqD = none →
    let d := r.words
    let ops := s.pipeOps d
    let n := dElem d
    let raw : Bytes := bs.map (·.1)
    let code : Nat := leNat raw
    let clean : Prop := ∀ x ∈ bs, x.2 = false
    let place (perRow : Nat) (step : Int) (e : Nat) : Int :=
      (dDst d : Int) + ((e / (perRow * dN1 d) : Nat) : Int) * dD d 2 + ((e / perRow % dN1 d : Nat) : Int) * dD d 1 + ((e % perRow : Nat) : Int) * step
    let bytesAt (p : Int) (l : Bytes) : List OutByte := ((List.range l.length).zip l).map (fun x =>
      { addr := BitVec.ofInt 64 (p + (x.1 : Int)), val := x.2, poison := false, burst := a.burst })
    let elemsAt (k : Nat) (l : Bytes) : List OutByte := (List.range k).flatMap (fun i =>
      bytesAt (place (dN0 d) (dD d 0) (r.elemIx + i)) ((l.drop (i * n)).take n))
    let step (x : Running) (k : SluiceNote) : Prop := exec (.readBurstReturn c a.burst) s =
      .next (State.settle ((s.setChan c { s.chan c with run := some { x with reads := [] } }).sluiceNote d k))
    let ends (st : Status) : Prop := ∃ x : Running, step x {} ∧ x.early = some (r.early.getD st) ∧ x.quit = true ∧ x.words = d
    let moved (k : Nat) (l : Bytes) : Running :=
      { r with unitIx := r.unitIx + k, elemIx := r.elemIx + k, outQ := r.outQ ++ elemsAt k l }
    let joined (x : Running) : Running := { x with unitIx := r.unitIx + 1, elemIx := r.elemIx + 1 }
    0 < n → r.carry = [] →
    (dOp d = 1 → dPipe d = 0xFF → dFlag d 8 = false → dFlag d 9 = false →
      (∀ k : Nat, clean → bs.length = k * n → step (moved k raw) {}) ∧
      (¬ clean → bs.length = n → r.outQ = [] → r.group = [] → ∃ x : Running, step x {} ∧ x.early = some (r.early.getD .poison) ∧
        x.quit = true ∧ x.elemIx = r.elemIx + 1 ∧ x.outQ.map (fun b => (b.addr, b.poison)) =
          (List.range n).map (fun (i : Nat) => (BitVec.ofInt 64 (place (dN0 d) (dD d 0) r.elemIx + (i : Int)), true)))) ∧
    (dOp d = 1 → ops ≠ [] → mxIn ops = false → dFlag d 8 = false → dFlag d 9 = false → clean → bs.length = n →
      (mxOut ops = false → pipeSoftmax ops = false →
        let y := runCells ops (dFlag d 5) (dFlag d 6) code { lfsr := r.lfsr.toNat }
        step (joined { r with
            lfsr := BitVec.ofNat 32 y.2.lfsr
            outQ := r.outQ ++ bytesAt (place (dN0 d) (dD d 0) r.elemIx) (leBytes (fmtBytes (pipeOut ops)) y.1) })
          { sat := y.2.sat, ovf := y.2.ovf, elems := 1 }) ∧
      (∀ w : BitVec 32, ops = [w] → opField w = 2 → fmtMx (opOut w) = true → r.group.length = 31 → (∀ g ∈ r.group, g.2.2 = false) →
        let f := fmtCode (opOut w)
        let draw : Option Nat := if dFlag d 6 then some (stoDraw r.lfsr.toNat) else none
        let rec_ := mxEncode f ((r.group.map (fun g => (g.1, g.2.1)) ++ [(code, draw)]).map (fun g => (numOf (opIn w) g.1, g.2)))
        step (joined { r with
            group := [], lfsr := if dFlag d 6 then BitVec.ofNat 32 (stoDraw r.lfsr.toNat) else r.lfsr
            outQ := r.outQ ++ bytesAt (place (dN0 d / 32) (recordSize f : Int) ((r.elemIx + 1) / 32 - 1)) rec_.1 })
          { sat := rec_.2, elems := 32 }) ∧
      (∀ w : BitVec 32, ops = [w] → opField w = 7 → r.group.length + 1 = dN0 d → (∀ g ∈ r.group, g.2.2 = false) →
        let row := (r.elemIx + 1) / dN0 d - 1
        let y := softmaxRow (w.getLsbD 0) (r.group.map (·.1) ++ [code])
        step (joined { r with
            group := []
            outQ := r.outQ ++ (List.range (dN0 d)).flatMap (fun i =>
                bytesAt (place (dN0 d) (dD d 0) (row * dN0 d + i)) (leBytes 4 (y.out.getD i 0))) ++
              bytesAt (place 1 0 row + 4 * (dN0 d : Int)) (leBytes 4 y.m ++ leBytes 4 y.l ++ leBytes 4 y.flags ++ leBytes 4 0) })
          { elems := dN0 d })) ∧
    (∀ w : BitVec 32, dOp d = 1 → ops = [w] → opField w = 2 → fmtMx (opIn w) = true → fmtMx (opOut w) = false → dFlag d 6 = false →
      dFlag d 8 = false → dFlag d 9 = false → clean → bs.length = n →
        let ys := (mxDecode (fmtCode (opIn w)) raw).map (convert (opOut w) (dFlag d 5) none)
        step { r with unitIx := r.unitIx + 1, elemIx := r.elemIx + 32, outQ := r.outQ ++ (List.range 32).flatMap (fun i =>
            bytesAt (place (dN0 d) (dD d 0) (r.elemIx + i)) (leBytes (fmtBytes (opOut w)) ((ys.map (·.code)).getD i 0))) }
          { sat := (ys.map (·.sat)).sum, ovf := (ys.map (·.ovf)).sum, elems := 32 }) ∧
    (dOp d = 1 → dPipe d = 0xFF → dFlag d 8 = true → dFlag d 9 = false → clean →
      (∀ (len : Nat) (k : Byte) (l : MarkedBytes), r.zrc.bodyLen = some len → r.zrc.left = 0 → r.unitIx < dCount d → bs = (k, false) :: l →
        let run := if k.toNat < 0x80 then k.toNat + 1 else k.toNat - 0x7F
        let last := r.zrc.parsed + bs.length
        (dCount d < r.unitIx + run → ends .malformed) ∧
        ((r.unitIx + run = dCount d ∧ last = len) ∨ (r.unitIx + run < dCount d ∧ last < len) →
          (k.toNat < 0x80 → l = [] → step { moved run (zeros (run * n)) with
            zrc := { r.zrc with parsed := last, left := 0, literal := false } } {}) ∧
          (0x80 ≤ k.toNat → l.length = run * n → step { moved run (l.map (·.1)) with
            zrc := { r.zrc with parsed := last, left := 0, literal := true } } {}))) ∧
      (r.zrc.bodyLen = none → bs.length = 32 →
        (crc32c (raw.take 28) ≠ fld raw 28 4 → ends .checkFail) ∧
        (crc32c (raw.take 28) = fld raw 28 4 →
          let good : Prop := fld raw 0 4 = 0x3143525A ∧ fld raw 4 2 = n ∧ fld raw 6 2 = 0 ∧ fld raw 8 8 = dCount d ∧ fld raw 0x18 4 = 0 ∧
            0 < fld raw 8 8 ∧ fld raw 8 8 ≤ 2 ^ 48
          (¬ good → ends .malformed) ∧
          (good → r.zrc.parsed < fld raw 0x10 8 → r.zrc.left = 0 → r.unitIx < dCount d →
            step { r with zrc := { r.zrc with bodyLen := some (fld raw 0x10 8) } } {})))) ∧
    (dOp d = 1 → dPipe d = 0xFF → dFlag d 8 = false → dFlag d 9 = true → clean → bs.length = n → (∀ e ∈ r.zrc.run, ∀ x ∈ e, x.2 = false) →
      let zero (e : MarkedBytes) : Prop := ∀ x ∈ e, x.1 = 0
      (r.zrc.run = [] ∨ (r.zrc.run.length < 128 ∧ ∀ e ∈ r.zrc.run.head?, (zero e ↔ zero bs)) →
        step (joined { r with zrc := { r.zrc with run := r.zrc.run ++ [bs] } }) {}) ∧
      (∀ (e : MarkedBytes) (l : List MarkedBytes) (coded : Bytes), r.zrc.run = e :: l → (128 ≤ r.zrc.run.length ∨ ¬ (zero e ↔ zero bs)) →
        (zero e ∧ coded = [BitVec.ofNat 8 (r.zrc.run.length - 1)]) ∨
          (¬ zero e ∧ coded = BitVec.ofNat 8 (r.zrc.run.length + 0x7F) :: r.zrc.run.flatten.map (·.1)) →
        let out := 0x20 + r.zrc.out
        (out + coded.length ≤ bits (dOperand d) 63 32 * 256 → step (joined { r with
            zrc := { r.zrc with run := [bs], out := r.zrc.out + coded.length }
            outQ := r.outQ ++ bytesAt ((dDst d : Int) + (out : Int)) coded }) {}) ∧
        (bits (dOperand d) 63 32 * 256 < out + coded.length → ends .quota))) ∧
    (dFlag d 8 = false → clean → bs.length = n →
      (dOp d = 3 →
        let p := fillElem d r.prbs
        let miss : Bool := raw != p.1
        step (joined { r with
          prbs := p.2, mism := if miss then r.mism + 1 else r.mism
          firstMis := if miss ∧ r.firstMis = none then some r.elemIx else r.firstMis }) {}) ∧
      (dOp d = 8 → step (joined { r with hashed := r.hashed ++ raw }) {}))) ∧
  (∀ (m : Nat) (e q : Int),
    let v : ℚ := (m : ℚ) * 2 ^ e
    let off (draw : Option Nat) : ℚ := |(roundAt m e q draw : ℚ) * 2 ^ q - v|
    off none * 2 ≤ 2 ^ q ∧ (off none * 2 = 2 ^ q → roundAt m e q none % 2 = 0) ∧ ∀ x : Nat, off (some x) < 2 ^ q) ∧
  (∀ (f m : Nat) (e : Int) (neg : Bool) (draw : Option Nat), 1 ≤ f → f ≤ 6 → m ≠ 0 →
    let q := spacing f m e
    let most : ℚ := ((fmtMax f).1 : ℚ) * 2 ^ (fmtMax f).2
    most < (roundAt m e q draw : ℚ) * 2 ^ q →
      (∃ (a : Nat) (b : Int), numOf f (convert f true draw (.fin neg m e)).code = .fin neg a b ∧ (a : ℚ) * 2 ^ b = most) ∧
      numOf f (convert f false draw (.fin neg m e)).code = (if f = 5 then .nan else .inf neg) ∧
      (convert f true draw (.fin neg m e)).sat = 1 ∧ (convert f false draw (.fin neg m e)).ovf = 1) ∧
  (∀ (f : Nat) (g : List (Machine.Num × Option Nat)), 5 ≤ f → f ≤ 10 →
    ((∃ v ∈ g, v.1 = .nan ∨ ∃ neg, v.1 = .inf neg) → mxEncode f g = (zeros (4 * fmtBits f) ++ [0xFF], 0)) ∧
    ((∀ v ∈ g, ∃ neg m e, v.1 = .fin neg m e) → ∃ (l : Bytes) (x : Int), (mxEncode f g).1 = l ++ [BitVec.ofNat 8 (x + 127).toNat] ∧
      l.length = 4 * fmtBits f ∧
      ((∀ v ∈ g, ∀ neg m e, v.1 = .fin neg m e → m = 0) → x = -127) ∧
      (∀ top : Int, (∃ v ∈ g, ∃ neg m e, v.1 = .fin neg m e ∧ m ≠ 0 ∧ (m.log2 : Int) + e = top) →
        (∀ v ∈ g, ∀ neg m e, v.1 = .fin neg m e → m ≠ 0 → (m.log2 : Int) + e ≤ top) →
        x = max (-127) (min 127 (top - mxEmax f))))) ∧
  (∀ (norm : Bool) (row : List Nat), row ≠ [] →
    let y := softmaxRow norm row
    ((∃ x ∈ row, numOf 2 x = .nan) → (∀ z ∈ y.out, z = 0x7FC00000) ∧ y.m = 0x7FC00000 ∧ y.l = 0x7FC00000 ∧ y.flags = 2) ∧
    ((∀ x ∈ row, numOf 2 x ≠ .nan) → 0x7F800000 ∈ row → y.m = 0x7F800000 ∧ y.flags = 0 ∧ y.l = toF32 (.fin false (row.count 0x7F800000) 0) ∧
      y.out = row.map (fun x => if x = 0x7F800000 then (if norm then rcp y.l else 0x3F800000) else 0)) ∧
    ((∀ x ∈ row, x = 0xFF800000) → y.m = 0xFF800000 ∧ y.l = 0 ∧ y.flags = 1 ∧ ∀ z ∈ y.out, z = 0) ∧
    ((∀ x ∈ row, numOf 2 x ≠ .nan ∧ x ≠ 0x7F800000 ∧ x < 2 ^ 32) → (∃ x ∈ row, x ≠ 0xFF800000) →
      y.m ∈ row ∧ (∀ x ∈ row, f32Gt x y.m = false) ∧ y.flags = 0 ∧
      let es := row.map (fun x => exp2 (f32Sub x y.m))
      y.l = es.tail.foldl f32Add (es.headD 0) ∧ y.out = (if norm then es.map (fun z => f32Mul z (rcp y.l)) else es)))

/-- Nothing but `Instr.configures` changes the configuration. -/
def Obligations.ConfigurationChangesOnlyByItsCommands : Prop :=
  (∀ (c : Instr) (s t : State), exec c s = .next t → c.configures = false → t.conf = s.conf) ∧
  (∀ (w : Path) (a : BitVec 24) (v : BitVec 32) (s t : State), exec (.registerWrite w a v) s = .next t →
    s.reach w a.toNat = false → t.conf = s.conf) ∧
  (∀ s t : State, s.pending = [] → step s = .next t → t.conf = s.conf) ∧
  (∀ s : State, s.accesses = [] → s.ended = [] → s.engReqs = [] → (∀ e ∈ s.chans, e.2.run = none) → s.alloc.bulks = [] →
    s.home.txns = [] → s.home.hostHeld = [] → s.ident.jobs = [] → s.mgmt.changes = [] → s.stalls = [] →
    (∀ e ∈ s.peers, e.2.stored = []) → s.harbour = false → s.settle = s.ungate)

/-- The configuration stays legal (`Conf.legal`). -/
def Obligations.EveryStepKeepsConfigurationLegal : Prop :=
  ∀ s t : State, s.conf.legal = true → step s = .next t → t.conf.legal = true

/-- The configuration is legal right after reset (`Conf.legal`). -/
def Obligations.ResetConfigurationIsLegal : Prop := State.reset.conf.legal = true
end

