-- ==== Sys2Proof/Laws/Tab.lean ====
section
/-! SUPPORT. Laws of the sparse tables: what reading gives after a write, and that writing keeps the canonical form. -/

namespace Sys2Proof.Machine

variable {α : Type}

@[simp] theorem tabGet_nil (d : α) (k : Nat) : tabGet d [] k = d := rfl

theorem tabGet_tabErase (d : α) (t : Tab α) (k j : Nat) : tabGet d (tabErase t k) j = if j = k then d else tabGet d t j := by
  induction t with
  | nil => simp [tabErase]
  | cons e t ih =>
    obtain ⟨i, v⟩ := e
    simp only [tabErase, tabGet]
    split <;> simp only [ih, tabGet] <;> grind

theorem tabGet_tabPut (d : α) (t : Tab α) (k j : Nat) (v : α) : tabGet d (tabPut t k v) j = if j = k then v else tabGet d t j := by
  induction t with
  | nil => simp only [tabPut, tabGet]; grind
  | cons e t ih =>
    obtain ⟨i, w⟩ := e
    simp only [tabPut]
    split
    · simp only [tabGet]; grind
    · split <;> simp only [tabGet, ih] <;> grind

/-- Reading after a write gives the value written at its index, and what was there before at every other. -/
theorem tabGet_tabSet [DecidableEq α] (d : α) (t : Tab α) (k j : Nat) (v : α) :
    tabGet d (tabSet d t k v) j = if j = k then v else tabGet d t j := by
  unfold tabSet
  split
  · rename_i h; rw [tabGet_tabErase, h]
  · rw [tabGet_tabPut]

@[simp] theorem tabGet_tabSet_self [DecidableEq α] (d : α) (t : Tab α) (k : Nat) (v : α) : tabGet d (tabSet d t k v) k = v := by
  rw [tabGet_tabSet, if_pos rfl]

theorem tabGet_tabSet_other [DecidableEq α] (d : α) (t : Tab α) {k j : Nat} (v : α) (h : j ≠ k) :
    tabGet d (tabSet d t k v) j = tabGet d t j := by
  rw [tabGet_tabSet, if_neg h]

theorem tabGet_tabMap [DecidableEq α] {d : α} {f : α → α} (hf : f d = d) (t : Tab α) (k : Nat) :
    tabGet d (tabMap d t f) k = f (tabGet d t k) := by
  induction t with
  | nil => exact hf.symm
  | cons e t ih =>
    obtain ⟨i, v⟩ := e
    simp only [tabMap, tabGet, tabGet_tabSet, ih]
    grind

theorem tabRising_mono {t : Tab α} {lo hi : Nat} (h : tabRising hi t = true) (hle : lo ≤ hi) : tabRising lo t = true := by
  cases t with
  | nil => rfl
  | cons e t => simp only [tabRising, Bool.and_eq_true, decide_eq_true_eq] at h ⊢; exact ⟨by omega, h.2⟩

theorem tabRising_tabErase {t : Tab α} {lo : Nat} (k : Nat) (h : tabRising lo t = true) : tabRising lo (tabErase t k) = true := by
  induction t generalizing lo with
  | nil => rfl
  | cons e t ih =>
    simp only [tabRising, Bool.and_eq_true, decide_eq_true_eq] at h
    simp only [tabErase]
    split
    · exact tabRising_mono (ih h.2) (by omega)
    · simp only [tabRising, Bool.and_eq_true, decide_eq_true_eq]; exact ⟨h.1, ih h.2⟩

theorem tabRising_tabPut {t : Tab α} {lo k : Nat} (v : α) (hk : lo ≤ k) (h : tabRising lo t = true) :
    tabRising lo (tabPut t k v) = true := by
  induction t generalizing lo with
  | nil => simp [tabPut, tabRising, hk]
  | cons e t ih =>
    simp only [tabRising, Bool.and_eq_true, decide_eq_true_eq] at h
    simp only [tabPut]
    split
    · simp only [tabRising, Bool.and_eq_true, decide_eq_true_eq]; exact ⟨hk, by omega, h.2⟩
    · split
      · rename_i e; simp only [tabRising, Bool.and_eq_true, decide_eq_true_eq]; subst e; exact ⟨hk, h.2⟩
      · simp only [tabRising, Bool.and_eq_true, decide_eq_true_eq]; exact ⟨h.1, ih (by omega) h.2⟩

theorem mem_tabErase {t : Tab α} {k : Nat} {e : Nat × α} (h : e ∈ tabErase t k) : e ∈ t := by
  induction t with
  | nil => exact h
  | cons x t ih =>
    simp only [tabErase] at h
    split at h
    · exact List.mem_cons_of_mem _ (ih h)
    · simp only [List.mem_cons] at h ⊢; exact h.imp id ih

theorem mem_tabPut {t : Tab α} {k : Nat} {v : α} {e : Nat × α} (h : e ∈ tabPut t k v) : e = (k, v) ∨ e ∈ t := by
  induction t with
  | nil => simpa [tabPut] using h
  | cons x t ih => simp only [tabPut] at h; grind

/-- A write keeps the canonical form of a table. -/
theorem tabWf_tabSet [DecidableEq α] {d : α} {t : Tab α} (k : Nat) (v : α) (h : tabWf d t = true) : tabWf d (tabSet d t k v) = true := by
  simp only [tabWf, Bool.and_eq_true, List.all_eq_true, decide_eq_true_eq] at h ⊢
  unfold tabSet
  split
  · exact ⟨tabRising_tabErase k h.1, fun e he => h.2 e (mem_tabErase he)⟩
  · rename_i hv
    refine ⟨tabRising_tabPut v (Nat.zero_le k) h.1, fun e he => ?_⟩
    obtain rfl | he := mem_tabPut he
    · exact hv
    · exact h.2 e he

theorem tabWf_tabErase [DecidableEq α] {d : α} {t : Tab α} (k : Nat) (h : tabWf d t = true) : tabWf d (tabErase t k) = true := by
  simp only [tabWf, Bool.and_eq_true, List.all_eq_true, decide_eq_true_eq] at h ⊢
  exact ⟨tabRising_tabErase k h.1, fun e he => h.2 e (mem_tabErase he)⟩

/-- A map of a table gives a canonical table. -/
theorem tabWf_tabMap [DecidableEq α] (d : α) (t : Tab α) (f : α → α) : tabWf d (tabMap d t f) = true := by
  induction t with
  | nil => rfl
  | cons e t ih => exact tabWf_tabSet e.1 (f e.2) ih

end Sys2Proof.Machine
end

