-- ==== Sys2Proof/Laws/Conf1.lean ====
section
/-! SUPPORT. Laws of the configuration, part 1 of 6: for each operation of the machine that no rule lets change the configuration, one
lemma that it leaves it as it is (03 R74). The operations stand in the order of the files that define them. -/

namespace Sys2Proof.Machine

theorem State.conf_mk (a_pending) (a_clocks) (a_links) (a_gated) (a_fuses) (a_start) (a_fenced) (a_chart) (a_tearBurst) (a_tapUnlock) (a_tap) (a_tapData) (a_cores) (a_fw) (a_mgmt) (a_relay) (a_irq) (a_hosts) (a_cacheTags) (a_nextCache) (a_peers) (a_tracker) (a_nextTag) (a_unreach) (a_portEnable) (a_engReqs) (a_beats) (a_owedBeats) (a_nextOrder) (a_mems) (a_accesses) (a_ended) (a_nextId) (a_trans) (a_landings) (a_stalls) (a_stale) (a_inv) (a_parts) (a_releases) (a_queues) (a_dbCheck) (a_dbState) (a_dbLast) (a_alloc) (a_chans) (a_arbR) (a_arbW) (a_sluice) (a_cmb) (a_tide) (a_latches) (a_home) (a_ident) (a_ras) (a_hold) (a_health) (a_thermal) (a_out) (a_fresh) (a_rand) :
    State.conf (State.mk a_pending a_clocks a_links a_gated a_fuses a_start a_fenced a_chart a_tearBurst a_tapUnlock a_tap a_tapData a_cores a_fw a_mgmt a_relay a_irq a_hosts a_cacheTags a_nextCache a_peers a_tracker a_nextTag a_unreach a_portEnable a_engReqs a_beats a_owedBeats a_nextOrder a_mems a_accesses a_ended a_nextId a_trans a_landings a_stalls a_stale a_inv a_parts a_releases a_queues a_dbCheck a_dbState a_dbLast a_alloc a_chans a_arbR a_arbW a_sluice a_cmb a_tide a_latches a_home a_ident a_ras a_hold a_health a_thermal a_out a_fresh a_rand) =
      { fuses := a_fuses, fenced := a_fenced, chart := a_chart.chart, devKey := a_ident.devKey, cdiDev := a_ident.cdiDev,
        endorsed := a_ident.endorsement, chain := (a_ident.chainAddr, a_ident.chainLen),
        rings := (a_mgmt.cmdBase, a_mgmt.evtBase, a_mgmt.saveBase), mgmtVec := (a_mgmt.vecValid, a_mgmt.vector), msix := a_irq.msix,
        roots := a_trans.roots, hostWins := a_trans.hostWins, landings := landConf a_landings,
        fence := a_inv.fence, invVec := (a_inv.vecValid, a_inv.vector), patrol := (a_hold.patrolOn, a_hold.interval),
        journal := a_alloc.jnlBase, jnlVec := (a_alloc.jnlVecOn, a_alloc.jnlVector), packets := a_tide.packets, attach := a_home.attach,
        predict := a_home.apEnable, throttle := (a_thermal.mode, a_thermal.bit1, a_thermal.bit0), rasBase := a_ras.base,
        rasValid := a_ras.valid, rasSize := a_ras.sizeLog2, rasVec := (a_ras.vecValid, a_ras.vector) } := (rfl)

theorem State.conf_eta (s : State) :
    ({ fuses := s.fuses, fenced := s.fenced, chart := s.chart.chart, devKey := s.ident.devKey, cdiDev := s.ident.cdiDev,
       endorsed := s.ident.endorsement, chain := (s.ident.chainAddr, s.ident.chainLen),
       rings := (s.mgmt.cmdBase, s.mgmt.evtBase, s.mgmt.saveBase), mgmtVec := (s.mgmt.vecValid, s.mgmt.vector), msix := s.irq.msix,
       roots := s.trans.roots, hostWins := s.trans.hostWins, landings := landConf s.landings,
       fence := s.inv.fence, invVec := (s.inv.vecValid, s.inv.vector), patrol := (s.hold.patrolOn, s.hold.interval),
       journal := s.alloc.jnlBase, jnlVec := (s.alloc.jnlVecOn, s.alloc.jnlVector), packets := s.tide.packets, attach := s.home.attach,
       predict := s.home.apEnable, throttle := (s.thermal.mode, s.thermal.bit1, s.thermal.bit0), rasBase := s.ras.base,
       rasValid := s.ras.valid, rasSize := s.ras.sizeLog2, rasVec := (s.ras.vecValid, s.ras.vector) } : Conf) = s.conf := (rfl)

theorem eachOf_conf {α : Type} {f : α → State → State} (h : ∀ x t, (f x t).conf = t.conf) (l : List α) (s : State) :
    (eachOf f l s).conf = s.conf := by
  induction l generalizing s with
  | nil => rfl
  | cons x xs ih => rw [eachOf, ih, h]

theorem State.setClock_conf (s : State) (k : Slice) (v : ClockState) :
    (State.setClock s k v).conf = s.conf := (rfl)

theorem State.modClock_conf (s : State) (k : Slice) (f : ClockState → ClockState) :
    (State.modClock s k f).conf = s.conf := (rfl)

theorem State.setLink_conf (s : State) (k : Link) (v : LinkState) :
    (State.setLink s k v).conf = s.conf := (rfl)

theorem State.modLink_conf (s : State) (k : Link) (f : LinkState → LinkState) :
    (State.modLink s k f).conf = s.conf := (rfl)

theorem State.setCore_conf (s : State) (k : Nat) (v : Core) :
    (State.setCore s k v).conf = s.conf := (rfl)

theorem State.modCore_conf (s : State) (k : Nat) (f : Core → Core) :
    (State.modCore s k f).conf = s.conf := (rfl)

theorem State.setHost_conf (s : State) (k : Nat) (v : HostPort) :
    (State.setHost s k v).conf = s.conf := (rfl)

theorem State.modHost_conf (s : State) (k : Nat) (f : HostPort → HostPort) :
    (State.modHost s k f).conf = s.conf := (rfl)

theorem State.setPeer_conf (s : State) (k : Nat) (v : PeerPort) :
    (State.setPeer s k v).conf = s.conf := (rfl)

theorem State.modPeer_conf (s : State) (k : Nat) (f : PeerPort → PeerPort) :
    (State.modPeer s k f).conf = s.conf := (rfl)

theorem State.setMem_conf (s : State) (k : Nat) (v : MemPort) :
    (State.setMem s k v).conf = s.conf := (rfl)

theorem State.modMem_conf (s : State) (k : Nat) (f : MemPort → MemPort) :
    (State.modMem s k f).conf = s.conf := (rfl)

theorem State.setPortOn_conf (s : State) (k : Nat) (v : Bool) :
    (State.setPortOn s k v).conf = s.conf := (rfl)

theorem State.modPortOn_conf (s : State) (k : Nat) (f : Bool → Bool) :
    (State.modPortOn s k f).conf = s.conf := (rfl)

theorem State.setLanding_conf (s : State) (k : Nat) (v : Landing) (h1 : v.base = (s.landing k).base)
    (h2 : v.sizeLog2 = (s.landing k).sizeLog2) (h3 : v.valid = (s.landing k).valid) : (s.setLanding k v).conf = s.conf := by
  have h : landConf (tabSet ({} : Landing) s.landings k v) = landConf s.landings := by
    unfold landConf
    refine List.map_congr_left (fun p _ => ?_)
    rw [tabGet_tabSet]
    split
    · rename_i e; subst e; rw [h1, h2, h3]; rfl
    · rfl
  simp only [State.setLanding, State.conf_mk, h, State.conf_eta]

theorem State.modLanding_conf (s : State) (k : Nat) (f : Landing → Landing) (h1 : ∀ l, (f l).base = l.base)
    (h2 : ∀ l, (f l).sizeLog2 = l.sizeLog2) (h3 : ∀ l, (f l).valid = l.valid) : (s.modLanding k f).conf = s.conf :=
  State.setLanding_conf s k _ (h1 _) (h2 _) (h3 _)

theorem State.setStall_conf (s : State) (k : Nat) (v : Stall) :
    (State.setStall s k v).conf = s.conf := (rfl)

theorem State.modStall_conf (s : State) (k : Nat) (f : Stall → Stall) :
    (State.modStall s k f).conf = s.conf := (rfl)

theorem State.setPart_conf (s : State) (k : Nat) (v : PartState) :
    (State.setPart s k v).conf = s.conf := (rfl)

theorem State.modPart_conf (s : State) (k : Nat) (f : PartState → PartState) :
    (State.modPart s k f).conf = s.conf := (rfl)

theorem State.setQueue_conf (s : State) (k : Nat) (v : Queue) :
    (State.setQueue s k v).conf = s.conf := (rfl)

theorem State.modQueue_conf (s : State) (k : Nat) (f : Queue → Queue) :
    (State.modQueue s k f).conf = s.conf := (rfl)

theorem State.setChan_conf (s : State) (k : Nat) (v : Channel) :
    (State.setChan s k v).conf = s.conf := (rfl)

theorem State.modChan_conf (s : State) (k : Nat) (f : Channel → Channel) :
    (State.modChan s k f).conf = s.conf := (rfl)

theorem State.setReadArb_conf (s : State) (k : Nat) (v : Arbiter) :
    (State.setReadArb s k v).conf = s.conf := (rfl)

theorem State.modReadArb_conf (s : State) (k : Nat) (f : Arbiter → Arbiter) :
    (State.modReadArb s k f).conf = s.conf := (rfl)

theorem State.setWriteArb_conf (s : State) (k : Nat) (v : Arbiter) :
    (State.setWriteArb s k v).conf = s.conf := (rfl)

theorem State.modWriteArb_conf (s : State) (k : Nat) (f : Arbiter → Arbiter) :
    (State.modWriteArb s k f).conf = s.conf := (rfl)

theorem State.setLatch_conf (s : State) (k : Nat) (v : PathLatch) :
    (State.setLatch s k v).conf = s.conf := (rfl)

theorem State.modLatch_conf (s : State) (k : Nat) (f : PathLatch → PathLatch) :
    (State.modLatch s k f).conf = s.conf := (rfl)

theorem State.setBurstTear_conf (s : State) (k : Nat) (v : Bool) :
    (State.setBurstTear s k v).conf = s.conf := (rfl)

theorem State.modBurstTear_conf (s : State) (k : Nat) (f : Bool → Bool) :
    (State.modBurstTear s k f).conf = s.conf := (rfl)

theorem State.setSlot_conf (s : State) (k : Nat) (v : Slot) :
    (State.setSlot s k v).conf = s.conf := (rfl)

theorem State.modSlot_conf (s : State) (k : Nat) (f : Slot → Slot) :
    (State.modSlot s k f).conf = s.conf := (rfl)

theorem State.setTideVal_conf (s : State) (k : Nat) (v : BitVec 64) :
    (State.setTideVal s k v).conf = s.conf := (rfl)

theorem State.modTideVal_conf (s : State) (k : Nat) (f : BitVec 64 → BitVec 64) :
    (State.modTideVal s k f).conf = s.conf := (rfl)

theorem State.setPendingBit_conf (s : State) (k : Nat) (v : Bool) :
    (State.setPendingBit s k v).conf = s.conf := (rfl)

theorem State.modPendingBit_conf (s : State) (k : Nat) (f : Bool → Bool) :
    (State.modPendingBit s k f).conf = s.conf := (rfl)

theorem State.setSealRange_conf (s : State) (k : Nat) (v : SealRange) :
    (State.setSealRange s k v).conf = s.conf := (rfl)

theorem State.modSealRange_conf (s : State) (k : Nat) (f : SealRange → SealRange) :
    (State.modSealRange s k f).conf = s.conf := (rfl)

theorem State.setL1_conf (s : State) (k : Nat) (v : List Leaf) :
    (State.setL1 s k v).conf = s.conf := (rfl)

theorem State.modL1_conf (s : State) (k : Nat) (f : List Leaf → List Leaf) :
    (State.modL1 s k f).conf = s.conf := (rfl)

theorem State.setPool_conf (s : State) (k : Nat) (v : Option Pool) :
    (State.setPool s k v).conf = s.conf := (rfl)

theorem State.modPool_conf (s : State) (k : Nat) (f : Option Pool → Option Pool) :
    (State.modPool s k f).conf = s.conf := (rfl)

theorem State.setPipe_conf (s : State) (k : Nat) (v : Pipeline) :
    (State.setPipe s k v).conf = s.conf := (rfl)

theorem State.modPipe_conf (s : State) (k : Nat) (f : Pipeline → Pipeline) :
    (State.modPipe s k f).conf = s.conf := (rfl)

theorem State.setRegion_conf (s : State) (k : Nat) (v : Option Region) :
    (State.setRegion s k v).conf = s.conf := (rfl)

theorem State.modRegion_conf (s : State) (k : Nat) (f : Option Region → Option Region) :
    (State.modRegion s k f).conf = s.conf := (rfl)

theorem State.setStackState_conf (s : State) (k : Nat) (v : StackState) :
    (State.setStackState s k v).conf = s.conf := (rfl)

theorem State.modStackState_conf (s : State) (k : Nat) (f : StackState → StackState) :
    (State.modStackState s k f).conf = s.conf := (rfl)

theorem State.setMarginOf_conf (s : State) (k : Nat) (v : MarginState) :
    (State.setMarginOf s k v).conf = s.conf := (rfl)

theorem State.modMarginOf_conf (s : State) (k : Nat) (f : MarginState → MarginState) :
    (State.modMarginOf s k f).conf = s.conf := (rfl)

theorem State.setBankNote_conf (s : State) (k : Nat) (v : BankNote) :
    (State.setBankNote s k v).conf = s.conf := (rfl)

theorem State.modBankNote_conf (s : State) (k : Nat) (f : BankNote → BankNote) :
    (State.modBankNote s k f).conf = s.conf := (rfl)

theorem State.setHoldUsed_conf (s : State) (k : Nat) (v : Nat) :
    (State.setHoldUsed s k v).conf = s.conf := (rfl)

theorem State.modHoldUsed_conf (s : State) (k : Nat) (f : Nat → Nat) :
    (State.modHoldUsed s k f).conf = s.conf := (rfl)

theorem State.drive_conf (s : State) (o : Out) :
    (State.drive s o).conf = s.conf := (rfl)

theorem State.raiseVector_conf (s : State) (v : Nat) :
    (State.raiseVector s v).conf = s.conf := by unfold State.raiseVector; (repeat' split) <;> simp only [eq_self, State.drive_conf, State.setPendingBit_conf]

theorem State.shIrqSet_conf (s : State) (status : BitVec 10) (enable : BitVec 10) (valid : Bool) (vector : BitVec 11) :
    (State.shIrqSet s status enable valid vector).conf = s.conf := by simp only [State.shIrqSet, State.conf_mk, State.conf_eta, apply_ite State.conf, ite_self, State.raiseVector_conf]

theorem State.shIrq_conf (s : State) (i : Nat) :
    (State.shIrq s i).conf = s.conf := by simp only [State.shIrq, State.shIrqSet_conf]

theorem State.mgmtIrq_conf (s : State) :
    (State.mgmtIrq s).conf = s.conf := by simp only [State.mgmtIrq, apply_ite State.conf, ite_self, State.raiseVector_conf]

theorem State.rasLose_conf (s : State) :
    (State.rasLose s).conf = s.conf := by simp only [State.rasLose, State.conf_mk, State.conf_eta, State.shIrq_conf]

theorem State.rasBuffer_conf (s : State) (r : ErrRec) :
    (State.rasBuffer s r).conf = s.conf := by unfold State.rasBuffer; (repeat' split) <;> simp only [State.conf_mk, State.conf_eta, eq_self, State.rasLose_conf]

theorem State.errLog_conf (s : State) (r : ErrRec) :
    (State.errLog s r).conf = s.conf := by simp only [State.errLog, State.conf_mk, State.conf_eta, apply_ite State.conf, ite_self, State.shIrq_conf]

theorem State.eventLost_conf (s : State) (sl : Slice) (i : Nat) :
    (State.eventLost s sl i).conf = s.conf := by simp only [State.eventLost, apply_ite State.conf, ite_self, State.setClock_conf, State.shIrq_conf]

theorem State.record_conf (s : State) (r : ErrRec) :
    (State.record s r).conf = s.conf := by simp only [State.record, State.conf_mk, State.conf_eta, apply_ite State.conf, ite_self, State.errLog_conf, State.eventLost_conf, State.rasBuffer_conf]

theorem State.recordFor_conf (s : State) (ag : Agent) (r : ErrRec) :
    (State.recordFor s ag r).conf = s.conf := by unfold State.recordFor; (repeat' split) <;> simp only [State.conf_mk, State.conf_eta, apply_ite State.conf, ite_self, eq_self, State.record_conf]

theorem State.clearIntact_conf (s : State) (a : Nat) (n : Nat) :
    (State.clearIntact s a n).conf = s.conf := (rfl)

theorem State.poisonLine_rec_conf (origin unit_ index : Nat) (p : Option Nat) (inst : Nat) (ag : Agent) (b : Bool) (s : State)
    (line now : BitVec 64) (k : Option Nat) (z : Bool) :
    (State.poisonLine.rec' origin unit_ index p inst ag b s line now k z).conf = s.conf := by
  unfold State.poisonLine.rec'
  simp only [State.recordFor_conf, State.conf_mk, State.conf_eta]

theorem State.poisonLine_conf (s : State) (origin unit_ index : Nat) (pa : BitVec 60) (p : Option Nat) (inst : Nat) (ag : Agent)
    (b : Bool) : (s.poisonLine origin unit_ index pa p inst ag b).conf = s.conf := by
  unfold State.poisonLine
  dsimp only
  (repeat' split) <;> first
    | rfl
    | simp only [State.poisonLine_rec_conf, State.clearIntact_conf, State.conf_mk, State.conf_eta]

theorem State.pushEvent_conf (s : State) (e : Event) :
    (State.pushEvent s e).conf = s.conf := (rfl)

theorem State.dropEvent_conf (s : State) (tel : Bool) :
    (State.dropEvent s tel).conf = s.conf := (rfl)

theorem State.pushUnsolicited_conf (s : State) (e : Event) :
    (State.pushUnsolicited s e).conf = s.conf := by unfold State.pushUnsolicited; (repeat' split) <;> simp only [State.conf_mk, State.conf_eta, eq_self, State.dropEvent_conf, State.pushEvent_conf]

theorem State.respond_conf (s : State) (seq : BitVec 32) (st : Status) (extra : Bytes) (length : Nat) :
    (State.respond s seq st extra length).conf = s.conf := (rfl)

theorem State.draw_conf (s : State) :
    (State.draw s).2.conf = s.conf := (rfl)

theorem State.freeVal_conf (s : State) :
    (State.freeVal s).2.conf = s.conf := (rfl)

theorem State.doeGone_conf (s : State) (n : Nat) :
    (State.doeGone s n).conf = s.conf := by simp only [State.doeGone, State.conf_mk, State.conf_eta, apply_ite State.conf, ite_self]

theorem State.holdTake_conf (s : State) (q : Nat) (n : Nat) :
    (State.holdTake s q n).conf = s.conf := (rfl)

theorem State.holdGive_conf (s : State) (q : Nat) (n : Nat) :
    (State.holdGive s q n).conf = s.conf := (rfl)

theorem State.tideRefuse_conf (s : State) :
    (State.tideRefuse s).conf = s.conf := (rfl)

theorem State.tideAdd_conf (s : State) (n : Nat) (p : Option Nat) (amount : Nat) :
    (State.tideAdd s n p amount).2.conf = s.conf := by unfold State.tideAdd; split <;> simp only [State.modTideVal_conf, State.tideRefuse_conf]

theorem State.tideCredit_conf (s : State) (n : Nat) (p : Option Nat) (bytes : Nat) :
    (State.tideCredit s n p bytes).2.conf = s.conf := by simp only [State.tideCredit, State.tideAdd_conf]

theorem State.tideLoWrite_conf (s : State) (path : Path) (n : Nat) (v : BitVec 32) :
    (State.tideLoWrite s path n v).conf = s.conf := by simp only [State.tideLoWrite, apply_ite State.conf, ite_self, State.modLatch_conf]

theorem State.tideHiWrite_conf (s : State) (path : Path) (n : Nat) (v : BitVec 32) :
    (State.tideHiWrite s path n v).conf = s.conf := by unfold State.tideHiWrite; (repeat' split) <;> simp only [eq_self, State.modLatch_conf, State.setTideVal_conf]

theorem State.launch_conf (s : State) (a : Access) :
    (State.launch s a).conf = s.conf := (rfl)

theorem State.modAcc_conf (s : State) (id : Nat) (f : Access → Access) :
    (State.modAcc s id f).conf = s.conf := (rfl)

theorem State.dropAcc_conf (s : State) (id : Nat) :
    (State.dropAcc s id).conf = s.conf := (rfl)

theorem State.finish_conf (s : State) (id : Nat) (r : AccResult) :
    (State.finish s id r).conf = s.conf := by unfold State.finish; (repeat' split) <;> simp only [State.conf_mk, State.conf_eta, eq_self, State.dropAcc_conf, State.modHoldUsed_conf]

theorem State.fail_conf (s : State) (id : Nat) (st : Status) :
    (State.fail s id st).conf = s.conf := by simp only [State.fail, State.finish_conf]

theorem State.lose_conf (s : State) (id : Nat) (st : Status) (w : AckFrom) :
    (State.lose s id st w).conf = s.conf := by simp only [State.lose, State.conf_mk, State.conf_eta, apply_ite State.conf, ite_self, State.fail_conf]

theorem State.acked_conf (s : State) (w : AckFrom) :
    (State.acked s w).conf = s.conf := (rfl)

theorem State.takeTokens_conf (s : State) (a : Access) :
    (State.takeTokens s a).conf = s.conf := by simp only [State.takeTokens, apply_ite State.conf, ite_self, State.modStackState_conf]

theorem State.issueMem_conf (s : State) (a : Access) :
    (State.issueMem s a).conf = s.conf := by unfold State.issueMem; (repeat' split) <;> simp only [State.conf_mk, State.conf_eta, eq_self, State.drive_conf, State.fail_conf, State.modAcc_conf, State.modMem_conf, State.takeTokens_conf]

theorem State.issueCacheLine_conf (n : Nat) (hpa : Nat) (a : Access) (i : Nat) (s : State) :
    (State.issueCacheLine n hpa a i s).conf = s.conf := (rfl)

theorem State.issueHost_conf (s : State) (a : Access) (w : HostWin) :
    (State.issueHost s a w).conf = s.conf := by unfold State.issueHost; (repeat' split) <;> simp only [apply_ite State.conf, ite_self, eachOf_conf, implies_true, eq_self, State.fail_conf, State.finish_conf, State.issueCacheLine_conf, State.modAcc_conf]

theorem State.homeOpen_conf (a : Access) (i : Nat) (s : State) :
    (State.homeOpen a i s).conf = s.conf := (rfl)

theorem State.route_conf (s : State) (a : Access) :
    (State.route s a).conf = s.conf := by unfold State.route; simp only []; (repeat' split) <;> simp only [eachOf_conf, implies_true, eq_self, State.clearIntact_conf, State.fail_conf, State.homeOpen_conf, State.issueHost_conf, State.issueMem_conf, State.modAcc_conf]

theorem State.tryIssue_conf (id : Nat) (s : State) :
    (State.tryIssue id s).conf = s.conf := by unfold State.tryIssue; (repeat' split) <;> simp only [eq_self, State.route_conf]

theorem State.issueHeld_conf (s : State) :
    (State.issueHeld s).conf = s.conf := by simp only [State.issueHeld, eachOf_conf, implies_true, eq_self, State.tryIssue_conf]

theorem State.memRecord_conf (s : State) (m : Nat) (st : Status) (a : Access) :
    (State.memRecord s m st a).conf = s.conf := by simp only [State.memRecord, apply_ite State.conf, ite_self, State.recordFor_conf]

theorem State.notePoison_conf (origin : Nat) (unit_ : Nat) (index : Nat) (a : Access) (inst : Nat) (persistent : Bool) (i : Prod Nat Bool) (s : State) :
    (State.notePoison origin unit_ index a inst persistent i s).conf = s.conf := by simp only [State.notePoison, apply_ite State.conf, ite_self, State.poisonLine_conf]

theorem State.notePoisons_conf (s : State) (origin : Nat) (unit_ : Nat) (index : Nat) (a : Access) (inst : Nat) (persistent : Bool) (marks : List Bool) :
    (State.notePoisons s origin unit_ index a inst persistent marks).conf = s.conf := by simp only [State.notePoisons, eachOf_conf, implies_true, eq_self, State.notePoison_conf]

theorem State.landLose_conf (s : State) (p : Nat) :
    (State.landLose s p).conf = s.conf := by simp only [State.landLose, implies_true, eq_self, State.modLanding_conf]

theorem State.landQueue_conf (s : State) (r : LandRec) :
    (State.landQueue s r).conf = s.conf := by simp only [State.landQueue, implies_true, eq_self, State.modLanding_conf]

theorem State.faultAcc_conf (s : State) (id : Nat) (cause : Cause) (level : Nat) (va : BitVec 64) (aux : BitVec 64) :
    (State.faultAcc s id cause level va aux).conf = s.conf := by unfold State.faultAcc; (repeat' split) <;> simp only [apply_ite State.conf, ite_self, eq_self, State.fail_conf, State.landLose_conf, State.landQueue_conf, State.modAcc_conf, State.modStall_conf]

theorem State.sealedFault_conf (s : State) (a : Access) :
    (State.sealedFault s a).conf = s.conf := by unfold State.sealedFault; (repeat' split) <;> simp only [eq_self, State.landLose_conf, State.landQueue_conf]

theorem State.stallSettle_conf (s : State) (st : Nat) :
    (State.stallSettle s st).conf = s.conf := by simp only [State.stallSettle, apply_ite State.conf, ite_self, State.setStall_conf]

theorem State.stallDone_conf (s : State) (st : Nat) (id : Nat) :
    (State.stallDone s st id).conf = s.conf := by simp only [State.stallDone, apply_ite State.conf, ite_self, State.modStall_conf, State.stallSettle_conf]

theorem State.writeLanding_conf (s : State) (p : Nat) :
    (State.writeLanding s p).conf = s.conf := by unfold State.writeLanding; simp only []; (repeat' split) <;> simp only [eq_self, State.launch_conf, State.setLanding_conf]

theorem State.landingWritten_conf (s : State) (p : Nat) (st : Status) :
    (State.landingWritten s p st).conf = s.conf := by unfold State.landingWritten; simp only []; (repeat' split) <;> simp only [eq_self, State.fail_conf, State.modStall_conf, State.raiseVector_conf, State.setLanding_conf, State.stallSettle_conf]

theorem State.stallGo_conf (st : Nat) (s : State) :
    (State.stallGo st s).conf = s.conf := by unfold State.stallGo; (repeat' split) <;> simp only [eq_self, State.modStall_conf, State.setStall_conf, State.stallSettle_conf]

theorem State.stallPump_conf (s : State) :
    (State.stallPump s).conf = s.conf := by simp only [State.stallPump, eachOf_conf, implies_true, eq_self, State.stallGo_conf]

theorem State.failStream_conf (s : State) (st : Nat) : (State.failStream s st).conf = s.conf := by
  unfold State.failStream
  dsimp only
  rw [State.stallGo_conf, eachOf_conf, State.modStall_conf]
  intro x t
  split <;> simp only [State.fail_conf]

theorem State.resumeStale_conf (s : State) :
    (State.resumeStale s).conf = s.conf := (rfl)

theorem State.splitWindow_conf (s : State) (id : Nat) :
    (State.splitWindow s id).conf = s.conf := by unfold State.splitWindow; (repeat' split) <;> simp only [State.conf_mk, State.conf_eta, apply_ite State.conf, ite_self, eq_self]

theorem State.useLeaf_conf (s : State) (id : Nat) (l : Leaf) (level : Nat) :
    (State.useLeaf s id l level).conf = s.conf := by unfold State.useLeaf; (repeat' split) <;> simp only [eq_self, State.faultAcc_conf, State.finish_conf, State.modAcc_conf, State.splitWindow_conf, State.stallDone_conf]

theorem State.fillL1_conf (s : State) (ag : Agent) (l : Leaf) :
    (State.fillL1 s ag l).conf = s.conf := (rfl)

theorem State.newWalk_conf (s : State) (p : Nat) (va : BitVec 64) (who : Asker) (st : Nat) :
    (State.newWalk s p va who st).conf = s.conf := (rfl)

theorem State.missTo_conf (s : State) (p : Nat) (va : BitVec 64) (who : Asker) (st : Nat) (since : Nat) :
    (State.missTo s p va who st since).conf = s.conf := by simp only [State.missTo, State.conf_mk, State.conf_eta, apply_ite State.conf, ite_self, State.newWalk_conf]

theorem State.countL2_conf (s : State) (hit : Bool) :
    (State.countL2 s hit).conf = s.conf := by simp only [State.countL2, State.conf_mk, State.conf_eta, apply_ite State.conf, ite_self]

theorem State.lookup_conf (s : State) (a : Access) (p : Nat) (va : BitVec 64) (since : Option Nat) :
    (State.lookup s a p va since).conf = s.conf := by unfold State.lookup; (repeat' split) <;> simp only [eq_self, State.countL2_conf, State.fail_conf, State.faultAcc_conf, State.fillL1_conf, State.missTo_conf, State.useLeaf_conf]

theorem State.present_conf (id : Nat) (s : State) :
    (State.present id s).conf = s.conf := by unfold State.present; (repeat' split) <;> simp only [eq_self, State.fail_conf, State.lookup_conf]

theorem State.presentAll_conf (s : State) :
    (State.presentAll s).conf = s.conf := by simp only [State.presentAll, eachOf_conf, implies_true, eq_self, State.present_conf]

theorem State.launchVa_conf (s : State) (a : Access) (va : BitVec 64) :
    (State.launchVa s a va).conf = s.conf := by simp only [State.launchVa, State.launch_conf, State.present_conf]

theorem State.modWalk_conf (s : State) (id : Nat) (f : Walk → Walk) :
    (State.modWalk s id f).conf = s.conf := (rfl)

theorem State.dropWalk_conf (s : State) (id : Nat) :
    (State.dropWalk s id).conf = s.conf := (rfl)

theorem State.readEntry_conf (s : State) (w : Walk) :
    (State.readEntry s w).conf = s.conf := (rfl)

theorem State.giveWalker_conf (s : State) (p : Nat) (pool : Bool) (k : Nat) :
    (State.giveWalker s p pool k).conf = s.conf := by unfold State.giveWalker; (repeat' split) <;> simp only [State.conf_mk, State.conf_eta, eq_self, State.modWalk_conf, State.readEntry_conf]

theorem State.atsAnswer_conf (s : State) (n : Nat) (tag : Nat) (l : Leaf) :
    (State.atsAnswer s n tag l).conf = s.conf := by unfold State.atsAnswer; (repeat' split) <;> simp only [eq_self, State.drive_conf]

theorem tellFault_conf (c : Cause) (level : Nat) (x : Prod Asker Nat) (s : State) :
    (tellFault c level x s).conf = s.conf := by unfold tellFault; (repeat' split) <;> simp only [eq_self, State.drive_conf, State.faultAcc_conf]

theorem tellError_conf (st : Status) (x : Prod Asker Nat) (s : State) :
    (tellError st x s).conf = s.conf := by unfold tellError; (repeat' split) <;> simp only [eq_self, State.drive_conf, State.fail_conf, State.stallDone_conf]

theorem tellLeaf_conf (l : Leaf) (x : Prod Asker Nat) (s : State) :
    (tellLeaf l x s).conf = s.conf := by unfold tellLeaf; (repeat' split) <;> simp only [eq_self, State.atsAnswer_conf, State.fillL1_conf, State.useLeaf_conf]

theorem walkAgain_conf (w : Walk) (x : Prod Asker Nat) (s : State) :
    (walkAgain w x s).conf = s.conf := by unfold walkAgain; (repeat' split) <;> simp only [eq_self, State.missTo_conf]

theorem State.walkLeaf_conf (s : State) (w : Walk) (l : Leaf) :
    (State.walkLeaf s w l).conf = s.conf := by simp only [State.walkLeaf, eachOf_conf, implies_true, eq_self, State.conf_mk, State.conf_eta, apply_ite State.conf, ite_self, State.dropWalk_conf, tellLeaf_conf, walkAgain_conf]

theorem State.walkFault_conf (s : State) (w : Walk) (c : Cause) :
    (State.walkFault s w c).conf = s.conf := by simp only [State.walkFault, eachOf_conf, implies_true, eq_self, State.conf_mk, State.conf_eta, apply_ite State.conf, ite_self, State.dropWalk_conf, tellFault_conf, walkAgain_conf]

theorem State.walkDown_conf (s : State) (w : Walk) (t : BitVec 60) :
    (State.walkDown s w t).conf = s.conf := by simp only [State.walkDown, State.conf_mk, State.conf_eta, apply_ite State.conf, ite_self, State.modWalk_conf, State.readEntry_conf]

theorem State.walkReturn_conf (s : State) (w : Walk) (r : AccResult) :
    (State.walkReturn s w r).conf = s.conf := by unfold State.walkReturn; (repeat' split) <;> simp only [eachOf_conf, implies_true, eq_self, State.dropWalk_conf, State.walkDown_conf, State.walkFault_conf, State.walkLeaf_conf, tellError_conf]

theorem State.dropTranslations_conf (s : State) :
    (State.dropTranslations s).conf = s.conf := (rfl)

theorem State.modRun_conf (s : State) (c : Nat) (f : Running → Running) :
    (State.modRun s c f).conf = s.conf := (rfl)

theorem State.setCursor_conf (s : State) (c : Nat) (q : Option Nat) (a : BitVec 64) :
    (State.setCursor s c q a).conf = s.conf := by unfold State.setCursor; split <;> simp only [State.modChan_conf, State.modQueue_conf]

theorem State.markStart_conf (s : State) (c : Nat) :
    (State.markStart s c).conf = s.conf := by unfold State.markStart; (repeat' split) <;> simp only [eq_self, State.modRun_conf, State.setCursor_conf]

end Sys2Proof.Machine
end

