-- ==== Sys2Proof/Laws/Conf2.lean ====
section
/-! SUPPORT. Laws of the configuration, part 2 of 6: for each operation of the machine that no rule lets change the configuration, one
lemma that it leaves it as it is (03 R74). The operations stand in the order of the files that define them. -/

namespace Sys2Proof.Machine

theorem State.chanAccess_conf (s : State) (c : Nat) (a : Access) (addr : BitVec 64) :
    (State.chanAccess s c a addr).conf = s.conf := by simp only [State.chanAccess, apply_ite State.conf, ite_self, State.fail_conf, State.launch_conf, State.launchVa_conf, State.markStart_conf]

theorem State.endEarly_conf (s : State) (c : Nat) (st : Status) :
    (State.endEarly s c st).conf = s.conf := (rfl)

theorem State.engDone_conf (s : State) (r : EngReq) (st : Status) (pa : BitVec 60) (attr : BitVec 8) :
    (State.engDone s r st pa attr).conf = s.conf := (rfl)

theorem State.engEnd_conf (s : State) (port : Nat) (tag : BitVec 8) (st : Status) (pa : BitVec 60) (attr : BitVec 8) :
    (State.engEnd s port tag st pa attr).conf = s.conf := by unfold State.engEnd; split <;> simp only [State.engDone_conf]

theorem State.paceBurst_conf (c : Nat) (s : State) :
    (State.paceBurst c s).conf = s.conf := by unfold State.paceBurst; (repeat' split) <;> simp only [apply_ite State.conf, ite_self, eq_self, State.endEarly_conf, State.modChan_conf, State.modRun_conf]

theorem State.paceSample_conf (s : State) (c : Nat) :
    (State.paceSample s c).conf = s.conf := by unfold State.paceSample; (repeat' split) <;> simp only [apply_ite State.conf, ite_self, eq_self, State.modChan_conf, State.modRun_conf]

theorem State.paceAdvance_conf (s : State) (c : Nat) (d : Words) (n : Nat) :
    (State.paceAdvance s c d n).conf = s.conf := by unfold State.paceAdvance; (repeat' split) <;> simp only [eq_self, State.modChan_conf]

theorem State.readSeqHeader_conf (s : State) (c : Nat) (dst : Bool) (va : BitVec 64) :
    (State.readSeqHeader s c dst va).conf = s.conf := by simp only [State.readSeqHeader, apply_ite State.conf, ite_self, State.chanAccess_conf, State.endEarly_conf]

theorem State.modSeq_conf (s : State) (c : Nat) (dst : Bool) (f : SeqMap → SeqMap) :
    (State.modSeq s c dst f).conf = s.conf := (rfl)

theorem State.readSeqEntry_conf (s : State) (c : Nat) (dst : Bool) (m : SeqMap) (b : Nat) :
    (State.readSeqEntry s c dst m b).conf = s.conf := by simp only [State.readSeqEntry, State.chanAccess_conf, State.modSeq_conf]

theorem State.seqFault_conf (s : State) (c : Nat) (dst : Bool) (va : BitVec 64) (cause : Cause) (b : Nat) (l : Int) :
    (State.seqFault s c dst va cause b l).conf = s.conf := by simp only [State.seqFault, apply_ite State.conf, ite_self, State.endEarly_conf, State.faultAcc_conf, State.launch_conf, State.modRun_conf, State.modSeq_conf]

theorem State.resolveSide_conf (s : State) (c : Nat) (dst : Bool) (m : Option SeqMap) (l : Int) :
    (State.resolveSide s c dst m l).2.conf = s.conf := by unfold State.resolveSide; (repeat' split) <;> simp only [eq_self, State.readSeqEntry_conf, State.seqFault_conf]

theorem State.sluiceNote_conf (s : State) (d : Words) (n : SluiceNote) :
    (State.sluiceNote s d n).conf = s.conf := by simp only [State.sluiceNote, State.conf_mk, State.conf_eta, apply_ite State.conf, ite_self, State.modPipe_conf]

theorem State.takeReads_conf (c n : Nat) (s : State) : (State.takeReads c n s).conf = s.conf := by
  induction n generalizing s with
  | zero => rfl
  | succ n ih =>
    unfold State.takeReads
    split
    · split
      · split
        · dsimp only
          split
          · rfl
          · rw [ih]
            simp only [State.sluiceNote_conf, State.modRun_conf]
        · rfl
      · rfl
    · rfl

theorem State.nextRead_conf (s : State) (c : Nat) (r : Running) :
    (State.nextRead s c r).2.conf = s.conf := by unfold State.nextRead; simp only []; (repeat' split) <;> simp only [eq_self, State.resolveSide_conf]

theorem State.issueRead_conf (s : State) (c : Nat) :
    (State.issueRead s c).conf = s.conf := by unfold State.issueRead; (repeat' split) <;> simp only [eq_self, State.chanAccess_conf, State.endEarly_conf, State.holdTake_conf, State.modRun_conf, State.paceAdvance_conf]

theorem State.issueWrite_conf (s : State) (c : Nat) :
    (State.issueWrite s c).conf = s.conf := by unfold State.issueWrite; (repeat' split) <;> simp only [eq_self, State.chanAccess_conf, State.endEarly_conf, State.holdTake_conf, State.modRun_conf]

theorem State.grantBurst_conf (s : State) (k : Nat) (wr : Bool) :
    (State.grantBurst s k wr).conf = s.conf := by unfold State.grantBurst; simp only [apply_ite State.conf]; (repeat' split) <;> simp only [apply_ite State.conf, ite_self, eachOf_conf, implies_true, eq_self, State.issueRead_conf, State.issueWrite_conf, State.paceBurst_conf, State.setReadArb_conf, State.setWriteArb_conf]

theorem State.probeResult_conf (s : State) (c : Nat) (d : Words) :
    (State.probeResult s c d).conf = s.conf := by simp only [State.probeResult, State.chanAccess_conf]

theorem State.beginLoop_conf (s : State) (c : Nat) :
    (State.beginLoop s c).conf = s.conf := by unfold State.beginLoop; (repeat' split) <;> simp only [apply_ite State.conf, ite_self, eq_self, State.holdTake_conf, State.modRun_conf, State.probeResult_conf, State.readSeqHeader_conf]

theorem State.beginOp_conf (s : State) (c : Nat) (op : Nat) :
    (State.beginOp s c op).conf = s.conf := by simp only [State.beginOp, apply_ite State.conf, ite_self, State.beginLoop_conf]

theorem State.workDone_conf (s : State) (c : Nat) :
    (State.workDone s c).conf = s.conf := by simp only [State.workDone, State.markStart_conf, State.modRun_conf]

theorem State.beginLink_conf (s : State) (c : Nat) :
    (State.beginLink s c).conf = s.conf := by simp only [State.beginLink, apply_ite State.conf, ite_self, State.workDone_conf]

theorem State.beginWait_conf (s : State) (c : Nat) :
    (State.beginWait s c).conf = s.conf := by unfold State.beginWait; (repeat' split) <;> simp only [eq_self, State.endEarly_conf, State.markStart_conf, State.modRun_conf, State.workDone_conf]

theorem State.beginSignal_conf (s : State) (c : Nat) :
    (State.beginSignal s c).conf = s.conf := by unfold State.beginSignal; (repeat' split) <;> simp only [apply_ite State.conf, ite_self, eq_self, State.endEarly_conf, State.launch_conf, State.markStart_conf, State.modRun_conf, State.tideAdd_conf, State.workDone_conf]

theorem State.seqFailed_conf (s : State) (c : Nat) (st : Status) :
    (State.seqFailed s c st).conf = s.conf := (rfl)

theorem State.seqHeaderBack_conf (s : State) (c : Nat) (dst : Bool) (res : AccResult) :
    (State.seqHeaderBack s c dst res).conf = s.conf := by unfold State.seqHeaderBack; simp only []; (repeat' split) <;> simp only [eq_self, State.faultAcc_conf, State.launch_conf, State.modRun_conf, State.seqFailed_conf]

theorem State.entryPoison_conf (s : State) (c : Nat) (pu : Purpose) (va : BitVec 64) :
    (State.entryPoison s c pu va).conf = s.conf := by simp only [State.entryPoison, apply_ite State.conf, ite_self, State.faultAcc_conf, State.launch_conf, State.seqFailed_conf]

theorem State.seqEntryBack_conf (s : State) (c : Nat) (dst : Bool) (b : Nat) (res : AccResult) :
    (State.seqEntryBack s c dst b res).conf = s.conf := by unfold State.seqEntryBack; (repeat' split) <;> simp only [eq_self, State.entryPoison_conf, State.modSeq_conf, State.seqFailed_conf]

theorem State.rangeBack_conf (s : State) (c : Nat) (res : AccResult) :
    (State.rangeBack s c res).conf = s.conf := by unfold State.rangeBack; (repeat' split) <;> simp only [apply_ite State.conf, ite_self, eq_self, State.endEarly_conf, State.entryPoison_conf, State.modRun_conf]

theorem State.probeBack_conf (s : State) (c : Nat) (last : Bool) (res : AccResult) :
    (State.probeBack s c last res).conf = s.conf := by simp only [State.probeBack, apply_ite State.conf, ite_self, State.endEarly_conf, State.modRun_conf]

theorem State.sendPiece_conf (s : State) (c : Nat) (r : Running) (inst : Nat) (offset : Nat) (bs : MarkedBytes) :
    (State.sendPiece s c r inst offset bs).conf = s.conf := by simp only [State.sendPiece, apply_ite State.conf, ite_self, State.launch_conf, State.modChan_conf]

theorem State.placeContribution_conf (s : State) (c : Nat) (r : Running) :
    (State.placeContribution s c r).conf = s.conf := by unfold State.placeContribution; (repeat' split) <;> simp only [eq_self, State.endEarly_conf, State.modRun_conf]

theorem State.cutPiece_conf (s : State) (c : Nat) :
    (State.cutPiece s c).conf = s.conf := by unfold State.cutPiece; (repeat' split) <;> simp only [apply_ite State.conf, ite_self, eq_self, State.modRun_conf, State.sendPiece_conf]

theorem State.resendHeader_conf (s : State) (c : Nat) (r : Running) :
    (State.resendHeader s c r).conf = s.conf := by unfold State.resendHeader; (repeat' split) <;> simp only [eq_self, State.modRun_conf, State.sendPiece_conf]

theorem State.pieceBack_conf (s : State) (c : Nat) (st : Status) (answered : Bool) :
    (State.pieceBack s c st answered).conf = s.conf := by unfold State.pieceBack; simp only []; (repeat' split) <;> simp only [eq_self, State.endEarly_conf, State.modRun_conf]

theorem State.headersIn_conf (s : State) (c : Nat) (r : Running) :
    (State.headersIn s c r).conf = s.conf := by simp only [State.headersIn, apply_ite State.conf, ite_self, State.endEarly_conf, State.modRun_conf]

theorem State.nextRange_conf (s : State) (c : Nat) (r : Running) :
    (State.nextRange s c r).conf = s.conf := by simp only [State.nextRange, apply_ite State.conf, ite_self, State.chanAccess_conf, State.modRun_conf]

theorem State.lastBytes_conf (s : State) (c : Nat) (r : Running) :
    (State.lastBytes s c r).conf = s.conf := by simp only [State.lastBytes, apply_ite State.conf, ite_self, State.modRun_conf]

theorem elim_conf {α : Type} (o : Option α) (s : State) (f : α → State) (h : ∀ x, (f x).conf = s.conf) :
    (o.elim s f).conf = s.conf := by
  cases o with
  | none => rfl
  | some x => exact h x

theorem State.advanceChan_conf (c : Nat) (s : State) : (State.advanceChan c s).conf = s.conf := by
  unfold State.advanceChan
  split
  · rfl
  · split
    · dsimp only
      split <;> simp only [State.placeContribution_conf, State.headersIn_conf]
    · dsimp only
      refine (elim_conf _ _ _ (fun x => ?_)).trans ?_
      · split <;> simp only [State.modRun_conf]
      refine (elim_conf _ _ _ (fun x => ?_)).trans ?_
      · split
        · split <;> simp only [State.resolveSide_conf]
        · rfl
      refine (elim_conf _ _ _ (fun x => ?_)).trans ?_
      · split <;> simp only [State.nextRead_conf]
      refine (elim_conf _ _ _ (fun x => State.resendHeader_conf _ _ _)).trans ?_
      refine (elim_conf _ _ _ (fun x => State.lastBytes_conf _ _ _)).trans ?_
      refine (elim_conf _ _ _ (fun x => State.nextRange_conf _ _ _)).trans ?_
      refine (State.cutPiece_conf _ _).trans ?_
      refine (elim_conf _ _ _ (fun x => State.placeContribution_conf _ _ _)).trans ?_
      rw [State.modRun_conf]
    · rfl

theorem State.setPending_conf (s : State) (c : Nat) (q : Option Nat) (st : Status) :
    (State.setPending s c q st).conf = s.conf := by unfold State.setPending; split <;> simp only [State.modChan_conf, State.modQueue_conf]

theorem State.attach__conf (s : State) (c : Nat) (q : Option Nat) (st : Status) :
    (State.attach_ s c q st).conf = s.conf := by simp only [State.attach_, apply_ite State.conf, ite_self, State.setPending_conf]

theorem State.endList_conf (s : State) (c : Nat) (q : Option Nat) :
    (State.endList s c q).conf = s.conf := by unfold State.endList; split <;> simp only [State.modChan_conf, State.modQueue_conf]

theorem State.stopAfter_conf (s : State) (c : Nat) (q : Option Nat) :
    (State.stopAfter s c q).conf = s.conf := by unfold State.stopAfter; (repeat' split) <;> simp only [eq_self, State.modChan_conf, State.modQueue_conf]

theorem State.countDown_conf (s : State) (c : Nat) (fenceLost : Bool) :
    (State.countDown s c fenceLost).conf = s.conf := by simp only [State.countDown, apply_ite State.conf, ite_self, State.modChan_conf, State.raiseVector_conf]

theorem State.finishDesc_conf (s : State) (c : Nat) :
    (State.finishDesc s c).conf = s.conf := by unfold State.finishDesc; (repeat' split) <;> simp only [eq_self, State.countDown_conf, State.endList_conf, State.holdGive_conf, State.modChan_conf, State.setCursor_conf, State.stopAfter_conf]

theorem State.fenceStep_conf (s : State) (c : Nat) :
    (State.fenceStep s c).conf = s.conf := by unfold State.fenceStep; (repeat' split) <;> simp only [eq_self, State.attach__conf, State.chanAccess_conf, State.finishDesc_conf, State.modRun_conf]

theorem State.fenceBack_conf (s : State) (c : Nat) (st : Status) :
    (State.fenceBack s c st).conf = s.conf := by unfold State.fenceBack; (repeat' split) <;> simp only [eq_self, State.attach__conf, State.finishDesc_conf, State.modRun_conf, State.setPending_conf]

theorem State.endDesc_conf (s : State) (c : Nat) :
    (State.endDesc s c).conf = s.conf := by unfold State.endDesc; (repeat' split) <;> simp only [eq_self, State.chanAccess_conf, State.fenceStep_conf, State.modRun_conf]

theorem State.readBack_conf (s : State) (a : Access) (c : Nat) (b : Nat) (res : AccResult) :
    (State.readBack s a c b res).conf = s.conf := by unfold State.readBack; simp only []; (repeat' split) <;> simp only [eq_self, State.endEarly_conf, State.holdGive_conf, State.modRun_conf]

theorem State.burstArrive_conf (s : State) (c : Nat) (b : Nat) :
    (State.burstArrive s c b).conf = s.conf := by simp only [State.burstArrive, State.modRun_conf, State.takeReads_conf]

theorem State.writeBack_conf (s : State) (a : Access) (c : Nat) (res : AccResult) :
    (State.writeBack s a c res).conf = s.conf := by unfold State.writeBack; (repeat' split) <;> simp only [apply_ite State.conf, ite_self, eq_self, State.endEarly_conf, State.holdGive_conf, State.modChan_conf, State.tideCredit_conf]

theorem State.waitReached_conf (s : State) (c : Nat) :
    (State.waitReached s c).conf = s.conf := by unfold State.waitReached; (repeat' split) <;> simp only [eq_self, State.workDone_conf]

theorem State.waitExpired_conf (s : State) (c : Nat) :
    (State.waitExpired s c).conf = s.conf := by unfold State.waitExpired; (repeat' split) <;> simp only [eq_self, State.endEarly_conf]

theorem State.paceExpired_conf (s : State) (c : Nat) :
    (State.paceExpired s c).conf = s.conf := by unfold State.paceExpired; (repeat' split) <;> simp only [eq_self, State.endEarly_conf]

theorem State.takeCredits_conf (s : State) (p : Nat) (w : BitVec 16) :
    (State.takeCredits s p w).conf = s.conf := (rfl)

theorem State.giveCredits_conf (s : State) (p : Nat) (cls : PktClass) (n : Nat) :
    (State.giveCredits s p cls n).conf = s.conf := by simp only [State.giveCredits, eachOf_conf, implies_true, eq_self, apply_ite State.conf, ite_self, State.drive_conf]

theorem State.sendFlit_conf (s : State) (p : Nat) (sl : List Bytes) (nak : Bool) :
    (State.sendFlit s p sl nak).conf = s.conf := by simp only [State.sendFlit, apply_ite State.conf, ite_self, State.drive_conf, State.setPeer_conf]

theorem State.sendFlits_conf (p n : Nat) (l : List Bytes) (s : State) : (State.sendFlits p n l s).conf = s.conf := by
  induction n generalizing l s with
  | zero => rfl
  | succ n ih =>
    unfold State.sendFlits
    split
    · rfl
    · rw [ih, State.sendFlit_conf]

theorem State.sendWaiting_conf (p n : Nat) (l : List Packet) (st : List PktClass) (s : State) :
    (State.sendWaiting p n l st s).conf = s.conf := by
  induction n generalizing l st s with
  | zero => rfl
  | succ n ih =>
    cases l with
    | nil => rfl
    | cons k rest =>
      unfold State.sendWaiting
      split
      · exact ih _ _ _
      · dsimp only; rw [ih, State.sendFlits_conf, State.modPeer_conf]

theorem State.flushPort_conf (s : State) (p : Nat) :
    (State.flushPort s p).conf = s.conf := by simp only [State.flushPort, State.sendWaiting_conf]

theorem State.queueOn_conf (s : State) (p : Nat) (k : Packet) :
    (State.queueOn s p k).conf = s.conf := by simp only [State.queueOn, State.flushPort_conf, State.modPeer_conf]

theorem State.sendPacket_conf (s : State) (k : Packet) :
    (State.sendPacket s k).conf = s.conf := by unfold State.sendPacket; split <;> simp only [State.queueOn_conf]

theorem State.countUnreach_conf (s : State) (st : Status) :
    (State.countUnreach s st).conf = s.conf := by simp only [State.countUnreach, State.conf_mk, State.conf_eta, apply_ite State.conf, ite_self]

theorem State.moveTo_conf (s : State) (p : Nat) (q : Nat) (k : Packet) :
    (State.moveTo s p q k).conf = s.conf := by simp only [State.moveTo, State.conf_mk, State.conf_eta, State.queueOn_conf]

theorem State.rerouteWaiting_conf (s : State) (p : Nat) :
    (State.rerouteWaiting s p).conf = s.conf := by
  unfold State.rerouteWaiting
  dsimp only
  rw [eachOf_conf, State.modPeer_conf]
  intro x t
  split
  · simp only [State.moveTo_conf]
  · split
    · rfl
    · split
      · rw [State.countUnreach_conf, State.fail_conf]; rfl
      · rfl

theorem State.peerFail_conf (s : State) (p : Nat) (st : Status) (inst : (Option Nat)) :
    (State.peerFail s p st inst).conf = s.conf := by simp only [State.peerFail, State.modPeer_conf, State.record_conf, State.rerouteWaiting_conf, State.shIrq_conf]

theorem State.replay_conf (s : State) (p : Nat) :
    (State.replay s p).conf = s.conf := by unfold State.replay; simp only []; (repeat' split) <;> simp only [eachOf_conf, implies_true, eq_self, State.drive_conf, State.peerFail_conf, State.setPeer_conf]

theorem State.payOwed_conf (s : State) (p : Nat) :
    (State.payOwed s p).conf = s.conf := by unfold State.payOwed; split <;> simp only [State.modPeer_conf, State.sendFlit_conf]

theorem State.peerAck_conf (s : State) (p : Nat) (last : Nat) :
    (State.peerAck s p last).conf = s.conf := by simp only [State.peerAck, apply_ite State.conf, ite_self, State.flushPort_conf, State.payOwed_conf, State.setPeer_conf]

theorem State.peerNakIn_conf (s : State) (p : Nat) (last : Nat) :
    (State.peerNakIn s p last).conf = s.conf := by simp only [State.peerNakIn, State.peerAck_conf, State.replay_conf]

theorem State.dropHeader_conf (s : State) (p : Nat) :
    (State.dropHeader s p).conf = s.conf := (rfl)

theorem State.refusePacket_conf (s : State) (k : Packet) (st : Status) :
    (State.refusePacket s k st).conf = s.conf := by simp only [State.refusePacket, State.sendPacket_conf]

theorem State.mgmtAnswer_conf (s : State) (p : Nat) (k : Packet) (st : Status) (reply : Bytes) :
    (State.mgmtAnswer s p k st reply).conf = s.conf := by unfold State.mgmtAnswer; simp only []; (repeat' split) <;> simp only [eq_self, State.queueOn_conf]

theorem State.packetIn_conf (s : State) (p : Nat) (sl : List Bytes) :
    (State.packetIn s p sl).conf = s.conf := by simp only [State.packetIn, apply_ite State.conf, ite_self, State.dropHeader_conf, State.giveCredits_conf, State.mgmtAnswer_conf, State.modPeer_conf, State.record_conf, State.refusePacket_conf]

theorem State.packetCome_conf (s : State) (p : Nat) (sl : List Bytes) :
    (State.packetCome s p sl).conf = s.conf := by simp only [State.packetCome, apply_ite State.conf, ite_self, State.dropHeader_conf, State.modPeer_conf, State.packetIn_conf]

theorem State.storedIn_conf (p : Nat) (s : State) :
    (State.storedIn p s).conf = s.conf := by simp only [State.storedIn, eachOf_conf, implies_true, eq_self, apply_ite State.conf, ite_self, State.modPeer_conf, State.packetIn_conf]

theorem State.slotsIn_conf (p : Nat) (l : List Bytes) (s : State) : (State.slotsIn p l s).conf = s.conf := by
  induction l generalizing s with
  | nil => rfl
  | cons b rest ih =>
    unfold State.slotsIn
    dsimp only
    split
    · rfl
    · split <;> simp only [ih, State.packetCome_conf, State.modPeer_conf]

theorem State.flitBad_conf (s : State) (p : Nat) (tagFailed : Bool) :
    (State.flitBad s p tagFailed).conf = s.conf := by simp only [State.flitBad, apply_ite State.conf, ite_self, State.modPeer_conf, State.sendFlit_conf]

theorem State.flitIn_conf (s : State) (p : Nat) (f : Bytes) :
    (State.flitIn s p f).conf = s.conf := by unfold State.flitIn; simp only [apply_ite State.conf, State.flitBad_conf]; (repeat' split) <;> simp only [eq_self, State.flitBad_conf, State.modPeer_conf, State.peerAck_conf, State.peerNakIn_conf, State.slotsIn_conf]

theorem State.unbox_conf (s : State) (p : Nat) (k : Packet) :
    (State.unbox s p k).conf = s.conf := by simp only [State.unbox, State.giveCredits_conf, State.modPeer_conf]

theorem State.modFilter_conf (s : State) (f : List FilterEntry → List FilterEntry) :
    (State.modFilter s f).conf = s.conf := (rfl)

theorem State.grant_conf (s : State) (line : Nat) (mask : BitVec 8) (excl : Bool) :
    (State.grant s line mask excl).conf = s.conf := (rfl)

theorem State.trim_conf (s : State) :
    (State.trim s).conf = s.conf := (rfl)

theorem State.unhold_conf (s : State) (line : Nat) (i : Nat) :
    (State.unhold s line i).conf = s.conf := (rfl)

theorem State.forget_conf (s : State) (i : Nat) :
    (State.forget s i).conf = s.conf := (rfl)

theorem State.modTxn_conf (s : State) (id : Nat) (f : HomeTxn → HomeTxn) :
    (State.modTxn s id f).conf = s.conf := (rfl)

theorem State.dropTxn_conf (s : State) (id : Nat) :
    (State.dropTxn s id).conf = s.conf := (rfl)

theorem State.openTxn_conf (s : State) (line : Nat) (r : HomeReq) :
    (State.openTxn s line r).conf = s.conf := (rfl)

theorem State.takeTag_conf (s : State) :
    (State.takeTag s).2.conf = s.conf := (rfl)

theorem State.track_conf (s : State) (access : Nat) (port : Nat) (op : BitVec 6) (dst : BitVec 12) (own : Bool) :
    (State.track s access port op dst own).2.conf = s.conf := (rfl)

theorem State.sendSnoop_conf (id : Nat) (line : Nat) (i : Nat) (inv : Bool) (s : State) :
    (State.sendSnoop id line i inv s).conf = s.conf := by simp only [State.sendSnoop, apply_ite State.conf, ite_self, State.drive_conf, State.sendPacket_conf, State.track_conf]

theorem State.sendSnoops_conf (s : State) (id : Nat) (line : Nat) (l : List (Prod Nat (Prod Bool Bool))) :
    (State.sendSnoops s id line l).conf = s.conf := by simp only [State.sendSnoops, eachOf_conf, implies_true, eq_self, State.modTxn_conf, State.sendSnoop_conf]

theorem State.lineDone_conf (s : State) (id : Nat) (i : Nat) (st : Status) (data : Bytes) (bad : Bool) :
    (State.lineDone s id i st data bad).conf = s.conf := by unfold State.lineDone; (repeat' split) <;> simp only [apply_ite State.conf, ite_self, eq_self, State.finish_conf, State.modAcc_conf]

theorem State.homeMem_conf (s : State) (pu : Purpose) (part : Option Nat) (k : AccKind) (addr : Nat) (data : Bytes) (be : List Bool) (poison : Bool) :
    (State.homeMem s pu part k addr data be poison).conf = s.conf := (rfl)

theorem State.serveTxn_conf (s : State) (t : HomeTxn) :
    (State.serveTxn s t).conf = s.conf := by unfold State.serveTxn; (repeat' split) <;> simp only [eq_self, State.dropTxn_conf, State.homeMem_conf, State.modTxn_conf]

theorem State.ownData_conf (s : State) (t : HomeTxn) (st : Status) (data : Bytes) (bad : Bool) :
    (State.ownData s t st data bad).conf = s.conf := by unfold State.ownData; split <;> simp only [State.dropTxn_conf, State.sendPacket_conf]

theorem State.grantWay_conf (s : State) (t : HomeTxn) {go : State → State} (h : ∀ u, (go u).conf = u.conf) :
    (State.beginTxn.grantWay s t go).conf = s.conf := by
  unfold State.beginTxn.grantWay
  dsimp only
  (repeat' split) <;> simp only [h, State.modFilter_conf, State.sendSnoops_conf, State.modTxn_conf, State.conf_mk, State.conf_eta]

theorem State.beginTxn_conf (s : State) (t : HomeTxn) : (s.beginTxn t).conf = s.conf := by
  have hg : ∀ (q : Bool) (l : List (Nat × Bool × Bool)) (u : State), (State.sendSnoops (u.modTxn t.id (fun t => { t with
      phase := .snooping, quiet := q })) t.id t.line.toNat l).conf = u.conf := fun q l u => by
    rw [State.sendSnoops_conf, State.modTxn_conf]
  unfold State.beginTxn
  dsimp only
  split
  · split
    · simp only [State.ownData_conf]
    · split
      · simp only [State.ownData_conf]
      · exact State.grantWay_conf _ _ (fun u => hg _ _ u)
  · split
    · split
      · simp only [State.sendPacket_conf, State.unhold_conf, State.dropTxn_conf]
      · rw [hg, State.clearIntact_conf]
    · simp only [State.sendPacket_conf, State.dropTxn_conf]
  · split
    · simp only [State.dropTxn_conf]
    · split
      · simp only [State.finish_conf, State.dropTxn_conf]
      · exact hg _ _ _
  · exact (State.grantWay_conf _ _ (fun u => hg _ _ u)).trans (State.modTxn_conf ..)
  · exact hg _ _ _
  · exact hg _ _ _
  · simp only [State.dropTxn_conf]

theorem State.stepTxn_again_conf (id : Nat) (s : State) : (State.stepTxn.again id s).conf = s.conf := by
  unfold State.stepTxn.again
  dsimp only
  (repeat' split) <;> simp only [State.serveTxn_conf, State.sendSnoops_conf, State.modTxn_conf, State.modFilter_conf]

theorem State.stepTxn_conf (id : Nat) (s : State) : (State.stepTxn id s).conf = s.conf := by
  unfold State.stepTxn
  (repeat' split) <;> simp only [State.stepTxn_again_conf, State.beginTxn_conf]

theorem State.homePump_conf (s : State) :
    (State.homePump s).conf = s.conf := by simp only [State.homePump, eachOf_conf, implies_true, eq_self, State.stepTxn_conf]

theorem State.hostReadDone_conf (s : State) (t : HomeTxn) (n : Nat) (tag : Nat) (mv : MetaValue) (data : Bytes) (bad : Bool) :
    (State.hostReadDone s t n tag mv data bad).conf = s.conf := by unfold State.hostReadDone; simp only []; (repeat' split) <;> simp only [eq_self, State.drive_conf, State.dropTxn_conf, State.grant_conf]

theorem State.hostWriteFilter_conf (s : State) (line : Nat) (n : Nat) (mv : MetaValue) (owner : Bool) :
    (State.hostWriteFilter s line n mv owner).conf = s.conf := by unfold State.hostWriteFilter; (repeat' split) <;> simp only [eq_self, State.modFilter_conf, State.unhold_conf]

theorem State.wbFree_conf (s : State) (n : Nat) :
    (State.wbFree s n).conf = s.conf := (rfl)

theorem State.ackConflicts_conf (s : State) (n : Nat) (line : Nat) :
    (State.ackConflicts s n line).conf = s.conf := by simp only [State.ackConflicts, eachOf_conf, implies_true, eq_self, State.conf_mk, State.conf_eta, State.drive_conf]

theorem State.atomicRead_conf (s : State) (t : HomeTxn) (a : Access) (op : AtomicOp) (res : AccResult) :
    (State.atomicRead s t a op res).conf = s.conf := by simp only [State.atomicRead, apply_ite State.conf, ite_self, State.dropTxn_conf, State.homeMem_conf, State.lineDone_conf, State.modTxn_conf]

theorem State.homeBack_conf (s : State) (id : Nat) (res : AccResult) :
    (State.homeBack s id res).conf = s.conf := by unfold State.homeBack; (repeat' split) <;> simp only [eq_self, State.ackConflicts_conf, State.atomicRead_conf, State.drive_conf, State.dropTxn_conf, State.grant_conf, State.hostReadDone_conf, State.hostWriteFilter_conf, State.lineDone_conf, State.modTxn_conf, State.ownData_conf, State.sendPacket_conf, State.unhold_conf, State.wbFree_conf]

theorem State.wbBack_conf (s : State) (n : Nat) (tag : Nat) (line : Nat) :
    (State.wbBack s n tag line).conf = s.conf := by simp only [State.wbBack, apply_ite State.conf, ite_self, State.ackConflicts_conf, State.drive_conf, State.wbFree_conf]

theorem State.countStale_conf (s : State) :
    (State.countStale s).conf = s.conf := (rfl)

theorem State.snoopAnswered_conf (s : State) (t : HomeTxn) (line : Nat) (i : Nat) (keeps : Bool) :
    (State.snoopAnswered s t line i keeps).conf = s.conf := by simp only [State.snoopAnswered, apply_ite State.conf, ite_self, State.modFilter_conf, State.modTxn_conf, State.unhold_conf]

theorem State.biTake_conf (s : State) (n : Nat) (line : Nat) (st : BiRsp) :
    (State.biTake s n line st).conf = s.conf := by unfold State.biTake; (repeat' split) <;> simp only [apply_ite State.conf, ite_self, eq_self, State.countStale_conf, State.snoopAnswered_conf]

theorem State.peerPoison_conf (s : State) (p : Nat) (line : Nat) (inst : Nat) (bad : Bool) :
    (State.peerPoison s p line inst bad).conf = s.conf := by simp only [State.peerPoison, apply_ite State.conf, ite_self, State.poisonLine_conf]

theorem State.peerSnoopBack_conf (s : State) (p : Nat) (id : Nat) (line : Nat) (i : Nat) (data : Option (Prod Bytes Bool)) :
    (State.peerSnoopBack s p id line i data).conf = s.conf := by unfold State.peerSnoopBack; (repeat' split) <;> simp only [apply_ite State.conf, ite_self, eq_self, State.clearIntact_conf, State.countStale_conf, State.homeMem_conf, State.modTxn_conf, State.peerPoison_conf, State.snoopAnswered_conf]

theorem State.endSnoopTag_conf (s : State) (txn : Nat) (i : Nat) :
    (State.endSnoopTag s txn i).conf = s.conf := (rfl)

theorem State.loseLine_conf (s : State) (line : Nat) (i : Nat) :
    (State.loseLine s line i).conf = s.conf := by unfold State.loseLine; simp only [apply_ite State.conf, State.homeMem_conf, State.poisonLine_conf, State.record_conf]; (repeat' split) <;> simp only [State.conf_mk, State.conf_eta, eq_self, State.endSnoopTag_conf, State.modTxn_conf, State.snoopAnswered_conf, State.unhold_conf]

end Sys2Proof.Machine
end

