-- ==== Sys2Proof/Laws/Conf3.lean ====
section
/-! SUPPORT. Laws of the configuration, part 3 of 6: for each operation of the machine that no rule lets change the configuration, one
lemma that it leaves it as it is (03 R74). The operations stand in the order of the files that define them. -/

namespace Sys2Proof.Machine

theorem State.snoopTimeout_conf (s : State) (line : Nat) (i : Nat) :
    (State.snoopTimeout s line i).conf = s.conf := by simp only [State.snoopTimeout, apply_ite State.conf, ite_self, State.loseLine_conf]

theorem State.loseHolder_conf (s : State) (i : Nat) :
    (State.loseHolder s i).conf = s.conf := by simp only [State.loseHolder, eachOf_conf, implies_true, eq_self, State.loseLine_conf]

theorem State.hostMemRd_conf (s : State) (n : Nat) (addr : Nat) (mv : MetaValue) (tag : Nat) :
    (State.hostMemRd s n addr mv tag).conf = s.conf := by simp only [State.hostMemRd, apply_ite State.conf, ite_self, State.openTxn_conf]

theorem State.hostMemWr_conf (s : State) (n : Nat) (addr : Nat) (mv : MetaValue) (partial_ : Bool) (tag : Nat) (data : Bytes) (be : BitVec 64) (bad : Bool) :
    (State.hostMemWr s n addr mv partial_ tag data be bad).conf = s.conf := by unfold State.hostMemWr; simp only [apply_ite State.conf]; (repeat' split) <;> simp only [State.conf_mk, State.conf_eta, eq_self, State.homeMem_conf, State.hostWriteFilter_conf, State.modTxn_conf, State.openTxn_conf, State.poisonLine_conf]

theorem State.biConflict_conf (s : State) (n : Nat) (addr : BitVec 48) :
    (State.biConflict s n addr).conf = s.conf := by simp only [State.biConflict, State.conf_mk, State.conf_eta, apply_ite State.conf, ite_self, State.drive_conf]

theorem State.unknownM2s_conf (s : State) (n : Nat) (isRead : Bool) (addr : Nat) (tag : Nat) :
    (State.unknownM2s s n isRead addr tag).conf = s.conf := by simp only [State.unknownM2s, apply_ite State.conf, ite_self, State.drive_conf, State.record_conf]

theorem State.hdmH_conf (s : State) (n : Nat) (write : Bool) (addr : Nat) (tag : Nat) (data : Bytes) (be : BitVec 64) (bad : Bool) :
    (State.hdmH s n write addr tag data be bad).conf = s.conf := by simp only [State.hdmH, apply_ite State.conf, ite_self, State.homeMem_conf, State.poisonLine_conf]

theorem State.hdmBack_conf (s : State) (n : Nat) (tag : Nat) (isRead : Bool) (res : AccResult) :
    (State.hdmBack s n tag isRead res).conf = s.conf := by simp only [State.hdmBack, apply_ite State.conf, ite_self, State.drive_conf]

theorem State.hostSnooped_conf (s : State) (n : Nat) (addr : BitVec 64) :
    (State.hostSnooped s n addr).conf = s.conf := by simp only [State.hostSnooped, State.drive_conf]

theorem State.hostCut_conf (s : State) (n : Nat) (tag : Nat) (isRead : Bool) :
    (State.hostCut s n tag isRead).conf = s.conf := by simp only [State.hostCut, apply_ite State.conf, ite_self, State.drive_conf]

theorem State.hostTake_conf (s : State) (n : Nat) (m : HostMsg) :
    (State.hostTake s n m).conf = s.conf := by unfold State.hostTake; (repeat' split) <;> simp only [apply_ite State.conf, ite_self, eq_self, State.biConflict_conf, State.biTake_conf, State.hdmH_conf, State.hostCut_conf, State.hostMemRd_conf, State.hostMemWr_conf, State.hostSnooped_conf, State.unknownM2s_conf]

theorem State.hostCome_conf (s : State) (n : Nat) (m : HostMsg) :
    (State.hostCome s n m).conf = s.conf := by simp only [State.hostCome, State.conf_mk, State.conf_eta, apply_ite State.conf, ite_self, State.hostTake_conf]

theorem State.hostHeldGo_conf (s : State) :
    (State.hostHeldGo s).conf = s.conf := by simp only [State.hostHeldGo, eachOf_conf, implies_true, eq_self, State.conf_mk, State.conf_eta, apply_ite State.conf, ite_self, State.hostTake_conf]

theorem State.cutAnswer_conf (st : Status) (t : HomeTxn) (s : State) :
    (State.cutAnswer st t s).conf = s.conf := by unfold State.cutAnswer; split <;> simp only [State.ackConflicts_conf, State.hostCut_conf, State.sendPacket_conf, State.wbFree_conf]

theorem State.cutHome_conf (s : State) (st : Status) : (State.cutHome s st).conf = s.conf := by
  have h1 : ∀ (l : List HomeTxn) (u : State), (eachOf (State.cutAnswer st) l u).conf = u.conf :=
    fun l u => eachOf_conf (fun x t => State.cutAnswer_conf st x t) l u
  unfold State.cutHome
  dsimp only
  rw [State.trim_conf]
  refine (State.conf_mk ..).trans ((State.conf_eta _).trans ?_)
  rw [eachOf_conf, h1]
  intro a t
  split
  · split <;> simp only [State.ackConflicts_conf, State.hostCut_conf, State.wbFree_conf]
  · rfl

theorem State.predSet_conf (s : State) (pa : Nat) (v : Nat) :
    (State.predSet s pa v).conf = s.conf := (rfl)

theorem State.predComp_conf (s : State) (pa : Nat) (subop : Nat) :
    (State.predComp s pa subop).conf = s.conf := by simp only [State.predComp, apply_ite State.conf, ite_self, State.predSet_conf]

theorem State.modNear_conf (s : State) (f : List NearLine → List NearLine) :
    (State.modNear s f).conf = s.conf := (rfl)

theorem State.nearDo_conf (s : State) (a : Access) (op : AtomicOp) (l : NearLine) :
    (State.nearDo s a op l).conf = s.conf := by simp only [State.nearDo, State.conf_mk, State.conf_eta, apply_ite State.conf, ite_self, State.fail_conf, State.finish_conf, State.modNear_conf]

theorem State.nearEvict_conf (s : State) :
    (State.nearEvict s).conf = s.conf := by unfold State.nearEvict; split <;> simp only [State.launch_conf, State.modNear_conf]

theorem State.nearTry_conf (id : Nat) (s : State) :
    (State.nearTry id s).conf = s.conf := by unfold State.nearTry; simp only []; (repeat' split) <;> simp only [eq_self, State.modAcc_conf, State.nearDo_conf, State.nearEvict_conf]

theorem State.nearPump_conf (s : State) :
    (State.nearPump s).conf = s.conf := by simp only [State.nearPump, eachOf_conf, implies_true, eq_self, State.nearTry_conf]

theorem State.nearSnoop_conf (s : State) (k : Packet) :
    (State.nearSnoop s k).conf = s.conf := by unfold State.nearSnoop; simp only []; (repeat' split) <;> simp only [eq_self, State.modNear_conf, State.predSet_conf, State.sendPacket_conf]

theorem State.reserveFor_conf (s : State) (a : Access) :
    (State.reserveFor s a).conf = s.conf := by simp only [State.reserveFor, apply_ite State.conf, ite_self, State.holdTake_conf, State.modAcc_conf]

theorem State.requestSend_conf (s : State) (id : Nat) :
    (State.requestSend s id).conf = s.conf := by unfold State.requestSend; simp only []; (repeat' split) <;> simp only [State.conf_mk, State.conf_eta, eq_self, State.countUnreach_conf, State.fail_conf, State.modAcc_conf, State.queueOn_conf, State.reserveFor_conf, State.track_conf]

theorem State.untrack_conf (s : State) (tag : BitVec 16) :
    (State.untrack s tag).conf = s.conf := (rfl)

theorem State.modTrack_conf (s : State) (tag : BitVec 16) (f : Tracker → Tracker) :
    (State.modTrack s tag f).conf = s.conf := (rfl)

theorem State.takePacket_conf {s t : State} {p : Nat} {f : Packet → Bool} {k : Packet} (h : s.takePacket p f = some (k, t)) :
    t.conf = s.conf := by
  unfold State.takePacket at h
  split at h
  · cases h
  · split at h
    · cases h; exact State.unbox_conf _ _ _
    · cases h

theorem State.takeAnswer_conf (s : State) (p op : Nat) : (s.takeAnswer p op).2.conf = s.conf := by
  unfold State.takeAnswer
  split
  · rfl
  · rename_i h
    split
    · exact State.takePacket_conf h
    · rw [State.acked_conf, State.modPeer_conf, State.takePacket_conf h]

theorem State.takeAnswer_some {s t u : State} {p op : Nat} {k : Packet} {e : Tracker}
    (h : s.takeAnswer p op = (some (k, e, t), u)) : t.conf = s.conf := by
  unfold State.takeAnswer at h
  split at h
  · cases h
  · rename_i h'
    split at h
    · cases h; exact State.takePacket_conf h'
    · cases h

theorem State.atomicTurn_conf (s : State) (e : Tracker) (now : Bool) :
    (State.atomicTurn s e now).conf = s.conf := by unfold State.atomicTurn; (repeat' split) <;> simp only [eq_self, State.fail_conf, State.modAcc_conf, State.predSet_conf, State.untrack_conf]

theorem State.atomicDone_conf (s : State) (tag : BitVec 16) :
    (State.atomicDone s tag).conf = s.conf := by unfold State.atomicDone; (repeat' split) <;> simp only [eq_self, State.fail_conf, State.finish_conf, State.untrack_conf]

theorem State.compIn_conf (s : State) (p : Nat) :
    (State.compIn s p).conf = s.conf := by
  rcases h : s.takeAnswer p 0x18 with ⟨_ | ⟨k, e, t⟩, u⟩
  · unfold State.compIn
    simp only [h]
    have := State.takeAnswer_conf s p 0x18
    rwa [h] at this
  · rw [← State.takeAnswer_some h]
    unfold State.compIn
    simp only [h]
    (repeat' split) <;> simp only [State.atomicTurn_conf, State.atomicDone_conf, State.modTrack_conf, State.predComp_conf,
      State.finish_conf, State.fail_conf, State.untrack_conf, State.modAcc_conf, State.notePoisons_conf]

theorem State.readDataIn_conf (s : State) (p : Nat) :
    (State.readDataIn s p).conf = s.conf := by
  rcases h : s.takeAnswer p 0x20 with ⟨_ | ⟨k, e, t⟩, u⟩
  · unfold State.readDataIn
    simp only [h]
    have := State.takeAnswer_conf s p 0x20
    rwa [h] at this
  · rw [← State.takeAnswer_some h]
    unfold State.readDataIn
    simp only [h]
    (repeat' split) <;> simp only [
      State.finish_conf, State.untrack_conf, State.notePoisons_conf]

theorem State.atomicOldIn_conf (s : State) (p : Nat) :
    (State.atomicOldIn s p).conf = s.conf := by
  rcases h : s.takeAnswer p 0x21 with ⟨_ | ⟨k, e, t⟩, u⟩
  · unfold State.atomicOldIn
    simp only [h]
    have := State.takeAnswer_conf s p 0x21
    rwa [h] at this
  · rw [← State.takeAnswer_some h]
    unfold State.atomicOldIn
    simp only [h]
    simp only [State.atomicDone_conf, State.modTrack_conf]

theorem State.ownDataIn_conf (s : State) (p : Nat) :
    (State.ownDataIn s p).conf = s.conf := by
  have hp : ∀ (b : Bool) (t : State) (o u i : Nat) (l : BitVec 60) (q : Option Nat) (n : Nat) (ag : Agent) (z : Bool),
      (if b then t.poisonLine o u i l q n ag z else t).conf = t.conf := fun b t o u i l q n ag z => by
    split <;> simp only [State.poisonLine_conf]
  rcases h : s.takeAnswer p 0x23 with ⟨_ | ⟨k, e, t⟩, u⟩
  · unfold State.ownDataIn
    simp only [h]
    have := State.takeAnswer_conf s p 0x23
    rwa [h] at this
  · rw [← State.takeAnswer_some h]
    unfold State.ownDataIn
    simp only [h]
    split
    · split
      · simp only [State.untrack_conf]
      · split <;> simp only [State.nearDo_conf, hp, State.modAcc_conf, State.modNear_conf, State.untrack_conf]
    · simp only [State.atomicTurn_conf]
    · simp only [State.fail_conf, State.untrack_conf]

theorem State.snoopRspIn_conf (s : State) (p : Nat) (op : Nat) :
    (State.snoopRspIn s p op).conf = s.conf := by
  rcases h : s.takePacket p (fun k => k.opcode.toNat == op) with _ | ⟨k, t⟩
  · unfold State.snoopRspIn
    simp only [h]
  · rw [← State.takePacket_conf h]
    unfold State.snoopRspIn
    simp only [h]
    (repeat' split) <;> simp only [State.countStale_conf, State.modPeer_conf, State.peerSnoopBack_conf, State.untrack_conf]

theorem State.requestTimeout_conf (s : State) (tag : BitVec 16) :
    (State.requestTimeout s tag).conf = s.conf := by unfold State.requestTimeout; (repeat' split) <;> simp only [eachOf_conf, implies_true, eq_self, State.countUnreach_conf, State.lose_conf, State.modPeer_conf, State.modTrack_conf]

theorem State.tagRelease_conf (s : State) (tag : BitVec 16) :
    (State.tagRelease s tag).conf = s.conf := (rfl)

theorem State.serve_conf (s : State) (p : Nat) (f : Packet → Bool) {go : Packet → State → State}
    (h : ∀ k t, (go k t).conf = t.conf) : (s.serve p f go).conf = s.conf := by
  unfold State.serve
  split
  · rfl
  · split
    · rename_i e
      rw [← State.takePacket_conf e]
      split
      · exact h _ _
      · split
        · exact State.refusePacket_conf ..
        · rfl
    · rfl

theorem State.zaricRead_conf (s : State) (p : Nat) :
    (State.zaricRead s p).conf = s.conf := by simp only [State.zaricRead, implies_true, eq_self, State.launch_conf, State.serve_conf]

theorem State.zaricWrite_conf (s : State) (p : Nat) :
    (State.zaricWrite s p).conf = s.conf := by simp only [State.zaricWrite, implies_true, eq_self, State.launch_conf, State.notePoisons_conf, State.serve_conf]

theorem State.zaricWriteback_conf (s : State) (p : Nat) : (State.zaricWriteback s p).conf = s.conf :=
  State.serve_conf _ _ _ (fun k t => by simp only [State.openTxn_conf, State.peerPoison_conf])

theorem State.zaricAtomic_conf (s : State) (p : Nat) :
    (State.zaricAtomic s p).conf = s.conf := by simp only [State.zaricAtomic, implies_true, eq_self, apply_ite State.conf, ite_self, State.launch_conf, State.refusePacket_conf, State.serve_conf]

theorem State.zaricSignal_conf (s : State) (p : Nat) :
    (State.zaricSignal s p).conf = s.conf := by simp only [State.zaricSignal, implies_true, eq_self, State.refusePacket_conf, State.serve_conf, State.tideAdd_conf]

theorem State.zaricOwn_conf (s : State) (p : Nat) :
    (State.zaricOwn s p).conf = s.conf := by simp only [State.zaricOwn, implies_true, eq_self, State.openTxn_conf, State.serve_conf]

theorem State.zaricSnoop_conf (s : State) (p : Nat) (op : Nat) :
    (State.zaricSnoop s p op).conf = s.conf := by simp only [State.zaricSnoop, implies_true, eq_self, State.nearSnoop_conf, State.serve_conf]

theorem State.peerServed_conf (s : State) (a : Access) (tag : BitVec 16) (src : BitVec 12) (res : AccResult) :
    (State.peerServed s a tag src res).conf = s.conf := by unfold State.peerServed; (repeat' split) <;> simp only [eq_self, State.sendPacket_conf, State.tideAdd_conf, State.tideCredit_conf]

theorem State.slotFree_conf (s : State) (n : Nat) :
    (State.slotFree s n).conf = s.conf := by simp only [State.slotFree, State.holdGive_conf, State.setSlot_conf]

theorem State.slotRecord_conf (s : State) (n : Nat) (st : Status) :
    (State.slotRecord s n st).conf = s.conf := by simp only [State.slotRecord, State.conf_mk, State.conf_eta, State.record_conf]

theorem State.slotFail_conf (s : State) (n : Nat) (st : Status) :
    (State.slotFail s n st).conf = s.conf := by simp only [State.slotFail, State.conf_mk, State.conf_eta, State.modSlot_conf, State.slotFree_conf, State.slotRecord_conf]

theorem State.slotDone_conf (s : State) (n : Nat) :
    (State.slotDone s n).conf = s.conf := by unfold State.slotDone; simp only []; (repeat' split) <;> simp only [eq_self, State.modSlot_conf, State.slotFree_conf, State.slotRecord_conf, State.tideCredit_conf]

theorem State.slotWrite_conf (s : State) (n : Nat) (h : CmbHeader) :
    (State.slotWrite s n h).conf = s.conf := by simp only [State.slotWrite, eachOf_conf, implies_true, eq_self, State.launch_conf, State.setSlot_conf]

theorem State.resultBack_conf (s : State) (n : Nat) (st : Status) :
    (State.resultBack s n st).conf = s.conf := by simp only [State.resultBack, apply_ite State.conf, ite_self, State.setSlot_conf, State.slotDone_conf, State.slotFail_conf]

theorem State.slotTimeout_conf (s : State) (n : Nat) :
    (State.slotTimeout s n).conf = s.conf := by simp only [State.slotTimeout, apply_ite State.conf, ite_self, State.slotFail_conf]

theorem State.slotSettle_conf (s : State) (n : Nat) :
    (State.slotSettle s n).conf = s.conf := by unfold State.slotSettle; simp only []; (repeat' split) <;> simp only [eq_self, State.holdGive_conf, State.setSlot_conf, State.slotWrite_conf]

theorem State.foldCycles_conf (s : State) :
    (State.foldCycles s).conf = s.conf := rfl

theorem State.slotFold_conf (s : State) (n : Nat) :
    (State.slotFold s n).conf = s.conf := by unfold State.slotFold; simp only []; (repeat' split) <;> simp only [eq_self, State.setSlot_conf, State.slotSettle_conf, State.foldCycles_conf]

theorem State.slotWindow_conf (s : State) (n : Nat) (w : CmbWindow) :
    (State.slotWindow s n w).2.conf = s.conf := by unfold State.slotWindow; simp only []; (repeat' split) <;> simp only [eq_self, State.holdTake_conf, State.modSlot_conf, State.setSlot_conf, State.slotFail_conf, State.slotSettle_conf, State.foldCycles_conf]

theorem State.countRefused_conf (s : State) (n : Nat) :
    (State.countRefused s n).conf = s.conf := (rfl)

theorem State.headerRefused_conf (s : State) (k : Packet) (st : Status) :
    (State.headerRefused s k st).2.conf = s.conf := by unfold State.headerRefused; simp only []; (repeat' split) <;> simp only [eq_self, State.countRefused_conf, State.holdGive_conf, State.setSlot_conf]

theorem State.serveData_conf (s : State) (k : Packet) :
    (State.serveData s k).2.conf = s.conf := by unfold State.serveData; simp only []; (repeat' split) <;> simp only [eq_self, State.slotWindow_conf]

theorem State.acceptHeader_conf (s : State) (k : Packet) (h : CmbHeader) :
    (State.acceptHeader s k h).2.conf = s.conf := by unfold State.acceptHeader; simp only []; (repeat' split) <;> simp only [eq_self, State.countRefused_conf, State.holdGive_conf, State.holdTake_conf, State.serveData_conf, State.setSlot_conf, State.slotFail_conf]

theorem State.roundHeader_conf (s : State) (k : Packet) (h : CmbHeader) :
    (State.roundHeader s k h).2.conf = s.conf := by unfold State.roundHeader; simp only []; (repeat' split) <;> simp only [eq_self, State.acceptHeader_conf, State.countRefused_conf, State.headerRefused_conf, State.slotFail_conf]

theorem State.roundPiece_conf (s : State) (k : Packet) :
    (State.roundPiece s k).2.conf = s.conf := by unfold State.roundPiece; simp only []; (repeat' split) <;> simp only [eq_self, State.countRefused_conf, State.serveData_conf]

theorem State.openRound_conf (s : State) (n : Nat) (r : BitVec 16) :
    (State.openRound s n r).conf = s.conf := (rfl)

theorem State.slotPiece_conf (s : State) (k : Packet) :
    (State.slotPiece s k).2.conf = s.conf := by unfold State.slotPiece; simp only []; (repeat' split) <;> simp only [eq_self, State.countRefused_conf, State.headerRefused_conf, State.openRound_conf, State.roundHeader_conf, State.roundPiece_conf]

theorem State.localPiece_conf (s : State) (c : Nat) :
    (State.localPiece s c).conf = s.conf := by unfold State.localPiece; split <;> simp only [State.modChan_conf, State.pieceBack_conf, State.slotPiece_conf]

theorem State.zaricContrib_conf (s : State) (p : Nat) :
    (State.zaricContrib s p).conf = s.conf := by simp only [State.zaricContrib, implies_true, eq_self, State.refusePacket_conf, State.serve_conf, State.slotPiece_conf]

theorem State.resetSlot_conf (s : State) (n : Nat) :
    (State.resetSlot s n).conf = s.conf := by simp only [State.resetSlot, State.setSlot_conf, State.slotFree_conf]

theorem State.setStart_conf (s : State) (st : StartState) :
    (State.setStart s st).conf = s.conf := by simp only [State.setStart, State.conf_mk, State.conf_eta, apply_ite State.conf, ite_self, State.shIrq_conf]

theorem State.stopStart_conf (s : State) (code : BitVec 8) :
    (State.stopStart s code).conf = s.conf := by simp only [State.stopStart, State.setStart_conf]

theorem State.coldRelease_conf (s : State) (sl : Slice) :
    (State.coldRelease s sl).conf = s.conf := by simp only [State.coldRelease, apply_ite State.conf, ite_self, State.modClock_conf, State.setStart_conf]

theorem State.unitSet_conf (m : ModeChange) (new : Bool) (u : UnitRef) (s : State) :
    (State.unitSet m new u s).conf = s.conf := by unfold State.unitSet; (repeat' split) <;> simp only [eq_self, State.modClock_conf, State.modPipe_conf, State.setBurstTear_conf]

theorem State.modeOld_conf (s : State) (m : ModeChange) :
    (State.modeOld s m).conf = s.conf := by simp only [State.modeOld, eachOf_conf, implies_true, eq_self, State.unitSet_conf]

theorem State.warmSh_conf (s : State) (dead : BitVec 9) :
    (State.warmSh s dead).conf = s.conf := by unfold State.warmSh; (repeat' split) <;> simp only [State.conf_mk, State.conf_eta, eq_self, State.modeOld_conf]

theorem State.engAborted_conf (s : State) :
    (State.engAborted s).conf = s.conf := by simp only [State.engAborted, eachOf_conf, implies_true, eq_self, State.conf_mk, State.conf_eta, State.drive_conf]

theorem State.warmEn_conf (s : State) :
    (State.warmEn s).conf = s.conf := by
  have h : landConf (tabMap ({} : Landing) s.engAborted.landings
      (fun l => { base := l.base, valid := l.valid, sizeLog2 := l.sizeLog2 })) = landConf s.engAborted.landings := by
    unfold landConf
    refine List.map_congr_left (fun p _ => ?_)
    rw [tabGet_tabMap rfl]
  unfold State.warmEn
  simp only [State.conf_mk, h, State.conf_eta, State.engAborted_conf]

theorem State.resetWork_conf (s : State) :
    (State.resetWork s).conf = s.conf := by simp only [State.resetWork, eachOf_conf, implies_true, eq_self, State.conf_mk, State.conf_eta, apply_ite State.conf, ite_self, State.modChan_conf, State.setPart_conf]

theorem State.warmHd_conf (s : State) :
    (State.warmHd s).conf = s.conf := by simp only [State.warmHd, State.conf_mk, State.conf_eta, State.engAborted_conf, State.resetWork_conf, State.trim_conf]

theorem State.warmAssert_conf (s : State) (sl : Slice) :
    (State.warmAssert s sl).conf = s.conf := by
  have h : ∀ (l : List Nat) (d : BitVec 9) (t : State), (eachOf (fun (k : Nat) (t : State) => match crossAt sl k with
      | .link l => if d.getLsbD k then t.modLink l (fun x => { x with up := false }) else t
      | _ => t) l t).conf = t.conf := fun l d t => eachOf_conf (fun k t => by (repeat' split) <;> simp only [State.modLink_conf]) l t
  unfold State.warmAssert
  split
  · rfl
  · dsimp only
    split
    · rw [State.warmSh_conf, State.setStart_conf, State.modClock_conf]; exact h _ _ _
    · rw [State.warmEn_conf, State.setStart_conf, State.modClock_conf]; exact h _ _ _
    · rw [State.warmHd_conf, State.setStart_conf, State.modClock_conf]; exact h _ _ _

theorem State.warmRelease_conf (s : State) (sl : Slice) :
    (State.warmRelease s sl).conf = s.conf := by simp only [State.warmRelease, apply_ite State.conf, ite_self, State.modClock_conf, State.setStart_conf]

theorem State.warnRise_conf (s : State) (sl : Slice) :
    (State.warnRise s sl).conf = s.conf := (rfl)

theorem State.warnFall_conf (s : State) (sl : Slice) :
    (State.warnFall s sl).conf = s.conf := (rfl)

theorem State.failWhere_conf (s : State) (p : Access → Bool) (st : Status) :
    (State.failWhere s p st).conf = s.conf := by simp only [State.failWhere, eachOf_conf, implies_true, eq_self, State.conf_mk, State.conf_eta, State.lose_conf]

theorem State.loseClock_conf (s : State) (sl : Slice) (k : Nat) :
    (State.loseClock s sl k).conf = s.conf := by unfold State.loseClock; simp only [apply_ite State.conf]; (repeat' split) <;> simp only [eq_self, State.doeGone_conf, State.failWhere_conf, State.modClock_conf, State.modHost_conf, State.modPeer_conf, State.record_conf, State.rerouteWaiting_conf, State.shIrq_conf]

theorem State.linkDown_conf (s : State) (l : Link) (sl : Slice) :
    (State.linkDown s l sl).conf = s.conf := by simp only [State.linkDown, State.failWhere_conf, State.modLink_conf, State.record_conf, State.shIrq_conf]

theorem State.linkGroup_conf (s : State) (l : Link) (rx : Slice) (damaged : Bool) :
    (State.linkGroup s l rx damaged).conf = s.conf := by simp only [State.linkGroup, apply_ite State.conf, ite_self, State.drive_conf, State.linkDown_conf, State.setLink_conf]

theorem State.dropTag_conf (s : State) (m : Nat) (tag : BitVec 10) :
    (State.dropTag s m tag).conf = s.conf := (rfl)

theorem State.lateAnswer_conf (s : State) (m : Nat) (tag : BitVec 10) :
    (State.lateAnswer s m tag).conf = s.conf := by unfold State.lateAnswer; split <;> simp only [State.acked_conf, State.modMem_conf]

theorem State.memReturned_conf (s : State) (m : Nat) (tag : BitVec 10) (data : Bytes) (poison : BitVec 8) (err : Bool) :
    (State.memReturned s m tag data poison err).conf = s.conf := by unfold State.memReturned; (repeat' split) <;> simp only [eq_self, State.dropTag_conf, State.fail_conf, State.finish_conf, State.lateAnswer_conf, State.memRecord_conf, State.notePoisons_conf]

theorem State.memAcked_conf (s : State) (m : Nat) (tag : BitVec 10) (err : Bool) :
    (State.memAcked s m tag err).conf = s.conf := by unfold State.memAcked; (repeat' split) <;> simp only [eq_self, State.dropTag_conf, State.fail_conf, State.finish_conf, State.lateAnswer_conf, State.memRecord_conf]

theorem State.memExpired_conf (s : State) (m : Nat) (tag : BitVec 10) :
    (State.memExpired s m tag).conf = s.conf := by unfold State.memExpired; simp only []; (repeat' split) <;> simp only [eq_self, State.dropTag_conf, State.lose_conf, State.memRecord_conf, State.modMem_conf]

theorem State.cacheFinish_conf (s : State) (n : Nat) (a : Access) (got : List (Prod Nat (Prod Status (Prod Bytes Bool)))) :
    (State.cacheFinish s n a got).conf = s.conf := by simp only [State.cacheFinish, apply_ite State.conf, ite_self, State.finish_conf, State.notePoisons_conf]

theorem State.cacheReturned_conf (s : State) (n : Nat) (tag : Nat) (data : Bytes) (poison : Bool) :
    (State.cacheReturned s n tag data poison).conf = s.conf := by unfold State.cacheReturned; simp only []; (repeat' split) <;> simp only [State.conf_mk, State.conf_eta, eq_self, State.cacheFinish_conf, State.modAcc_conf]

theorem State.hostRise_conf (n : Nat) (s : State) :
    (State.hostRise n s).conf = s.conf := by simp only [State.hostRise, apply_ite State.conf, ite_self, State.drive_conf, State.modHost_conf]

theorem State.hostUp_conf (s : State) (n : Nat) :
    (State.hostUp s n).conf = s.conf := by simp only [State.hostUp, apply_ite State.conf, ite_self, State.hostRise_conf, State.modHost_conf]

theorem State.hostDown_conf (s : State) (n : Nat) :
    (State.hostDown s n).conf = s.conf := (rfl)

theorem State.dropHost_conf (s : State) (n : Nat) :
    (State.dropHost s n).conf = s.conf := (rfl)

theorem State.hostErr_conf (s : State) (n : Nat) :
    (State.hostErr s n).conf = s.conf := by simp only [State.hostErr, State.conf_mk, State.conf_eta, apply_ite State.conf, ite_self, State.doeGone_conf, State.dropHost_conf, State.failWhere_conf, State.loseHolder_conf, State.record_conf, State.setHost_conf, State.shIrq_conf]

theorem State.losePaths_conf (s : State) :
    (State.losePaths s).conf = s.conf := by simp only [State.losePaths, eachOf_conf, implies_true, eq_self, apply_ite State.conf, ite_self, State.loseHolder_conf]

theorem State.clockLost_conf (s : State) (sl : Slice) (k : Nat) :
    (State.clockLost s sl k).conf = s.conf := by simp only [State.clockLost, eachOf_conf, implies_true, eq_self, State.conf_mk, State.conf_eta, apply_ite State.conf, ite_self, State.dropHost_conf, State.loseClock_conf, State.loseHolder_conf, State.losePaths_conf]

theorem State.bar2Write_conf (s : State) (n : Nat) (offset : BitVec 24) (size : Nat) :
    (State.bar2Write s n offset size).conf = s.conf := by simp only [State.bar2Write, State.conf_mk, State.conf_eta, apply_ite State.conf, ite_self]

theorem State.bar2Read_conf (s : State) (n : Nat) :
    (State.bar2Read s n).conf = s.conf := by simp only [State.bar2Read, apply_ite State.conf, ite_self, State.drive_conf]

theorem State.ioRequest_conf (s : State) (n : Nat) :
    (State.ioRequest s n).conf = s.conf := by simp only [State.ioRequest, apply_ite State.conf, ite_self, State.drive_conf]

theorem State.configValue_conf (s : State) (n : Nat) (reg : Nat) :
    (State.configValue s n reg).2.conf = s.conf := by unfold State.configValue; split <;> simp only [State.freeVal_conf]

theorem State.configRequest_conf (s : State) (n : Nat) (write : Bool) (reg : BitVec 12) (v : BitVec 32) :
    (State.configRequest s n write reg v).conf = s.conf := by simp only [State.configRequest, apply_ite State.conf, ite_self, State.configValue_conf, State.drive_conf, State.modHost_conf]

theorem State.creditReturn_conf (s : State) (src : CreditSource) :
    (State.creditReturn s src).conf = s.conf := by unfold State.creditReturn; (repeat' split) <;> simp only [eq_self, State.flushPort_conf, State.modHost_conf, State.modLink_conf, State.takeCredits_conf]

theorem State.tapDo_conf (s : State) (sl : Slice) (i : TapInstr) :
    (State.tapDo s sl i).conf = s.conf := by unfold State.tapDo; (repeat' split) <;> simp only [State.conf_mk, State.conf_eta, apply_ite State.conf, ite_self, eq_self, State.drive_conf, State.freeVal_conf]

theorem State.keyxSend_conf (s : State) (p : Nat) (tag : BitVec 16) :
    (State.keyxSend s p tag).conf = s.conf := by simp only [State.keyxSend, State.queueOn_conf]

theorem State.keyxNext_conf (s : State) (p : Nat) :
    (State.keyxNext s p).conf = s.conf := by simp only [State.keyxNext, apply_ite State.conf, ite_self, State.draw_conf, State.keyxSend_conf, State.modPeer_conf, State.takeTag_conf]

end Sys2Proof.Machine
end

