-- ==== Sys2Proof/Laws/Conf4.lean ====
section
/-! SUPPORT. Laws of the configuration, part 4 of 6: for each operation of the machine that no rule lets change the configuration, one
lemma that it leaves it as it is (03 R74). The operations stand in the order of the files that define them. -/

namespace Sys2Proof.Machine

theorem State.keyxBegin_conf (s : State) (p : Nat) :
    (State.keyxBegin s p).conf = s.conf := by simp only [State.keyxBegin, apply_ite State.conf, ite_self, State.draw_conf, State.drive_conf, State.keyxNext_conf, State.modPeer_conf, State.setPeer_conf]

theorem State.peerRise_conf (p : Nat) (s : State) :
    (State.peerRise p s).conf = s.conf := by simp only [State.peerRise, apply_ite State.conf, ite_self, State.keyxBegin_conf]

theorem State.peerUp_conf (s : State) (p : Nat) :
    (State.peerUp s p).conf = s.conf := by simp only [State.peerUp, apply_ite State.conf, ite_self, State.modPeer_conf, State.peerRise_conf]

theorem State.peerDown_conf (s : State) (p : Nat) :
    (State.peerDown s p).conf = s.conf := by simp only [State.peerDown, apply_ite State.conf, ite_self, State.rerouteWaiting_conf, State.setPeer_conf, State.shIrq_conf]

theorem State.raisePorts_conf (s : State) :
    (State.raisePorts s).conf = s.conf := by simp only [State.raisePorts, eachOf_conf, implies_true, eq_self, apply_ite State.conf, ite_self, State.hostRise_conf, State.peerRise_conf]

theorem State.keyxInstall_conf (s : State) (p : Nat) :
    (State.keyxInstall s p).conf = s.conf := by unfold State.keyxInstall; simp only [apply_ite State.conf, State.peerFail_conf]; (repeat' split) <;> simp only [eq_self, State.flushPort_conf, State.modPeer_conf, State.setPeer_conf]

theorem State.keyxEnd_conf (s : State) (p : Nat) :
    (State.keyxEnd s p).conf = s.conf := (rfl)

theorem State.keyxAcked_conf (s : State) (p : Nat) (st : Status) :
    (State.keyxAcked s p st).conf = s.conf := by simp only [State.keyxAcked, apply_ite State.conf, ite_self, State.keyxEnd_conf, State.keyxInstall_conf, State.keyxNext_conf, State.modPeer_conf]

theorem State.keyxIn_conf (s : State) (p step len : Nat) {f : Packet → State → State} (h : ∀ k t, (f k t).conf = t.conf) :
    (s.keyxIn p step len f).conf = s.conf := by
  unfold State.keyxIn
  split
  · rfl
  · rename_i e
    rw [← State.takePacket_conf e]
    dsimp only
    (repeat' split) <;> simp only [State.mgmtAnswer_conf, h]

theorem State.shareIn_conf (s : State) (p : Nat) :
    (State.shareIn s p).conf = s.conf := by simp only [State.shareIn, implies_true, eq_self, apply_ite State.conf, ite_self, State.keyxIn_conf, State.keyxNext_conf, State.modPeer_conf]

theorem State.identityIn_conf (s : State) (p : Nat) :
    (State.identityIn s p).conf = s.conf := by simp only [State.identityIn, implies_true, eq_self, apply_ite State.conf, ite_self, State.keyxEnd_conf, State.keyxIn_conf, State.keyxNext_conf, State.modPeer_conf]

theorem State.issuerIn_conf (s : State) (p : Nat) :
    (State.issuerIn s p).conf = s.conf := by simp only [State.issuerIn, implies_true, eq_self, apply_ite State.conf, ite_self, State.keyxEnd_conf, State.keyxIn_conf, State.keyxNext_conf, State.modPeer_conf]

theorem State.proofIn_conf (s : State) (p : Nat) :
    (State.proofIn s p).conf = s.conf := by simp only [State.proofIn, implies_true, eq_self, apply_ite State.conf, ite_self, State.keyxEnd_conf, State.keyxIn_conf, State.keyxInstall_conf, State.modPeer_conf]

theorem State.keyxRetry_conf (s : State) (p : Nat) :
    (State.keyxRetry s p).conf = s.conf := by unfold State.keyxRetry; simp only []; (repeat' split) <;> simp only [eq_self, State.keyxEnd_conf, State.keyxSend_conf, State.modPeer_conf]

theorem State.keyxExpired_conf (s : State) (p : Nat) :
    (State.keyxExpired s p).conf = s.conf := by simp only [State.keyxExpired, apply_ite State.conf, ite_self, State.peerFail_conf]

theorem State.retryMiss_conf (since : Nat) (m : LandRec) (s : State) :
    (State.retryMiss since m s).conf = s.conf := by unfold State.retryMiss; (repeat' split) <;> simp only [eq_self, State.faultAcc_conf, State.lookup_conf, State.modAcc_conf]

theorem State.retryStream_conf (s : State) (st : Nat) :
    (State.retryStream s st).conf = s.conf := by simp only [State.retryStream, eachOf_conf, implies_true, eq_self, State.modStall_conf, State.retryMiss_conf, State.stallSettle_conf]

theorem State.resume_conf (s : State) (v : BitVec 32) :
    (State.resume s v).conf = s.conf := by unfold State.resume; (repeat' split) <;> simp only [eq_self, State.failStream_conf, State.resumeStale_conf, State.retryStream_conf]

theorem State.faultExpire_conf (s : State) (st : Nat) :
    (State.faultExpire s st).conf = s.conf := by simp only [State.faultExpire, apply_ite State.conf, ite_self, State.failStream_conf]

theorem State.invSubmit_conf (s : State) (c : InvCmd) :
    (State.invSubmit s c).conf = s.conf := by unfold State.invSubmit; (repeat' split) <;> simp only [State.conf_mk, State.conf_eta, eq_self, State.modHost_conf]

theorem State.invGo_conf (s : State) (v : BitVec 32) :
    (State.invGo s v).conf = s.conf := by simp only [State.invGo, State.conf_mk, State.conf_eta, apply_ite State.conf, ite_self, State.invSubmit_conf]

theorem State.invDrop_conf (s : State) (c : InvCmd) :
    (State.invDrop s c).conf = s.conf := (rfl)

theorem State.invVector_conf (s : State) :
    (State.invVector s).conf = s.conf := by simp only [State.invVector, apply_ite State.conf, ite_self, State.raiseVector_conf]

theorem State.invRefill_conf (s : State) :
    (State.invRefill s).conf = s.conf := by unfold State.invRefill; (repeat' split) <;> simp only [State.conf_mk, State.conf_eta, eq_self, State.drive_conf, State.modHost_conf]

theorem State.invFinish_conf (s : State) (c : InvCmd) :
    (State.invFinish s c).conf = s.conf := by unfold State.invFinish; simp only []; (repeat' split) <;> simp only [State.conf_mk, State.conf_eta, eq_self, State.drive_conf, State.invRefill_conf, State.invVector_conf, State.launch_conf, State.record_conf]

theorem State.invNow_conf (n : Nat) (s : State) : (State.invNow n s).conf = s.conf := by
  induction n generalizing s with
  | zero => rfl
  | succ n ih =>
    unfold State.invNow
    split
    · rw [ih, State.invFinish_conf]
    · rfl

theorem State.invTake_conf (s : State) : (State.invTake s).conf = s.conf := by
  unfold State.invTake
  split
  · rfl
  · rename_i c _
    rw [State.invNow_conf]; exact State.invDrop_conf s c

theorem State.trackEnd_conf (s : State) (id : Nat) :
    (State.trackEnd s id).conf = s.conf := (rfl)

theorem State.invLate_conf (id : Nat) (s : State) :
    (State.invLate id s).conf = s.conf := by simp only [State.invLate, State.conf_mk, State.conf_eta, apply_ite State.conf, ite_self, State.fail_conf, State.trackEnd_conf]

theorem State.invDeadline_conf (s : State) (id : Nat) :
    (State.invDeadline s id).conf = s.conf := by unfold State.invDeadline; (repeat' split) <;> simp only [eachOf_conf, implies_true, eq_self, State.invLate_conf]

theorem State.atsInvalidate_conf (s : State) (n : Nat) (pasid : Option (BitVec 20)) (va : BitVec 64) (len : Nat) (tag : Nat) :
    (State.atsInvalidate s n pasid va len tag).conf = s.conf := by unfold State.atsInvalidate; (repeat' split) <;> simp only [State.conf_mk, State.conf_eta, eq_self, State.drive_conf, State.invSubmit_conf]

theorem State.atsTranslate_conf (s : State) (n : Nat) (pasid : Option (BitVec 20)) (va : BitVec 64) (tag : Nat) :
    (State.atsTranslate s n pasid va tag).conf = s.conf := by unfold State.atsTranslate; (repeat' split) <;> simp only [eq_self, State.atsAnswer_conf, State.countL2_conf, State.drive_conf, State.missTo_conf]

theorem State.landConsWrite_conf (s : State) (p : Nat) (v : BitVec 32) :
    (State.landConsWrite s p v).conf = s.conf := by simp only [State.landConsWrite, apply_ite State.conf, ite_self, State.setLanding_conf]

theorem State.modBulk_conf (s : State) (id : Nat) (f : BulkJob → BulkJob) :
    (State.modBulk s id f).conf = s.conf := (rfl)

theorem State.bulkIssue_conf (id n : Nat) (s : State) : (State.bulkIssue id n s).conf = s.conf := by
  induction n generalizing s with
  | zero => rfl
  | succ n ih =>
    unfold State.bulkIssue
    split
    · rfl
    · split
      · rfl
      · split
        · rfl
        · rw [ih]
          split <;> simp only [State.launchVa_conf, State.launch_conf, State.modBulk_conf]

theorem State.bulkStart_conf (s : State) (agent : Agent) (part : Option Nat) (todo : List Chunk) (owner : BulkOwner) :
    (State.bulkStart s agent part todo owner).conf = s.conf := by simp only [State.bulkStart, State.conf_mk, State.conf_eta, State.bulkIssue_conf]

theorem State.bulkBack_conf (s : State) (id : Nat) (st : Status) :
    (State.bulkBack s id st).conf = s.conf := by simp only [State.bulkBack, State.bulkIssue_conf, State.modBulk_conf]

theorem State.untorn_conf (s : State) (p : Nat) (all : Bool) :
    (State.untorn s p all).conf = s.conf := (rfl)

theorem State.poolPages_conf (s : State) (seq : BitVec 32) (b : Bytes) (add : Bool) (pages : ReadResult) :
    (State.poolPages s seq b add pages).conf = s.conf := by unfold State.poolPages; simp only [apply_ite State.conf, State.respond_conf]; (repeat' split) <;> simp only [eq_self, State.bulkStart_conf, State.respond_conf, State.setPool_conf, State.untorn_conf]

theorem State.modJob_conf (s : State) (id : Nat) (f : AllocJob → AllocJob) :
    (State.modJob s id f).conf = s.conf := (rfl)

theorem State.unreserve_conf (s : State) (n : Nat) :
    (State.unreserve s n).conf = s.conf := (rfl)

theorem State.allocWrite_conf (s : State) (c : Nat) (addr : Nat) (b : Bytes) :
    (State.allocWrite s c addr b).conf = s.conf := by simp only [State.allocWrite, apply_ite State.conf, ite_self, State.chanAccess_conf, State.holdTake_conf]

theorem State.allocWrites_conf (s : State) (c : Nat) (addr : Nat) (b : Bytes) :
    (State.allocWrites s c addr b).conf = s.conf := by simp only [State.allocWrites, State.allocWrite_conf]

theorem State.jobEnd_conf (s : State) (j : AllocJob) (st : Status) :
    (State.jobEnd s j st).conf = s.conf := by unfold State.jobEnd; simp only []; (repeat' split) <;> simp only [State.conf_mk, State.conf_eta, eq_self, State.allocWrites_conf, State.endEarly_conf, State.engEnd_conf, State.respond_conf, State.workDone_conf]

theorem State.jobFail_conf (s : State) (j : AllocJob) (st : Status) :
    (State.jobFail s j st).conf = s.conf := by simp only [State.jobFail, State.jobEnd_conf, State.unreserve_conf]

theorem State.seekRead_conf (s : State) (id : Nat) (g : Nat) (level : Nat) (table : BitVec 60) :
    (State.seekRead s id g level table).conf = s.conf := (rfl)

theorem State.seekNext_conf (s : State) (j : AllocJob) :
    (State.seekNext s j).conf = s.conf := by unfold State.seekNext; (repeat' split) <;> simp only [eq_self, State.modJob_conf, State.seekRead_conf]

theorem State.reserve_conf (s : State) (n : Nat) :
    (State.reserve s n).conf = s.conf := (rfl)

theorem State.allocPlace_conf (s : State) (j : AllocJob) :
    (State.allocPlace s j).conf = s.conf := by unfold State.allocPlace; (repeat' split) <;> simp only [eq_self, State.bulkStart_conf, State.jobFail_conf, State.modJob_conf, State.setPool_conf]

theorem State.freeCount_conf (s : State) (j : AllocJob) :
    (State.freeCount s j).conf = s.conf := by simp only [State.freeCount, apply_ite State.conf, ite_self, State.launch_conf, State.launchVa_conf, State.modJob_conf]

theorem State.jobGo_conf (s : State) (j : AllocJob) :
    (State.jobGo s j).conf = s.conf := by simp only [State.jobGo, apply_ite State.conf, ite_self, State.allocPlace_conf, State.freeCount_conf, State.reserve_conf]

theorem State.jobStep1_conf (s : State) (j : AllocJob) :
    (State.jobStep1 s j).conf = s.conf := by unfold State.jobStep1; (repeat' split) <;> simp only [eq_self, State.jobEnd_conf, State.jobGo_conf, State.modJob_conf]

theorem State.jobNew_conf (s : State) (asker : AllocAsker) (part : Nat) (isFree : Bool) (size : Nat) (flags : BitVec 8) (recVa : BitVec 64) (phys : Bool) (amount : Nat) (first : Nat) :
    (State.jobNew s asker part isFree size flags recVa phys amount first).conf = s.conf := by simp only [State.jobNew, State.conf_mk, State.conf_eta, apply_ite State.conf, ite_self, State.jobStep1_conf]

theorem State.allocNew_conf (s : State) (asker : AllocAsker) (part : Nat) (size : Nat) (flags : BitVec 8) :
    (State.allocNew s asker part size flags).conf = s.conf := by simp only [State.allocNew, State.jobNew_conf]

theorem State.recordRest_conf (s : State) (a : Access) (d : Bytes) :
    (State.recordRest s a d).conf = s.conf := by unfold State.recordRest; split <;> simp only [State.launch_conf, State.launchVa_conf]

theorem State.freeNew_conf {s t : State} {a : AllocAsker} {w : Option Nat} {r : Bytes} {v : BitVec 64} {n : Nat}
    (h : s.freeNew a w r v n = .inr t) : t.conf = s.conf := by
  unfold State.freeNew at h
  dsimp only at h
  (repeat' split at h) <;> cases h
  exact State.jobNew_conf _ _ _ _ _ _ _ _ _ _

theorem State.freeBack_conf (s : State) (a : Access) (who : AllocAsker) (amount : Nat) (res : AccResult) :
    (State.freeBack s a who amount res).conf = s.conf := by
  unfold State.freeBack
  dsimp only
  split
  · rename_i h
    (repeat' split at h) <;> first
      | (cases h; done)
      | exact State.freeNew_conf h
      | (cases h; exact State.recordRest_conf ..)
  · split <;> simp only [State.endEarly_conf, State.engEnd_conf]

theorem State.attachEnd_conf (s : State) (seq : BitVec 32) (p : Nat) (k : Pool) (st : Status) :
    (State.attachEnd s seq p k st).conf = s.conf := by simp only [State.attachEnd, eachOf_conf, implies_true, eq_self, apply_ite State.conf, ite_self, State.jobNew_conf, State.respond_conf, State.setPool_conf, State.untorn_conf]

theorem State.poolAttach_conf (s : State) (seq : BitVec 32) (b : Bytes) (region : ReadResult) :
    (State.poolAttach s seq b region).conf = s.conf := by unfold State.poolAttach; (repeat' split) <;> simp only [apply_ite State.conf, ite_self, eq_self, State.attachEnd_conf, State.bulkStart_conf, State.respond_conf]

theorem State.poolMend_conf (s : State) (seq : BitVec 32) (p : Nat) (k : Pool) (st : Status) :
    (State.poolMend s seq p k st).conf = s.conf := by simp only [State.poolMend, apply_ite State.conf, ite_self, State.bulkStart_conf, State.respond_conf, State.untorn_conf]

theorem State.poolDetach_conf (s : State) (seq : BitVec 32) (b : Bytes) :
    (State.poolDetach s seq b).conf = s.conf := by unfold State.poolDetach; simp only []; (repeat' split) <;> simp only [eq_self, State.respond_conf, State.setPool_conf, State.untorn_conf]

theorem State.allocPool_conf (s : State) (e : CmdEntry) (action : Nat) (data : ReadResult) :
    (State.allocPool s e action data).conf = s.conf := by unfold State.allocPool; (repeat' split) <;> simp only [apply_ite State.conf, ite_self, eq_self, State.poolAttach_conf, State.poolDetach_conf, State.poolPages_conf, State.respond_conf]

theorem State.slowPath_conf (s : State) :
    (State.slowPath s).conf = s.conf := by unfold State.slowPath; (repeat' split) <;> simp only [eq_self, State.jobStep1_conf]

theorem State.roomFreed_conf (s : State) :
    (State.roomFreed s).conf = s.conf := by unfold State.roomFreed; (repeat' split) <;> simp only [eq_self, State.jobGo_conf]

theorem State.roomExpired_conf (s : State) (who : AllocAsker) :
    (State.roomExpired s who).conf = s.conf := by unfold State.roomExpired; (repeat' split) <;> simp only [eq_self, State.jobEnd_conf]

theorem State.jnlWrite_conf (s : State) :
    (State.jnlWrite s).conf = s.conf := by unfold State.jnlWrite; (repeat' split) <;> simp only [State.conf_mk, State.conf_eta, eq_self, State.launch_conf]

theorem State.jnlPush_conf (s : State) (j : AllocJob) (map : Bool) :
    (State.jnlPush s j map).conf = s.conf := by unfold State.jnlPush; (repeat' split) <;> simp only [State.conf_mk, State.conf_eta, eq_self, State.jnlWrite_conf, State.jobFail_conf, State.modJob_conf, State.unreserve_conf]

theorem State.zeroRecord_conf (s : State) (j : AllocJob) :
    (State.zeroRecord s j).conf = s.conf := by simp only [State.zeroRecord, State.bulkStart_conf, State.modJob_conf]

theorem State.jnlBack_conf (s : State) (st : Status) :
    (State.jnlBack s st).conf = s.conf := by unfold State.jnlBack; simp only []; (repeat' split) <;> simp only [State.conf_mk, State.conf_eta, eq_self, State.jnlWrite_conf, State.jobEnd_conf, State.modJob_conf, State.raiseVector_conf, State.zeroRecord_conf]

theorem State.jnlConsWrite_conf (s : State) (v : BitVec 32) :
    (State.jnlConsWrite s v).conf = s.conf := by simp only [State.jnlConsWrite, State.conf_mk, State.conf_eta]

theorem State.tablesFound_conf (s : State) (j : AllocJob) :
    (State.tablesFound s j).conf = s.conf := by unfold State.tablesFound; (repeat' split) <;> simp only [eq_self, State.bulkStart_conf, State.jobFail_conf, State.modJob_conf, State.setPool_conf]

theorem State.seekBack_conf (s : State) (id : Nat) (res : AccResult) :
    (State.seekBack s id res).conf = s.conf := by unfold State.seekBack; simp only []; (repeat' split) <;> simp only [eq_self, State.modJob_conf, State.seekNext_conf, State.seekRead_conf, State.tablesFound_conf]

theorem State.seekStart_conf (s : State) (j : AllocJob) :
    (State.seekStart s j).conf = s.conf := by simp only [State.seekStart, apply_ite State.conf, ite_self, State.seekNext_conf, State.tablesFound_conf]

theorem State.countBack_conf (s : State) (id : Nat) (res : AccResult) :
    (State.countBack s id res).conf = s.conf := by unfold State.countBack; simp only []; (repeat' split) <;> simp only [eq_self, State.jobEnd_conf, State.jobFail_conf, State.modJob_conf, State.seekStart_conf, State.unreserve_conf]

theorem State.jobWritten_conf (s : State) (id : Nat) (st : Status) :
    (State.jobWritten s id st).conf = s.conf := by unfold State.jobWritten; (repeat' split) <;> simp only [eq_self, State.bulkStart_conf, State.invSubmit_conf, State.jnlPush_conf, State.jobEnd_conf, State.jobFail_conf, State.modJob_conf, State.seekStart_conf]

theorem State.freeDrained_conf (s : State) (id : Nat) :
    (State.freeDrained s id).conf = s.conf := by unfold State.freeDrained; (repeat' split) <;> simp only [eq_self, State.bulkStart_conf, State.jobFail_conf, State.modJob_conf, State.setPool_conf]

theorem State.beginAlloc_conf (s : State) (c : Nat) :
    (State.beginAlloc s c).conf = s.conf := by unfold State.beginAlloc; (repeat' split) <;> simp only [eq_self, State.allocNew_conf, State.markStart_conf, State.modRun_conf]

theorem State.beginRelease_conf (s : State) (c : Nat) :
    (State.beginRelease s c).conf = s.conf := by unfold State.beginRelease; (repeat' split) <;> simp only [eq_self, State.chanAccess_conf, State.modRun_conf]

theorem State.startGo_conf (s : State) (step : Nat) (waiting : Bool) :
    (State.startGo s step waiting).conf = s.conf := by simp only [State.startGo, State.setStart_conf]

theorem State.takeDigests_conf (s : State) :
    (State.takeDigests s).conf = s.conf := (rfl)

theorem State.noteImage_conf (s : State) :
    (State.noteImage s).conf = s.conf := by simp only [State.noteImage, apply_ite State.conf, ite_self, State.record_conf]

theorem State.enter11_conf (s : State) :
    (State.enter11 s).conf = s.conf := by simp only [State.enter11, State.noteImage_conf, State.startGo_conf, State.takeDigests_conf]

theorem State.warmGo_conf (s : State) (sl : Slice) :
    (State.warmGo s sl).conf = s.conf := by simp only [State.warmGo, apply_ite State.conf, ite_self, State.enter11_conf, State.raisePorts_conf, State.warmRelease_conf]

theorem State.fuseTimeout_conf (s : State) :
    (State.fuseTimeout s).conf = s.conf := by simp only [State.fuseTimeout, apply_ite State.conf, ite_self, State.stopStart_conf]

theorem State.linkBringUp_conf (s : State) (l : Link) :
    (State.linkBringUp s l).conf = s.conf := by simp only [State.linkBringUp, eachOf_conf, implies_true, eq_self, apply_ite State.conf, ite_self, State.drive_conf, State.enter11_conf, State.modLink_conf, State.raisePorts_conf, State.startGo_conf]

theorem State.linkSilent_conf (s : State) (l : Link) :
    (State.linkSilent s l).conf = s.conf := by simp only [State.linkSilent, apply_ite State.conf, ite_self, State.stopStart_conf]

theorem State.fenceRecord_conf (u : Prod Slice (Prod Nat Nat)) (s : State) :
    (State.fenceRecord u s).conf = s.conf := by simp only [State.fenceRecord, State.record_conf]

theorem State.holdInit_conf (s : State) :
    (State.holdInit s).conf = s.conf := by simp only [State.holdInit, State.conf_mk, State.conf_eta, apply_ite State.conf, ite_self, State.startGo_conf]

theorem State.chartBegin_conf (s : State) (src : BitVec 2) :
    (State.chartBegin s src).conf = s.conf := (rfl)

theorem State.chartBeginReg_conf (s : State) :
    (State.chartBeginReg s).conf = s.conf := by simp only [State.chartBeginReg, apply_ite State.conf, ite_self, State.chartBegin_conf]

theorem State.chartData_conf (s : State) (v : BitVec 32) :
    (State.chartData s v).conf = s.conf := by simp only [State.chartData, State.conf_mk, State.conf_eta, apply_ite State.conf, ite_self]

theorem State.chartCommit_conf (s : State) (src : BitVec 2) :
    (State.chartCommit s src).conf = s.conf := by simp only [State.chartCommit, State.conf_mk, State.conf_eta, apply_ite State.conf, ite_self]

theorem State.chartReject_conf (s : State) (code : Nat) (sec : Nat) (off : Nat) :
    (State.chartReject s code sec off).conf = s.conf := by simp only [State.chartReject, State.conf_mk, State.conf_eta, apply_ite State.conf, ite_self, State.record_conf, State.setStart_conf, State.shIrq_conf]

theorem State.startInvalidate_conf (s : State) :
    (State.startInvalidate s).conf = s.conf := by simp only [State.startInvalidate, apply_ite State.conf, ite_self, State.dropTranslations_conf, State.startGo_conf]

theorem State.goReady_conf (s : State) (failure : BitVec 8) :
    (State.goReady s failure).conf = s.conf := by simp only [State.goReady, eachOf_conf, implies_true, eq_self, apply_ite State.conf, ite_self, State.modChan_conf, State.setPortOn_conf, State.setStart_conf]

theorem State.startReset_conf (s : State) :
    (State.startReset s).conf = s.conf := by simp only [State.startReset, apply_ite State.conf, ite_self, State.goReady_conf, State.resetWork_conf, State.startGo_conf]

theorem State.restoreQueue_conf (b : Bytes) (q : Nat) (s : State) :
    (State.restoreQueue b q s).conf = s.conf := by unfold State.restoreQueue; (repeat' split) <;> simp only [State.conf_mk, State.conf_eta, apply_ite State.conf, ite_self, eq_self, State.setQueue_conf]

theorem State.queueRecover_conf (s : State) (area : ReadResult) :
    (State.queueRecover s area).conf = s.conf := by unfold State.queueRecover; (repeat' split) <;> simp only [eachOf_conf, implies_true, eq_self, State.goReady_conf, State.restoreQueue_conf]

theorem State.ringTake_conf (s : State) :
    (State.ringTake s).conf = s.conf := (rfl)

theorem State.setPrev_conf (s : State) (seq : BitVec 32) :
    (State.setPrev s seq).conf = s.conf := (rfl)

theorem State.ringCmd_conf (s : State) (e : CmdEntry) (opcode length : Nat) {f : State → State} (h : ∀ t, (f t).conf = t.conf) :
    (State.ringCmd s e opcode length f).conf = s.conf := by
  unfold State.ringCmd
  dsimp only
  (repeat' split) <;> simp only [State.respond_conf, State.ringTake_conf, State.setPrev_conf, h]

theorem State.ringBad_conf (s : State) (st : Status) :
    (State.ringBad s st).conf = s.conf := (rfl)

theorem State.unknownCmd_conf (s : State) (opcode : BitVec 16) (seq : BitVec 32) (r : EntryRead) :
    (State.unknownCmd s opcode seq r).conf = s.conf := by unfold State.unknownCmd; (repeat' split) <;> simp only [apply_ite State.conf, ite_self, eq_self, State.respond_conf, State.ringBad_conf, State.ringTake_conf, State.setPrev_conf]

theorem State.busyEvent_conf (s : State) (c : Nat) (level : Nat) :
    (State.busyEvent s c level).conf = s.conf := by simp only [State.busyEvent, State.pushUnsolicited_conf]

theorem State.shedOne_conf (c : Nat) (s : State) :
    (State.shedOne c s).conf = s.conf := by simp only [State.shedOne, apply_ite State.conf, ite_self, State.busyEvent_conf, State.modCore_conf]

theorem State.shedCheck_conf (s : State) :
    (State.shedCheck s).conf = s.conf := by simp only [State.shedCheck, eachOf_conf, implies_true, eq_self, State.shedOne_conf]

theorem State.cmdProdWrite_conf (s : State) (v : BitVec 32) :
    (State.cmdProdWrite s v).conf = s.conf := by simp only [State.cmdProdWrite, State.conf_mk, State.conf_eta, apply_ite State.conf, ite_self]

theorem State.evtConsWrite_conf (s : State) (v : BitVec 32) :
    (State.evtConsWrite s v).conf = s.conf := (rfl)

theorem State.helloNo_conf (s : State) (seq : BitVec 32) (st : Status) :
    (State.helloNo s seq st).conf = s.conf := (rfl)

theorem State.openSession_conf (s : State) (agreed : BitVec 128) :
    (State.openSession s agreed).conf = s.conf := (rfl)

theorem State.helloCmd_conf (e : CmdEntry) (s : State) :
    (State.helloCmd e s).conf = s.conf := by simp only [State.helloCmd, apply_ite State.conf, ite_self, State.helloNo_conf, State.openSession_conf, State.respond_conf, State.startGo_conf]

theorem State.hello_conf (s : State) (e : CmdEntry) :
    (State.hello s e).conf = s.conf := by simp only [State.hello, implies_true, eq_self, State.helloCmd_conf, State.ringCmd_conf]

theorem State.closeSession_conf (s : State) :
    (State.closeSession s).conf = s.conf := (rfl)

theorem State.goodbye_conf (s : State) (e : CmdEntry) :
    (State.goodbye s e).conf = s.conf := by simp only [State.goodbye, implies_true, eq_self, State.closeSession_conf, State.respond_conf, State.ringCmd_conf]

theorem State.nop_conf (s : State) (e : CmdEntry) :
    (State.nop s e).conf = s.conf := by simp only [State.nop, implies_true, eq_self, State.respond_conf, State.ringCmd_conf]

theorem State.eventWrite_conf (s : State) :
    (State.eventWrite s).conf = s.conf := by unfold State.eventWrite; simp only [apply_ite State.conf]; (repeat' split) <;> simp only [State.conf_mk, State.conf_eta, eq_self, State.launch_conf]

theorem State.eventBack_conf (s : State) (st : Status) :
    (State.eventBack s st).conf = s.conf := by simp only [State.eventBack, State.conf_mk, State.conf_eta, apply_ite State.conf, ite_self, State.dropEvent_conf, State.mgmtIrq_conf]

theorem State.supplyRestore_conf (sl : Slice) (s : State) :
    (State.supplyRestore sl s).conf = s.conf := by simp only [State.supplyRestore, apply_ite State.conf, ite_self, State.drive_conf, State.setClock_conf]

theorem State.supplyGo_conf (sl : Slice) (s : State) :
    (State.supplyGo sl s).conf = s.conf := by unfold State.supplyGo; simp only []; (repeat' split) <;> simp only [eq_self, State.drive_conf, State.setClock_conf, State.supplyRestore_conf]

theorem State.supplyAcked_conf (s : State) (sl : Slice) :
    (State.supplyAcked s sl).conf = s.conf := by simp only [State.supplyAcked, apply_ite State.conf, ite_self, State.modClock_conf, State.supplyGo_conf]

theorem State.supplyMissed_conf (s : State) (sl : Slice) :
    (State.supplyMissed s sl).conf = s.conf := by simp only [State.supplyMissed, apply_ite State.conf, ite_self, State.record_conf, State.setClock_conf, State.supplyRestore_conf]

theorem State.historyWrite_conf (s : State) (off : Nat) (b : Bytes) :
    (State.historyWrite s off b).conf = s.conf := (rfl)

theorem State.historySave_conf (s : State) (k : Nat) :
    (State.historySave s k).conf = s.conf := by simp only [State.historySave, apply_ite State.conf, ite_self, State.historyWrite_conf]

end Sys2Proof.Machine
end

