-- ==== Sys2Proof/Laws/Conf5.lean ====
section
/-! SUPPORT. Laws of the configuration, part 5 of 6: for each operation of the machine that no rule lets change the configuration, one
lemma that it leaves it as it is (03 R74). The operations stand in the order of the files that define them. -/

namespace Sys2Proof.Machine

theorem State.modeFence_conf (s : State) (m : ModeChange) (st : Status) :
    (State.modeFence s m st).conf = s.conf := by simp only [State.modeFence, apply_ite State.conf, ite_self, State.launch_conf]

theorem State.modeResult_conf (s : State) (m : ModeChange) (outcome : Nat) (phase : Nat) (missing : List UnitRef) :
    (State.modeResult s m outcome phase missing).conf = s.conf := by simp only [State.modeResult, State.pushUnsolicited_conf]

theorem State.modeFinish_conf (s : State) (m : ModeChange) :
    (State.modeFinish s m).conf = s.conf := by simp only [State.modeFinish, State.conf_mk, State.conf_eta, apply_ite State.conf, ite_self, State.historySave_conf, State.modMarginOf_conf, State.modeFence_conf, State.modeResult_conf]

theorem State.dropModeTraffic_conf (s : State) (m : ModeChange) :
    (State.dropModeTraffic s m).conf = s.conf := by simp only [State.dropModeTraffic, eachOf_conf, implies_true, eq_self, State.endEarly_conf, State.fail_conf]

theorem State.modeAdvance_conf (s : State) :
    (State.modeAdvance s).conf = s.conf := by unfold State.modeAdvance; (repeat' split) <;> simp only [State.conf_mk, State.conf_eta, eq_self, State.modeFinish_conf, State.supplyGo_conf, State.unitSet_conf]

theorem State.modePump_conf (s : State) :
    (State.modePump s).conf = s.conf := by unfold State.modePump; (repeat' split) <;> simp only [State.conf_mk, State.conf_eta, eq_self, State.modeAdvance_conf]

theorem State.modeQueue_conf (s : State) (m : ModeChange) :
    (State.modeQueue s m).conf = s.conf := by simp only [State.modeQueue, State.conf_mk, State.conf_eta, State.modePump_conf]

theorem State.modeCmd_conf (e : CmdEntry) (words : ReadResult) (s : State) :
    (State.modeCmd e words s).conf = s.conf := by unfold State.modeCmd; (repeat' split) <;> simp only [apply_ite State.conf, ite_self, eq_self, State.modeQueue_conf, State.respond_conf]

theorem State.modeChange_conf (s : State) (e : CmdEntry) (words : ReadResult) :
    (State.modeChange s e words).conf = s.conf := by simp only [State.modeChange, implies_true, eq_self, State.modeCmd_conf, State.ringCmd_conf]

theorem State.unitAck_conf (s : State) (u : UnitRef) :
    (State.unitAck s u).conf = s.conf := by unfold State.unitAck; (repeat' split) <;> simp only [State.conf_mk, State.conf_eta, eq_self, State.modeAdvance_conf, State.modePump_conf]

theorem State.unitConfirm_conf (s : State) (u : UnitRef) :
    (State.unitConfirm s u).conf = s.conf := by unfold State.unitConfirm; (repeat' split) <;> simp only [State.conf_mk, State.conf_eta, eachOf_conf, implies_true, eq_self, State.modeAdvance_conf, State.modePump_conf, State.supplyGo_conf, State.unitSet_conf]

theorem State.modeRevert_conf (s : State) :
    (State.modeRevert s).conf = s.conf := by unfold State.modeRevert; (repeat' split) <;> simp only [State.conf_mk, State.conf_eta, eachOf_conf, implies_true, eq_self, State.dropModeTraffic_conf, State.modeFence_conf, State.modeOld_conf, State.modePump_conf, State.modeResult_conf, State.supplyGo_conf]

theorem State.modeOrphan_conf (s : State) :
    (State.modeOrphan s).conf = s.conf := (rfl)

theorem State.unitAlone_conf (s : State) (u : UnitRef) :
    (State.unitAlone s u).conf = s.conf := by unfold State.unitAlone; (repeat' split) <;> simp only [State.conf_mk, State.conf_eta, eachOf_conf, implies_true, eq_self, State.dropModeTraffic_conf, State.modePump_conf, State.supplyGo_conf, State.unitSet_conf]

theorem State.modeNote_conf (s : State) (c : Nat) :
    (State.modeNote s c).conf = s.conf := by unfold State.modeNote; (repeat' split) <;> simp only [State.conf_mk, State.conf_eta, apply_ite State.conf, ite_self, eq_self]

theorem State.historyLog_conf (s : State) (k : Nat) (mon : Nat) (reason : Nat) :
    (State.historyLog s k mon reason).conf = s.conf := by simp only [State.historyLog, State.conf_mk, State.conf_eta, apply_ite State.conf, ite_self, State.historyWrite_conf]

theorem State.ageingLimit_conf (s : State) (k : Nat) (min : Nat) (mon : Nat) :
    (State.ageingLimit s k min mon).conf = s.conf := by simp only [State.ageingLimit, apply_ite State.conf, ite_self, State.freeVal_conf, State.pushUnsolicited_conf, State.record_conf, State.setMarginOf_conf]

theorem State.marginPlan_conf (s : State) (k : Nat) (min : Nat) (mon : Nat) :
    (State.marginPlan s k min mon).conf = s.conf := by simp only [State.marginPlan, apply_ite State.conf, ite_self, State.ageingLimit_conf, State.modeQueue_conf]

theorem State.scan_conf (s : State) (k : Nat) (samples : Bytes) (reason : Nat) :
    (State.scan s k samples reason).conf = s.conf := by simp only [State.scan, State.conf_mk, State.conf_eta, apply_ite State.conf, ite_self, State.freeVal_conf, State.historyLog_conf, State.historySave_conf, State.marginPlan_conf, State.modMarginOf_conf]

theorem State.pathScan_conf (s : State) (k : Nat) (samples : Bytes) :
    (State.pathScan s k samples).conf = s.conf := by unfold State.pathScan; (repeat' split) <;> simp only [eq_self, State.eventLost_conf, State.modCore_conf, State.scan_conf]

theorem State.rescan_conf (s : State) (k : Nat) (samples : Bytes) :
    (State.rescan s k samples).conf = s.conf := by simp only [State.rescan, apply_ite State.conf, ite_self, State.eventLost_conf, State.modMarginOf_conf, State.scan_conf]

theorem State.pwrStart_conf (s : State) :
    (State.pwrStart s).conf = s.conf := by simp only [State.pwrStart, eachOf_conf, implies_true, eq_self, State.modMarginOf_conf, State.setClock_conf, State.supplyGo_conf]

theorem State.ringAct_conf (s : State) (e : CmdEntry) (off opcode length action actions : Nat) {f : State → State}
    (h : ∀ t, (f t).conf = t.conf) : (s.ringAct e off opcode length action actions f).conf = s.conf := by
  unfold State.ringAct
  split
  · rfl
  · exact State.ringCmd_conf _ _ _ _ (fun t => by split <;> simp only [h, State.respond_conf])

theorem State.telemetryEvent_conf (s : State) (page : Nat) (index : Nat) (data : Bytes) :
    (State.telemetryEvent s page index data).conf = s.conf := by simp only [State.telemetryEvent, State.pushUnsolicited_conf]

theorem State.scanAll_conf (l : List Nat) (b : List Bytes) (s : State) : (State.scanAll l b s).conf = s.conf := by
  induction l generalizing b s with
  | nil => rfl
  | cons k ks ih =>
    unfold State.scanAll
    dsimp only; rw [ih, State.telemetryEvent_conf, State.scan_conf]

theorem State.marginScan_conf (s : State) (e : CmdEntry) (samples : List Bytes) :
    (State.marginScan s e samples).conf = s.conf := by simp only [State.marginScan, implies_true, eq_self, apply_ite State.conf, ite_self, State.respond_conf, State.ringAct_conf, State.scanAll_conf]

theorem State.acceptFallback_conf (s : State) (e : CmdEntry) :
    (State.acceptFallback s e).conf = s.conf := by simp only [State.acceptFallback, implies_true, eq_self, apply_ite State.conf, ite_self, State.modeQueue_conf, State.respond_conf, State.ringAct_conf]

theorem State.restoreSlice_conf (b : Bytes) (k : Nat) (s : State) :
    (State.restoreSlice b k s).conf = s.conf := by simp only [State.restoreSlice, apply_ite State.conf, ite_self, State.modMarginOf_conf, State.modeQueue_conf, State.setClock_conf, State.supplyGo_conf]

theorem State.ageingLoad_conf (s : State) (e : CmdEntry) (history : ReadResult) :
    (State.ageingLoad s e history).conf = s.conf := by unfold State.ageingLoad; (repeat' split) <;> simp only [State.conf_mk, State.conf_eta, apply_ite State.conf, ite_self, eachOf_conf, implies_true, eq_self, State.modMarginOf_conf, State.respond_conf, State.restoreSlice_conf, State.ringCmd_conf]

theorem State.ebbExit_conf (s : State) (sl : Slice) :
    (State.ebbExit s sl).conf = s.conf := by simp only [State.ebbExit, eachOf_conf, implies_true, eq_self, apply_ite State.conf, ite_self, State.record_conf, State.setClock_conf, State.setMarginOf_conf, State.supplyGo_conf]

theorem State.throttlePin_conf (s : State) :
    (State.throttlePin s).conf = s.conf := by simp only [State.throttlePin, State.conf_mk, State.conf_eta, apply_ite State.conf, ite_self, State.drive_conf]

theorem State.stackEval_conf (s : State) (t : Nat) (x : StackState) :
    (State.stackEval s t x).conf = s.conf := by simp only [State.stackEval, apply_ite State.conf, ite_self, State.pushUnsolicited_conf, State.setStackState_conf, State.throttlePin_conf]

theorem State.stackCode_conf (s : State) (t : Nat) (code : Byte) :
    (State.stackCode s t code).conf = s.conf := by simp only [State.stackCode, apply_ite State.conf, ite_self, State.stackEval_conf]

theorem State.stackStale_conf (s : State) (t : Nat) :
    (State.stackStale s t).conf = s.conf := by simp only [State.stackStale, apply_ite State.conf, ite_self, State.stackEval_conf]

theorem State.tokenRefill_conf (s : State) (t : Nat) :
    (State.tokenRefill s t).conf = s.conf := by simp only [State.tokenRefill, State.conf_mk, State.conf_eta, apply_ite State.conf, ite_self, State.setStackState_conf]

theorem State.telemetryCmd_conf (s : State) (e : CmdEntry) :
    (State.telemetryCmd s e).conf = s.conf := by
  refine State.ringCmd_conf _ _ _ _ (fun t => ?_)
  dsimp only
  (repeat' split) <;> simp only [State.respond_conf, State.dropEvent_conf, State.modCore_conf, State.telemetryEvent_conf]

theorem State.onPlace_conf (p : HoldPlace) (f : Nat → Prod Byte Bool → Prod Byte Bool) (s : State) :
    (State.onPlace p f s).conf = s.conf := by unfold State.onPlace; (repeat' split) <;> simp only [State.conf_mk, State.conf_eta, eq_self, State.modAcc_conf, State.modChan_conf, State.modRun_conf, State.modSlot_conf, State.modTxn_conf, State.modWalk_conf]

theorem State.holdPoison_conf (s : State) (bank : Nat) (p : HoldPlace) :
    (State.holdPoison s bank p).conf = s.conf := by unfold State.holdPoison; (repeat' split) <;> simp only [State.conf_mk, State.conf_eta, eq_self, State.onPlace_conf, State.poisonLine_conf, State.record_conf]

theorem State.holdWrong_conf (s : State) (p : HoldPlace) (word : Nat) :
    (State.holdWrong s p word).conf = s.conf := by simp only [State.holdWrong, State.freeVal_conf, State.onPlace_conf]

theorem State.holdCorrected_conf (s : State) (bank : Nat) (word : Nat) (n : Nat) :
    (State.holdCorrected s bank word n).conf = s.conf := by simp only [State.holdCorrected, State.conf_mk, State.conf_eta, apply_ite State.conf, ite_self, State.record_conf, State.setBankNote_conf]

theorem State.holdDetected_conf (s : State) (bank : Nat) (word : Nat) (p : Option HoldPlace) :
    (State.holdDetected s bank word p).conf = s.conf := by unfold State.holdDetected; (repeat' split) <;> simp only [State.conf_mk, State.conf_eta, eq_self, State.holdPoison_conf]

theorem State.holdWord_conf (x : Prod Nat (Prod Nat Nat)) (s : State) :
    (State.holdWord x s).conf = s.conf := by unfold State.holdWord; simp only []; (repeat' split) <;> simp only [eq_self, State.freeVal_conf, State.holdCorrected_conf, State.holdDetected_conf, State.holdWrong_conf]

theorem State.patrolRow_conf (s : State) (errors : List (Prod Nat (Prod Nat Nat))) :
    (State.patrolRow s errors).conf = s.conf := by simp only [State.patrolRow, eachOf_conf, implies_true, eq_self, State.conf_mk, State.conf_eta, apply_ite State.conf, ite_self, State.holdWord_conf]

theorem State.rasWrite_conf (s : State) :
    (State.rasWrite s).conf = s.conf := by unfold State.rasWrite; (repeat' split) <;> simp only [State.conf_mk, State.conf_eta, eq_self, State.launch_conf]

theorem State.rasBack_conf (s : State) (st : Status) :
    (State.rasBack s st).conf = s.conf := by unfold State.rasBack; (repeat' split) <;> simp only [State.conf_mk, State.conf_eta, apply_ite State.conf, ite_self, eq_self, State.raiseVector_conf, State.rasLose_conf]

theorem State.rasConsWrite_conf (s : State) (v : BitVec 32) :
    (State.rasConsWrite s v).conf = s.conf := by simp only [State.rasConsWrite, State.conf_mk, State.conf_eta, apply_ite State.conf, ite_self]

theorem State.entropyFailed_conf (s : State) :
    (State.entropyFailed s).conf = s.conf := by simp only [State.entropyFailed, State.conf_mk, State.conf_eta, apply_ite State.conf, ite_self, State.freeVal_conf, State.record_conf, State.shIrq_conf]

theorem State.vectorSend_conf (s : State) (v : Nat) :
    (State.vectorSend s v).conf = s.conf := by unfold State.vectorSend; (repeat' split) <;> simp only [eq_self, State.drive_conf, State.setPendingBit_conf]

theorem State.gateUnit_conf (s : State) (u : UnitRef) :
    (State.gateUnit s u).conf = s.conf := by simp only [State.gateUnit, State.conf_mk, State.conf_eta, apply_ite State.conf, ite_self]

theorem State.ungate_conf (s : State) :
    (State.ungate s).conf = s.conf := (rfl)

theorem State.portsReady_conf (s : State) :
    (State.portsReady s).conf = s.conf := by simp only [State.portsReady, apply_ite State.conf, ite_self, State.raisePorts_conf, State.startGo_conf]

theorem State.peersReady_conf (s : State) :
    (State.peersReady s).conf = s.conf := by simp only [State.peersReady, apply_ite State.conf, ite_self, State.enter11_conf, State.startGo_conf]

theorem State.deriveAlias_conf (s : State) (chain : ReadResult) :
    (State.deriveAlias s chain).conf = s.conf := by simp only [State.deriveAlias, State.conf_mk, State.conf_eta, apply_ite State.conf, ite_self, State.draw_conf, State.modCore_conf, State.startGo_conf]

theorem State.secReadyGo_conf (s : State) :
    (State.secReadyGo s).conf = s.conf := by simp only [State.secReadyGo, eachOf_conf, implies_true, eq_self, State.conf_mk, State.conf_eta, apply_ite State.conf, ite_self, State.modCore_conf, State.pwrStart_conf, State.setStart_conf]

theorem State.fwLoadGo_conf (s : State) (cores : BitVec 7) :
    (State.fwLoadGo s cores).conf = s.conf := by simp only [State.fwLoadGo, State.conf_mk, State.conf_eta, apply_ite State.conf, ite_self, State.setStart_conf]

theorem State.fwReloadGo_conf (s : State) (cores : BitVec 7) :
    (State.fwReloadGo s cores).conf = s.conf := by simp only [State.fwReloadGo, State.conf_mk, State.conf_eta, apply_ite State.conf, ite_self]

theorem State.ctlRecords_conf (s : State) (k : Nat) :
    (State.ctlRecords s k).conf = s.conf := by simp only [State.ctlRecords, eachOf_conf, implies_true, eq_self, State.conf_mk, State.conf_eta, State.record_conf]

theorem State.coreReloaded_conf (c : Nat) (s : State) :
    (State.coreReloaded c s).conf = s.conf := by simp only [State.coreReloaded, eachOf_conf, implies_true, eq_self, apply_ite State.conf, ite_self, State.ctlRecords_conf, State.modCore_conf, State.pushUnsolicited_conf, State.supplyGo_conf]

theorem State.loadCore_conf (st : Status) (b : Bytes) (c : Nat) (s : State) :
    (State.loadCore st b c s).conf = s.conf := (rfl)

theorem State.imageVerified_conf (s : State) (image : ReadResult) :
    (State.imageVerified s image).conf = s.conf := by simp only [State.imageVerified, eachOf_conf, implies_true, eq_self, State.conf_mk, State.conf_eta, apply_ite State.conf, ite_self, State.coreReloaded_conf, State.loadCore_conf, State.modCore_conf, State.setStart_conf, State.shIrq_conf, State.startGo_conf]

theorem State.kick_conf (s : State) (path : Path) (c : Nat) (v : BitVec 32) :
    (State.kick s path c v).conf = s.conf := by unfold State.kick; (repeat' split) <;> simp only [eq_self, State.modCore_conf]

theorem State.loseHarbour_conf (s : State) :
    (State.loseHarbour s).conf = s.conf := (rfl)

theorem State.wdtExpired_conf (s : State) (c : Nat) :
    (State.wdtExpired s c).conf = s.conf := by simp only [State.wdtExpired, State.conf_mk, State.conf_eta, apply_ite State.conf, ite_self, State.loseHarbour_conf, State.mgmtIrq_conf, State.modCore_conf]

theorem State.childEvent_conf (s : State) (inst : Nat) (kind : Nat) (st : Status) (code : Nat) (results : Bytes) (start : Nat) :
    (State.childEvent s inst kind st code results start).conf = s.conf := by simp only [State.childEvent, State.pushUnsolicited_conf]

theorem State.mgmtSend_conf (s : State) (k : Packet) :
    (State.mgmtSend s k).conf = s.conf := by simp only [State.mgmtSend, State.conf_mk, State.conf_eta, State.sendPacket_conf, State.takeTag_conf]

theorem State.reportUp_conf (s : State) (inst : BitVec 12) (b : Bytes) :
    (State.reportUp s inst b).conf = s.conf := by unfold State.reportUp; split <;> simp only [State.mgmtSend_conf]

theorem State.statusUp_conf (s : State) (kind : Nat) :
    (State.statusUp s kind).conf = s.conf := by simp only [State.statusUp, State.reportUp_conf]

theorem State.relayGo_conf (s : State) (c : BitVec 12) :
    (State.relayGo s c).conf = s.conf := by unfold State.relayGo; (repeat' split) <;> simp only [eq_self, State.mgmtSend_conf]

theorem State.relayFailed_conf (st : Status) (code : Nat) (r : Relay) (s : State) :
    (State.relayFailed st code r s).conf = s.conf := by simp only [State.relayFailed, State.childEvent_conf]

theorem State.relayOver_conf (r : Relay) (s : State) :
    (State.relayOver r s).conf = s.conf := by simp only [State.relayOver, apply_ite State.conf, ite_self, State.holdGive_conf]

theorem State.relayStart_conf (s : State) (r : Relay) :
    (State.relayStart s r).conf = s.conf := by simp only [State.relayStart, State.conf_mk, State.conf_eta, apply_ite State.conf, ite_self, State.relayFailed_conf, State.relayGo_conf, State.relayOver_conf]

theorem State.chartOwn_conf (s : State) (b : Bytes) :
    (State.chartOwn s b).conf = s.conf := by simp only [State.chartOwn, State.conf_mk, State.conf_eta, apply_ite State.conf, ite_self, State.chartBegin_conf, State.childEvent_conf]

theorem State.imagePlace_conf (s : State) (place : Nat) (b : Bytes) :
    (State.imagePlace s place b).conf = s.conf := by simp only [State.imagePlace, eachOf_conf, implies_true, eq_self, State.launch_conf]

theorem State.managerLoad_conf (s : State) (place : Nat) (cores : BitVec 7) (b : Bytes) :
    (State.managerLoad s place cores b).conf = s.conf := by simp only [State.managerLoad, State.conf_mk, State.conf_eta, State.fwLoadGo_conf, State.imagePlace_conf]

theorem State.chartForward_conf (s : State) (e : CmdEntry) (chart : ReadResult) :
    (State.chartForward s e chart).conf = s.conf := by
  refine State.ringCmd_conf _ _ _ _ (fun t => ?_)
  dsimp only
  (repeat' split) <;> simp only [State.respond_conf, State.chartOwn_conf, State.relayStart_conf]

theorem State.imageTo_conf (b : Bytes) (place : Nat) (cores : BitVec 7) (t : BitVec 12) (s : State) :
    (State.imageTo b place cores t s).conf = s.conf := by unfold State.imageTo; (repeat' split) <;> simp only [eq_self, State.childEvent_conf, State.managerLoad_conf, State.relayStart_conf]

theorem State.imageForward_conf (s : State) (e : CmdEntry) (image : ReadResult) :
    (State.imageForward s e image).conf = s.conf := by unfold State.imageForward; (repeat' split) <;> simp only [apply_ite State.conf, ite_self, eachOf_conf, implies_true, eq_self, State.imageTo_conf, State.respond_conf, State.ringCmd_conf]

theorem State.dropRelays_conf (s : State) (c : BitVec 12) (st : Status) (code : Nat) :
    (State.dropRelays s c st code).conf = s.conf := by simp only [State.dropRelays, eachOf_conf, implies_true, eq_self, State.conf_mk, State.conf_eta, State.relayFailed_conf, State.relayOver_conf]

theorem State.parentCheck_conf (s : State) (c : BitVec 12) (reply : Bytes) :
    (State.parentCheck s c reply).conf = s.conf := by simp only [State.parentCheck, State.conf_mk, State.conf_eta, apply_ite State.conf, ite_self, State.childEvent_conf, State.dropRelays_conf, State.record_conf]

theorem State.stepAnswered_conf (s : State) (k : Packet) (st : Status) :
    (State.stepAnswered s k st).conf = s.conf := by unfold State.stepAnswered; (repeat' split) <;> simp only [State.conf_mk, State.conf_eta, apply_ite State.conf, ite_self, eq_self, State.childEvent_conf, State.relayOver_conf]

theorem State.relayAcked_conf (s : State) (a : Packet) :
    (State.relayAcked s a).conf = s.conf := by unfold State.relayAcked; (repeat' split) <;> simp only [State.conf_mk, State.conf_eta, eq_self, State.parentCheck_conf, State.relayGo_conf, State.stepAnswered_conf]

theorem State.mgmtAckIn_conf (s : State) (p : Nat) :
    (State.mgmtAckIn s p).conf = s.conf := by
  unfold State.mgmtAckIn
  split
  · rfl
  · rename_i e
    rw [← State.takePacket_conf e]
    split <;> simp only [State.keyxAcked_conf, State.relayAcked_conf]

theorem State.mgmtRetry_conf (s : State) (tag : BitVec 16) :
    (State.mgmtRetry s tag).conf = s.conf := by unfold State.mgmtRetry; (repeat' split) <;> simp only [State.conf_mk, State.conf_eta, apply_ite State.conf, ite_self, eq_self, State.childEvent_conf, State.dropRelays_conf, State.sendPacket_conf]

theorem State.mgmtIn_conf (s : State) (p subop : Nat) {f : Packet → State → State} (h : ∀ k t, (f k t).conf = t.conf) :
    (s.mgmtIn p subop f).conf = s.conf := by
  unfold State.mgmtIn
  split
  · rfl
  · split
    · rfl
    · rename_i e; rw [h, State.takePacket_conf e]

theorem State.setStage_conf (s : State) (x : RelayStage) :
    (State.setStage s x).conf = s.conf := (rfl)

theorem State.stageFresh_conf (s : State) (isChart : Bool) (t : BitVec 12) :
    (State.stageFresh s isChart t).conf = s.conf := by simp only [State.stageFresh, State.conf_mk, State.conf_eta, apply_ite State.conf, ite_self, State.holdGive_conf, State.setStage_conf]

theorem State.stagePut_conf (s : State) (p : Nat) (k : Packet) (x : RelayStage) (off : Nat) :
    (State.stagePut s p k x off).conf = s.conf := by simp only [State.stagePut, apply_ite State.conf, ite_self, State.holdTake_conf, State.mgmtAnswer_conf, State.setStage_conf]

theorem State.mgmtBegin_conf (s : State) (p : Nat) :
    (State.mgmtBegin s p).conf = s.conf := by simp only [State.mgmtBegin, implies_true, eq_self, apply_ite State.conf, ite_self, State.chartBegin_conf, State.mgmtAnswer_conf, State.mgmtIn_conf, State.stageFresh_conf]

theorem State.mgmtChartData_conf (s : State) (p : Nat) :
    (State.mgmtChartData s p).conf = s.conf := by
  refine State.mgmtIn_conf _ _ _ (fun k t => ?_)
  dsimp only
  (repeat' split) <;> simp only [State.mgmtAnswer_conf, State.stagePut_conf, State.conf_mk, State.conf_eta]

theorem State.stageOn_conf (s : State) (x : RelayStage) (place : BitVec 48) (cores : BitVec 7) :
    (State.stageOn s x place cores).conf = s.conf := by unfold State.stageOn; simp only []; (repeat' split) <;> simp only [State.conf_mk, State.conf_eta, eq_self, State.relayStart_conf]

theorem State.mgmtCommit_conf (s : State) (p : Nat) :
    (State.mgmtCommit s p).conf = s.conf := by
  refine State.mgmtIn_conf _ _ _ (fun k t => ?_)
  dsimp only
  (repeat' split) <;> simp only [State.mgmtAnswer_conf, State.chartCommit_conf, State.stageOn_conf,
    ]

theorem State.mgmtImageData_conf (s : State) (p : Nat) :
    (State.mgmtImageData s p).conf = s.conf := by simp only [State.mgmtImageData, implies_true, eq_self, apply_ite State.conf, ite_self, State.mgmtAnswer_conf, State.mgmtIn_conf, State.stageFresh_conf, State.stagePut_conf]

theorem State.mgmtImageLoad_conf (s : State) (p : Nat) :
    (State.mgmtImageLoad s p).conf = s.conf := by
  refine State.mgmtIn_conf _ _ _ (fun k t => ?_)
  dsimp only
  (repeat' split) <;> simp only [State.mgmtAnswer_conf, State.stageOn_conf, State.managerLoad_conf,
    State.conf_mk, State.conf_eta]

theorem State.mgmtStatusIn_conf (s : State) (p : Nat) :
    (State.mgmtStatusIn s p).conf = s.conf := by simp only [State.mgmtStatusIn, implies_true, eq_self, apply_ite State.conf, ite_self, State.childEvent_conf, State.mgmtAnswer_conf, State.mgmtIn_conf, State.reportUp_conf]

theorem State.endorseBegin_conf (s : State) :
    (State.endorseBegin s).conf = s.conf := by simp only [State.endorseBegin, State.conf_mk, State.conf_eta, apply_ite State.conf, ite_self]

theorem State.endorseData_conf (s : State) (v : BitVec 32) :
    (State.endorseData s v).conf = s.conf := by simp only [State.endorseData, State.conf_mk, State.conf_eta, apply_ite State.conf, ite_self]

theorem State.spdmRsp_conf (s : State) (n : Nat) (r : SpdmRsp) :
    (State.spdmRsp s n r).conf = s.conf := (rfl)

theorem State.spdmHeard_conf (s : State) (n : Nat) :
    (State.spdmHeard s n).conf = s.conf := by unfold State.spdmHeard; (repeat' split) <;> simp only [State.conf_mk, State.conf_eta, eq_self]

theorem State.setConn_conf (s : State) (n : Nat) (k : Nat) :
    (State.setConn s n k).conf = s.conf := (rfl)

theorem State.spdmReq_conf (s : State) (n : Nat) (version : Byte) (need : Nat) {f : State → State}
    (h : ∀ t, (f t).conf = t.conf) : (State.spdmReq s n version need f).conf = s.conf := by
  unfold State.spdmReq
  dsimp only
  (repeat' split) <;> simp only [State.spdmRsp_conf, State.spdmHeard_conf, h]

theorem State.getVersion_conf (s : State) (n : Nat) :
    (State.getVersion s n).conf = s.conf := by simp only [State.getVersion, apply_ite State.conf, ite_self, State.setConn_conf, State.spdmHeard_conf, State.spdmRsp_conf]

theorem State.getCapabilities_conf (s : State) (n : Nat) (version : Byte) :
    (State.getCapabilities s n version).conf = s.conf := by simp only [State.getCapabilities, implies_true, eq_self, State.setConn_conf, State.spdmReq_conf, State.spdmRsp_conf]

theorem State.negotiate_conf (s : State) (n : Nat) (version : Byte) :
    (State.negotiate s n version).conf = s.conf := by simp only [State.negotiate, implies_true, eq_self, State.setConn_conf, State.spdmReq_conf, State.spdmRsp_conf]

theorem State.getDigests_conf (s : State) (n : Nat) (version : Byte) :
    (State.getDigests s n version).conf = s.conf := by simp only [State.getDigests, implies_true, eq_self, State.spdmReq_conf, State.spdmRsp_conf]

theorem State.getCertificate_conf (s : State) (n : Nat) (version : Byte) (slot : Nat) (offset : Nat) (length : Nat) :
    (State.getCertificate s n version slot offset length).conf = s.conf := by simp only [State.getCertificate, implies_true, eq_self, apply_ite State.conf, ite_self, State.spdmReq_conf, State.spdmRsp_conf]

theorem State.random32_conf (s : State) :
    (State.random32 s).2.conf = s.conf := (rfl)

theorem State.aliasSign_conf (s : State) (fields : Bytes) :
    (State.aliasSign s fields).2.conf = s.conf := (rfl)

theorem State.challenge_conf (s : State) (n : Nat) (version : Byte) (slot : Nat) (nonce : BitVec 256) :
    (State.challenge s n version slot nonce).conf = s.conf := by simp only [State.challenge, implies_true, eq_self, apply_ite State.conf, ite_self, State.aliasSign_conf, State.random32_conf, State.spdmReq_conf, State.spdmRsp_conf]

theorem State.getMeasurements_conf (s : State) (n : Nat) (version : Byte) (index : Byte) (signed : Bool) (nonce : BitVec 256) :
    (State.getMeasurements s n version index signed nonce).conf = s.conf := by simp only [State.getMeasurements, implies_true, eq_self, apply_ite State.conf, ite_self, State.aliasSign_conf, State.random32_conf, State.spdmReq_conf, State.spdmRsp_conf]

theorem State.keyExchange_conf (s : State) (n : Fin 2) (version : Byte) (share : Bytes) (random : BitVec 256) :
    (State.keyExchange s n version share random).conf = s.conf := by
  refine State.spdmReq_conf _ _ _ _ (fun t => ?_)
  dsimp only
  split
  · simp only [State.spdmRsp_conf]
  · split
    · simp only [State.spdmRsp_conf]
    · split
      · simp only [State.spdmRsp_conf, State.draw_conf]
      · simp only [State.spdmRsp_conf, State.conf_mk, State.conf_eta, State.aliasSign_conf, State.random32_conf, State.draw_conf]

theorem State.finishSession_conf (s : State) (n : Fin 2) (version : Byte) (macOk : Bool) :
    (State.finishSession s n version macOk).conf = s.conf := by simp only [State.finishSession, implies_true, eq_self, State.conf_mk, State.conf_eta, apply_ite State.conf, ite_self, State.spdmReq_conf, State.spdmRsp_conf]

theorem State.inSession_conf (s : State) (n : Fin 2) (version : Byte) {f : State → State} (h : ∀ t, (f t).conf = t.conf) :
    (State.inSession s n version f).conf = s.conf := by
  unfold State.inSession
  refine State.spdmReq_conf s n.val version 3 (fun t => ?_)
  split <;> simp only [State.spdmRsp_conf, h]

theorem State.endSpdm_conf (s : State) :
    (State.endSpdm s).conf = s.conf := (rfl)

theorem State.heartbeat_conf (s : State) (n : Fin 2) (version : Byte) :
    (State.heartbeat s n version).conf = s.conf := by simp only [State.heartbeat, implies_true, eq_self, State.inSession_conf, State.spdmRsp_conf]

end Sys2Proof.Machine
end

