-- ==== Sys2Proof/Laws/Conf6.lean ====
section
/-! SUPPORT. Laws of the configuration, part 6 of 6: for each operation of the machine that no rule lets change the configuration, one
lemma that it leaves it as it is (03 R74). The operations stand in the order of the files that define them. -/

namespace Sys2Proof.Machine

theorem State.keyUpdate_conf (s : State) (n : Fin 2) (version : Byte) :
    (State.keyUpdate s n version).conf = s.conf := by simp only [State.keyUpdate, implies_true, eq_self, State.conf_mk, State.conf_eta, State.inSession_conf, State.spdmRsp_conf]

theorem State.endSession_conf (s : State) (n : Fin 2) (version : Byte) :
    (State.endSession s n version).conf = s.conf := by simp only [State.endSession, implies_true, eq_self, State.endSpdm_conf, State.inSession_conf, State.spdmRsp_conf]

theorem State.spdmOther_conf (s : State) (n : Nat) (version : Byte) (code : Byte) :
    (State.spdmOther s n version code).conf = s.conf := by simp only [State.spdmOther, implies_true, eq_self, apply_ite State.conf, ite_self, State.spdmReq_conf, State.spdmRsp_conf]

theorem State.heartbeatExpired_conf (s : State) :
    (State.heartbeatExpired s).conf = s.conf := by unfold State.heartbeatExpired; (repeat' split) <;> simp only [State.conf_mk, State.conf_eta, eq_self, State.endSpdm_conf]

theorem State.ideReq_conf (s : State) (n : Fin 2) {f : State → State} (h : ∀ t, (f t).conf = t.conf) :
    (State.ideReq s n f).conf = s.conf := by
  unfold State.ideReq
  (repeat' split) <;> simp only [State.spdmRsp_conf, State.spdmHeard_conf, h]

theorem State.ideRsp_conf (s : State) (n : Nat) (r : IdeRsp) :
    (State.ideRsp s n r).conf = s.conf := (rfl)

theorem State.ideQuery_conf (s : State) (n : Fin 2) :
    (State.ideQuery s n).conf = s.conf := by simp only [State.ideQuery, implies_true, eq_self, State.ideReq_conf, State.ideRsp_conf]

theorem State.ideKey_conf (s : State) (n : Fin 2) (st : IdeStream) (ks : Fin 2) (tx : Bool) (key : BitVec 256) :
    (State.ideKey s n st ks tx key).conf = s.conf := by unfold State.ideKey; (repeat' split) <;> simp only [implies_true, eq_self, State.ideReq_conf, State.ideRsp_conf, State.modHost_conf]

theorem State.ideGo_conf (s : State) (n : Fin 2) (st : IdeStream) (ks : Fin 2) (tx : Bool) :
    (State.ideGo s n st ks tx).conf = s.conf := by unfold State.ideGo; (repeat' split) <;> simp only [implies_true, eq_self, State.ideReq_conf, State.ideRsp_conf, State.modHost_conf]

theorem State.ideStop_conf (s : State) (n : Fin 2) (st : IdeStream) (ks : Fin 2) (tx : Bool) :
    (State.ideStop s n st ks tx).conf = s.conf := by unfold State.ideStop; (repeat' split) <;> simp only [implies_true, eq_self, State.ideReq_conf, State.ideRsp_conf, State.modHost_conf]

theorem State.regionRsp_conf (s : State) (seq : BitVec 32) (st : Status) (num : BitVec 64) (flags : Nat) :
    (State.regionRsp s seq st num flags).conf = s.conf := (rfl)

theorem State.putSeal_conf (s : State) (k : Nat) (base : Nat) (len : Nat) :
    (State.putSeal s k base len).conf = s.conf := (rfl)

theorem State.jobBegin_conf (s : State) (j : SecJob) :
    (State.jobBegin s j).1.conf = s.conf := by unfold State.jobBegin; (repeat' split) <;> simp only [eachOf_conf, implies_true, eq_self, State.bulkStart_conf, State.clearIntact_conf, State.launch_conf, State.putSeal_conf]

theorem State.regionDrop_conf (s : State) (seq : BitVec 32) (k : Nat) (retire : Bool) :
    (State.regionDrop s seq k retire).conf = s.conf := by unfold State.regionDrop; (repeat' split) <;> simp only [eq_self, State.regionRsp_conf, State.respond_conf, State.setRegion_conf, State.setSealRange_conf]

theorem State.secNext_conf (n : Nat) (s : State) : (State.secNext n s).conf = s.conf := by
  induction n generalizing s with
  | zero => rfl
  | succ n ih =>
    unfold State.secNext
    (repeat' split) <;> first
      | rfl
      | (rw [ih, State.regionDrop_conf]; exact State.conf_eta s)
      | (dsimp only; (repeat' split) <;> first | rfl | (rw [ih, State.respond_conf]; rfl) | rw [State.conf_mk, State.conf_eta, State.jobBegin_conf])

theorem State.secGo_conf (s : State) :
    (State.secGo s).conf = s.conf := by simp only [State.secGo, State.secNext_conf]

theorem State.secQueue_conf (s : State) (j : SecJob) :
    (State.secQueue s j).conf = s.conf := by simp only [State.secQueue, State.conf_mk, State.conf_eta, State.secGo_conf]

theorem State.measureCmd_conf (e : CmdEntry) (leaves : List LeafView) (doSeal : Bool) (s : State) :
    (State.measureCmd e leaves doSeal s).conf = s.conf := by simp only [State.measureCmd, apply_ite State.conf, ite_self, State.respond_conf, State.secQueue_conf]

theorem State.measure_conf (s : State) (e : CmdEntry) (leaves : List LeafView) :
    (State.measure s e leaves).conf = s.conf := by simp only [State.measure, implies_true, eq_self, State.measureCmd_conf, State.ringAct_conf]

theorem State.measureAndSeal_conf (s : State) (e : CmdEntry) (leaves : List LeafView) :
    (State.measureAndSeal s e leaves).conf = s.conf := by simp only [State.measureAndSeal, implies_true, eq_self, State.measureCmd_conf, State.ringAct_conf]

theorem State.unsealCmd_conf (s : State) (e : CmdEntry) :
    (State.unsealCmd s e).conf = s.conf := by simp only [State.unsealCmd, implies_true, eq_self, apply_ite State.conf, ite_self, State.respond_conf, State.ringAct_conf, State.secQueue_conf]

theorem State.retireCmd_conf (s : State) (e : CmdEntry) :
    (State.retireCmd s e).conf = s.conf := by simp only [State.retireCmd, implies_true, eq_self, apply_ite State.conf, ite_self, State.respond_conf, State.ringAct_conf, State.secQueue_conf]

theorem State.measured_conf (s : State) (content : ReadResult) :
    (State.measured s content).conf = s.conf := by unfold State.measured; (repeat' split) <;> simp only [State.conf_mk, State.conf_eta, eq_self, State.regionRsp_conf, State.respond_conf, State.secGo_conf, State.setRegion_conf]

theorem State.scrubCmd_conf (s : State) (e : CmdEntry) :
    (State.scrubCmd s e).conf = s.conf := by simp only [State.scrubCmd, implies_true, eq_self, apply_ite State.conf, ite_self, State.respond_conf, State.ringCmd_conf, State.secQueue_conf]

theorem State.scrubWritten_conf (s : State) (seq : BitVec 32) (st : Status) :
    (State.scrubWritten s seq st).conf = s.conf := (rfl)

theorem State.scrubEnd_conf (s : State) :
    (State.scrubEnd s).conf = s.conf := by unfold State.scrubEnd; (repeat' split) <;> simp only [State.conf_mk, State.conf_eta, eq_self, State.respond_conf, State.secGo_conf]

theorem State.recall_conf (s : State) (p : Nat) :
    (State.recall s p).conf = s.conf := by simp only [State.recall, eachOf_conf, implies_true, eq_self, State.openTxn_conf]

theorem State.releaseCmd_conf (s : State) (e : CmdEntry) :
    (State.releaseCmd s e).conf = s.conf := by simp only [State.releaseCmd, implies_true, eq_self, State.conf_mk, State.conf_eta, apply_ite State.conf, ite_self, State.invSubmit_conf, State.recall_conf, State.respond_conf, State.ringCmd_conf, State.setPart_conf]

theorem State.recallLate_conf (j : ReleaseJob) (s : State) :
    (State.recallLate j s).conf = s.conf := by simp only [State.recallLate, apply_ite State.conf, ite_self, State.recall_conf]

theorem State.queueSave_conf (s : State) (e : CmdEntry) :
    (State.queueSave s e).conf = s.conf := by simp only [State.queueSave, implies_true, eq_self, State.bulkStart_conf, State.ringCmd_conf]

theorem State.saveWritten_conf (s : State) (seq : BitVec 32) (st : Status) :
    (State.saveWritten s seq st).conf = s.conf := by simp only [State.saveWritten, State.conf_mk, State.conf_eta, apply_ite State.conf, ite_self, State.respond_conf]

theorem State.dropDoorbell_conf (s : State) (q : Nat) (byState : Bool) :
    (State.dropDoorbell s q byState).conf = s.conf := (rfl)

theorem State.ringUp_conf (s : State) (q : Nat) (v : BitVec 64) :
    (State.ringUp s q v).conf = s.conf := (rfl)

theorem State.hostDoorbell_conf (s : State) (q : Nat) (v : BitVec 64) :
    (State.hostDoorbell s q v).conf = s.conf := by unfold State.hostDoorbell; split <;> simp only [State.dropDoorbell_conf, State.ringUp_conf]

theorem State.engineDoorbell_conf (s : State) (va : BitVec 57) (p : Nat) (v : BitVec 64) :
    (State.engineDoorbell s va p v).2.conf = s.conf := by unfold State.engineDoorbell; simp only []; (repeat' split) <;> simp only [eq_self, State.ringUp_conf]

theorem State.mgmtDoorbellLo_conf (s : State) (path : Path) (c : Nat) (v : BitVec 32) :
    (State.mgmtDoorbellLo s path c v).conf = s.conf := by simp only [State.mgmtDoorbellLo, apply_ite State.conf, ite_self, State.modChan_conf]

theorem State.mgmtDoorbellHi_conf (s : State) (path : Path) (c : Nat) (v : BitVec 32) :
    (State.mgmtDoorbellHi s path c v).conf = s.conf := by unfold State.mgmtDoorbellHi; simp only [apply_ite State.conf, eq_self]; (repeat' split) <;> simp only [State.conf_mk, State.conf_eta, eq_self, State.modChan_conf, State.setChan_conf]

theorem State.fetchDesc_conf (s : State) (c : Nat) (addr : BitVec 64) (q : Option Nat) (aborting : Bool) :
    (State.fetchDesc s c addr q aborting).conf = s.conf := by simp only [State.fetchDesc, apply_ite State.conf, ite_self, State.chanAccess_conf, State.modChan_conf]

theorem State.boundary_conf (s : State) (c : Nat) :
    (State.boundary s c).conf = s.conf := by unfold State.boundary; (repeat' split) <;> simp only [apply_ite State.conf, ite_self, eq_self, State.fetchDesc_conf]

theorem State.fetchBack_conf (s : State) (c : Nat) (res : AccResult) :
    (State.fetchBack s c res).conf = s.conf := (rfl)

theorem State.fetchReturn_conf (s : State) (c : Nat) :
    (State.fetchReturn s c).conf = s.conf := by unfold State.fetchReturn; (repeat' split) <;> simp only [apply_ite State.conf, ite_self, eq_self, State.attach__conf, State.endList_conf, State.modChan_conf]

theorem State.stopWork_conf (s : State) (c : Nat) (q : Option Nat) :
    (State.stopWork s c q).conf = s.conf := by unfold State.stopWork; (repeat' split) <;> simp only [eq_self, State.holdGive_conf, State.modChan_conf]

theorem State.abortWork_conf (s : State) (c : Nat) (q : Option Nat) :
    (State.abortWork s c q).conf = s.conf := by unfold State.abortWork; simp only []; (repeat' split) <;> simp only [eq_self, State.endEarly_conf, State.modChan_conf, State.modRun_conf]

theorem State.queueStop_conf (s : State) (q : Nat) :
    (State.queueStop s q).conf = s.conf := by simp only [State.queueStop, apply_ite State.conf, ite_self, State.setQueue_conf, State.stopWork_conf]

theorem State.queueAbort_conf (s : State) (q : Nat) :
    (State.queueAbort s q).conf = s.conf := by simp only [State.queueAbort, apply_ite State.conf, ite_self, State.abortWork_conf, State.setQueue_conf]

theorem State.queueCfg_conf (s : State) (q : Nat) (v : BitVec 32) :
    (State.queueCfg s q v).conf = s.conf := by simp only [State.queueCfg, apply_ite State.conf, ite_self, State.queueStop_conf, State.setQueue_conf]

theorem State.chanStop_conf (s : State) (c : Nat) :
    (State.chanStop s c).conf = s.conf := by simp only [State.chanStop, eachOf_conf, implies_true, eq_self, apply_ite State.conf, ite_self, State.modChan_conf, State.queueStop_conf, State.stopWork_conf]

theorem State.chanAbort_conf (s : State) (c : Nat) :
    (State.chanAbort s c).conf = s.conf := by simp only [State.chanAbort, eachOf_conf, implies_true, eq_self, apply_ite State.conf, ite_self, State.abortWork_conf, State.modChan_conf, State.queueAbort_conf]

theorem State.chanEnable_conf (s : State) (c : Nat) :
    (State.chanEnable s c).conf = s.conf := by simp only [State.chanEnable, apply_ite State.conf, ite_self, State.setChan_conf]

theorem State.partEnable_conf (s : State) (p : Nat) :
    (State.partEnable s p).conf = s.conf := by simp only [State.partEnable, apply_ite State.conf, ite_self, State.setPart_conf]

theorem State.cutReq_conf (s : State) (st : Status) (r : EngReq) :
    (State.cutReq s st r).conf = s.conf := (rfl)

theorem State.abortReq_conf (s : State) (r : EngReq) :
    (State.abortReq s r).conf = s.conf := (rfl)

theorem State.partStop_conf (s : State) (p : Nat) :
    (State.partStop s p).conf = s.conf := by simp only [State.partStop, eachOf_conf, implies_true, eq_self, apply_ite State.conf, ite_self, State.chanStop_conf, State.queueStop_conf, State.setPart_conf]

theorem State.partAbort_conf (s : State) (p : Nat) :
    (State.partAbort s p).conf = s.conf := by simp only [State.partAbort, eachOf_conf, implies_true, eq_self, apply_ite State.conf, ite_self, State.abortReq_conf, State.chanAbort_conf, State.queueAbort_conf, State.setPart_conf]

theorem State.queueSettle_conf (q : Nat) (s : State) :
    (State.queueSettle q s).conf = s.conf := by simp only [State.queueSettle, apply_ite State.conf, ite_self, State.setQueue_conf]

theorem State.chanSettle_conf (c : Nat) (s : State) :
    (State.chanSettle c s).conf = s.conf := by simp only [State.chanSettle, eachOf_conf, implies_true, eq_self, apply_ite State.conf, ite_self, State.queueSettle_conf, State.setChan_conf]

theorem State.partSettle_conf (p : Nat) (s : State) :
    (State.partSettle p s).conf = s.conf := by simp only [State.partSettle, eachOf_conf, implies_true, eq_self, apply_ite State.conf, ite_self, State.chanSettle_conf, State.queueSettle_conf, State.setPart_conf]

theorem State.modEng_conf (s : State) (r : EngReq) (f : EngReq → EngReq) :
    (State.modEng s r f).conf = s.conf := (rfl)

theorem State.engAccess_conf (s : State) (r : EngReq) (kind : AccKind) (op : Option AtomicOp) :
    (State.engAccess s r kind op).conf = s.conf := by simp only [State.engAccess, eachOf_conf, implies_true, eq_self, apply_ite State.conf, ite_self, State.holdTake_conf, State.launchVa_conf, State.modEng_conf]

theorem State.engStart_conf (s : State) (r : EngReq) :
    (State.engStart s r).conf = s.conf := by unfold State.engStart; (repeat' split) <;> simp only [apply_ite State.conf, ite_self, eq_self, State.allocNew_conf, State.engAccess_conf, State.engDone_conf, State.engineDoorbell_conf, State.launchVa_conf, State.modEng_conf]

theorem State.engTry_conf (r : EngReq) (s : State) :
    (State.engTry r s).conf = s.conf := by
  unfold State.engTry
  split
  · (repeat' split) <;> first | rfl | simp only [State.engStart_conf]
  · rfl

theorem State.enginePump_conf (s : State) :
    (State.enginePump s).conf = s.conf := by simp only [State.enginePump, eachOf_conf, implies_true, eq_self, State.engTry_conf]

theorem State.takeEarly_conf (s : State) (r : EngReq) :
    (State.takeEarly s r).conf = s.conf := (rfl)

theorem State.engAccept_conf (s : State) (port : Nat) (op : EngineOp) (rq : EngineReq) :
    (State.engAccept s port op rq).conf = s.conf := by simp only [State.engAccept, State.conf_mk, State.conf_eta, apply_ite State.conf, ite_self, State.engDone_conf, State.enginePump_conf, State.takeEarly_conf]

theorem State.engUnknown_conf (s : State) (port : Nat) (op : BitVec 4) (rq : EngineReq) :
    (State.engUnknown s port op rq).conf = s.conf := by simp only [State.engUnknown, apply_ite State.conf, ite_self, State.drive_conf]

theorem State.engBeat_conf (s : State) (b : EarlyBeat) :
    (State.engBeat s b).conf = s.conf := by unfold State.engBeat; (repeat' split) <;> simp only [State.conf_mk, State.conf_eta, eq_self, State.enginePump_conf, State.modEng_conf]

theorem State.readBeat_conf (r : EngReq) (all : MarkedBytes) (i : Nat) (s : State) :
    (State.readBeat r all i s).conf = s.conf := (rfl)

theorem State.engFinish_conf (s : State) (r : EngReq) (rs : List AccResult) :
    (State.engFinish s r rs).conf = s.conf := by unfold State.engFinish; (repeat' split) <;> simp only [eachOf_conf, implies_true, eq_self, State.drive_conf, State.engDone_conf, State.readBeat_conf]

theorem State.engBack_conf (s : State) (port : Nat) (tag : Nat) (part : Nat) (res : AccResult) :
    (State.engBack s port tag part res).conf = s.conf := by unfold State.engBack; (repeat' split) <;> simp only [apply_ite State.conf, ite_self, eq_self, State.engFinish_conf, State.enginePump_conf, State.modEng_conf]

theorem State.xlateBack_conf (s : State) (port : Nat) (tag : Nat) (res : AccResult) :
    (State.xlateBack s port tag res).conf = s.conf := by simp only [State.xlateBack, apply_ite State.conf, ite_self, State.engEnd_conf, State.enginePump_conf]

theorem State.engTide_conf (s : State) (port : Nat) (tag : BitVec 8) :
    (State.engTide s port tag).conf = s.conf := by unfold State.engTide; (repeat' split) <;> simp only [eq_self, State.engDone_conf, State.enginePump_conf]

theorem State.engExpire_conf (s : State) (port : Nat) (tag : BitVec 8) :
    (State.engExpire s port tag).conf = s.conf := by unfold State.engExpire; (repeat' split) <;> simp only [eq_self, State.engDone_conf, State.enginePump_conf]

theorem State.tidemark_conf (s : State) (w : Waiter) :
    (State.tidemark s w).conf = s.conf := by unfold State.tidemark; split <;> simp only [State.engTide_conf, State.waitReached_conf]

theorem State.waitLimit_conf (s : State) (w : Waiter) :
    (State.waitLimit s w).conf = s.conf := by unfold State.waitLimit; split <;> simp only [State.engExpire_conf, State.roomExpired_conf, State.waitExpired_conf]

theorem State.portEnableOn_conf (s : State) (e : Nat) :
    (State.portEnableOn s e).conf = s.conf := by simp only [State.portEnableOn, apply_ite State.conf, ite_self, State.setPortOn_conf]

theorem State.portEnableOff_conf (s : State) (e : Nat) :
    (State.portEnableOff s e).conf = s.conf := by simp only [State.portEnableOff, eachOf_conf, implies_true, eq_self, apply_ite State.conf, ite_self, State.abortReq_conf, State.setPortOn_conf]

theorem State.nearGone_conf (s : State) (line : BitVec 60) (wb : Nat) :
    (State.nearGone s line wb).conf = s.conf := (rfl)

theorem State.signalBack_conf (s : State) (c : Nat) (st : Status) :
    (State.signalBack s c st).conf = s.conf := by simp only [State.signalBack, apply_ite State.conf, ite_self, State.endEarly_conf, State.workDone_conf]

theorem State.entryBack_conf (s : State) (walk : Nat) (res : AccResult) :
    (State.entryBack s walk res).conf = s.conf := (rfl)

theorem State.tell_conf (s : State) (a : Access) (res : AccResult) :
    (State.tell s a res).conf = s.conf := by unfold State.tell; (repeat' split) <;> simp only [eq_self, State.bulkBack_conf, State.countBack_conf, State.engBack_conf, State.entryBack_conf, State.eventBack_conf, State.fenceBack_conf, State.fenceStep_conf, State.fetchBack_conf, State.freeBack_conf, State.hdmBack_conf, State.homeBack_conf, State.invVector_conf, State.jnlBack_conf, State.landingWritten_conf, State.nearGone_conf, State.peerServed_conf, State.pieceBack_conf, State.probeBack_conf, State.rangeBack_conf, State.rasBack_conf, State.readBack_conf, State.resultBack_conf, State.sealedFault_conf, State.seekBack_conf, State.seqEntryBack_conf, State.seqHeaderBack_conf, State.signalBack_conf, State.wbBack_conf, State.writeBack_conf, State.xlateBack_conf]

theorem State.bulkOver_conf (s : State) (b : BulkJob) :
    (State.bulkOver s b).conf = s.conf := by unfold State.bulkOver; (repeat' split) <;> simp only [eq_self, State.attachEnd_conf, State.jobWritten_conf, State.poolMend_conf, State.respond_conf, State.saveWritten_conf, State.scrubWritten_conf, State.setPool_conf]

theorem State.bulkDone_conf {s t : State} {b : BulkJob} (h : s.bulkDone = some (b, t)) : t.conf = s.conf := by
  unfold State.bulkDone at h
  split at h
  · cases h; rfl
  · cases h

theorem State.bulkEnds_conf (n : Nat) (s : State) : (State.bulkEnds n s).conf = s.conf := by
  induction n generalizing s with
  | zero => rfl
  | succ n ih =>
    unfold State.bulkEnds
    split
    · rename_i h
      rw [ih, State.bulkOver_conf, State.bulkDone_conf h]
    · rfl

theorem State.chanGo_conf (c : Nat) (s : State) :
    (State.chanGo c s).conf = s.conf := by simp only [State.chanGo, State.advanceChan_conf, State.takeReads_conf]

theorem State.chansGo_conf (s : State) :
    (State.chansGo s).conf = s.conf := by simp only [State.chansGo, eachOf_conf, implies_true, eq_self, State.chanGo_conf]

theorem State.round_conf (s : State) :
    (State.round s).conf = s.conf := by simp only [State.round, eachOf_conf, implies_true, eq_self, State.bulkEnds_conf, State.chansGo_conf, State.enginePump_conf, State.eventWrite_conf, State.homePump_conf, State.hostHeldGo_conf, State.issueHeld_conf, State.modePump_conf, State.nearPump_conf, State.presentAll_conf, State.secGo_conf, State.shedCheck_conf, State.stallPump_conf, State.storedIn_conf]

theorem State.settleFor_conf (n : Nat) (s : State) : (State.settleFor n s).conf = s.conf := by
  induction n generalizing s with
  | zero => rfl
  | succ n ih =>
    unfold State.settleFor
    split
    · rw [ih, State.tell_conf]; rfl
    · dsimp only
      split
      · rw [State.ungate_conf, State.round_conf, State.round_conf]
      · rw [ih, State.round_conf, State.round_conf]

theorem State.settle_conf (s : State) :
    (State.settle s).conf = s.conf := by simp only [State.settle, State.settleFor_conf]

theorem State.unreached_conf (s : State) (path : Path) (a : Nat) :
    (State.unreached s path a).conf = s.conf := by unfold State.unreached; (repeat' split) <;> simp only [eq_self, State.drive_conf]

theorem State.written_conf (s : State) (path : Path) :
    (State.written s path).conf = s.conf := by unfold State.written; split <;> simp only [State.drive_conf]

theorem State.onPath_conf (s : State) (path : Path) (a : Nat) {f : State → State} (h : ∀ t, (f t).conf = t.conf) :
    (State.onPath s path a f).conf = s.conf := by
  unfold State.onPath
  split <;> simp only [State.written_conf, State.unreached_conf, h]

theorem State.bar0Invalid_conf (s : State) (n : Nat) (a : Nat) (size : Nat) :
    (State.bar0Invalid s n a size).conf = s.conf := by simp only [State.bar0Invalid, apply_ite State.conf, ite_self, State.drive_conf]

theorem State.cpInvalid_conf (s : State) (a : Nat) :
    (State.cpInvalid s a).conf = s.conf := by simp only [State.cpInvalid, apply_ite State.conf, ite_self, State.drive_conf]

theorem State.cpLost_conf (s : State) (a : Nat) :
    (State.cpLost s a).conf = s.conf := by simp only [State.cpLost, apply_ite State.conf, ite_self, State.drive_conf]

theorem State.readLatch_conf (s : State) (path : Path) (a : Nat) :
    (State.readLatch s path a).conf = s.conf := by simp only [State.readLatch, apply_ite State.conf, ite_self, State.modLatch_conf]

theorem State.readReg_conf (s : State) (path : Path) (a : Nat) :
    (State.readReg s path a).2.conf = s.conf := by unfold State.readReg; split <;> simp only [State.readLatch_conf]

theorem State.vectorWrite_conf (s : State) (v : BitVec 32) {f : Bool → BitVec 11 → State} (h : ∀ b x, (f b x).conf = s.conf) :
    (State.vectorWrite s v f).conf = s.conf := by
  unfold State.vectorWrite
  split <;> simp only [h]

theorem State.chartCtrl_conf (s : State) (v : BitVec 32) :
    (State.chartCtrl s v).conf = s.conf := by unfold State.chartCtrl; split <;> simp only [State.chartBeginReg_conf, State.chartCommit_conf]

theorem State.irqClear_conf (s : State) (v : BitVec 32) :
    (State.irqClear s v).conf = s.conf := by simp only [State.irqClear, State.shIrqSet_conf]

theorem State.irqEnable_conf (s : State) (vectorReg : Bool) (v : BitVec 32) :
    (State.irqEnable s vectorReg v).conf = s.conf := by simp only [State.irqEnable, implies_true, eq_self, apply_ite State.conf, ite_self, State.shIrqSet_conf, State.vectorWrite_conf]

theorem State.writeGlobal_conf (s : State) (a : Nat) (v : BitVec 32) :
    (State.writeGlobal s a v).conf = s.conf := by unfold State.writeGlobal; split <;> simp only [State.chartCtrl_conf, State.chartData_conf, State.irqClear_conf, State.irqEnable_conf]

theorem State.loadCtrl_conf (s : State) (v : BitVec 32) :
    (State.loadCtrl s v).conf = s.conf := by unfold State.loadCtrl; split <;> simp only [State.fwLoadGo_conf, State.fwReloadGo_conf]

theorem State.portCtrl_conf (s : State) (e : Nat) (v : BitVec 32) :
    (State.portCtrl s e v).conf = s.conf := by simp only [State.portCtrl, apply_ite State.conf, ite_self, State.portEnableOff_conf, State.portEnableOn_conf]

theorem State.partCtrl_conf (s : State) (p : Nat) (v : BitVec 32) :
    (State.partCtrl s p v).conf = s.conf := by unfold State.partCtrl; (repeat' split) <;> simp only [eq_self, State.partAbort_conf, State.partEnable_conf, State.partStop_conf]

theorem State.chanCtrl_conf (s : State) (path : Path) (c : Nat) (v : BitVec 32) :
    (State.chanCtrl s path c v).conf = s.conf := by unfold State.chanCtrl; (repeat' split) <;> simp only [eq_self, State.chanAbort_conf, State.chanEnable_conf, State.chanStop_conf]

theorem State.chanCount_conf (s : State) (c : Nat) (v : BitVec 32) :
    (State.chanCount s c v).conf = s.conf := (rfl)

theorem State.writeChan_conf (s : State) (path : Path) (c : Nat) (o : Nat) (v : BitVec 32) :
    (State.writeChan s path c o v).conf = s.conf := by simp only [State.writeChan, apply_ite State.conf, ite_self, State.chanCount_conf, State.chanCtrl_conf, State.mgmtDoorbellHi_conf, State.mgmtDoorbellLo_conf, State.modChan_conf]

theorem State.queueAct_conf (s : State) (q : Nat) (v : BitVec 32) :
    (State.queueAct s q v).conf = s.conf := by unfold State.queueAct; split <;> simp only [State.queueAbort_conf, State.queueStop_conf]

theorem State.writeQueue_conf (s : State) (q : Nat) (o : Nat) (v : BitVec 32) :
    (State.writeQueue s q o v).conf = s.conf := by simp only [State.writeQueue, apply_ite State.conf, ite_self, State.modQueue_conf, State.queueAct_conf, State.queueCfg_conf]

theorem State.writeClock_conf (s : State) (sl : Slice) (o : Nat) (v : BitVec 32) :
    (State.writeClock s sl o v).conf = s.conf := by unfold State.writeClock; split <;> simp only [State.modClock_conf]

theorem State.doorbellIn_conf (s : State) (n : Nat) (page : Nat) (value : BitVec 64) :
    (State.doorbellIn s n page value).conf = s.conf := by simp only [State.doorbellIn, apply_ite State.conf, ite_self, State.drive_conf, State.hostDoorbell_conf]

theorem State.specDropped_conf (s : State) (_n : Nat) :
    (State.specDropped s _n).conf = s.conf := (rfl)

theorem State.disabledNow_conf (s : State) (t : DisableTarget) :
    (State.disabledNow s t).conf = s.conf := by unfold State.disabledNow; split <;> simp only [State.chanSettle_conf, State.partSettle_conf, State.queueSettle_conf]

theorem State.endEngines_conf (s : State) : (State.endEngines s).conf = s.conf := by
  unfold State.endEngines
  rw [eachOf_conf]
  intro r t
  split <;> simp only [State.cutReq_conf]

theorem State.endRounds_conf (st : Status) (ks : List SlotState) (s : State) :
    (State.endRounds st ks s).conf = s.conf := by simp only [State.endRounds, eachOf_conf, implies_true, eq_self, apply_ite State.conf, ite_self, State.slotFail_conf]

theorem State.walkStart_conf (s : State) (w : Nat) :
    (State.walkStart s w).conf = s.conf := by unfold State.walkStart; (repeat' split) <;> simp only [eq_self, State.giveWalker_conf]

theorem State.walkEntryIn_conf (s : State) (w : Nat) :
    (State.walkEntryIn s w).conf = s.conf := by unfold State.walkEntryIn; (repeat' split) <;> simp only [eq_self, State.walkReturn_conf]

theorem State.invalidated_conf (s : State) : (State.invalidated s).conf = s.conf := by
  unfold State.invalidated
  split
  · rfl
  · dsimp only
    split <;> simp only [State.freeDrained_conf, State.invNow_conf, State.invFinish_conf]

theorem State.wdtTick_conf (s : State) (sl : Slice) :
    (State.wdtTick s sl).conf = s.conf := (rfl)

theorem State.count_conf (s : State) :
    (State.count s).conf = s.conf := by simp only [State.count, apply_ite State.conf, ite_self, State.modClock_conf, State.wdtTick_conf]

theorem State.tick_conf (s : State) :
    (State.tick s).conf = s.conf := by simp only [State.tick, eachOf_conf, implies_true, eq_self, apply_ite State.conf, ite_self, State.count_conf, State.settle_conf, State.wdtExpired_conf]

end Sys2Proof.Machine
end

