-- ==== Sys2Proof/Laws/State.lean ====
section
/-! SUPPORT. Laws of the state: what each bank reads after a write of it, which fields the shared operations write, and that every other
field is as before. -/

namespace Sys2Proof.Machine

theorem State.clock_setClock (s : State) (k j : Slice) (v : ClockState) : (s.setClock k v).clock j = if j = k then v else s.clock j := by
  refine (tabGet_tabSet _ _ _ _ _).trans ?_; cases j <;> cases k <;> simp [sliceIx] <;> rfl

theorem State.link_setLink (s : State) (k j : Link) (v : LinkState) : (s.setLink k v).link j = if j = k then v else s.link j := by
  refine (tabGet_tabSet _ _ _ _ _).trans ?_; cases j <;> cases k <;> simp [linkIx] <;> rfl

theorem State.core_setCore (s : State) (k j : Nat) (v : Core) : (s.setCore k v).core j = if j = k then v else s.core j :=
  tabGet_tabSet _ _ _ _ _

theorem State.host_setHost (s : State) (k j : Nat) (v : HostPort) : (s.setHost k v).host j = if j = k then v else s.host j :=
  tabGet_tabSet _ _ _ _ _

theorem State.peer_setPeer (s : State) (k j : Nat) (v : PeerPort) : (s.setPeer k v).peer j = if j = k then v else s.peer j :=
  tabGet_tabSet _ _ _ _ _

theorem State.mem_setMem (s : State) (k j : Nat) (v : MemPort) : (s.setMem k v).mem j = if j = k then v else s.mem j :=
  tabGet_tabSet _ _ _ _ _

theorem State.portOn_setPortOn (s : State) (k j : Nat) (v : Bool) : (s.setPortOn k v).portOn j = if j = k then v else s.portOn j :=
  tabGet_tabSet _ _ _ _ _

theorem State.landing_setLanding (s : State) (k j : Nat) (v : Landing) : (s.setLanding k v).landing j = if j = k then v else s.landing j :=
  tabGet_tabSet _ _ _ _ _

theorem State.stall_setStall (s : State) (k j : Nat) (v : Stall) : (s.setStall k v).stall j = if j = k then v else s.stall j :=
  tabGet_tabSet _ _ _ _ _

theorem State.part_setPart (s : State) (k j : Nat) (v : PartState) : (s.setPart k v).part j = if j = k then v else s.part j :=
  tabGet_tabSet _ _ _ _ _

theorem State.queue_setQueue (s : State) (k j : Nat) (v : Queue) : (s.setQueue k v).queue j = if j = k then v else s.queue j :=
  tabGet_tabSet _ _ _ _ _

theorem State.chan_setChan (s : State) (k j : Nat) (v : Channel) : (s.setChan k v).chan j = if j = k then v else s.chan j :=
  tabGet_tabSet _ _ _ _ _

theorem State.readArb_setReadArb (s : State) (k j : Nat) (v : Arbiter) : (s.setReadArb k v).readArb j = if j = k then v else s.readArb j :=
  tabGet_tabSet _ _ _ _ _

theorem State.writeArb_setWriteArb (s : State) (k j : Nat) (v : Arbiter) : (s.setWriteArb k v).writeArb j = if j = k then v else s.writeArb j :=
  tabGet_tabSet _ _ _ _ _

theorem State.latch_setLatch (s : State) (k j : Nat) (v : PathLatch) : (s.setLatch k v).latch j = if j = k then v else s.latch j :=
  tabGet_tabSet _ _ _ _ _

theorem State.burstTear_setBurstTear (s : State) (k j : Nat) (v : Bool) : (s.setBurstTear k v).burstTear j = if j = k then v else s.burstTear j :=
  tabGet_tabSet _ _ _ _ _

theorem State.slot_setSlot (s : State) (k j : Nat) (v : Slot) : (s.setSlot k v).slot j = if j = k then v else s.slot j :=
  tabGet_tabSet _ _ _ _ _

theorem State.tideVal_setTideVal (s : State) (k j : Nat) (v : BitVec 64) : (s.setTideVal k v).tideVal j = if j = k then v else s.tideVal j :=
  tabGet_tabSet _ _ _ _ _

theorem State.tidePkt_setTidePkt (s : State) (k j : Nat) (v : Bool) : (s.setTidePkt k v).tidePkt j = if j = k then v else s.tidePkt j :=
  tabGet_tabSet _ _ _ _ _

theorem State.msixEntry_setMsixEntry (s : State) (k j : Nat) (v : MsixEntry) : (s.setMsixEntry k v).msixEntry j = if j = k then v else s.msixEntry j :=
  tabGet_tabSet _ _ _ _ _

theorem State.pendingBit_setPendingBit (s : State) (k j : Nat) (v : Bool) : (s.setPendingBit k v).pendingBit j = if j = k then v else s.pendingBit j :=
  tabGet_tabSet _ _ _ _ _

theorem State.root_setRoot (s : State) (k j : Nat) (v : Root) : (s.setRoot k v).root j = if j = k then v else s.root j :=
  tabGet_tabSet _ _ _ _ _

theorem State.hostWin_setHostWin (s : State) (k j : Nat) (v : HostWin) : (s.setHostWin k v).hostWin j = if j = k then v else s.hostWin j :=
  tabGet_tabSet _ _ _ _ _

theorem State.sealRange_setSealRange (s : State) (k j : Nat) (v : SealRange) : (s.setSealRange k v).sealRange j = if j = k then v else s.sealRange j :=
  tabGet_tabSet _ _ _ _ _

theorem State.l1_setL1 (s : State) (k j : Nat) (v : List Leaf) : (s.setL1 k v).l1 j = if j = k then v else s.l1 j :=
  tabGet_tabSet _ _ _ _ _

theorem State.pool_setPool (s : State) (k j : Nat) (v : Option Pool) : (s.setPool k v).pool j = if j = k then v else s.pool j :=
  tabGet_tabSet _ _ _ _ _

theorem State.pipe_setPipe (s : State) (k j : Nat) (v : Pipeline) : (s.setPipe k v).pipe j = if j = k then v else s.pipe j :=
  tabGet_tabSet _ _ _ _ _

theorem State.region_setRegion (s : State) (k j : Nat) (v : Option Region) : (s.setRegion k v).region j = if j = k then v else s.region j :=
  tabGet_tabSet _ _ _ _ _

theorem State.stackState_setStackState (s : State) (k j : Nat) (v : StackState) : (s.setStackState k v).stackState j = if j = k then v else s.stackState j :=
  tabGet_tabSet _ _ _ _ _

theorem State.marginOf_setMarginOf (s : State) (k j : Nat) (v : MarginState) : (s.setMarginOf k v).marginOf j = if j = k then v else s.marginOf j :=
  tabGet_tabSet _ _ _ _ _

theorem State.bankNote_setBankNote (s : State) (k j : Nat) (v : BankNote) : (s.setBankNote k v).bankNote j = if j = k then v else s.bankNote j :=
  tabGet_tabSet _ _ _ _ _

theorem State.holdUsed_setHoldUsed (s : State) (k j : Nat) (v : Nat) : (s.setHoldUsed k v).holdUsed j = if j = k then v else s.holdUsed j :=
  tabGet_tabSet _ _ _ _ _

theorem State.attach_setAttach (s : State) (k j : Nat) (v : BitVec 32) : (s.setAttach k v).attach j = if j = k then v else s.attach j :=
  tabGet_tabSet _ _ _ _ _

theorem State.drive_eq (s : State) (o : Out) :
    (State.drive s o) = { s with out := (State.drive s o).out } := by
  unfold State.drive
  first | rfl | ((try dsimp only); (repeat' split) <;> first | rfl)

@[simp] theorem State.drive_pending (s : State) (o : Out) : (State.drive s o).pending = s.pending := by rw [State.drive_eq]

@[simp] theorem State.drive_clocks (s : State) (o : Out) : (State.drive s o).clocks = s.clocks := by rw [State.drive_eq]

@[simp] theorem State.drive_links (s : State) (o : Out) : (State.drive s o).links = s.links := by rw [State.drive_eq]

@[simp] theorem State.drive_gated (s : State) (o : Out) : (State.drive s o).gated = s.gated := by rw [State.drive_eq]

@[simp] theorem State.drive_fuses (s : State) (o : Out) : (State.drive s o).fuses = s.fuses := by rw [State.drive_eq]

@[simp] theorem State.drive_start (s : State) (o : Out) : (State.drive s o).start = s.start := by rw [State.drive_eq]

@[simp] theorem State.drive_fenced (s : State) (o : Out) : (State.drive s o).fenced = s.fenced := by rw [State.drive_eq]

@[simp] theorem State.drive_chart (s : State) (o : Out) : (State.drive s o).chart = s.chart := by rw [State.drive_eq]

@[simp] theorem State.drive_tearBurst (s : State) (o : Out) : (State.drive s o).tearBurst = s.tearBurst := by rw [State.drive_eq]

@[simp] theorem State.drive_tapUnlock (s : State) (o : Out) : (State.drive s o).tapUnlock = s.tapUnlock := by rw [State.drive_eq]

@[simp] theorem State.drive_tap (s : State) (o : Out) : (State.drive s o).tap = s.tap := by rw [State.drive_eq]

@[simp] theorem State.drive_tapData (s : State) (o : Out) : (State.drive s o).tapData = s.tapData := by rw [State.drive_eq]

@[simp] theorem State.drive_cores (s : State) (o : Out) : (State.drive s o).cores = s.cores := by rw [State.drive_eq]

@[simp] theorem State.drive_fw (s : State) (o : Out) : (State.drive s o).fw = s.fw := by rw [State.drive_eq]

@[simp] theorem State.drive_mgmt (s : State) (o : Out) : (State.drive s o).mgmt = s.mgmt := by rw [State.drive_eq]

@[simp] theorem State.drive_relay (s : State) (o : Out) : (State.drive s o).relay = s.relay := by rw [State.drive_eq]

@[simp] theorem State.drive_irq (s : State) (o : Out) : (State.drive s o).irq = s.irq := by rw [State.drive_eq]

@[simp] theorem State.drive_hosts (s : State) (o : Out) : (State.drive s o).hosts = s.hosts := by rw [State.drive_eq]

@[simp] theorem State.drive_cacheTags (s : State) (o : Out) : (State.drive s o).cacheTags = s.cacheTags := by rw [State.drive_eq]

@[simp] theorem State.drive_nextCache (s : State) (o : Out) : (State.drive s o).nextCache = s.nextCache := by rw [State.drive_eq]

@[simp] theorem State.drive_peers (s : State) (o : Out) : (State.drive s o).peers = s.peers := by rw [State.drive_eq]

@[simp] theorem State.drive_tracker (s : State) (o : Out) : (State.drive s o).tracker = s.tracker := by rw [State.drive_eq]

@[simp] theorem State.drive_nextTag (s : State) (o : Out) : (State.drive s o).nextTag = s.nextTag := by rw [State.drive_eq]

@[simp] theorem State.drive_unreach (s : State) (o : Out) : (State.drive s o).unreach = s.unreach := by rw [State.drive_eq]

@[simp] theorem State.drive_portEnable (s : State) (o : Out) : (State.drive s o).portEnable = s.portEnable := by rw [State.drive_eq]

@[simp] theorem State.drive_engReqs (s : State) (o : Out) : (State.drive s o).engReqs = s.engReqs := by rw [State.drive_eq]

@[simp] theorem State.drive_beats (s : State) (o : Out) : (State.drive s o).beats = s.beats := by rw [State.drive_eq]

@[simp] theorem State.drive_owedBeats (s : State) (o : Out) : (State.drive s o).owedBeats = s.owedBeats := by rw [State.drive_eq]

@[simp] theorem State.drive_nextOrder (s : State) (o : Out) : (State.drive s o).nextOrder = s.nextOrder := by rw [State.drive_eq]

@[simp] theorem State.drive_mems (s : State) (o : Out) : (State.drive s o).mems = s.mems := by rw [State.drive_eq]

@[simp] theorem State.drive_accesses (s : State) (o : Out) : (State.drive s o).accesses = s.accesses := by rw [State.drive_eq]

@[simp] theorem State.drive_ended (s : State) (o : Out) : (State.drive s o).ended = s.ended := by rw [State.drive_eq]

@[simp] theorem State.drive_nextId (s : State) (o : Out) : (State.drive s o).nextId = s.nextId := by rw [State.drive_eq]

@[simp] theorem State.drive_trans (s : State) (o : Out) : (State.drive s o).trans = s.trans := by rw [State.drive_eq]

@[simp] theorem State.drive_landings (s : State) (o : Out) : (State.drive s o).landings = s.landings := by rw [State.drive_eq]

@[simp] theorem State.drive_stalls (s : State) (o : Out) : (State.drive s o).stalls = s.stalls := by rw [State.drive_eq]

@[simp] theorem State.drive_stale (s : State) (o : Out) : (State.drive s o).stale = s.stale := by rw [State.drive_eq]

@[simp] theorem State.drive_inv (s : State) (o : Out) : (State.drive s o).inv = s.inv := by rw [State.drive_eq]

@[simp] theorem State.drive_parts (s : State) (o : Out) : (State.drive s o).parts = s.parts := by rw [State.drive_eq]

@[simp] theorem State.drive_releases (s : State) (o : Out) : (State.drive s o).releases = s.releases := by rw [State.drive_eq]

@[simp] theorem State.drive_queues (s : State) (o : Out) : (State.drive s o).queues = s.queues := by rw [State.drive_eq]

@[simp] theorem State.drive_dbCheck (s : State) (o : Out) : (State.drive s o).dbCheck = s.dbCheck := by rw [State.drive_eq]

@[simp] theorem State.drive_dbState (s : State) (o : Out) : (State.drive s o).dbState = s.dbState := by rw [State.drive_eq]

@[simp] theorem State.drive_dbLast (s : State) (o : Out) : (State.drive s o).dbLast = s.dbLast := by rw [State.drive_eq]

@[simp] theorem State.drive_alloc (s : State) (o : Out) : (State.drive s o).alloc = s.alloc := by rw [State.drive_eq]

@[simp] theorem State.drive_chans (s : State) (o : Out) : (State.drive s o).chans = s.chans := by rw [State.drive_eq]

@[simp] theorem State.drive_arbR (s : State) (o : Out) : (State.drive s o).arbR = s.arbR := by rw [State.drive_eq]

@[simp] theorem State.drive_arbW (s : State) (o : Out) : (State.drive s o).arbW = s.arbW := by rw [State.drive_eq]

@[simp] theorem State.drive_sluice (s : State) (o : Out) : (State.drive s o).sluice = s.sluice := by rw [State.drive_eq]

@[simp] theorem State.drive_cmb (s : State) (o : Out) : (State.drive s o).cmb = s.cmb := by rw [State.drive_eq]

@[simp] theorem State.drive_tide (s : State) (o : Out) : (State.drive s o).tide = s.tide := by rw [State.drive_eq]

@[simp] theorem State.drive_latches (s : State) (o : Out) : (State.drive s o).latches = s.latches := by rw [State.drive_eq]

@[simp] theorem State.drive_home (s : State) (o : Out) : (State.drive s o).home = s.home := by rw [State.drive_eq]

@[simp] theorem State.drive_ident (s : State) (o : Out) : (State.drive s o).ident = s.ident := by rw [State.drive_eq]

@[simp] theorem State.drive_ras (s : State) (o : Out) : (State.drive s o).ras = s.ras := by rw [State.drive_eq]

@[simp] theorem State.drive_hold (s : State) (o : Out) : (State.drive s o).hold = s.hold := by rw [State.drive_eq]

@[simp] theorem State.drive_health (s : State) (o : Out) : (State.drive s o).health = s.health := by rw [State.drive_eq]

@[simp] theorem State.drive_thermal (s : State) (o : Out) : (State.drive s o).thermal = s.thermal := by rw [State.drive_eq]

@[simp] theorem State.drive_fresh (s : State) (o : Out) : (State.drive s o).fresh = s.fresh := by rw [State.drive_eq]

@[simp] theorem State.drive_rand (s : State) (o : Out) : (State.drive s o).rand = s.rand := by rw [State.drive_eq]

theorem State.raiseVector_eq (s : State) (v : Nat) :
    (State.raiseVector s v) = { s with irq := (State.raiseVector s v).irq, out := (State.raiseVector s v).out } := by
  unfold State.raiseVector
  first | rfl | ((try dsimp only); (repeat' split) <;> first | rfl | exact State.drive_eq _ _ | rw [State.drive_eq])

@[simp] theorem State.raiseVector_pending (s : State) (v : Nat) : (State.raiseVector s v).pending = s.pending := by rw [State.raiseVector_eq]

@[simp] theorem State.raiseVector_clocks (s : State) (v : Nat) : (State.raiseVector s v).clocks = s.clocks := by rw [State.raiseVector_eq]

@[simp] theorem State.raiseVector_links (s : State) (v : Nat) : (State.raiseVector s v).links = s.links := by rw [State.raiseVector_eq]

@[simp] theorem State.raiseVector_gated (s : State) (v : Nat) : (State.raiseVector s v).gated = s.gated := by rw [State.raiseVector_eq]

@[simp] theorem State.raiseVector_fuses (s : State) (v : Nat) : (State.raiseVector s v).fuses = s.fuses := by rw [State.raiseVector_eq]

@[simp] theorem State.raiseVector_start (s : State) (v : Nat) : (State.raiseVector s v).start = s.start := by rw [State.raiseVector_eq]

@[simp] theorem State.raiseVector_fenced (s : State) (v : Nat) : (State.raiseVector s v).fenced = s.fenced := by rw [State.raiseVector_eq]

@[simp] theorem State.raiseVector_chart (s : State) (v : Nat) : (State.raiseVector s v).chart = s.chart := by rw [State.raiseVector_eq]

@[simp] theorem State.raiseVector_tearBurst (s : State) (v : Nat) : (State.raiseVector s v).tearBurst = s.tearBurst := by rw [State.raiseVector_eq]

@[simp] theorem State.raiseVector_tapUnlock (s : State) (v : Nat) : (State.raiseVector s v).tapUnlock = s.tapUnlock := by rw [State.raiseVector_eq]

@[simp] theorem State.raiseVector_tap (s : State) (v : Nat) : (State.raiseVector s v).tap = s.tap := by rw [State.raiseVector_eq]

@[simp] theorem State.raiseVector_tapData (s : State) (v : Nat) : (State.raiseVector s v).tapData = s.tapData := by rw [State.raiseVector_eq]

@[simp] theorem State.raiseVector_cores (s : State) (v : Nat) : (State.raiseVector s v).cores = s.cores := by rw [State.raiseVector_eq]

@[simp] theorem State.raiseVector_fw (s : State) (v : Nat) : (State.raiseVector s v).fw = s.fw := by rw [State.raiseVector_eq]

@[simp] theorem State.raiseVector_mgmt (s : State) (v : Nat) : (State.raiseVector s v).mgmt = s.mgmt := by rw [State.raiseVector_eq]

@[simp] theorem State.raiseVector_relay (s : State) (v : Nat) : (State.raiseVector s v).relay = s.relay := by rw [State.raiseVector_eq]

@[simp] theorem State.raiseVector_hosts (s : State) (v : Nat) : (State.raiseVector s v).hosts = s.hosts := by rw [State.raiseVector_eq]

@[simp] theorem State.raiseVector_cacheTags (s : State) (v : Nat) : (State.raiseVector s v).cacheTags = s.cacheTags := by rw [State.raiseVector_eq]

@[simp] theorem State.raiseVector_nextCache (s : State) (v : Nat) : (State.raiseVector s v).nextCache = s.nextCache := by rw [State.raiseVector_eq]

@[simp] theorem State.raiseVector_peers (s : State) (v : Nat) : (State.raiseVector s v).peers = s.peers := by rw [State.raiseVector_eq]

@[simp] theorem State.raiseVector_tracker (s : State) (v : Nat) : (State.raiseVector s v).tracker = s.tracker := by rw [State.raiseVector_eq]

@[simp] theorem State.raiseVector_nextTag (s : State) (v : Nat) : (State.raiseVector s v).nextTag = s.nextTag := by rw [State.raiseVector_eq]

@[simp] theorem State.raiseVector_unreach (s : State) (v : Nat) : (State.raiseVector s v).unreach = s.unreach := by rw [State.raiseVector_eq]

@[simp] theorem State.raiseVector_portEnable (s : State) (v : Nat) : (State.raiseVector s v).portEnable = s.portEnable := by rw [State.raiseVector_eq]

@[simp] theorem State.raiseVector_engReqs (s : State) (v : Nat) : (State.raiseVector s v).engReqs = s.engReqs := by rw [State.raiseVector_eq]

@[simp] theorem State.raiseVector_beats (s : State) (v : Nat) : (State.raiseVector s v).beats = s.beats := by rw [State.raiseVector_eq]

@[simp] theorem State.raiseVector_owedBeats (s : State) (v : Nat) : (State.raiseVector s v).owedBeats = s.owedBeats := by rw [State.raiseVector_eq]

@[simp] theorem State.raiseVector_nextOrder (s : State) (v : Nat) : (State.raiseVector s v).nextOrder = s.nextOrder := by rw [State.raiseVector_eq]

@[simp] theorem State.raiseVector_mems (s : State) (v : Nat) : (State.raiseVector s v).mems = s.mems := by rw [State.raiseVector_eq]

@[simp] theorem State.raiseVector_accesses (s : State) (v : Nat) : (State.raiseVector s v).accesses = s.accesses := by rw [State.raiseVector_eq]

@[simp] theorem State.raiseVector_ended (s : State) (v : Nat) : (State.raiseVector s v).ended = s.ended := by rw [State.raiseVector_eq]

@[simp] theorem State.raiseVector_nextId (s : State) (v : Nat) : (State.raiseVector s v).nextId = s.nextId := by rw [State.raiseVector_eq]

@[simp] theorem State.raiseVector_trans (s : State) (v : Nat) : (State.raiseVector s v).trans = s.trans := by rw [State.raiseVector_eq]

@[simp] theorem State.raiseVector_landings (s : State) (v : Nat) : (State.raiseVector s v).landings = s.landings := by rw [State.raiseVector_eq]

@[simp] theorem State.raiseVector_stalls (s : State) (v : Nat) : (State.raiseVector s v).stalls = s.stalls := by rw [State.raiseVector_eq]

@[simp] theorem State.raiseVector_stale (s : State) (v : Nat) : (State.raiseVector s v).stale = s.stale := by rw [State.raiseVector_eq]

@[simp] theorem State.raiseVector_inv (s : State) (v : Nat) : (State.raiseVector s v).inv = s.inv := by rw [State.raiseVector_eq]

@[simp] theorem State.raiseVector_parts (s : State) (v : Nat) : (State.raiseVector s v).parts = s.parts := by rw [State.raiseVector_eq]

@[simp] theorem State.raiseVector_releases (s : State) (v : Nat) : (State.raiseVector s v).releases = s.releases := by rw [State.raiseVector_eq]

@[simp] theorem State.raiseVector_queues (s : State) (v : Nat) : (State.raiseVector s v).queues = s.queues := by rw [State.raiseVector_eq]

@[simp] theorem State.raiseVector_dbCheck (s : State) (v : Nat) : (State.raiseVector s v).dbCheck = s.dbCheck := by rw [State.raiseVector_eq]

@[simp] theorem State.raiseVector_dbState (s : State) (v : Nat) : (State.raiseVector s v).dbState = s.dbState := by rw [State.raiseVector_eq]

@[simp] theorem State.raiseVector_dbLast (s : State) (v : Nat) : (State.raiseVector s v).dbLast = s.dbLast := by rw [State.raiseVector_eq]

@[simp] theorem State.raiseVector_alloc (s : State) (v : Nat) : (State.raiseVector s v).alloc = s.alloc := by rw [State.raiseVector_eq]

@[simp] theorem State.raiseVector_chans (s : State) (v : Nat) : (State.raiseVector s v).chans = s.chans := by rw [State.raiseVector_eq]

@[simp] theorem State.raiseVector_arbR (s : State) (v : Nat) : (State.raiseVector s v).arbR = s.arbR := by rw [State.raiseVector_eq]

@[simp] theorem State.raiseVector_arbW (s : State) (v : Nat) : (State.raiseVector s v).arbW = s.arbW := by rw [State.raiseVector_eq]

@[simp] theorem State.raiseVector_sluice (s : State) (v : Nat) : (State.raiseVector s v).sluice = s.sluice := by rw [State.raiseVector_eq]

@[simp] theorem State.raiseVector_cmb (s : State) (v : Nat) : (State.raiseVector s v).cmb = s.cmb := by rw [State.raiseVector_eq]

@[simp] theorem State.raiseVector_tide (s : State) (v : Nat) : (State.raiseVector s v).tide = s.tide := by rw [State.raiseVector_eq]

@[simp] theorem State.raiseVector_latches (s : State) (v : Nat) : (State.raiseVector s v).latches = s.latches := by rw [State.raiseVector_eq]

@[simp] theorem State.raiseVector_home (s : State) (v : Nat) : (State.raiseVector s v).home = s.home := by rw [State.raiseVector_eq]

@[simp] theorem State.raiseVector_ident (s : State) (v : Nat) : (State.raiseVector s v).ident = s.ident := by rw [State.raiseVector_eq]

@[simp] theorem State.raiseVector_ras (s : State) (v : Nat) : (State.raiseVector s v).ras = s.ras := by rw [State.raiseVector_eq]

@[simp] theorem State.raiseVector_hold (s : State) (v : Nat) : (State.raiseVector s v).hold = s.hold := by rw [State.raiseVector_eq]

@[simp] theorem State.raiseVector_health (s : State) (v : Nat) : (State.raiseVector s v).health = s.health := by rw [State.raiseVector_eq]

@[simp] theorem State.raiseVector_thermal (s : State) (v : Nat) : (State.raiseVector s v).thermal = s.thermal := by rw [State.raiseVector_eq]

@[simp] theorem State.raiseVector_fresh (s : State) (v : Nat) : (State.raiseVector s v).fresh = s.fresh := by rw [State.raiseVector_eq]

@[simp] theorem State.raiseVector_rand (s : State) (v : Nat) : (State.raiseVector s v).rand = s.rand := by rw [State.raiseVector_eq]

theorem State.shIrqSet_eq (s : State) (status : BitVec 10) (enable : BitVec 10) (valid : Bool) (vector : BitVec 11) :
    (State.shIrqSet s status enable valid vector) = { s with irq := (State.shIrqSet s status enable valid vector).irq, out := (State.shIrqSet s status enable valid vector).out } := by
  unfold State.shIrqSet
  first | rfl | ((try dsimp only); (repeat' split) <;> first | rfl | exact State.raiseVector_eq _ _ | rw [State.raiseVector_eq])

theorem State.shIrq_eq (s : State) (i : Nat) :
    (State.shIrq s i) = { s with irq := (State.shIrq s i).irq, out := (State.shIrq s i).out } := by
  unfold State.shIrq
  first | rfl | ((try dsimp only); (repeat' split) <;> first | rfl | exact State.shIrqSet_eq _ _ _ _ _ | rw [State.shIrqSet_eq])

@[simp] theorem State.shIrq_pending (s : State) (i : Nat) : (State.shIrq s i).pending = s.pending := by rw [State.shIrq_eq]

@[simp] theorem State.shIrq_clocks (s : State) (i : Nat) : (State.shIrq s i).clocks = s.clocks := by rw [State.shIrq_eq]

@[simp] theorem State.shIrq_links (s : State) (i : Nat) : (State.shIrq s i).links = s.links := by rw [State.shIrq_eq]

@[simp] theorem State.shIrq_gated (s : State) (i : Nat) : (State.shIrq s i).gated = s.gated := by rw [State.shIrq_eq]

@[simp] theorem State.shIrq_fuses (s : State) (i : Nat) : (State.shIrq s i).fuses = s.fuses := by rw [State.shIrq_eq]

@[simp] theorem State.shIrq_start (s : State) (i : Nat) : (State.shIrq s i).start = s.start := by rw [State.shIrq_eq]

@[simp] theorem State.shIrq_fenced (s : State) (i : Nat) : (State.shIrq s i).fenced = s.fenced := by rw [State.shIrq_eq]

@[simp] theorem State.shIrq_chart (s : State) (i : Nat) : (State.shIrq s i).chart = s.chart := by rw [State.shIrq_eq]

@[simp] theorem State.shIrq_tearBurst (s : State) (i : Nat) : (State.shIrq s i).tearBurst = s.tearBurst := by rw [State.shIrq_eq]

@[simp] theorem State.shIrq_tapUnlock (s : State) (i : Nat) : (State.shIrq s i).tapUnlock = s.tapUnlock := by rw [State.shIrq_eq]

@[simp] theorem State.shIrq_tap (s : State) (i : Nat) : (State.shIrq s i).tap = s.tap := by rw [State.shIrq_eq]

@[simp] theorem State.shIrq_tapData (s : State) (i : Nat) : (State.shIrq s i).tapData = s.tapData := by rw [State.shIrq_eq]

@[simp] theorem State.shIrq_cores (s : State) (i : Nat) : (State.shIrq s i).cores = s.cores := by rw [State.shIrq_eq]

@[simp] theorem State.shIrq_fw (s : State) (i : Nat) : (State.shIrq s i).fw = s.fw := by rw [State.shIrq_eq]

@[simp] theorem State.shIrq_mgmt (s : State) (i : Nat) : (State.shIrq s i).mgmt = s.mgmt := by rw [State.shIrq_eq]

@[simp] theorem State.shIrq_relay (s : State) (i : Nat) : (State.shIrq s i).relay = s.relay := by rw [State.shIrq_eq]

@[simp] theorem State.shIrq_hosts (s : State) (i : Nat) : (State.shIrq s i).hosts = s.hosts := by rw [State.shIrq_eq]

@[simp] theorem State.shIrq_cacheTags (s : State) (i : Nat) : (State.shIrq s i).cacheTags = s.cacheTags := by rw [State.shIrq_eq]

@[simp] theorem State.shIrq_nextCache (s : State) (i : Nat) : (State.shIrq s i).nextCache = s.nextCache := by rw [State.shIrq_eq]

@[simp] theorem State.shIrq_peers (s : State) (i : Nat) : (State.shIrq s i).peers = s.peers := by rw [State.shIrq_eq]

@[simp] theorem State.shIrq_tracker (s : State) (i : Nat) : (State.shIrq s i).tracker = s.tracker := by rw [State.shIrq_eq]

@[simp] theorem State.shIrq_nextTag (s : State) (i : Nat) : (State.shIrq s i).nextTag = s.nextTag := by rw [State.shIrq_eq]

@[simp] theorem State.shIrq_unreach (s : State) (i : Nat) : (State.shIrq s i).unreach = s.unreach := by rw [State.shIrq_eq]

@[simp] theorem State.shIrq_portEnable (s : State) (i : Nat) : (State.shIrq s i).portEnable = s.portEnable := by rw [State.shIrq_eq]

@[simp] theorem State.shIrq_engReqs (s : State) (i : Nat) : (State.shIrq s i).engReqs = s.engReqs := by rw [State.shIrq_eq]

@[simp] theorem State.shIrq_beats (s : State) (i : Nat) : (State.shIrq s i).beats = s.beats := by rw [State.shIrq_eq]

@[simp] theorem State.shIrq_owedBeats (s : State) (i : Nat) : (State.shIrq s i).owedBeats = s.owedBeats := by rw [State.shIrq_eq]

@[simp] theorem State.shIrq_nextOrder (s : State) (i : Nat) : (State.shIrq s i).nextOrder = s.nextOrder := by rw [State.shIrq_eq]

@[simp] theorem State.shIrq_mems (s : State) (i : Nat) : (State.shIrq s i).mems = s.mems := by rw [State.shIrq_eq]

@[simp] theorem State.shIrq_accesses (s : State) (i : Nat) : (State.shIrq s i).accesses = s.accesses := by rw [State.shIrq_eq]

@[simp] theorem State.shIrq_ended (s : State) (i : Nat) : (State.shIrq s i).ended = s.ended := by rw [State.shIrq_eq]

@[simp] theorem State.shIrq_nextId (s : State) (i : Nat) : (State.shIrq s i).nextId = s.nextId := by rw [State.shIrq_eq]

@[simp] theorem State.shIrq_trans (s : State) (i : Nat) : (State.shIrq s i).trans = s.trans := by rw [State.shIrq_eq]

@[simp] theorem State.shIrq_landings (s : State) (i : Nat) : (State.shIrq s i).landings = s.landings := by rw [State.shIrq_eq]

@[simp] theorem State.shIrq_stalls (s : State) (i : Nat) : (State.shIrq s i).stalls = s.stalls := by rw [State.shIrq_eq]

@[simp] theorem State.shIrq_stale (s : State) (i : Nat) : (State.shIrq s i).stale = s.stale := by rw [State.shIrq_eq]

@[simp] theorem State.shIrq_inv (s : State) (i : Nat) : (State.shIrq s i).inv = s.inv := by rw [State.shIrq_eq]

@[simp] theorem State.shIrq_parts (s : State) (i : Nat) : (State.shIrq s i).parts = s.parts := by rw [State.shIrq_eq]

@[simp] theorem State.shIrq_releases (s : State) (i : Nat) : (State.shIrq s i).releases = s.releases := by rw [State.shIrq_eq]

@[simp] theorem State.shIrq_queues (s : State) (i : Nat) : (State.shIrq s i).queues = s.queues := by rw [State.shIrq_eq]

@[simp] theorem State.shIrq_dbCheck (s : State) (i : Nat) : (State.shIrq s i).dbCheck = s.dbCheck := by rw [State.shIrq_eq]

@[simp] theorem State.shIrq_dbState (s : State) (i : Nat) : (State.shIrq s i).dbState = s.dbState := by rw [State.shIrq_eq]

@[simp] theorem State.shIrq_dbLast (s : State) (i : Nat) : (State.shIrq s i).dbLast = s.dbLast := by rw [State.shIrq_eq]

@[simp] theorem State.shIrq_alloc (s : State) (i : Nat) : (State.shIrq s i).alloc = s.alloc := by rw [State.shIrq_eq]

@[simp] theorem State.shIrq_chans (s : State) (i : Nat) : (State.shIrq s i).chans = s.chans := by rw [State.shIrq_eq]

@[simp] theorem State.shIrq_arbR (s : State) (i : Nat) : (State.shIrq s i).arbR = s.arbR := by rw [State.shIrq_eq]

@[simp] theorem State.shIrq_arbW (s : State) (i : Nat) : (State.shIrq s i).arbW = s.arbW := by rw [State.shIrq_eq]

@[simp] theorem State.shIrq_sluice (s : State) (i : Nat) : (State.shIrq s i).sluice = s.sluice := by rw [State.shIrq_eq]

@[simp] theorem State.shIrq_cmb (s : State) (i : Nat) : (State.shIrq s i).cmb = s.cmb := by rw [State.shIrq_eq]

@[simp] theorem State.shIrq_tide (s : State) (i : Nat) : (State.shIrq s i).tide = s.tide := by rw [State.shIrq_eq]

@[simp] theorem State.shIrq_latches (s : State) (i : Nat) : (State.shIrq s i).latches = s.latches := by rw [State.shIrq_eq]

@[simp] theorem State.shIrq_home (s : State) (i : Nat) : (State.shIrq s i).home = s.home := by rw [State.shIrq_eq]

@[simp] theorem State.shIrq_ident (s : State) (i : Nat) : (State.shIrq s i).ident = s.ident := by rw [State.shIrq_eq]

@[simp] theorem State.shIrq_ras (s : State) (i : Nat) : (State.shIrq s i).ras = s.ras := by rw [State.shIrq_eq]

@[simp] theorem State.shIrq_hold (s : State) (i : Nat) : (State.shIrq s i).hold = s.hold := by rw [State.shIrq_eq]

@[simp] theorem State.shIrq_health (s : State) (i : Nat) : (State.shIrq s i).health = s.health := by rw [State.shIrq_eq]

@[simp] theorem State.shIrq_thermal (s : State) (i : Nat) : (State.shIrq s i).thermal = s.thermal := by rw [State.shIrq_eq]

@[simp] theorem State.shIrq_fresh (s : State) (i : Nat) : (State.shIrq s i).fresh = s.fresh := by rw [State.shIrq_eq]

@[simp] theorem State.shIrq_rand (s : State) (i : Nat) : (State.shIrq s i).rand = s.rand := by rw [State.shIrq_eq]

theorem State.rasLose_eq (s : State) :
    (State.rasLose s) = { s with irq := (State.rasLose s).irq, ras := (State.rasLose s).ras, out := (State.rasLose s).out } := by
  unfold State.rasLose
  first | rfl | ((try dsimp only); (repeat' split) <;> first | rfl | exact State.shIrq_eq _ _ | rw [State.shIrq_eq])

theorem State.rasBuffer_eq (s : State) (r : ErrRec) :
    (State.rasBuffer s r) = { s with irq := (State.rasBuffer s r).irq, ras := (State.rasBuffer s r).ras, out := (State.rasBuffer s r).out } := by
  unfold State.rasBuffer
  first | rfl | ((try dsimp only); (repeat' split) <;> first | rfl | exact State.rasLose_eq _ | rw [State.rasLose_eq])

theorem State.errLog_eq (s : State) (r : ErrRec) :
    (State.errLog s r) = { s with irq := (State.errLog s r).irq, ras := (State.errLog s r).ras, out := (State.errLog s r).out } := by
  unfold State.errLog
  first | rfl | ((try dsimp only); (repeat' split) <;> first | rfl | exact State.shIrq_eq _ _ | rw [State.shIrq_eq])

theorem State.eventLost_eq (s : State) (sl : Slice) (i : Nat) :
    s.eventLost sl i = { s with clocks := (s.eventLost sl i).clocks, irq := (s.eventLost sl i).irq, out := (s.eventLost sl i).out } := by
  unfold State.eventLost
  dsimp only
  split
  · rfl
  · rw [State.shIrq_eq]
    rfl

/-- A record that crosses takes the next sequence, is logged and waits for the writer; one that does not is an event lost. -/
theorem State.record_cases (s : State) (r : ErrRec) :
    (s.ctrlLost r.slice = true ∧ s.record r = s.eventLost r.slice 0) ∨
    (s.ctrlLost r.slice = false ∧ s.record r =
      State.rasBuffer (State.errLog { s with ras := { s.ras with nextSeq := s.ras.nextSeq + 1 } } { r with seq := s.ras.nextSeq })
        { r with seq := s.ras.nextSeq }) := by
  unfold State.record
  cases h : s.ctrlLost r.slice <;> simp

theorem State.record_eq (s : State) (r : ErrRec) :
    s.record r = { s with clocks := (s.record r).clocks, irq := (s.record r).irq, ras := (s.record r).ras, out := (s.record r).out } := by
  rcases s.record_cases r with ⟨-, h⟩ | ⟨-, h⟩ <;> rw [h]
  · rw [State.eventLost_eq]
  · rw [State.rasBuffer_eq, State.errLog_eq]

theorem State.record_kept {s : State} {r : ErrRec} (h : s.ctrlLost r.slice = false) : (s.record r).clocks = s.clocks := by
  rcases s.record_cases r with ⟨e, -⟩ | ⟨-, e⟩
  · rw [h] at e; cases e
  · rw [e, State.rasBuffer_eq, State.errLog_eq]

@[simp] theorem State.record_pending (s : State) (r : ErrRec) : (State.record s r).pending = s.pending := by rw [State.record_eq]

@[simp] theorem State.record_links (s : State) (r : ErrRec) : (State.record s r).links = s.links := by rw [State.record_eq]

@[simp] theorem State.record_gated (s : State) (r : ErrRec) : (State.record s r).gated = s.gated := by rw [State.record_eq]

@[simp] theorem State.record_fuses (s : State) (r : ErrRec) : (State.record s r).fuses = s.fuses := by rw [State.record_eq]

@[simp] theorem State.record_start (s : State) (r : ErrRec) : (State.record s r).start = s.start := by rw [State.record_eq]

@[simp] theorem State.record_fenced (s : State) (r : ErrRec) : (State.record s r).fenced = s.fenced := by rw [State.record_eq]

@[simp] theorem State.record_chart (s : State) (r : ErrRec) : (State.record s r).chart = s.chart := by rw [State.record_eq]

@[simp] theorem State.record_tearBurst (s : State) (r : ErrRec) : (State.record s r).tearBurst = s.tearBurst := by rw [State.record_eq]

@[simp] theorem State.record_tapUnlock (s : State) (r : ErrRec) : (State.record s r).tapUnlock = s.tapUnlock := by rw [State.record_eq]

@[simp] theorem State.record_tap (s : State) (r : ErrRec) : (State.record s r).tap = s.tap := by rw [State.record_eq]

@[simp] theorem State.record_tapData (s : State) (r : ErrRec) : (State.record s r).tapData = s.tapData := by rw [State.record_eq]

@[simp] theorem State.record_cores (s : State) (r : ErrRec) : (State.record s r).cores = s.cores := by rw [State.record_eq]

@[simp] theorem State.record_fw (s : State) (r : ErrRec) : (State.record s r).fw = s.fw := by rw [State.record_eq]

@[simp] theorem State.record_mgmt (s : State) (r : ErrRec) : (State.record s r).mgmt = s.mgmt := by rw [State.record_eq]

@[simp] theorem State.record_relay (s : State) (r : ErrRec) : (State.record s r).relay = s.relay := by rw [State.record_eq]

@[simp] theorem State.record_hosts (s : State) (r : ErrRec) : (State.record s r).hosts = s.hosts := by rw [State.record_eq]

@[simp] theorem State.record_cacheTags (s : State) (r : ErrRec) : (State.record s r).cacheTags = s.cacheTags := by rw [State.record_eq]

@[simp] theorem State.record_nextCache (s : State) (r : ErrRec) : (State.record s r).nextCache = s.nextCache := by rw [State.record_eq]

@[simp] theorem State.record_peers (s : State) (r : ErrRec) : (State.record s r).peers = s.peers := by rw [State.record_eq]

@[simp] theorem State.record_tracker (s : State) (r : ErrRec) : (State.record s r).tracker = s.tracker := by rw [State.record_eq]

@[simp] theorem State.record_nextTag (s : State) (r : ErrRec) : (State.record s r).nextTag = s.nextTag := by rw [State.record_eq]

@[simp] theorem State.record_unreach (s : State) (r : ErrRec) : (State.record s r).unreach = s.unreach := by rw [State.record_eq]

@[simp] theorem State.record_portEnable (s : State) (r : ErrRec) : (State.record s r).portEnable = s.portEnable := by rw [State.record_eq]

@[simp] theorem State.record_engReqs (s : State) (r : ErrRec) : (State.record s r).engReqs = s.engReqs := by rw [State.record_eq]

@[simp] theorem State.record_beats (s : State) (r : ErrRec) : (State.record s r).beats = s.beats := by rw [State.record_eq]

@[simp] theorem State.record_owedBeats (s : State) (r : ErrRec) : (State.record s r).owedBeats = s.owedBeats := by rw [State.record_eq]

@[simp] theorem State.record_nextOrder (s : State) (r : ErrRec) : (State.record s r).nextOrder = s.nextOrder := by rw [State.record_eq]

@[simp] theorem State.record_mems (s : State) (r : ErrRec) : (State.record s r).mems = s.mems := by rw [State.record_eq]

@[simp] theorem State.record_accesses (s : State) (r : ErrRec) : (State.record s r).accesses = s.accesses := by rw [State.record_eq]

@[simp] theorem State.record_ended (s : State) (r : ErrRec) : (State.record s r).ended = s.ended := by rw [State.record_eq]

@[simp] theorem State.record_nextId (s : State) (r : ErrRec) : (State.record s r).nextId = s.nextId := by rw [State.record_eq]

@[simp] theorem State.record_trans (s : State) (r : ErrRec) : (State.record s r).trans = s.trans := by rw [State.record_eq]

@[simp] theorem State.record_landings (s : State) (r : ErrRec) : (State.record s r).landings = s.landings := by rw [State.record_eq]

@[simp] theorem State.record_stalls (s : State) (r : ErrRec) : (State.record s r).stalls = s.stalls := by rw [State.record_eq]

@[simp] theorem State.record_stale (s : State) (r : ErrRec) : (State.record s r).stale = s.stale := by rw [State.record_eq]

@[simp] theorem State.record_inv (s : State) (r : ErrRec) : (State.record s r).inv = s.inv := by rw [State.record_eq]

@[simp] theorem State.record_parts (s : State) (r : ErrRec) : (State.record s r).parts = s.parts := by rw [State.record_eq]

@[simp] theorem State.record_releases (s : State) (r : ErrRec) : (State.record s r).releases = s.releases := by rw [State.record_eq]

@[simp] theorem State.record_queues (s : State) (r : ErrRec) : (State.record s r).queues = s.queues := by rw [State.record_eq]

@[simp] theorem State.record_dbCheck (s : State) (r : ErrRec) : (State.record s r).dbCheck = s.dbCheck := by rw [State.record_eq]

@[simp] theorem State.record_dbState (s : State) (r : ErrRec) : (State.record s r).dbState = s.dbState := by rw [State.record_eq]

@[simp] theorem State.record_dbLast (s : State) (r : ErrRec) : (State.record s r).dbLast = s.dbLast := by rw [State.record_eq]

@[simp] theorem State.record_alloc (s : State) (r : ErrRec) : (State.record s r).alloc = s.alloc := by rw [State.record_eq]

@[simp] theorem State.record_chans (s : State) (r : ErrRec) : (State.record s r).chans = s.chans := by rw [State.record_eq]

@[simp] theorem State.record_arbR (s : State) (r : ErrRec) : (State.record s r).arbR = s.arbR := by rw [State.record_eq]

@[simp] theorem State.record_arbW (s : State) (r : ErrRec) : (State.record s r).arbW = s.arbW := by rw [State.record_eq]

@[simp] theorem State.record_sluice (s : State) (r : ErrRec) : (State.record s r).sluice = s.sluice := by rw [State.record_eq]

@[simp] theorem State.record_cmb (s : State) (r : ErrRec) : (State.record s r).cmb = s.cmb := by rw [State.record_eq]

@[simp] theorem State.record_tide (s : State) (r : ErrRec) : (State.record s r).tide = s.tide := by rw [State.record_eq]

@[simp] theorem State.record_latches (s : State) (r : ErrRec) : (State.record s r).latches = s.latches := by rw [State.record_eq]

@[simp] theorem State.record_home (s : State) (r : ErrRec) : (State.record s r).home = s.home := by rw [State.record_eq]

@[simp] theorem State.record_ident (s : State) (r : ErrRec) : (State.record s r).ident = s.ident := by rw [State.record_eq]

@[simp] theorem State.record_hold (s : State) (r : ErrRec) : (State.record s r).hold = s.hold := by rw [State.record_eq]

@[simp] theorem State.record_health (s : State) (r : ErrRec) : (State.record s r).health = s.health := by rw [State.record_eq]

@[simp] theorem State.record_thermal (s : State) (r : ErrRec) : (State.record s r).thermal = s.thermal := by rw [State.record_eq]

@[simp] theorem State.record_fresh (s : State) (r : ErrRec) : (State.record s r).fresh = s.fresh := by rw [State.record_eq]

@[simp] theorem State.record_rand (s : State) (r : ErrRec) : (State.record s r).rand = s.rand := by rw [State.record_eq]

theorem State.respond_eq (s : State) (seq : BitVec 32) (st : Status) (extra : Bytes) (length : Nat) :
    (State.respond s seq st extra length) = { s with mgmt := (State.respond s seq st extra length).mgmt } := by
  unfold State.respond
  first | rfl | ((try dsimp only); (repeat' split) <;> first | rfl)

@[simp] theorem State.respond_pending (s : State) (seq : BitVec 32) (st : Status) (extra : Bytes) (length : Nat) : (State.respond s seq st extra length).pending = s.pending := by rw [State.respond_eq]

@[simp] theorem State.respond_clocks (s : State) (seq : BitVec 32) (st : Status) (extra : Bytes) (length : Nat) : (State.respond s seq st extra length).clocks = s.clocks := by rw [State.respond_eq]

@[simp] theorem State.respond_links (s : State) (seq : BitVec 32) (st : Status) (extra : Bytes) (length : Nat) : (State.respond s seq st extra length).links = s.links := by rw [State.respond_eq]

@[simp] theorem State.respond_gated (s : State) (seq : BitVec 32) (st : Status) (extra : Bytes) (length : Nat) : (State.respond s seq st extra length).gated = s.gated := by rw [State.respond_eq]

@[simp] theorem State.respond_fuses (s : State) (seq : BitVec 32) (st : Status) (extra : Bytes) (length : Nat) : (State.respond s seq st extra length).fuses = s.fuses := by rw [State.respond_eq]

@[simp] theorem State.respond_start (s : State) (seq : BitVec 32) (st : Status) (extra : Bytes) (length : Nat) : (State.respond s seq st extra length).start = s.start := by rw [State.respond_eq]

@[simp] theorem State.respond_fenced (s : State) (seq : BitVec 32) (st : Status) (extra : Bytes) (length : Nat) : (State.respond s seq st extra length).fenced = s.fenced := by rw [State.respond_eq]

@[simp] theorem State.respond_chart (s : State) (seq : BitVec 32) (st : Status) (extra : Bytes) (length : Nat) : (State.respond s seq st extra length).chart = s.chart := by rw [State.respond_eq]

@[simp] theorem State.respond_tearBurst (s : State) (seq : BitVec 32) (st : Status) (extra : Bytes) (length : Nat) : (State.respond s seq st extra length).tearBurst = s.tearBurst := by rw [State.respond_eq]

@[simp] theorem State.respond_tapUnlock (s : State) (seq : BitVec 32) (st : Status) (extra : Bytes) (length : Nat) : (State.respond s seq st extra length).tapUnlock = s.tapUnlock := by rw [State.respond_eq]

@[simp] theorem State.respond_tap (s : State) (seq : BitVec 32) (st : Status) (extra : Bytes) (length : Nat) : (State.respond s seq st extra length).tap = s.tap := by rw [State.respond_eq]

@[simp] theorem State.respond_tapData (s : State) (seq : BitVec 32) (st : Status) (extra : Bytes) (length : Nat) : (State.respond s seq st extra length).tapData = s.tapData := by rw [State.respond_eq]

@[simp] theorem State.respond_cores (s : State) (seq : BitVec 32) (st : Status) (extra : Bytes) (length : Nat) : (State.respond s seq st extra length).cores = s.cores := by rw [State.respond_eq]

@[simp] theorem State.respond_fw (s : State) (seq : BitVec 32) (st : Status) (extra : Bytes) (length : Nat) : (State.respond s seq st extra length).fw = s.fw := by rw [State.respond_eq]

@[simp] theorem State.respond_relay (s : State) (seq : BitVec 32) (st : Status) (extra : Bytes) (length : Nat) : (State.respond s seq st extra length).relay = s.relay := by rw [State.respond_eq]

@[simp] theorem State.respond_irq (s : State) (seq : BitVec 32) (st : Status) (extra : Bytes) (length : Nat) : (State.respond s seq st extra length).irq = s.irq := by rw [State.respond_eq]

@[simp] theorem State.respond_hosts (s : State) (seq : BitVec 32) (st : Status) (extra : Bytes) (length : Nat) : (State.respond s seq st extra length).hosts = s.hosts := by rw [State.respond_eq]

@[simp] theorem State.respond_cacheTags (s : State) (seq : BitVec 32) (st : Status) (extra : Bytes) (length : Nat) : (State.respond s seq st extra length).cacheTags = s.cacheTags := by rw [State.respond_eq]

@[simp] theorem State.respond_nextCache (s : State) (seq : BitVec 32) (st : Status) (extra : Bytes) (length : Nat) : (State.respond s seq st extra length).nextCache = s.nextCache := by rw [State.respond_eq]

@[simp] theorem State.respond_peers (s : State) (seq : BitVec 32) (st : Status) (extra : Bytes) (length : Nat) : (State.respond s seq st extra length).peers = s.peers := by rw [State.respond_eq]

@[simp] theorem State.respond_tracker (s : State) (seq : BitVec 32) (st : Status) (extra : Bytes) (length : Nat) : (State.respond s seq st extra length).tracker = s.tracker := by rw [State.respond_eq]

@[simp] theorem State.respond_nextTag (s : State) (seq : BitVec 32) (st : Status) (extra : Bytes) (length : Nat) : (State.respond s seq st extra length).nextTag = s.nextTag := by rw [State.respond_eq]

@[simp] theorem State.respond_unreach (s : State) (seq : BitVec 32) (st : Status) (extra : Bytes) (length : Nat) : (State.respond s seq st extra length).unreach = s.unreach := by rw [State.respond_eq]

@[simp] theorem State.respond_portEnable (s : State) (seq : BitVec 32) (st : Status) (extra : Bytes) (length : Nat) : (State.respond s seq st extra length).portEnable = s.portEnable := by rw [State.respond_eq]

@[simp] theorem State.respond_engReqs (s : State) (seq : BitVec 32) (st : Status) (extra : Bytes) (length : Nat) : (State.respond s seq st extra length).engReqs = s.engReqs := by rw [State.respond_eq]

@[simp] theorem State.respond_beats (s : State) (seq : BitVec 32) (st : Status) (extra : Bytes) (length : Nat) : (State.respond s seq st extra length).beats = s.beats := by rw [State.respond_eq]

@[simp] theorem State.respond_owedBeats (s : State) (seq : BitVec 32) (st : Status) (extra : Bytes) (length : Nat) : (State.respond s seq st extra length).owedBeats = s.owedBeats := by rw [State.respond_eq]

@[simp] theorem State.respond_nextOrder (s : State) (seq : BitVec 32) (st : Status) (extra : Bytes) (length : Nat) : (State.respond s seq st extra length).nextOrder = s.nextOrder := by rw [State.respond_eq]

@[simp] theorem State.respond_mems (s : State) (seq : BitVec 32) (st : Status) (extra : Bytes) (length : Nat) : (State.respond s seq st extra length).mems = s.mems := by rw [State.respond_eq]

@[simp] theorem State.respond_accesses (s : State) (seq : BitVec 32) (st : Status) (extra : Bytes) (length : Nat) : (State.respond s seq st extra length).accesses = s.accesses := by rw [State.respond_eq]

@[simp] theorem State.respond_ended (s : State) (seq : BitVec 32) (st : Status) (extra : Bytes) (length : Nat) : (State.respond s seq st extra length).ended = s.ended := by rw [State.respond_eq]

@[simp] theorem State.respond_nextId (s : State) (seq : BitVec 32) (st : Status) (extra : Bytes) (length : Nat) : (State.respond s seq st extra length).nextId = s.nextId := by rw [State.respond_eq]

@[simp] theorem State.respond_trans (s : State) (seq : BitVec 32) (st : Status) (extra : Bytes) (length : Nat) : (State.respond s seq st extra length).trans = s.trans := by rw [State.respond_eq]

@[simp] theorem State.respond_landings (s : State) (seq : BitVec 32) (st : Status) (extra : Bytes) (length : Nat) : (State.respond s seq st extra length).landings = s.landings := by rw [State.respond_eq]

@[simp] theorem State.respond_stalls (s : State) (seq : BitVec 32) (st : Status) (extra : Bytes) (length : Nat) : (State.respond s seq st extra length).stalls = s.stalls := by rw [State.respond_eq]

@[simp] theorem State.respond_stale (s : State) (seq : BitVec 32) (st : Status) (extra : Bytes) (length : Nat) : (State.respond s seq st extra length).stale = s.stale := by rw [State.respond_eq]

@[simp] theorem State.respond_inv (s : State) (seq : BitVec 32) (st : Status) (extra : Bytes) (length : Nat) : (State.respond s seq st extra length).inv = s.inv := by rw [State.respond_eq]

@[simp] theorem State.respond_parts (s : State) (seq : BitVec 32) (st : Status) (extra : Bytes) (length : Nat) : (State.respond s seq st extra length).parts = s.parts := by rw [State.respond_eq]

@[simp] theorem State.respond_releases (s : State) (seq : BitVec 32) (st : Status) (extra : Bytes) (length : Nat) : (State.respond s seq st extra length).releases = s.releases := by rw [State.respond_eq]

@[simp] theorem State.respond_queues (s : State) (seq : BitVec 32) (st : Status) (extra : Bytes) (length : Nat) : (State.respond s seq st extra length).queues = s.queues := by rw [State.respond_eq]

@[simp] theorem State.respond_dbCheck (s : State) (seq : BitVec 32) (st : Status) (extra : Bytes) (length : Nat) : (State.respond s seq st extra length).dbCheck = s.dbCheck := by rw [State.respond_eq]

@[simp] theorem State.respond_dbState (s : State) (seq : BitVec 32) (st : Status) (extra : Bytes) (length : Nat) : (State.respond s seq st extra length).dbState = s.dbState := by rw [State.respond_eq]

@[simp] theorem State.respond_dbLast (s : State) (seq : BitVec 32) (st : Status) (extra : Bytes) (length : Nat) : (State.respond s seq st extra length).dbLast = s.dbLast := by rw [State.respond_eq]

@[simp] theorem State.respond_alloc (s : State) (seq : BitVec 32) (st : Status) (extra : Bytes) (length : Nat) : (State.respond s seq st extra length).alloc = s.alloc := by rw [State.respond_eq]

@[simp] theorem State.respond_chans (s : State) (seq : BitVec 32) (st : Status) (extra : Bytes) (length : Nat) : (State.respond s seq st extra length).chans = s.chans := by rw [State.respond_eq]

@[simp] theorem State.respond_arbR (s : State) (seq : BitVec 32) (st : Status) (extra : Bytes) (length : Nat) : (State.respond s seq st extra length).arbR = s.arbR := by rw [State.respond_eq]

@[simp] theorem State.respond_arbW (s : State) (seq : BitVec 32) (st : Status) (extra : Bytes) (length : Nat) : (State.respond s seq st extra length).arbW = s.arbW := by rw [State.respond_eq]

@[simp] theorem State.respond_sluice (s : State) (seq : BitVec 32) (st : Status) (extra : Bytes) (length : Nat) : (State.respond s seq st extra length).sluice = s.sluice := by rw [State.respond_eq]

@[simp] theorem State.respond_cmb (s : State) (seq : BitVec 32) (st : Status) (extra : Bytes) (length : Nat) : (State.respond s seq st extra length).cmb = s.cmb := by rw [State.respond_eq]

@[simp] theorem State.respond_tide (s : State) (seq : BitVec 32) (st : Status) (extra : Bytes) (length : Nat) : (State.respond s seq st extra length).tide = s.tide := by rw [State.respond_eq]

@[simp] theorem State.respond_latches (s : State) (seq : BitVec 32) (st : Status) (extra : Bytes) (length : Nat) : (State.respond s seq st extra length).latches = s.latches := by rw [State.respond_eq]

@[simp] theorem State.respond_home (s : State) (seq : BitVec 32) (st : Status) (extra : Bytes) (length : Nat) : (State.respond s seq st extra length).home = s.home := by rw [State.respond_eq]

@[simp] theorem State.respond_ident (s : State) (seq : BitVec 32) (st : Status) (extra : Bytes) (length : Nat) : (State.respond s seq st extra length).ident = s.ident := by rw [State.respond_eq]

@[simp] theorem State.respond_ras (s : State) (seq : BitVec 32) (st : Status) (extra : Bytes) (length : Nat) : (State.respond s seq st extra length).ras = s.ras := by rw [State.respond_eq]

@[simp] theorem State.respond_hold (s : State) (seq : BitVec 32) (st : Status) (extra : Bytes) (length : Nat) : (State.respond s seq st extra length).hold = s.hold := by rw [State.respond_eq]

@[simp] theorem State.respond_health (s : State) (seq : BitVec 32) (st : Status) (extra : Bytes) (length : Nat) : (State.respond s seq st extra length).health = s.health := by rw [State.respond_eq]

@[simp] theorem State.respond_thermal (s : State) (seq : BitVec 32) (st : Status) (extra : Bytes) (length : Nat) : (State.respond s seq st extra length).thermal = s.thermal := by rw [State.respond_eq]

@[simp] theorem State.respond_out (s : State) (seq : BitVec 32) (st : Status) (extra : Bytes) (length : Nat) : (State.respond s seq st extra length).out = s.out := by rw [State.respond_eq]

@[simp] theorem State.respond_fresh (s : State) (seq : BitVec 32) (st : Status) (extra : Bytes) (length : Nat) : (State.respond s seq st extra length).fresh = s.fresh := by rw [State.respond_eq]

@[simp] theorem State.respond_rand (s : State) (seq : BitVec 32) (st : Status) (extra : Bytes) (length : Nat) : (State.respond s seq st extra length).rand = s.rand := by rw [State.respond_eq]

theorem State.setStart_eq (s : State) (st : StartState) :
    (State.setStart s st) = { s with start := (State.setStart s st).start, irq := (State.setStart s st).irq, out := (State.setStart s st).out } := by
  unfold State.setStart
  first | rfl | ((try dsimp only); (repeat' split) <;> first | rfl | exact State.shIrq_eq _ _ | rw [State.shIrq_eq])

@[simp] theorem State.setStart_pending (s : State) (st : StartState) : (State.setStart s st).pending = s.pending := by rw [State.setStart_eq]

@[simp] theorem State.setStart_clocks (s : State) (st : StartState) : (State.setStart s st).clocks = s.clocks := by rw [State.setStart_eq]

@[simp] theorem State.setStart_links (s : State) (st : StartState) : (State.setStart s st).links = s.links := by rw [State.setStart_eq]

@[simp] theorem State.setStart_gated (s : State) (st : StartState) : (State.setStart s st).gated = s.gated := by rw [State.setStart_eq]

@[simp] theorem State.setStart_fuses (s : State) (st : StartState) : (State.setStart s st).fuses = s.fuses := by rw [State.setStart_eq]

@[simp] theorem State.setStart_fenced (s : State) (st : StartState) : (State.setStart s st).fenced = s.fenced := by rw [State.setStart_eq]

@[simp] theorem State.setStart_chart (s : State) (st : StartState) : (State.setStart s st).chart = s.chart := by rw [State.setStart_eq]

@[simp] theorem State.setStart_tearBurst (s : State) (st : StartState) : (State.setStart s st).tearBurst = s.tearBurst := by rw [State.setStart_eq]

@[simp] theorem State.setStart_tapUnlock (s : State) (st : StartState) : (State.setStart s st).tapUnlock = s.tapUnlock := by rw [State.setStart_eq]

@[simp] theorem State.setStart_tap (s : State) (st : StartState) : (State.setStart s st).tap = s.tap := by rw [State.setStart_eq]

@[simp] theorem State.setStart_tapData (s : State) (st : StartState) : (State.setStart s st).tapData = s.tapData := by rw [State.setStart_eq]

@[simp] theorem State.setStart_cores (s : State) (st : StartState) : (State.setStart s st).cores = s.cores := by rw [State.setStart_eq]

@[simp] theorem State.setStart_fw (s : State) (st : StartState) : (State.setStart s st).fw = s.fw := by rw [State.setStart_eq]

@[simp] theorem State.setStart_mgmt (s : State) (st : StartState) : (State.setStart s st).mgmt = s.mgmt := by rw [State.setStart_eq]

@[simp] theorem State.setStart_relay (s : State) (st : StartState) : (State.setStart s st).relay = s.relay := by rw [State.setStart_eq]

@[simp] theorem State.setStart_hosts (s : State) (st : StartState) : (State.setStart s st).hosts = s.hosts := by rw [State.setStart_eq]

@[simp] theorem State.setStart_cacheTags (s : State) (st : StartState) : (State.setStart s st).cacheTags = s.cacheTags := by rw [State.setStart_eq]

@[simp] theorem State.setStart_nextCache (s : State) (st : StartState) : (State.setStart s st).nextCache = s.nextCache := by rw [State.setStart_eq]

@[simp] theorem State.setStart_peers (s : State) (st : StartState) : (State.setStart s st).peers = s.peers := by rw [State.setStart_eq]

@[simp] theorem State.setStart_tracker (s : State) (st : StartState) : (State.setStart s st).tracker = s.tracker := by rw [State.setStart_eq]

@[simp] theorem State.setStart_nextTag (s : State) (st : StartState) : (State.setStart s st).nextTag = s.nextTag := by rw [State.setStart_eq]

@[simp] theorem State.setStart_unreach (s : State) (st : StartState) : (State.setStart s st).unreach = s.unreach := by rw [State.setStart_eq]

@[simp] theorem State.setStart_portEnable (s : State) (st : StartState) : (State.setStart s st).portEnable = s.portEnable := by rw [State.setStart_eq]

@[simp] theorem State.setStart_engReqs (s : State) (st : StartState) : (State.setStart s st).engReqs = s.engReqs := by rw [State.setStart_eq]

@[simp] theorem State.setStart_beats (s : State) (st : StartState) : (State.setStart s st).beats = s.beats := by rw [State.setStart_eq]

@[simp] theorem State.setStart_owedBeats (s : State) (st : StartState) : (State.setStart s st).owedBeats = s.owedBeats := by rw [State.setStart_eq]

@[simp] theorem State.setStart_nextOrder (s : State) (st : StartState) : (State.setStart s st).nextOrder = s.nextOrder := by rw [State.setStart_eq]

@[simp] theorem State.setStart_mems (s : State) (st : StartState) : (State.setStart s st).mems = s.mems := by rw [State.setStart_eq]

@[simp] theorem State.setStart_accesses (s : State) (st : StartState) : (State.setStart s st).accesses = s.accesses := by rw [State.setStart_eq]

@[simp] theorem State.setStart_ended (s : State) (st : StartState) : (State.setStart s st).ended = s.ended := by rw [State.setStart_eq]

@[simp] theorem State.setStart_nextId (s : State) (st : StartState) : (State.setStart s st).nextId = s.nextId := by rw [State.setStart_eq]

@[simp] theorem State.setStart_trans (s : State) (st : StartState) : (State.setStart s st).trans = s.trans := by rw [State.setStart_eq]

@[simp] theorem State.setStart_landings (s : State) (st : StartState) : (State.setStart s st).landings = s.landings := by rw [State.setStart_eq]

@[simp] theorem State.setStart_stalls (s : State) (st : StartState) : (State.setStart s st).stalls = s.stalls := by rw [State.setStart_eq]

@[simp] theorem State.setStart_stale (s : State) (st : StartState) : (State.setStart s st).stale = s.stale := by rw [State.setStart_eq]

@[simp] theorem State.setStart_inv (s : State) (st : StartState) : (State.setStart s st).inv = s.inv := by rw [State.setStart_eq]

@[simp] theorem State.setStart_parts (s : State) (st : StartState) : (State.setStart s st).parts = s.parts := by rw [State.setStart_eq]

@[simp] theorem State.setStart_releases (s : State) (st : StartState) : (State.setStart s st).releases = s.releases := by rw [State.setStart_eq]

@[simp] theorem State.setStart_queues (s : State) (st : StartState) : (State.setStart s st).queues = s.queues := by rw [State.setStart_eq]

@[simp] theorem State.setStart_dbCheck (s : State) (st : StartState) : (State.setStart s st).dbCheck = s.dbCheck := by rw [State.setStart_eq]

@[simp] theorem State.setStart_dbState (s : State) (st : StartState) : (State.setStart s st).dbState = s.dbState := by rw [State.setStart_eq]

@[simp] theorem State.setStart_dbLast (s : State) (st : StartState) : (State.setStart s st).dbLast = s.dbLast := by rw [State.setStart_eq]

@[simp] theorem State.setStart_alloc (s : State) (st : StartState) : (State.setStart s st).alloc = s.alloc := by rw [State.setStart_eq]

@[simp] theorem State.setStart_chans (s : State) (st : StartState) : (State.setStart s st).chans = s.chans := by rw [State.setStart_eq]

@[simp] theorem State.setStart_arbR (s : State) (st : StartState) : (State.setStart s st).arbR = s.arbR := by rw [State.setStart_eq]

@[simp] theorem State.setStart_arbW (s : State) (st : StartState) : (State.setStart s st).arbW = s.arbW := by rw [State.setStart_eq]

@[simp] theorem State.setStart_sluice (s : State) (st : StartState) : (State.setStart s st).sluice = s.sluice := by rw [State.setStart_eq]

@[simp] theorem State.setStart_cmb (s : State) (st : StartState) : (State.setStart s st).cmb = s.cmb := by rw [State.setStart_eq]

@[simp] theorem State.setStart_tide (s : State) (st : StartState) : (State.setStart s st).tide = s.tide := by rw [State.setStart_eq]

@[simp] theorem State.setStart_latches (s : State) (st : StartState) : (State.setStart s st).latches = s.latches := by rw [State.setStart_eq]

@[simp] theorem State.setStart_home (s : State) (st : StartState) : (State.setStart s st).home = s.home := by rw [State.setStart_eq]

@[simp] theorem State.setStart_ident (s : State) (st : StartState) : (State.setStart s st).ident = s.ident := by rw [State.setStart_eq]

@[simp] theorem State.setStart_ras (s : State) (st : StartState) : (State.setStart s st).ras = s.ras := by rw [State.setStart_eq]

@[simp] theorem State.setStart_hold (s : State) (st : StartState) : (State.setStart s st).hold = s.hold := by rw [State.setStart_eq]

@[simp] theorem State.setStart_health (s : State) (st : StartState) : (State.setStart s st).health = s.health := by rw [State.setStart_eq]

@[simp] theorem State.setStart_thermal (s : State) (st : StartState) : (State.setStart s st).thermal = s.thermal := by rw [State.setStart_eq]

@[simp] theorem State.setStart_fresh (s : State) (st : StartState) : (State.setStart s st).fresh = s.fresh := by rw [State.setStart_eq]

@[simp] theorem State.setStart_rand (s : State) (st : StartState) : (State.setStart s st).rand = s.rand := by rw [State.setStart_eq]

theorem State.stopStart_eq (s : State) (code : BitVec 8) :
    (State.stopStart s code) = { s with start := (State.stopStart s code).start, irq := (State.stopStart s code).irq, out := (State.stopStart s code).out } := by
  unfold State.stopStart
  first | rfl | ((try dsimp only); (repeat' split) <;> first | rfl | exact State.setStart_eq _ _ | rw [State.setStart_eq])

theorem State.startGo_eq (s : State) (step : Nat) (waiting : Bool) :
    (State.startGo s step waiting) = { s with start := (State.startGo s step waiting).start, irq := (State.startGo s step waiting).irq, out := (State.startGo s step waiting).out } := by
  unfold State.startGo
  first | rfl | ((try dsimp only); (repeat' split) <;> first | rfl | exact State.setStart_eq _ _ | rw [State.setStart_eq])

/-- The two phases of CORE make its division of the root (03 R59), in every mode. -/
theorem corePhase_sum (k : ClockState) : corePhase { k with low := false } + corePhase { k with low := true } = coreDivision k := by
  unfold corePhase phaseLen coreDivision
  cases k.fbNow <;> cases k.ebbNow <;> cases Config.coreHighLong <;> rfl

/-- The two phases of STORE make its division of the root (03 R59), in every mode. -/
theorem storePhase_sum (k : ClockState) : storePhase { k with sLow := false } + storePhase { k with sLow := true } =
    match k.sFb, k.sEbb with
    | false, false => 2
    | false, true => 4
    | true, false => 3
    | true, true => 6 := by
  unfold storePhase phaseLen
  cases k.sFb <;> cases k.sEbb <;> cases Config.storeHighLong <;> rfl

end Sys2Proof.Machine
end

