-- ==== Sys2Proof/WellFormed.lean ====
section
/-! DEFINITION. Which commands the surroundings can send: byte strings of the widths the ports and structures have, indices
that exist. A Bool per command. -/

namespace Sys2Proof

/-- A command entry as the ring holds it (05, ring entry): 52 payload bytes, of which at most 52 are in use. -/
def CmdEntry.wf (e : CmdEntry) : Bool := e.payload.length == 52 && decide (e.length.toNat ≤ 52)

/-- A crossing bit that the slice has (03, CK_LOST). -/
def crossingOf (sl : Slice) (k : Fin 9) : Bool :=
  match sl with
  | .sh => true
  | .en => k.val == 0 || k.val == 1 || k.val == 8
  | .hd => k.val == 0 || k.val == 1 || k.val == 2 || k.val == 8

/-- The end of a slice link that a slice presents (01 R15). -/
def linkAt (l : Link) (sl : Slice) : Bool :=
  match l, sl with
  | .slA, .sh | .slA, .hd | .slB, .en | .slB, .hd | .slC, .en | .slC, .sh => true
  | _, _ => false

/-- An opcode of the command table (05, commands). -/
def knownOpcode (v : BitVec 16) : Bool :=
  [0x0001, 0x0002, 0x0003, 0x0010, 0x0011, 0x0020, 0x0021, 0x0030, 0x0031, 0x0040, 0x0041, 0x0050, 0x0051, 0x0052].contains
    v.toNat

/-- A BAR0 access that R33 refuses: not 4 bytes, not aligned to 4, or outside every mapped range (17 R409). -/
def bar0Bad (addr : BitVec 24) (size : Nat) : Bool :=
  size != 4 || addr.toNat % 4 != 0 || !mapped addr.toNat
where
  /-- The mapped ranges of 17 R409. -/
  mapped (a : Nat) : Bool :=
    decide (a ≤ 0x05FFFF) || (decide (0x100000 ≤ a) && decide (a ≤ 0x10FFFF))
      || (decide (0x200000 ≤ a) && decide (a ≤ 0x213FFF)) || (decide (0x220000 ≤ a) && decide (a ≤ 0x2EFFFF))
      || (decide (0x300000 ≤ a) && decide (a ≤ 0x3002FF))

/-- A BAR2 write that is not a doorbell (02 R33). -/
def bar2Other (offset : BitVec 24) (size : Nat) : Bool := size != 8 || offset.toNat % 4096 != 0

/-- The command can be sent. -/
def Instr.wf : Instr → Bool
  | .clockLost sl k => crossingOf sl k
  | .bar0InvalidAccess _ _ addr size => bar0Bad addr size
  | .bar2OtherWrite _ offset size => bar2Other offset size
  | .cxlCacheCompletion _ _ data _ => decide (data.length ≤ 64)
  | .memwr _ _ _ _ data _ _ => data.length == 64
  | .memwrptl _ _ _ data _ _ => data.length == 64
  | .hdmHRequest _ _ _ _ data _ _ => data.length == 64
  | .peerFlitReceive _ flit _ => flit.length == 256
  | .engineUnknownOp _ op _ => op == 0 || decide (8 < op.toNat)
  | .engineWriteBeat _ _ data _ _ => data.length == 128
  | .memoryReadReturn _ _ data _ _ => decide (data.length ≤ 512) && data.length % 64 == 0
  | .sliceLinkGroupReceive l rx _ => linkAt l rx
  | .creditReturn (.link l sl) => linkAt l sl
  | .controlPortInvalidAccess _ addr => addr.toNat % 4 != 0 || !bar0Bad.mapped addr.toNat
  | .hello e => e.wf
  | .goodbye e => e.wf
  | .nop e => e.wf
  | .modeChange e _ => e.wf
  | .queueSave e => e.wf
  | .chartForward e _ => e.wf
  | .imageForward e _ => e.wf
  | .scrub e => e.wf
  | .measure e _ => e.wf
  | .measureAndSeal e _ => e.wf
  | .unseal e => e.wf
  | .retire e => e.wf
  | .allocPoolCreate e _ => e.wf
  | .allocPoolAdd e _ => e.wf
  | .allocPoolAttach e _ => e.wf
  | .allocPoolDetach e => e.wf
  | .partitionRelease e => e.wf
  | .telemetry e => e.wf
  | .ageingLoad e _ => e.wf
  | .marginTestScan e samples => e.wf && samples.all (fun b => b.length == 16)
  | .marginTestAcceptFallback e => e.wf
  | .pathMonitorScan _ samples => samples.length == 16
  | .marginRescan _ samples => samples.length == 16
  | .patrolRowRead errors => errors.all (fun e => decide (e.1 < 64) && decide (e.2.1 < 262144) && decide (e.2.2 ≤ 79))
  | .unknownCommand opcode _ rd => match rd with
    | .good length payload => !knownOpcode opcode && payload.length == 52 && decide (length.toNat < 65536)
    | _ => true
  | _ => true

end Sys2Proof
end

