-- ==== Sys2Proof/Tests/Slice0.lean ====
section
/-! SUPPORT. The author's own tests: an ill-formed command for each check of `Instr.wf`; for the statements of
Certificates/Slice0/Obligations.lean that have hypotheses, small concrete states and operands that meet them, clause by clause; and a few
one-command tests whose expected values are the spec's. -/

open Sys2Proof Sys2Proof.Machine

namespace Sys2Proof.Tests

set_option Elab.async false

/-! ### Ill-formed commands -/

/-- A ring entry with sequence number 1, this length and these payload bytes. -/
def entry (len : Nat) (b : Bytes) : CmdEntry := { seq := 1, length := BitVec.ofNat 16 len, payload := padTo b 52 }

theorem test_wf_refuses_crossing_the_slice_lacks : (Instr.clockLost .en 2).wf = false ∧ (Instr.clockLost .hd 3).wf = false := by decide
theorem test_wf_refuses_valid_bar0_access :
    (Instr.bar0InvalidAccess 0 true 0 4).wf = false ∧ (Instr.bar0InvalidAccess 0 true 0x060000 4).wf = true := by decide
theorem test_wf_refuses_doorbell_as_other_write : (Instr.bar2OtherWrite 0 0x1000 8).wf = false := by decide
theorem test_wf_refuses_long_cache_completion : (Instr.cxlCacheCompletion 0 0 (zeros 65) false).wf = false := by decide +kernel
theorem test_wf_refuses_host_write_of_other_length :
    (Instr.memwr 0 0 .a 0 (zeros 63) 0 false).wf = false ∧ (Instr.memwrptl 0 0 0 (zeros 65) 0 false).wf = false ∧
    (Instr.hdmHRequest 0 true 0 0 [] 0 false).wf = false := by decide +kernel
theorem test_wf_refuses_short_flit : (Instr.peerFlitReceive 0 (zeros 255) 0).wf = false := by decide +kernel

/-- A request of stream 0 at an address, with a length. -/
def ereq (len : Nat) (va : Nat := 0) : EngineReq :=
  { tag := 5, stream := 0, va := BitVec.ofNat 57 va, len := BitVec.ofNat 9 len, sem := 0, scope := 0 }

theorem test_wf_refuses_known_engine_operation :
    (Instr.engineUnknownOp 0 1 (ereq 1)).wf = false ∧ (Instr.engineUnknownOp 0 8 (ereq 1)).wf = false := by decide
theorem test_wf_refuses_short_beat : (Instr.engineWriteBeat 0 0 (zeros 127) 0 0).wf = false := by decide +kernel
theorem test_wf_refuses_odd_read_data :
    (Instr.memoryReadReturn 0 0 (zeros 63) 0 false).wf = false ∧ (Instr.memoryReadReturn 0 0 (zeros 576) 0 false).wf = false := by
  decide +kernel
theorem test_wf_refuses_link_of_other_slices :
    (Instr.sliceLinkGroupReceive .slA .en false).wf = false ∧ (Instr.creditReturn (.link .slB .sh)).wf = false := by decide
theorem test_wf_refuses_valid_control_port_access : (Instr.controlPortInvalidAccess true 4).wf = false := by decide
theorem test_wf_refuses_bad_entries :
    (Instr.nop { seq := 0, length := 0, payload := zeros 51 }).wf = false ∧
    (Instr.nop { seq := 0, length := 53, payload := zeros 52 }).wf = false ∧ (Instr.nop (entry 52 [])).wf = true := by decide
theorem test_wf_refuses_short_samples :
    (Instr.marginTestScan (entry 2 []) [zeros 15]).wf = false ∧ (Instr.pathMonitorScan .sh (zeros 17)).wf = false ∧
    (Instr.marginRescan .sh []).wf = false := by decide
theorem test_wf_refuses_errors_outside_the_hold :
    (Instr.patrolRowRead [(64, 0, 0)]).wf = false ∧ (Instr.patrolRowRead [(0, 262144, 0)]).wf = false ∧
    (Instr.patrolRowRead [(0, 0, 80)]).wf = false ∧ (Instr.patrolRowRead [(63, 262143, 79)]).wf = true := by decide
theorem test_wf_refuses_known_opcode_as_unknown :
    (Instr.unknownCommand 0x0052 0 (.good 0 (zeros 52))).wf = false ∧ (Instr.unknownCommand 0x0053 0 (.good 0 (zeros 51))).wf = false ∧
    (Instr.unknownCommand 0x0053 0 (.good 0 (zeros 52))).wf = true := by decide

/-! ### States -/

/-- Partition `p` with 32 queues, tidemarks, slots and vectors each, from 32 p. -/
def part (p : Nat) : PartEntry :=
  { partition := p, flags := 0, faultTimeout := 5, walkerShare := 1, queueFirst := 32 * p, queueCount := 32, tideFirst := 32 * p,
    combineFirst := 32 * p, tideCount := 32, combineCount := 32, msixFirst := 32 * p, msixCount := 32, landingVector := 32 * p }

/-- A chart: instance 3, partitions 0 and 1, channels 0 and 1 of partition 0, streams 0 and 1 of partition 0, everything enabled. -/
def chart3 : Chart :=
  { instId := 3, serial := 9,
    ports := { vendorId := 0x1234, deviceId := 0x5678, hostEnable := 3, peerEnable := 0xF, engineEnable := 0xFF, memoryEnable := 0xF },
    parts := [part 0, part 1], quota := [4096, 4096], mgmtReserve := 64, classWeight := [1, 1, 1, 1],
    channels := [{ partition := 0, inUse := true, vector := 0 }, { partition := 0, inUse := true, vector := 1 }],
    trans := { missLimit := 4, answerAts := true, streamEnable := [true, true], streamPartition := [0, 0] },
    windows := [{ window := 0, partition := 0, caches := 0xFF, farAtomics := true, base := 0, size := 2 ^ 21 }],
    routes := [0, 1, 2], limits := { waitLimit := 10, combineTimeout := 10, cmdRing := 16, eventRing := 16, journalRing := 16 },
    thermal := { connected := 0xF, stackSecs := List.replicate 4 { thHi := 90, thLo := 80, share := 25, bucket := 16 } } }

/-- The three slices out of reset, the three links up. -/
def on : State := { State.reset with
  clocks := [(0, { porN := true }), (1, { porN := true }), (2, { porN := true })],
  links := [(0, { up := true, credits := [320, 320] }), (1, { up := true, credits := [320, 320] }), (2, { up := true, credits := [320, 320] })] }

/-- A running block under that chart: ready, its ports in service, cores 0 to 2 running, a session with every feature, one command
in the ring, partition 0 enabled and partition 1 disabled. -/
def up : State := { on with
  start := { step := 0x11, ready := true }, fuses := { sampled := true }, chart := { state := .accepted, chart := some chart3 },
  cores := [(0, { state := .running }), (1, { state := .running }), (2, { state := .running })],
  mgmt := { session := true, agreed := 0xFFF, cmdProd := 1, prevSeq := 0 },
  hosts := [(0, { linkUp := true, readyOut := true, rxCredits := 64 }), (1, { linkUp := true, readyOut := true, rxCredits := 64 })],
  peers := [(0, { linkUp := true, readyOut := true, state := .up }), (1, { linkUp := true, readyOut := true, state := .up })],
  portEnable := [(0, true)], parts := [(0, .enabled), (1, .disabled)] }

theorem test_up_is_ready : up.ringReady = true ∧ up.sec = true ∧ up.pwr = true ∧ up.conf.legal = true := by decide

/-- `on` at a step of a cold start. -/
def at_ (n : Nat) : State := { on with start := { step := n } }
/-- `on` at a step of a warm start. -/
def warm (n : Nat) : State := { up with start := { step := n, warm := true } }

/-! ### Witnesses: the machine, reset and start -/

/-- The shore slice alone out of reset and at the end of a CTRL cycle, with the watchdog of core 2 one CTRL cycle short of its limit. -/
def dueNext : State := { State.reset with
  clocks := [(0, { porN := true, ctrl := 7 })], cores := [(2, { state := .running, wdt := 0x07FFFFFF })] }

theorem corePhase_nominal (k : ClockState) (hf : k.fbNow = false) (he : k.ebbNow = false) : corePhase k = 2 := by
  unfold corePhase phaseLen; rw [hf, he]; cases k.low <;> cases Config.coreHighLong <;> rfl

theorem test_witness_EmptyQueueIsOneRootCycle :
    (up.pending = [] ∧ (∀ c, c < 7 → (up.core c).state = .running → (up.core c).wdt + 1 < max (up.core c).period.toNat 0x00100000) ∧
      (up.core 2).state = .running ∧ (up.clock .sh).porN = true ∧ (up.clock .sh).phase + 1 < corePhase (up.clock .sh)) ∧
    (State.reset.pending = [] ∧ (State.reset.clock .sh).porN = false) ∧
    (let s := on.modClock .sh (fun k => { k with phase := 2 })
     s.pending = [] ∧ (s.clock .sh).porN = true ∧ ¬ (s.clock .sh).phase + 1 < corePhase (s.clock .sh)) ∧
    dueNext.pending = [] ∧ dueNext.count.wdtDue = [2] := by
  refine ⟨⟨rfl, by decide +kernel, by decide, by decide, ?_⟩, by decide, ⟨rfl, by decide, ?_⟩, rfl, ?_⟩
  case refine_3 =>
    have h : ClockState.tick .sh (dueNext.clock .sh) = { dueNext.clock .sh with ctrl := 0, phase := 1 } := by
      have hc : dueNext.clock .sh = { porN := true, ctrl := 7 } := by decide
      rw [hc, ClockState.tick, ClockState.coreTick, corePhase_nominal _ rfl rfl]; rfl
    simp only [State.count, State.modClock, h]
    decide +kernel
  all_goals rw [corePhase_nominal _ (by decide) (by decide)]; decide

/-- `at_ 3` with the links that `f` names up. -/
def links3 (a b c : Bool) : State := { at_ 3 with links := [(0, { up := a }), (1, { up := b }), (2, { up := c })] }

theorem test_witness_ReleasesOfResetBeginTheStart :
    (let s := (warm 1).modClock .sh (fun k => { k with wrstN := true })
     let two := s.modClock .en (fun k => { k with wrstN := true })
     let cut : State := { s with links := [] }
     ((s.clock .sh).wrstN = true ∧ s.start.stopped = false ∧ (s.link .slA).up = true ∧ (s.link .slB).up = true ∧ (s.link .slC).up = true ∧
       (s.clock .en).wrstN = false ∧ (s.clock .hd).wrstN = false) ∧
     ((two.clock .sh).wrstN = true ∧ two.start.stopped = false ∧ Slice.en ≠ .sh ∧ (two.clock .en).wrstN = true) ∧
     ((cut.clock .sh).wrstN = true ∧ cut.start.stopped = false ∧ (cut.link .slB).up = false ∧ (cut.clock .en).wrstN = false ∧
       (cut.clock .hd).wrstN = false)) := by decide +kernel

theorem test_witness_ColdStartStepsAdvance :
    (let s := at_ 2
     s.start.stopped = false ∧ s.start.warm = false ∧ s.warmReset = false ∧ s.start.step = 2 ∧ s.fuses.sampled = false) ∧
    (let s := links3 false false true
     s.start.stopped = false ∧ s.start.warm = false ∧ s.warmReset = false ∧ s.start.step = 3 ∧ (s.link .slA).up = false ∧
       Link.slB ≠ .slA ∧ (s.link .slB).up = false) ∧
    (let s := links3 true false true
     s.start.stopped = false ∧ s.start.warm = false ∧ s.warmReset = false ∧ s.start.step = 3 ∧ (s.link .slB).up = false ∧
       (s.link .slA).up = true ∧ (s.link .slC).up = true) ∧
    (linkEnds .slA = [.sh, .hd] ∧ linkEnds .slB = [.en, .hd] ∧ linkEnds .slC = [.en, .sh]) ∧
    (let s : State := { State.reset with clocks := [(0, { porN := true }), (1, { porN := true })] }
     s.start.step ≤ 3 ∧ s.start.ready = false ∧ (s.clock .sh).porN = true ∧ (s.link .slB).up = false ∧
       (∃ e, e ∈ linkEnds .slB ∧ (s.clock e).porN = true) ∧ (s.clock .hd).porN = false) ∧
    ((at_ 4).start.stopped = false ∧ (at_ 4).start.warm = false ∧ (at_ 4).warmReset = false ∧ (at_ 4).start.step = 4) ∧
    ((at_ 5).start.stopped = false ∧ (at_ 5).start.warm = false ∧ (at_ 5).warmReset = false ∧ (at_ 5).start.step = 5 ∧
      (at_ 5).start.waiting = false) ∧
    ((at_ 7).start.stopped = false ∧ (at_ 7).start.warm = false ∧ (at_ 7).warmReset = false ∧ (at_ 7).start.step = 7) := by decide +kernel

theorem test_witness_SelfTestFencesFailedUnits :
    (at_ 4).start.stopped = false ∧ (at_ 4).start.warm = false ∧ (at_ 4).start.step = 4 ∧
    ({ State.reset.fenced with cores := 0x08, channels := 1 }).cores.getLsbD 3 = true ∧
    ({ State.reset.fenced with cores := 0x08, channels := 1 }).banks = 0 ∧
    ({ State.reset.fenced with cores := 0x01 }).cores.getLsbD 0 = true := by decide +kernel

theorem test_witness_WarmResetKeepsConfiguration :
    ((up.clock .hd).porN = true ∧ up.start.stopped = false ∧ up.start.ready = true ∧ up.mgmt.change = none) ∧
    (((warm 12).clock .hd).porN = true ∧ (warm 12).start.stopped = false ∧ (warm 12).start.warm = true) := by decide +kernel

/-- An area that carries no save header. -/
def noSave : ReadResult := .ok []

theorem test_witness_LateStartStepsAdvance :
    ((at_ 8).start.stopped = false ∧ (at_ 8).warmReset = false ∧ (at_ 8).start.warm = false ∧ (at_ 8).start.step = 8) ∧
    (let s : State := { at_ 9 with chart := { state := .accepted, chart := some { chart3 with ports := {} } } }
     s.start.stopped = false ∧ s.warmReset = false ∧ s.start.warm = false ∧ s.start.step = 9 ∧
       (∀ p, p < 4 → s.peerSettled p = true) ∧ s.inSeed = false) ∧
    (let s : State := { at_ 9 with chart := { state := .seed, chart := some { chart3 with seed := true, ports := { peerEnable := 1 } } },
                                   peers := [(0, { state := .failed })] }
     s.start.stopped = false ∧ s.warmReset = false ∧ s.start.warm = false ∧ s.start.step = 9 ∧
       (∀ p, p < 4 → s.peerSettled p = true) ∧ s.inSeed = true) ∧
    ((at_ 12).start.stopped = false ∧ (at_ 12).warmReset = false ∧ (at_ 12).start.step = 12 ∧ (at_ 12).ident.entropyFail = false ∧
      ({ at_ 12 with ident := { entropyFail := true } } : State).ident.entropyFail = true) ∧
    (let s := (warm 13).modCore 1 (fun c => { c with state := .verified })
     s.start.stopped = false ∧ s.warmReset = false ∧ s.start.step = 13 ∧ s.ident.secReady = false ∧ (s.core 0).state = .running ∧
       (s.core 1).state = .verified) ∧
    ((at_ 14).start.stopped = false ∧ (at_ 14).warmReset = false ∧ (at_ 14).start.step = 14) ∧
    ((at_ 15).start.stopped = false ∧ (at_ 15).warmReset = false ∧ (at_ 15).start.step = 15 ∧ (at_ 15).start.warm = false) ∧
    ((warm 15).start.stopped = false ∧ (warm 15).warmReset = false ∧ (warm 15).start.step = 15 ∧ (warm 15).start.warm = true) ∧
    ((warm 16).start.stopped = false ∧ (warm 16).warmReset = false ∧ (warm 16).start.step = 16 ∧ (warm 16).mgmt.saveValid = false) := by
  decide +kernel

theorem crc32Bit_lt (c : Nat) (h : c < 2 ^ 32) : crc32Bit c < 2 ^ 32 := by
  unfold crc32Bit
  split
  · exact Nat.xor_lt_two_pow (by omega) (by decide)
  · omega
theorem crc32c_lt (b : Bytes) : crc32c b < 2 ^ 32 := by
  have h : ∀ (l : Bytes) (c : Nat), c < 2 ^ 32 → l.foldl crc32Byte c < 2 ^ 32 := by
    intro l
    induction l with
    | nil => exact fun c h => h
    | cons x l ih =>
      intro c hc
      refine ih _ ?_
      unfold crc32Byte
      iterate 8 refine crc32Bit_lt _ ?_
      exact Nat.xor_lt_two_pow hc (by have := x.isLt; omega)
  exact Nat.xor_lt_two_pow (h b _ (by decide)) (by decide)
theorem leNat_leBytes_four (v : Nat) (h : v < 2 ^ 32) : leNat (leBytes 4 v) = v := by
  simp only [leBytes, leNat, BitVec.toNat_ofNat]
  omega

/-- The header of a save area of instance 3 over these entries, without its own crc. -/
def saveHead (E : Bytes) : Bytes := leBytes 4 0x56415351 ++ leBytes 2 1 ++ leBytes 2 3 ++ leBytes 4 (crc32c E) ++ zeros 48
/-- The save area. -/
def saveArea (E : Bytes) : Bytes := saveHead E ++ leBytes 4 (crc32c (saveHead E)) ++ E
theorem saveHead_length (E : Bytes) : (saveHead E).length = 60 := by simp [saveHead, leBytes, zeros]
theorem saveOk_saveArea (s : State) (E : Bytes) (hi : s.ownId = 3) (hE : E.length = 131072)
    (hr : ∀ x, x < 4096 → savedRsvOk (saveArea E) x = true) : s.saveOk (saveArea E) = true := by
  have hd : (saveArea E).drop 64 = E := by
    rw [saveArea, List.drop_append_of_le_length (by simp [saveHead_length, leBytes])]
    rw [List.drop_eq_nil_of_le (by simp [saveHead_length, leBytes])]; rfl
  have ht : (saveArea E).take 0x3C = saveHead E := by
    rw [saveArea, List.append_assoc, List.take_append_of_le_length (by simp [saveHead_length]),
      List.take_of_length_le (by simp [saveHead_length])]
  have hl : (saveArea E).length = 131136 := by simp [saveArea, saveHead_length, leBytes, hE]
  have hc : cut (saveArea E) 0x3C 4 = leBytes 4 (crc32c (saveHead E)) := by
    have h60 := saveHead_length E
    simp [cut, saveArea, List.append_assoc, h60, leBytes]
  have h8 : cut (saveArea E) 8 4 = leBytes 4 (crc32c E) := by
    simp [cut, saveArea, saveHead, leBytes]
  have h0 : cut (saveArea E) 0x0C 48 = zeros 48 := by
    simp [cut, saveArea, saveHead, leBytes, zeros]
  have hm : fld (saveArea E) 0 4 = 0x56415351 ∧ fld (saveArea E) 4 2 = 1 ∧ fld (saveArea E) 6 2 = 3 := by
    simp [fld, cut, saveArea, saveHead, leBytes, leNat]
  unfold State.saveOk
  rw [hl, hm.1, hm.2.1, hm.2.2, h0, hi, ht, hd]
  simp only [fld, hc, h8, leNat_leBytes_four _ (crc32c_lt _)]
  simpa [allZero, zeros] using hr

/-- The entries of a save area in which queue 0, of partition 0, has prod 5 and cons 4. -/
def entries (r : Bytes) : Bytes := zeros 16 ++ leBytes 4 5 ++ leBytes 4 4 ++ r
/-- The other entries. -/
def rest : Bytes := zeros 131048

theorem fld_saveArea (E : Bytes) (k n : Nat) : fld (saveArea E) (64 + k) n = fld E k n := by
  have hd : (saveArea E).drop 64 = E := by
    rw [saveArea, List.drop_append_of_le_length (by simp [saveHead_length, leBytes])]
    rw [List.drop_eq_nil_of_le (by simp [saveHead_length, leBytes])]; rfl
  rw [fld, fld, cut, cut, ← List.drop_drop, hd]

theorem leNat_zeros (n : Nat) : leNat (zeros n) = 0 := by
  induction n with
  | zero => rfl
  | succ n ih => simp only [zeros, List.replicate_succ, leNat] at ih ⊢; rw [show (0 : Byte) = 0#8 from rfl] at ih; simpa using ih
/-- A field of the entries outside queue 0's prod and cons is zero. -/
theorem fld_entries (k n : Nat) (h : k + n ≤ 16 ∨ 24 ≤ k) : fld (entries rest) k n = 0 := by
  have hz : ∃ m, cut (entries rest) k n = zeros m := by
    rcases h with h | h
    · refine ⟨n, ?_⟩
      rw [cut, entries, List.append_assoc, List.append_assoc, List.drop_append_of_le_length (by simp [zeros]; omega),
        List.take_append_of_le_length (by simp [zeros]; omega)]
      simp only [zeros, List.drop_replicate, List.take_replicate]
      congr 1; omega
    · obtain ⟨j, rfl⟩ := Nat.exists_eq_add_of_le h
      refine ⟨min n (131048 - j), ?_⟩
      rw [cut, ← List.drop_drop]
      have : (entries rest).drop 24 = rest := by rw [entries]; exact List.drop_left' (by simp [zeros, leBytes])
      rw [this]
      simp only [rest, zeros, List.drop_replicate, List.take_replicate]
  obtain ⟨m, hm⟩ := hz
  rw [fld, hm, leNat_zeros]
theorem byteAt_fld (b : Bytes) (o : Nat) : byteAt b o = fld b o 1 := by
  unfold byteAt fld cut
  cases b.drop o <;> simp [leNat]
theorem savedRsvOk_entries (x : Nat) : savedRsvOk (saveArea (entries rest)) x = true := by
  have h (a n : Nat) (h : a + n ≤ 16 ∨ 24 ≤ a) : fld (saveArea (entries rest)) (64 + a) n = 0 := by
    rw [fld_saveArea, fld_entries a n h]
  simp only [savedRsvOk, byteAt_fld, Nat.add_assoc]
  rw [h (32 * x) 8 (by omega), h (32 * x + 8) 4 (by omega), h (32 * x + 0x18) 8 (by omega),
    h (32 * x + 0x0D) 1 (by omega), h (32 * x + 0x0F) 1 (by omega)]
  rfl

theorem test_witness_LateStartStepsAdvance_save :
    let s : State := { warm 16 with mgmt := { up.mgmt with saveValid := true } }
    s.start.stopped = false ∧ s.warmReset = false ∧ s.start.step = 16 ∧ (s.mgmt.saveValid && s.saveOk (saveArea (entries rest))) = true ∧
      s.queueOwner 0 = some 0 ∧ bits (fld (saveArea (entries rest)) (64 + 32 * 0 + 8) 4) 15 8 = 0 ∧
      fld (saveArea (entries rest)) (64 + 32 * 0 + 0x10) 4 = 5 := by
  intro s
  have h : s.saveOk (saveArea (entries rest)) = true := saveOk_saveArea s (entries rest) (by decide) (by
    simp only [entries, rest, zeros, List.length_append, List.length_replicate]; rfl) (fun x _ => savedRsvOk_entries x)
  refine ⟨by decide, by decide, by decide, by rw [h]; decide, by decide, ?_, ?_⟩
  · rw [Nat.add_assoc, fld_saveArea]; generalize rest = r; simp [entries, fld, cut, zeros, leBytes, leNat, bits]
  · rw [Nat.add_assoc, fld_saveArea]; generalize rest = r; simp [entries, fld, cut, zeros, leBytes, leNat]

/-! ### Witnesses: clocks, links and hosts -/

/-- Index of a slice's entry, with the clock changed. -/
def clk (sl : Slice) (f : ClockState → ClockState) : State := up.modClock sl f

theorem test_witness_SupplyStepsAndStackTemperature_supply :
    (on.clock .sh).porN = true ∧
    (let s := clk .en (fun k => { k with ebbSupply := true, warnPin := true })
     (s.clock .en).porN = true ∧ (s.clock .en).wrstN = false ∧ (s.clock .en).ebbSupply = true) ∧
    (let s := { clk .en (fun k => { k with ebbSupply := true, exitCounting := true }) with cores := [] }
     (s.clock .en).exitCounting = true ∧ s.pwr = false ∧ (s.clock .sh).supplyGoal = none ∧ (s.clock .en).supplyGoal = none ∧
       (s.clock .hd).supplyGoal = none) ∧
    (let s := clk .hd (fun k => { k with supplyWait := true, supplyReq := 5, supplyGoal := some 5 })
     (s.clock .hd).supplyWait = true ∧ (s.clock .hd).supplyGoal = some (s.clock .hd).supplyReq ∧ s.anyEbb = false) ∧
    (let s := clk .hd (fun k => { k with supplyWait := true })
     (s.clock .hd).supplyWait = true ∧ (s.clock .hd).supplyGoal = none) ∧
    (let s := clk .hd (fun k => { k with supplyWait := true, supplyReq := 14, supplyGoal := some 15 })
     (s.clock .hd).supplyWait = true ∧ (s.clock .hd).supplyGoal = some 15 ∧ (15 : BitVec 4) ≠ (s.clock .hd).supplyReq ∧ s.anyEbb = false ∧
       (15 : BitVec 4).toNat = (if (s.clock .hd).supplyReq.toNat < (15 : BitVec 4).toNat then (s.clock .hd).supplyReq.toNat + 1
         else (s.clock .hd).supplyReq.toNat - 1)) := by decide +kernel

theorem test_witness_SupplyStepsAndStackTemperature_ebb :
    (let s := clk .en (fun k => { k with ebbSupply := true, exitCounting := true, cycles := 2 ^ 20 })
     (s.clock .en).exitCounting = true ∧ s.pwr = true ∧ s.ctrlLost .en = false ∧ s.ras.waiting.length < 64 ∧
       (∀ sl ∈ [Slice.sh, .en, .hd], (s.clock sl).supplyGoal = none ∧ (s.clock sl).supplyBack = false) ∧
       (let t := s.modMarginOf 1 (fun m => { m with supplyRec := some 0 })
        (t.marginOf 1).supplyRec = some 0 ∧ 2 ^ 20 ≤ ((t.clock .en).cycles - 0).toNat) ∧
       (let t := s.modMarginOf 1 (fun m => { m with supplyRec := some 1 })
        (t.marginOf 1).supplyRec = some 1 ∧ ((t.clock .en).cycles - 1).toNat < 2 ^ 20)) ∧
    (let s := { clk .en (fun k => { k with ebbSupply := true, exitCounting := true, supplyBack := true, supplyWait := true }) with cores := [] }
     (s.clock .en).exitCounting = true ∧ s.pwr = false ∧ (s.clock .en).supplyBack = true ∧ (s.clock .en).ebbOrdered = false ∧
       (s.clock .en).supplyGoal = none ∧ ∀ sl ∈ [Slice.sh, .hd], (s.clock sl).inEbb = false ∧ (s.clock sl).supplyGoal = none ∧
         (s.clock sl).supplyBack = false) ∧
    (let s := clk .hd (fun k => { k with supplyWait := true, ebbOrdered := true })
     (s.clock .hd).supplyWait = true ∧ (s.clock .hd).supplyBack = false ∧ s.anyEbb = true ∧ s.ctrlLost .hd = false) := by decide +kernel

theorem test_witness_SupplyStepsAndStackTemperature_stacks :
    (up.stackOn 3 = true ∧ (up.stackSec 3).thLo ≤ (up.stackSec 3).thHi ∧ (91 : Byte) ≠ 0 ∧ (up.stackSec 3).thHi < (91 : Byte).toNat ∧
      (79 : Byte).toNat < (up.stackSec 3).thLo) ∧
    (let s : State := { up with thermal := { up.thermal with stackStates := [(0, { reported := true, code := 80 })] } }
     s.stackOn 0 = true ∧ (s.stackSec 0).thLo ≤ (s.stackSec 0).thHi ∧ (s.stackState 0).reported = true ∧
       (s.stackState 0).throttled = false) := by decide +kernel

/-- A mirror-table entry with its CRC: a leaf with all rights at a page of 2^21 bytes counted from this instance's first. -/
def leafEntry (page : Nat) : Nat :=
  let b := 0x1F + (up.ownId * 2 ^ 27 + page) * 2 ^ 9
  b + crc8 (leBytes 7 b) * 2 ^ 56
/-- The leaf it gives at a level. -/
def leafAt (level page : Nat) (vbase : BitVec 64) : Leaf :=
  { part := 0, level := level, vbase := vbase, pbase := BitVec.ofNat 60 ((up.ownId * 2 ^ 27 + page) * 2 ^ 21), rd := true, wr := true,
    at_ := true, cw := false }
/-- A read at a VA. -/
def readAt (v : BitVec 64) (p : Purpose) : Access := { mkAccess .block p .read (some 0) 0 64 with id := 9, va := some v }

theorem test_witness_LeafKeepsLowerVirtualBits :
    (up.walkCheck 0 (0x01FFFFFFFFE00000 : BitVec 64).toNat 1 (leafEntry 7) = .leaf (leafAt 1 7 0x01FFFFFFFFE00000) ∧
      up.walkCheck 0 (0x80000001 : BitVec 64).toNat 2 (leafEntry 512) = .leaf (leafAt 2 512 0x80000000) ∧
      up.walkCheck 0 (5 : BitVec 64).toNat 3 (leafEntry 262144) = .leaf (leafAt 3 262144 0)) ∧
    ((0x01FFFFFFFFFFFFFF : BitVec 64).toNat / 2 ^ 21 = (0x01FFFFFFFFE00000 : BitVec 64).toNat / 2 ^ 21 ∧
      (0x7FFFFFFFFF : BitVec 64).toNat / 2 ^ 39 = (5 : BitVec 64).toNat / 2 ^ 39) ∧
    ∀ x ∈ [Purpose.none, .xlate 0 1, .resultProbe 1 true],
      let a := readAt 0x7FFFFFFFFF x
      ({ up with accesses := [a] } : State).acc 9 = some a ∧ a.va = some 0x7FFFFFFFFF ∧ permitted (leafAt 3 262144 0) a = true := by
  decide +kernel

theorem test_witness_ClockLossMarksCrossing :
    ((up.clock .sh).porN = true ∧ (up.clock .sh).dead.getLsbD 1 = false ∧ crossAt .sh 1 = .host 1 ∧ up.home.filter = []) ∧
    ((up.clock .sh).porN = true ∧ (up.clock .sh).dead.getLsbD 5 = false ∧ crossAt .sh 5 = .peer 3 ∧ (up.peer 3).waiting = []) ∧
    ((up.clock .en).porN = true ∧ (up.clock .en).dead.getLsbD 0 = false ∧ crossAt .en 0 = .link .slB) ∧
    (let s := clk .hd (fun k => { k with fbNow := true })
     (s.clock .hd).porN = true ∧ (s.clock .hd).dead.getLsbD 8 = false ∧ crossAt .hd 8 = .inner ∧ (s.clock .hd).fbNow = true ∧
       s.home.filter = []) := by decide +kernel

/-- A link in retransmission after `n` corrupt groups. -/
def badLink (n : Nat) : State := { up with links := [(0, { up := true, failed := true, badReplays := n, credits := [320, 320] })] }

theorem test_witness_GatingLinkGroupsTapAndEntropy :
    (up.unitIdle .hold = true ∧ .hold ∉ up.gated ∧ up.unitIdle (.core 6) = true ∧ .core 6 ∉ up.gated) ∧
    ((up.link .slB).up = true ∧ (up.link .slB).down = false ∧ (up.link .slB).failed = false ∧ up.linkFault .slB = none ∧
      Slice.en ∈ linkEnds .slB ∧ 0 < (up.link .slB).credits.getD (1 - endIx .slB .en) 0) ∧
    (((badLink 6).link .slA).up = true ∧ ((badLink 6).link .slA).down = false ∧ ((badLink 6).link .slA).failed = true ∧
      (badLink 6).linkFault .slA = none ∧ Slice.hd ∈ linkEnds .slA ∧ ((badLink 6).link .slA).badReplays < 7) ∧
    (((badLink 7).link .slA).up = true ∧ ((badLink 7).link .slA).down = false ∧ ((badLink 7).link .slA).failed = true ∧
      (badLink 7).linkFault .slA = none ∧ 7 ≤ ((badLink 7).link .slA).badReplays) ∧
    up.tapUnlock = false ∧ ({ up with tapUnlock := true } : State).tapUnlock = true ∧ up.start.ready = true ∧ up.ident.entropyFail = false ∧
      up.ctrlLost .sh = false := by decide +kernel

theorem test_witness_HostLinkEventsMoveThePort :
    (let s : State := { up with hosts := [] }
     s.portsOpen = true ∧ (s.host 1).readyOut = false ∧ (s.host 1).needFall = false ∧ s.charted = true ∧
       s.theChart.ports.hostEnable.getLsbD 1 = true ∧ s.fenced.host.getLsbD 1 = false ∧ (s.clock .sh).dead.getLsbD 1 = false) ∧
    (let s : State := { up with home := { up.home with filter := [{ line := 0, mask := 2, excl := false }] } }
     (s.host 0).readyOut = true ∧ s.ctrlLost .sh = false ∧ s.ctrlLost .hd = false ∧ ∀ e, e ∈ s.home.filter → e.mask.getLsbD 0 = false) ∧
    (State.reset.portsOpen = false ∧ ((warm 12).host 1).readyOut = true ∧ (State.reset.host 0).readyOut = false) := by decide +kernel

theorem test_witness_HostRequestsAnsweredOnTheSpot :
    (((warm 12).host 0).readyOut = true ∧ (warm 12).warmStart = true) ∧
    ((up.host 1).readyOut = true ∧ up.warmStart = false ∧ up.warmReset = false ∧ mapped 0x060000 = false ∧ mapped 0x05FFFC = true) ∧
    ((0x1001 : BitVec 24).toNat % 4096 ≠ 0 ∧ (4 : Nat) ≠ 8) := by decide +kernel

/-- A doorbell value: prod in the low word, then the echo and the crc. -/
def bell (echo prod : Nat) : BitVec 64 :=
  let low := prod + 2 ^ 32 * echo
  BitVec.ofNat 64 (low + 2 ^ 48 * crc16 (leBytes 6 low))

/-- `up` with this queue 31. -/
def withQ (k : Queue) : State := { up with queues := [(31, k)] }

theorem test_witness_HostDoorbellChecksInOrder :
    (let s : State := { up with links := [(0, { up := true, down := true })] }
     (s.host 0).readyOut = true ∧ s.warmReset = false ∧ s.warmStart = false ∧ s.linkFault .slA ≠ none ∧ doorbellOk 31 (bell 31 1) = true) ∧
    (((warm 12).host 0).readyOut = true ∧ (warm 12).warmReset = false ∧ (warm 12).warmStart = true) ∧
    ((up.host 0).readyOut = true ∧ up.warmReset = false ∧ up.warmStart = false ∧ up.linkFault .slA = none ∧ doorbellOk 31 (bell 31 0x7FFFFFFF) = true ∧
      doorbellOk 31 (bell 30 1) = false ∧ up.queueOwner 63 = some 1 ∧ up.queueOwner 64 = none ∧ up.part 1 ≠ .enabled) ∧
    (let s := withQ { dbEnable := true, sizeLog2 := 4, prod := 0xFFFFFFFF, cons := 0xFFFFFFFF }
     s.queueOwner 31 = some 0 ∧ (s.queue 31).dbEnable = true ∧ s.part 0 = .enabled ∧
       ((0x7FFFFFFE : BitVec 32) - (s.queue 31).prod).toNat < 2 ^ 31 ∧
       ¬ 2 ^ (s.queue 31).sizeLog2.toNat < ((15 : BitVec 32) - (s.queue 31).cons).toNat ∧
       2 ^ (s.queue 31).sizeLog2.toNat < ((16 : BitVec 32) - (s.queue 31).cons).toNat) := by decide +kernel

theorem test_witness_PortErrorsMessagesAndCredits :
    ((up.clock .sh).porN = true ∧ mapped 0xFFFFFC = false ∧ (2 : BitVec 24).toNat % 4 ≠ 0) ∧
    (let s : State := { up with links := [] }
     (s.clock .sh).porN = true ∧ s.addressed 0x100000 = true ∧ s.sliceAnswers (sliceOfAddr 0x100000) = false) ∧
    (let s := clk .en (fun k => { k with dead := 0x100 })
     (s.clock .sh).porN = true ∧ s.addressed 0x100000 = true ∧ s.ctrlLost (sliceOfAddr 0x100000) = true) ∧
    (let s := up.setPendingBit 2047 true |>.setMsixEntry 2047 { mask := false }
     s.pendingBit 2047 = true ∧ s.readyHost = some 0 ∧ (s.msixEntry 2047).mask = false ∧ (s.host 0).funcMask = false) ∧
    ((up.link .slC).up = true ∧ up.linkFault .slC = none ∧ Slice.en ∈ linkEnds .slC) ∧ (up.peer 3).waiting = [] ∧ (up.peer 3).credits.length = 4 ∧
    (up.hostOn 1 = true ∧ (up.windowAt 0x1FFFFF).isSome = true ∧ (up.windowAt 0x200000).isSome = false ∧
      up.wbBusy (roundDown 0x1FFFFF 64) = false ∧ up.linkFault .slA = none ∧ up.ctrlLost .hd = false) := by decide +kernel

/-- A transaction of line 0 that snoops host 1 and cache 2. -/
def snooping : HomeTxn :=
  { id := 4, line := 0, req := .hostRead 0 7 .s, phase := .snooping, snoops := [(1, true, true), (2, true, false)], quiet := false,
    victim := none, wbs := 0, old := 0, swapped := false }
/-- `up` with that transaction, and cache `c` holding the line exclusively. -/
def heldBy (c : Nat) : State := { up with home := { up.home with
  txns := [snooping], filter := [{ line := 0, mask := BitVec.ofNat 8 (2 ^ c), excl := true }] } }

theorem test_witness_HostMemoryRequestsJoinTheirLine :
    (up.hostOn 0 = true ∧ (up.windowAt 0x1FFFFF).isSome = true ∧ up.snooper 0x1FFFC0 0 = none ∧ up.home.wbBuf.getD 0 0 < 128) ∧
    (let s : State := { up with home := { up.home with wbBuf := [0, 128] } }
     s.hostOn 1 = true ∧ 128 ≤ s.home.wbBuf.getD (1 : Fin 2) 0) ∧
    (up.hostOn 1 = true ∧ (up.windowAt 0x200000).isSome = false ∧ (zeros 64).length = 64 ∧ up.linkFault .slA = none) ∧
    (((warm 12).host 1).readyOut = true ∧ (warm 12).warmStart = true) ∧
    (let s : State := { up with links := [(0, { up := true, down := true })] }
     s.hostOn 0 = true ∧ (s.windowAt 0x1FFFFF).isSome = true ∧ s.linkFault .slA ≠ none) := by decide +kernel

theorem test_witness_SnoopAnswersAndLostHolders :
    ((warm 12).warmStart = true ∧ ((warm 12).host 1).readyOut = true ∧ up.warmStart = false ∧ up.warmReset = false) ∧
    ((up.host 1).readyOut = true ∧ up.linkFault .slA = none ∧ up.ctrlLost .hd = false) ∧ (up.snooper 0 1 = none ∧ up.snooper 0 (7 : Fin 8) = none) ∧
    ((heldBy 1).snooper 0 1 = some snooping ∧ snooping.snoops.find? (fun x => x.1 == 1) = some (1, true, true)) ∧
    ((heldBy 2).snooper 0 2 = some snooping ∧ (heldBy 2).exclusive 0 = some 2) := by decide +kernel

/-- A write through host window 0. -/
def winWrite : Access := { mkAccess .block .none .write none 0 64 with id := 9, stage := .hostWin 1 6 }
/-- A leaf of partition 0 at VA 0. -/
def leaf0 : Leaf := { part := 0, level := 1, vbase := 0, pbase := BitVec.ofNat 60 (3 * 2 ^ 48 + 2 ^ 30), rd := true, wr := true, at_ := false, cw := false }
/-- `up` with the leaf in L2, the root valid and an HDM decoder of host 0 over the leaf's page. -/
def ats (l : Leaf) : State := { up with
  trans := { up.trans with l2 := [l], roots := [(0, { pa := 0, valid := true })] },
  hosts := [(0, { linkUp := true, readyOut := true, hdm := [(0, 16), (1, 8), (2, 4), (3, 1)] })] }

theorem test_witness_HostWindowCompletionsAndAts :
    (let c : CacheTag := { port := 1, tag := 6, access := 9, line := 0 }
     let s : State := { up with cacheTags := [c], accesses := [winWrite] }
     s.cacheTags.find? (fun x => x.port == 1 && x.tag == 6) = some c ∧ s.acc c.access = some winWrite ∧ winWrite.kind = .write ∧ winWrite.held = none ∧
       ∀ x, x ∈ s.cacheTags → (x.port = 1 ∧ x.tag = 6) ∨ x.access ≠ winWrite.id) ∧
    (let s : State := { up with inv := { up.inv with held := List.replicate 16 (otherInv .release .all 0 0 0) } }
     16 ≤ s.inv.held.length) ∧
    ((State.reset.host 0).readyOut = false ∧ (up.host 1).readyOut = true) ∧ (up.inv.held.length < 16 ∧ up.linkFault .slC = none ∧ up.partExists 1 = true) ∧
    (up.pasidPart 2 = none ∧ up.pasidPart 16 = none ∧ (none : Option (BitVec 20)).bind up.pasidPart = none) ∧
    ((some (1 : BitVec 20)).bind up.pasidPart = some 1 ∧ up.partOn 1 = false) ∧
    (let s := ats leaf0
     s.theChart.trans.answerAts = true ∧ (some (0 : BitVec 20)).bind s.pasidPart = some 0 ∧ s.partOn 0 = true ∧
       (0x1FFFFF : BitVec 64).toNat < 2 ^ 57 ∧ (s.root 0).valid = true ∧ s.trans.l2.find? (leafHits 0 0x1FFFFF) = some leaf0 ∧
       instOf leaf0.pbase = s.ownId ∧ leaf0.cw = false ∧ s.hdmAddr 0 (localOf leaf0.pbase) = some (2 ^ 32) ∧
       s.hdmAddr 1 (localOf leaf0.pbase) = none) ∧
    (let l := { leaf0 with cw := true }
     (ats l).trans.l2.find? (leafHits 0 0) = some l ∧ l.cw = true) := by decide +kernel

/-! ### Witnesses: identity -/

/-- `up` with host 0's connection at step `k` of the SPDM order, a certificate of two bytes and this session. -/
def spdm (k : Nat) (ses : Session) (bad : Bool := false) : State := { up with
  ident := { up.ident with negotiated := [(0, k)], chain := [1], cert := [2], session := ses, entropyFail := bad } }

theorem test_witness_SpdmRequestsAreAnswered :
    (up.sec = true ∧ (up.host 0).readyOut = true) ∧ 1 ≤ tabGet 0 (spdm 1 .none).ident.negotiated (0 : Fin 2) ∧
    2 ≤ tabGet 0 (spdm 2 .none).ident.negotiated (0 : Fin 2) ∧
    (let s := spdm 3 .none
     s.sec = true ∧ (s.host 0).readyOut = true ∧ 3 ≤ tabGet 0 s.ident.negotiated (0 : Fin 2) ∧
       1 < (s.ident.chain ++ s.ident.cert).length ∧ (1 : Nat) ≠ 0) ∧
    (0xE2 : Byte).toNat ∉ spdmCodes ∧ (0x12 : Byte) ≠ 0x13 := by decide +kernel

/-- The generator of P-384 as a public key: the public key of the scalar 1. -/
theorem pubPoint_generator : (pubPoint (pubOf 1)).isSome = true := by decide +kernel

theorem test_witness_SpdmSignedAnswersAndSession :
    (let s := spdm 3 .none
     s.sec = true ∧ (s.host 0).readyOut = true ∧ 3 ≤ tabGet 0 s.ident.negotiated (0 : Fin 2) ∧ s.ident.entropyFail = false ∧
       (1 : Byte) ≠ 0xFF ∧ s.ident.session = .none) ∧
    (let s := spdm 3 .none true
     s.sec = true ∧ (s.host 0).readyOut = true ∧ s.ident.entropyFail = true ∧ s.ident.session = .none) ∧
    (let s := spdm 3 (.awaiting 0)
     s.sec = true ∧ (s.host 0).readyOut = true ∧ s.ident.session = .awaiting 0 ∧ s.ident.session ≠ .none) ∧
    (let s := spdm 3 (.live 0)
     s.sec = true ∧ (s.host 0).readyOut = true ∧ s.ident.session ≠ .awaiting 0) := by decide +kernel

theorem test_witness_SpdmSignedAnswersAndSession_index :
    (spdm 3 .none).manifest.filter (fun b => b.1 == (1 : Byte).toNat) ≠ [] ∧ (200 : Byte) ≠ 0 ∧ (200 : Byte) ≠ 0xFF ∧
    (spdm 3 .none).manifest.filter (fun b => b.1 == (200 : Byte).toNat) = [] := by
  simp [State.manifest, spdm, up, on, State.reset, State.core, tabGet, List.range, List.range.loop]

theorem test_witness_SpdmSignedAnswersAndSession_share (d : Nat) : ∃ z, ecdh d (pubOf 1) = some z := by
  have h := pubPoint_generator
  unfold ecdh
  cases hp : pubPoint (pubOf 1) with
  | none => rw [hp] at h; exact absurd h (by decide)
  | some q => exact ⟨_, rfl⟩

theorem test_witness_SpdmSignedAnswersAndSession_no_share (d : Nat) : ecdh d [] = none := by
  have h : pubPoint [] = none := by decide
  unfold ecdh
  rw [h]
  rfl

/-- A live session in which `m` heartbeats were missed; key set 0 of CXL.io, transmit, has a key and is in force. -/
def live (m : Nat) : State := { spdm 3 (.live 0) with
  ident := { (spdm 3 (.live 0)).ident with missed := m },
  hosts := [(0, { linkUp := true, readyOut := true, ideKeys := [(1, some 7)], ideActive := [(1, 1)] })] }

theorem test_witness_SessionMessagesAndIdeKeys :
    ((live 0).ident.session = .live 0 ∧ (live 0).ident.missed = 0 ∧ (live 0).sec = true ∧ ((live 0).host 0).readyOut = true ∧
      3 ≤ tabGet 0 (live 0).ident.negotiated (0 : Fin 2)) ∧
    ((live 1).ident.session = .live 0 ∧ 1 ≤ (live 1).ident.missed) ∧
    (ideIndex .cxlIo = some 0 ∧ tabGet none ((live 0).host 0).ideKeys (4 * 0 + 2 * 0 + 1) ≠ none ∧
      tabGet none ((live 0).host 0).ideKeys (4 * 0 + 2 * 0 + 0) = none ∧ tabGet 0 ((live 0).host 0).ideActive (2 * 0 + 1) = (0 : Fin 2).val + 1 ∧
      tabGet 0 ((live 0).host 0).ideActive (2 * 0 + 0) ≠ (0 : Fin 2).val + 1) ∧
    ideIndex .cxlCacheMem = some 1 := by decide +kernel

theorem test_witness_EndorsementIsCheckedAtCommit :
    (let s : State := { at_ 8 with ident := { up.ident with staging := zeros 188 } }
     s.reach .cp 0x40004 = true ∧ s.reach .cp 0x40008 = true ∧ s.start.step = 8 ∧ s.start.stopped = false ∧ s.start.warm = false ∧
       s.ident.staging.length < 192) ∧
    (at_ 9).start.step ≠ 8 := by decide +kernel

/-! ### Witnesses: peers -/

/-- An empty packet from instance 4. -/
def pk (cls : PktClass) (op : Nat) (sub : Nat := 0) : Packet :=
  { up.mkPacket cls op 3 with src := 4, tag := 77, subop := BitVec.ofNat 8 sub }
/-- `up` with this packet in port 0's receive buffer. -/
def got (k : Packet) : State := { up with peers := [(0, { linkUp := true, readyOut := true, state := .up, inbox := [k] })] }
/-- With a payload. -/
def withData (k : Packet) (b : Bytes) : Packet := { k with payload := b, length := BitVec.ofNat 9 b.length }
/-- The oldest packet of an opcode, and of a subop, in port 0's receive buffer. -/
def oldest (s : State) (op : Nat) (sub : Option Nat) : Option Packet :=
  (s.peer 0).inbox.find? (fun x => x.opcode.toNat == op && (sub.elim true (fun n => x.subop.toNat == n)))

/-- A state with SL-A declared down. -/
def cutA (s : State) : State := { s with links := [(0, { up := true, down := true })] }
/-- A state whose home agent has all its transactions in use. -/
def full (s : State) : State := { s with home := { s.home with txns := List.replicate 2048 snooping } }

theorem test_witness_PeerRequestsAreServed_held :
    (let k := pk .req 1
     let s := cutA (got k)
     (s.linkFault .slA).isSome = true ∧ k.cls = .req ∧ s.homeFull k = false ∧ oldest s 1 none = some k) ∧
    (let k := pk .snp 0x10
     let s := cutA (got k)
     (s.linkFault .slA).isSome = true ∧ k.cls ≠ .req ∧ s.homeFull k = false ∧ oldest s 0x10 none = some k) ∧
    (let k := pk .req 6
     ∀ x ∈ ((full (got k)).peer 0).inbox, x.opcode = 0x06 ∧ (full (got k)).homeFull x = true) ∧
    (let k := withData (pk .req 2 1) (zeros 64)
     ∀ x ∈ ((full (got k)).peer 0).inbox, x.opcode = 0x02 ∧ x.subop = 1 ∧ (full (got k)).homeFull x = true) ∧
    (let k := { pk .req 2 1 with poison := 1 }
     (got k).linkFault .slA = none ∧ (got k).homeFull k = false ∧ oldest (got k) 2 (some 1) = some k ∧ k.poison ≠ 0) ∧
    (pk .req 2 1).poison = 0 := by decide +kernel

theorem test_witness_PeerRequestsAreServed :
    up.warmStart = false ∧ up.warmReset = false ∧
    oldest (got (pk .req 1)) 1 none = some (pk .req 1) ∧
    (let k := withData (pk .req 2) (zeros 64)
     oldest (got k) 2 (some 0) = some k ∧ ∀ b, b ∈ packetMarks k → b = false) ∧
    oldest (got (pk .req 2 1)) 2 (some 1) = some (pk .req 2 1) ∧
    oldest (got (pk .req 6)) 6 none = some (pk .req 6) ∧
    (let k := { withData (pk .req 3 0x0B) (zeros 8) with aux := 8, addr := 0x10 }
     oldest (got k) 3 none = some k ∧ k.aux.toNat = 8 ∧ 1 ≤ k.subop.toNat ∧ k.subop.toNat ≤ 0x0B ∧ k.addr.toNat % 8 = 0 ∧
       ¬ k.length = 16 ∧ ¬ k.subop = 0x0A) ∧
    (let k := { withData (pk .req 3 0x0A) (zeros 16) with aux := 4, addr := 0x14 }
     oldest (got k) 3 none = some k ∧ k.aux.toNat = 4 ∧ k.addr.toNat % 4 = 0 ∧ k.length = 16 ∧ k.subop = 0x0A) ∧
    (let k := { withData (pk .req 4) (zeros 8) with tide := 31 }
     oldest (got k) 4 none = some k ∧ (got k).tideInRange k.tide.toNat (if k.mc then none else some k.part.toNat) = true) ∧
    (let k := { withData (pk .req 4) (zeros 8) with tide := 32 }
     oldest (got k) 4 none = some k ∧ (got k).tideInRange k.tide.toNat (if k.mc then none else some k.part.toNat) = false) ∧
    (let k := pk .snp 0x10
     oldest (got k) 0x10 none = some k ∧ (got k).nearAt (BitVec.ofNat 60 (4 * 2 ^ 48)) = none) ∧
    oldest (got (pk .snp 0x11)) 0x11 none = some (pk .snp 0x11) ∧
    (let k := pk .snp 0x10
     let l : NearLine := { line := BitVec.ofNat 60 (4 * 2 ^ 48), data := zeros 64, bad := false, evicting := false, count := 1 }
     let s : State := { got k with home := { up.home with near := [l] } }
     oldest s 0x10 none = some k ∧ s.nearAt (BitVec.ofNat 60 (k.src.toNat * 2 ^ 48 + k.addr.toNat / 64 * 64)) = some l) := by
  decide +kernel

/-- A tracked request of an access of an engine. -/
def trk (op : Nat) : Tracker :=
  { tag := 77, access := 9, port := 0, opcode := BitVec.ofNat 6 op, dst := 4, ended := false, own := false, got := none, bad := false,
    comp := if op = 3 then some (.ok, 0) else none }
/-- That access. -/
def far : Access := { mkAccess (.engine 0 0) (.engine 0 5 0) .write (some 0) (BitVec.ofNat 60 (4 * 2 ^ 48)) 64 with id := 9, stage := .peer 77 }
/-- `got k` with the access tracked. -/
def asked (k : Packet) (op : Nat) : State := { got k with tracker := [trk op], accesses := [far] }
/-- `got k` while host line 0 snoops instance 4, which is cache 2. -/
def snoops (k : Packet) : State := { got k with
  tracker := [{ trk 0x10 with access := 4 }], home := { up.home with txns := [snooping], attach := [(2, 0x80000004)] } }

/-- An OWN of an addition of 5 to the eight bytes at offset 8 of a line, awaiting its data. -/
def nearAdd : Access :=
  { far with kind := .atomic, pa := BitVec.ofNat 60 (4 * 2 ^ 48 + 8), near := some true,
             op := some { subop := 1, size := 8, operand := 5, swap := 0 } }

theorem test_witness_PeerAnswersReachTheirRequests_snoop :
    (let k := { withData (pk .dat 0x22) (zeros 64) with poison := 1 }
     oldest (snoops k) 0x22 none = some k ∧ k.poison ≠ 0) ∧
    (let k := pk .rsp 0x19
     ((cutA (snoops k)).linkFault .slA).isSome = true ∧ oldest (cutA (snoops k)) 0x19 none = some k) ∧
    (let k := pk .dat 0x22
     oldest (cutA (snoops k)) 0x22 none = some k) := by decide +kernel

theorem test_witness_PeerAnswersReachTheirRequests :
    (up.holdsPackets 0 = false ∧ (warm 12).holdsPackets 0 = true) ∧
    (let k := withData (pk .dat 0x23) (zeros 64)
     let s : State := { asked k 6 with accesses := [nearAdd] }
     s.holdsPackets 0 = false ∧ s.tracked k.tag = some (trk 6) ∧ s.acc (trk 6).access = some nearAdd ∧ oldest s 0x23 none = some k ∧
       statusOf k.status.toNat = .ok ∧ k.poison = 0 ∧ nearAdd.held = none ∧ nearAdd.op.isSome = true ∧ s.nearAt (paLine nearAdd.pa) = none) ∧
    (let k := pk .rsp 0x18
     let s := asked k 2
     s.tracked k.tag = some (trk 2) ∧ s.acc (trk 2).access = some far ∧ oldest s 0x18 none = some k ∧ (trk 2).opcode.toNat ≠ 0x01 ∧
       (trk 2).opcode.toNat ≠ 0x03) ∧
    (let k := withData (pk .dat 0x20) (zeros 64)
     let s := asked k 1
     s.tracked k.tag = some (trk 1) ∧ s.acc (trk 1).access = some far ∧ oldest s 0x20 none = some k ∧ k.poison = 0) ∧
    (let k := withData (pk .dat 0x21) (zeros 8)
     let s := asked k 3
     s.tracked k.tag = some (trk 3) ∧ s.acc (trk 3).access = some far ∧ oldest s 0x21 none = some k ∧
       (∀ x, x ∈ s.tracker → x.tag = k.tag → x = trk 3) ∧ (trk 3).comp = some (.ok, 0)) ∧
    (let k := { withData (pk .dat 0x23) (zeros 64) with status := BitVec.ofNat 8 (statusCode .busError) }
     let s := asked k 6
     s.tracked k.tag = some (trk 6) ∧ s.acc (trk 6).access = some far ∧ oldest s 0x23 none = some k ∧
       statusOf k.status.toNat ≠ .ok ∧ statusOf k.status.toNat ≠ .permission) ∧
    (let k := pk .rsp 0x19
     let s := snoops k
     let e : Tracker := { trk 0x10 with access := 4 }
     s.tracked k.tag = some e ∧ s.txn e.access = some snooping ∧ s.cacheOfInst e.dst.toNat = some 2 ∧
       snooping.snoops.any (fun x => x.1 == 2) = true ∧ oldest s 0x19 none = some k) ∧
    (let k := withData (pk .dat 0x22) (zeros 64)
     let s : State := { snoops k with trans := { up.trans with seals := [(1, { base := 0, size := 64, valid := true })] } }
     oldest (snoops k) 0x22 none = some k ∧ (snoops k).sealHit (snooping.victim.getD snooping.line).toNat 64 = false ∧
       oldest s 0x22 none = some k ∧ s.sealHit (snooping.victim.getD snooping.line).toNat 64 = true ∧ k.poison = 0 ∧
       s.linkFault .slA = none) ∧
    (let s := got (pk .rsp 0x18)
     s.tracked 77 = none ∧ oldest s 0x18 none = some (pk .rsp 0x18)) ∧
    oldest (got (pk .dat 0x20)) 0x20 none = some (pk .dat 0x20) ∧ oldest (got (pk .dat 0x21)) 0x21 none = some (pk .dat 0x21) ∧
    oldest (got (pk .dat 0x23)) 0x23 none = some (pk .dat 0x23) := by decide +kernel

/-- A key of zeros. -/
def key0 : LinkKey := { key := zeros 32, salt := zeros 4 }
/-- A READ of 256 bytes from instance 4, as it travels. -/
def readPkt : Packet := { pk .req 1 with aux := 256 }
/-- The first flit of a far end whose key is `key0`. -/
def flit0 : Bytes := sealFlit { ({} : PeerPort) with txKey := some key0 } (packetSlots readPkt) false
/-- The flit's contents. -/
def body0 : Bytes := padTo (packetSlots readPkt).flatten 224

/-- Every word of a key schedule has four bytes. -/
def fours (ws : List (List Nat)) : Prop := ∀ w, w ∈ ws → w.length = 4

theorem keyWord_length (i r : Nat) (p b : List Nat) (hp : p.length = 4) (hb : b.length = 4) : (keyWord i r p b).length = 4 := by
  match p, hp with
  | [a, x, c, d], _ => unfold keyWord; split <;> simp [hb]; split <;> simp

theorem keyExpand_fours : ∀ (n i r : Nat) (ws : List (List Nat)), fours ws → 8 ≤ ws.length →
    fours (keyExpand n i r ws) ∧ (keyExpand n i r ws).length = ws.length + n := by
  intro n
  induction n with
  | zero => intro i r ws h _; exact ⟨h, rfl⟩
  | succ n ih =>
    intro i r ws h hl
    have hg : ∀ k, k < 8 → (ws.getD k []).length = 4 := by
      intro k hk
      have hkl : k < ws.length := by omega
      rw [List.getD_eq_getElem _ _ hkl]
      exact h _ (List.getElem_mem hkl)
    have := ih (i + 1) (if i % 8 = 0 then xtime r else r) (keyWord i r (ws.getD 0 []) (ws.getD 7 []) :: ws)
      (by intro w hw
          rcases List.mem_cons.mp hw with rfl | hw
          · exact keyWord_length _ _ _ _ (hg 0 (by omega)) (hg 7 (by omega))
          · exact h w hw)
      (by simp; omega)
    refine ⟨this.1, ?_⟩
    simpa [keyExpand, Nat.add_assoc, Nat.add_comm 1] using this.2

theorem flatten_fours : ∀ ws : List (List Nat), fours ws → ws.flatten.length = 4 * ws.length := by
  intro ws
  induction ws with
  | nil => simp
  | cons w ws ih =>
    intro h
    have hw := h w (by simp)
    have := ih (fun x hx => h x (by simp [hx]))
    simp only [List.flatten_cons, List.length_append, List.length_cons]; omega

theorem addKey_length (st : List Nat) (ks : List (List Nat)) (hs : st.length = 16) (hk : fours ks) (hl : 4 ≤ ks.length) :
    (addKey st (ks.take 4)).length = 16 := by
  have := flatten_fours (ks.take 4) (fun w hw => hk w (List.mem_of_mem_take hw))
  rw [List.length_take] at this
  simp only [addKey, List.length_zipWith]; omega

theorem mixCol_length (c : List Nat) (h : c.length = 4) : (mixCol c).length = 4 := by
  match c, h with
  | [a, b, d, e], _ => rfl

theorem mixCols_length (st : List Nat) (h : st.length = 16) : (mixCols st).length = 16 := by
  have hc : ∀ i, i < 4 → (mixCol ((st.drop (4 * i)).take 4)).length = 4 := fun i hi => mixCol_length _ (by simp; omega)
  have hr : List.range 4 = [0, 1, 2, 3] := rfl
  simp only [mixCols, hr, List.flatMap_cons, List.flatMap_nil, List.length_append, hc 0 (by omega), hc 1 (by omega), hc 2 (by omega),
    hc 3 (by omega), List.length_nil]

theorem aesRounds_length : ∀ (n : Nat) (st : List Nat) (ks : List (List Nat)), fours ks → 4 * (n + 1) ≤ ks.length →
    (aesRounds n st ks).length = 16 := by
  intro n
  induction n with
  | zero => intro st ks hk hl; exact addKey_length _ _ (by simp [shiftRows]) hk (by omega)
  | succ n ih =>
    intro st ks hk hl
    exact ih _ _ (fun w hw => hk w (List.mem_of_mem_drop hw)) (by rw [List.length_drop]; omega)

theorem aesKeys_fours (key : Bytes) (h : key.length = 32) : fours (aesKeys key) ∧ (aesKeys key).length = 60 := by
  have h0 : fours ((List.range 8).map (fun i => (cut key (4 * i) 4).map BitVec.toNat)).reverse := by
    intro w hw
    simp only [List.mem_reverse, List.mem_map, List.mem_range] at hw
    obtain ⟨i, hi, rfl⟩ := hw
    simp only [cut, List.length_map, List.length_take, List.length_drop]; omega
  have := keyExpand_fours 52 8 1 _ h0 (by simp)
  refine ⟨fun w hw => this.1 w (by simpa [aesKeys] using hw), ?_⟩
  simp only [aesKeys, List.length_reverse]
  rw [this.2]; simp

theorem aesBlock_length (key b : Bytes) (hk : key.length = 32) : (aesBlock (aesKeys key) b).length = 16 := by
  have h := aesKeys_fours key hk
  simp only [aesBlock, List.length_map]
  exact aesRounds_length _ _ _ (fun w hw => h.1 w (List.mem_of_mem_drop hw)) (by rw [List.length_drop]; omega)

theorem zipWith_xor_twice : ∀ a b : Bytes, a.length ≤ b.length →
    List.zipWith (fun x y => x ^^^ y) (List.zipWith (fun x y => x ^^^ y) a b) b = a := by
  intro a
  induction a with
  | nil => intro b _; simp
  | cons x a ih =>
    intro b h
    match b with
    | [] => simp at h
    | y :: b =>
      simp only [List.zipWith_cons_cons, List.cons.injEq]
      exact ⟨by rw [BitVec.xor_assoc, BitVec.xor_self, BitVec.xor_zero], ih b (by simpa using h)⟩

theorem gctr_twice (key iv : Bytes) (hk : key.length = 32) : ∀ (n c : Nat) (b : Bytes), b.length ≤ 16 * n →
    gctr n (aesKeys key) iv c (gctr n (aesKeys key) iv c b) = b ∧ (gctr n (aesKeys key) iv c b).length = b.length := by
  intro n
  induction n with
  | zero => intro c b h; simp at h; subst h; exact ⟨rfl, rfl⟩
  | succ n ih =>
    intro c b h
    have hs := aesBlock_length key (iv ++ beBytes 4 c) hk
    have hi := ih (c + 1) (b.drop 16) (by rw [List.length_drop]; omega)
    have hz : (List.zipWith (fun x y => x ^^^ y) (b.take 16) (aesBlock (aesKeys key) (iv ++ beBytes 4 c))).length = min 16 b.length := by
      simp only [List.length_zipWith, List.length_take]; omega
    refine ⟨?_, by simp only [gctr, List.length_append, hi.2, hz, List.length_drop]; omega⟩
    by_cases hb : 16 ≤ b.length
    · have hz' : (List.zipWith (fun x y => x ^^^ y) (b.take 16) (aesBlock (aesKeys key) (iv ++ beBytes 4 c))).length = 16 := by omega
      simp only [gctr]
      rw [List.take_append_of_le_length (by omega), List.take_of_length_le (by omega), List.drop_append_of_le_length (by omega),
        List.drop_eq_nil_of_le (by omega), List.nil_append, hi.1, zipWith_xor_twice _ _ (by simp [hs]), List.take_append_drop]
    · have hd : b.drop 16 = [] := List.drop_eq_nil_of_le (by omega)
      have hg : gctr n (aesKeys key) iv (c + 1) [] = [] := by
        have := hi.2; rw [hd] at this; exact List.eq_nil_of_length_eq_zero this
      simp only [gctr, hd, hg, List.append_nil]
      rw [List.take_of_length_le (by omega), List.drop_eq_nil_of_le (by omega), hg, List.append_nil,
        zipWith_xor_twice _ _ (by simp only [List.length_take]; omega), List.take_of_length_le (by omega)]

theorem beBytes_length (n v : Nat) : (beBytes n v).length = n := by
  have h : ∀ n v, (leBytes n v).length = n := by
    intro n
    induction n with
    | zero => exact fun v => rfl
    | succ n ih => exact fun v => by simp [leBytes, ih]
  simp [beBytes, h]

theorem gcmTag_length (key iv aad ct : Bytes) (hk : key.length = 32) : (gcmTag (aesKeys key) iv aad ct).length = 16 := by
  simp only [gcmTag, List.length_zipWith, aesBlock_length key _ hk, beBytes_length, Nat.min_self]

/-- A flit opens to what it was sealed from. -/
theorem openFlit_sealFlit (x y : PeerPort) (k : LinkKey) (sl : List Bytes) (nak : Bool) (hx : x.rxKey = some k) (hy : y.txKey = some k)
    (hk : k.key.length = 32) :
    openFlit x (sealFlit y sl nak) = some (padTo sl.flatten 224) ∧ (sealFlit y sl nak).length = 256 ∧
    cut (sealFlit y sl nak) 224 8 = leBytes 8 y.txSeq ∧
    cut (sealFlit y sl nak) 232 8 = leBytes 8 (y.ackNow + 2 ^ 63 * b2n nak) := by
  have hb : (padTo sl.flatten 224).length = 224 := by simp [padTo, zeros]; omega
  have ha : ∀ v, (leBytes 8 v).length = 8 := fun v => by simp [leBytes]
  generalize hbody : padTo sl.flatten 224 = body at *
  generalize hack : leBytes 8 (y.ackNow + 2 ^ 63 * b2n nak) = ack
  have hackl : ack.length = 8 := by rw [← hack]; exact ha _
  have hg := gctr_twice k.key (k.salt ++ leBytes 8 y.txSeq) hk 14 2 body (by omega)
  generalize hct : gctr 14 (aesKeys k.key) (k.salt ++ leBytes 8 y.txSeq) 2 body = ct at *
  have hctl : ct.length = 224 := by rw [hg.2, hb]
  generalize htag : gcmTag (aesKeys k.key) (k.salt ++ leBytes 8 y.txSeq) (leBytes 8 y.txSeq ++ ack) ct = tag
  have htl : tag.length = 16 := by rw [← htag]; exact gcmTag_length _ _ _ _ hk
  have hs : sealFlit y sl nak = ct ++ (leBytes 8 y.txSeq ++ ack) ++ tag := by
    simp only [sealFlit, hy, hbody, hack, gcmSeal, hb]
    show gctr 14 _ _ _ _ ++ _ ++ _ = _
    rw [hct, htag]
  have h0 : (ct ++ (leBytes 8 y.txSeq ++ ack) ++ tag).take 224 = ct := by
    rw [List.append_assoc, List.take_append_of_le_length (by omega), List.take_of_length_le (by omega)]
  have hd : (ct ++ (leBytes 8 y.txSeq ++ ack) ++ tag).drop 224 = leBytes 8 y.txSeq ++ ack ++ tag := by
    rw [List.append_assoc, List.drop_append_of_le_length (by omega), List.drop_eq_nil_of_le (by omega), List.nil_append]
  have h8 : cut (ct ++ (leBytes 8 y.txSeq ++ ack) ++ tag) 224 8 = leBytes 8 y.txSeq := by
    rw [cut, hd, List.append_assoc, List.take_append_of_le_length (by rw [ha]), List.take_of_length_le (by rw [ha])]
  have h16 : cut (ct ++ (leBytes 8 y.txSeq ++ ack) ++ tag) 224 16 = leBytes 8 y.txSeq ++ ack := by
    rw [cut, hd, List.take_append_of_le_length (by simp [ha, hackl]), List.take_of_length_le (by simp [ha, hackl])]
  have h9 : cut (ct ++ (leBytes 8 y.txSeq ++ ack) ++ tag) 232 8 = ack := by
    rw [cut, show 232 = 224 + 8 from rfl, ← List.drop_drop, hd, List.append_assoc, List.drop_append_of_le_length (by rw [ha]),
      List.drop_eq_nil_of_le (by rw [ha]), List.nil_append, List.take_append_of_le_length (by omega), List.take_of_length_le (by omega)]
  have ht : cut (ct ++ (leBytes 8 y.txSeq ++ ack) ++ tag) 240 16 = tag := by
    rw [cut, show 240 = 224 + 16 from rfl, ← List.drop_drop, hd, List.drop_append_of_le_length (by simp [ha, hackl]),
      List.drop_eq_nil_of_le (by simp [ha, hackl]), List.nil_append, List.take_of_length_le (by omega)]
  refine ⟨?_, by rw [hs]; simp [hctl, ha, hackl, htl], by rw [hs, h8], by rw [hs, h9]⟩
  rw [hs]
  simp only [openFlit, hx, gcmOpen, h0, h8, h16, ht, htag, if_true, hctl]
  show some (gctr 14 _ _ _ _) = _
  rw [hg.1]
theorem test_witness_PeerLinkEventsAndReplay_flit :
    let s := up.setPeer 0 { linkUp := true, readyOut := true, state := .up, rxKey := some key0 }
    let h := (packetSlots readPkt).headD []
    (s.home.filter = [] ∧ (s.peer 0).waiting = [] ∧ (s.peer 0).linkUp = true ∧ (s.peer 0).readyOut = true ∧ (s.peer 0).replayBuf = [] ∧
      (s.peer 0).slots = [] ∧ (s.peer 0).rxKey ≠ none ∧ slotsOf 7 body0 = h :: List.replicate 6 (zeros 32) ∧ allZero h = false ∧
      slotCount (headOf h) = 1 ∧ packetOf [h] = readPkt ∧ crc32c (h.take 28) = fld h 28 4 ∧ headOk h readPkt = true ∧
      readPkt.dst.toNat = s.ownId ∧ s.inSeed = false ∧ s.warmStart = false ∧ s.warmReset = false ∧
      1 ≤ (s.peer 0).room.getD 0 0 ∧ readPkt.cls = .req ∧ readPkt.opcode ≠ 0x08 ∧ readPkt.opcode ≠ 0x09) ∧
    openFlit (s.peer 0) flit0 = some body0 ∧ flit0.length = 256 ∧ fld flit0 224 8 = (s.peer 0).rxNext ∧
    bit (fld flit0 232 8) 63 = false := by
  intro s h
  have hf := openFlit_sealFlit (s.peer 0) { ({} : PeerPort) with txKey := some key0 } key0 (packetSlots readPkt) false rfl rfl rfl
  refine ⟨by decide +kernel, hf.1, hf.2.1, ?_, ?_⟩
  · rw [fld, flit0, hf.2.2.1]; decide
  · rw [fld, flit0, hf.2.2.2]; decide +kernel

theorem test_witness_PeerLinkEventsAndReplay :
    (let s : State := { up with peers := [] }
     (s.peer 3).linkUp = false ∧ s.portsOpen = true ∧ (s.peer 3).readyOut = false ∧ s.charted = true ∧
       s.theChart.ports.peerEnable.getLsbD 3 = true ∧ s.fenced.peer.getLsbD 3 = false ∧ (s.clock .sh).dead.getLsbD 5 = false) ∧
    (((at_ 8).peer 0).linkUp = false ∧ (at_ 8).portsOpen = false) ∧
    (up.home.filter = [] ∧ (up.peer 0).waiting = [] ∧ (up.peer 0).linkUp = true ∧ (up.peer 0).state = .up) ∧
    ((up.peer 0).readyOut = true ∧ (zeros 224 ++ leBytes 8 1 ++ zeros 24).length = 256 ∧
      fld (zeros 224 ++ leBytes 8 1 ++ zeros 24) 224 8 ≠ (up.peer 0).rxNext) ∧
    ((up.peer 3).readyOut = false ∧ (up.peer 0).replayBuf.length < 512 ∧
      ¬ ({ replayBuf := List.replicate 512 (5, []) } : PeerPort).replayBuf.length < 512) ∧
    (let s := up.setPeer 0 { linkUp := true, readyOut := true, state := .up, replayBuf := [(5, zeros 256)], badReplay := 7, lastReplayAck := 5 }
     (s.peer 0).readyOut = true ∧ s.home.filter = [] ∧ (s.peer 0).waiting = [] ∧ (s.peer 0).replayBuf = [(5, zeros 256)] ∧ (s.peer 0).badReplay < 8 ∧
       ∀ e, e ∈ (s.peer 0).replayBuf → 2 ^ 62 ≤ ((4 : BitVec 63).toNat + 2 ^ 63 - e.1) % 2 ^ 63) ∧
    (let s := up.setPeer 0 { linkUp := true, readyOut := true, state := .up, replayBuf := [(5, zeros 256)], badReplay := 8, lastReplayAck := 5 }
     (s.peer 0).replayBuf = [(5, zeros 256)] ∧ (s.peer 0).lastReplayAck = 5 ∧ 8 ≤ (s.peer 0).badReplay ∧ s.ctrlLost .sh = false) ∧
    (let s := up.setPeer 0 { linkUp := true, readyOut := true, state := .up, replayBuf := List.replicate 512 (5, []) }
     s.home.filter = [] ∧ (s.peer 0).waiting = [] ∧ (s.peer 0).readyOut = true ∧ (s.peer 0).rxDiscard = false ∧ 512 ≤ (s.peer 0).replayBuf.length) ∧
    (up.peer 0).txKey = none := by decide +kernel

/-- `far` before it is sent. -/
def ready (dst : Nat) : Access := { far with pa := BitVec.ofNat 60 (dst * 2 ^ 48), stage := .peerReady }

theorem test_witness_PeerRequestsAreTracked :
    (let s : State := { up with accesses := [ready 0] }
     s.acc 9 = some (ready 0) ∧ (ready 0).stage = .peerReady ∧ s.warmReset = false ∧ ((ready 0).kind = .atomic → (ready 0).near ≠ none) ∧
       s.trackRoom = true ∧ s.reserveRoom (ready 0) = true ∧ s.portFor (s.requestOf (ready 0)) = .inl .remoteUnreachable) ∧
    (let s : State := { up with accesses := [ready 2] }
     s.acc 9 = some (ready 2) ∧ (ready 2).stage = .peerReady ∧ s.trackRoom = true ∧ s.reserveRoom (ready 2) = true ∧ s.portFor (s.requestOf (ready 2)) = .inr 1 ∧
       (0 : BitVec 16) ∉ s.usedTags) ∧
    (let a := { ready 2 with kind := .read, purpose := .descFetch 0 }
     let s : State := { up with accesses := [a], chart := { up.chart with chart := some { chart3 with quota := [0, 4096] } } }
     s.acc 9 = some a ∧ s.portFor (s.requestOf a) = .inr 1 ∧ (s.trackRoom = false ∨ s.reserveRoom a = false)) ∧
    (let s := asked (pk .req 1) 1
     s.tracked 77 = some (trk 1) ∧ (trk 1).opcode ≠ 0x10 ∧ (trk 1).opcode ≠ 0x11 ∧ s.acc (trk 1).access = some far) := by
  decide +kernel

/-- A MGMT packet of a subop for instance `t`. -/
def mg (sub t : Nat) (b : Bytes) : Packet := { withData (pk .req 8 sub) b with aux := BitVec.ofNat 32 t }
/-- `got k` at step 11, its chart in this state. -/
def boot (k : Packet) (st : ChartState) : State := { got k with
  start := { step := 11 }, chart := { state := st, chart := some chart3, source := 2 } }

theorem test_witness_ManagementPacketsAreServed :
    (let k := mg 1 3 []
     k.opcode ≠ 0x09 ∧ up.holdsPackets 0 = false ∧ up.portFor (up.answer .rsp 0x1B 2 k.tag .ok 0 [] 0) = .inr 1 ∧
       up.portFor (up.answer .rsp 0x1B 0 k.tag .ok 0 [] 0) = .inl .remoteUnreachable) ∧
    (let k := pk .rsp 0x1B
     let s := up.setPeer 0 { linkUp := true, inbox := [k], keyx := { running := true, awaitTag := some 77, sent := 1 } }
     s.holdsPackets 0 = false ∧ (s.peer 0).inbox.find? (fun x => x.opcode == 0x1B) = some k ∧ (s.peer 0).keyx.awaitTag = some k.tag ∧
       statusOf k.status.toNat = .ok ∧ (s.peer 0).keyx.running = true ∧ (s.peer 0).keyx.sent + 1 < 3) ∧
    (let k := mg 1 3 []
     let s := boot k .rejected
     s.mgmtServes = true ∧ (s.peer 0).inbox.find? (fun x => x.opcode == 0x08 && x.subop.toNat == 1) = some k ∧ (mgmtTarget k).toNat = s.ownId ∧
       s.chartMayBegin = true) ∧
    (let k := { mg 2 3 (zeros 256) with addr := 255 }
     let s := boot k .loading
     s.mgmtServes = true ∧ (s.peer 0).inbox.find? (fun x => x.opcode == 0x08 && x.subop.toNat == 2) = some k ∧ (mgmtTarget k).toNat = s.ownId ∧
       s.chart.state = .loading ∧ s.chart.source = 2 ∧ k.addr.toNat % 65536 * 256 + k.payload.length ≤ 65536) ∧
    (let k := mg 3 3 []
     let s := boot k .loading
     (s.peer 0).inbox.find? (fun x => x.opcode == 0x08 && x.subop.toNat == 3) = some k ∧ s.chart.state = .loading ∧ s.chart.source = 2) ∧
    (let k := mg 4 3 (zeros 256)
     let s := boot k .accepted
     (s.peer 0).inbox.find? (fun x => x.opcode == 0x08 && x.subop.toNat == 4) = some k ∧ (mgmtTarget k).toNat = s.ownId ∧
       s.stageOf false (mgmtTarget k) = none) ∧
    (let k := mg 5 3 (zeros 15)
     let s := boot k .accepted
     (s.peer 0).inbox.find? (fun x => x.opcode == 0x08 && x.subop.toNat == 5) = some k ∧ k.payload.length ≠ 16) ∧
    (let k := mg 5 3 (leBytes 8 (2 ^ 48 - 64) ++ [127] ++ zeros 7)
     let x : RelayStage := { isChart := false, target := 3, bytes := [1], place := 0 }
     let s : State := { boot k .accepted with relay := { up.relay with stages := [x] } }
     (s.peer 0).inbox.find? (fun x => x.opcode == 0x08 && x.subop.toNat == 5) = some k ∧ (mgmtTarget k).toNat = s.ownId ∧
       k.payload.length = 16 ∧ fld k.payload 0 8 % 64 = 0 ∧ fld k.payload 0 8 < 2 ^ 48 ∧ byteAt k.payload 8 < 128 ∧ s.startAt 11 = true ∧
       s.fw.busy = false ∧ s.stageOf false (mgmtTarget k) = some x) ∧
    (let k := mg 6 3 []
     ((got k).peer 0).inbox.find? (fun x => x.opcode == 0x08 && x.subop.toNat == 6) = some k ∧ k.payload = [] ∧
       (mgmtTarget k).toNat = (got k).ownId ∧ (mgmtTarget (mg 6 4 [])).toNat ≠ (got k).ownId) ∧
    (pk .req 9).opcode = 0x09 ∧
    (let k := { pk .rsp 0x1B with status := BitVec.ofNat 8 (statusCode .malformed) }
     let s := up.setPeer 0 { linkUp := true, inbox := [k], keyx := { running := true, awaitTag := some 77 } }
     (s.peer 0).inbox.find? (fun x => x.opcode == 0x1B) = some k ∧ (s.peer 0).keyx.awaitTag = some k.tag ∧ statusOf k.status.toNat ≠ .ok) ∧
    (let k := pk .rsp 0x1B
     let w : MgmtWait := { tag := 77, pkt := mg 6 4 [1], tries := 2 }
     let s : State := { got k with relay := { up.relay with waits := [w] } }
     up.ctrlLost .sh = false ∧ (s.peer 0).keyx.awaitTag ≠ some k.tag ∧ s.relay.waits.find? (fun x => x.tag == k.tag) = some w ∧ w.pkt.subop = 6 ∧
       w.pkt.payload ≠ [] ∧ w.tries < 3) := by decide +kernel

/-- A port in key exchange, with this packet received and this state of the exchange. -/
def keying (k : Packet) (x : Keyx) : State :=
  up.setPeer 0 { linkUp := true, readyOut := true, state := .keying, inbox := [k], keyx := { x with running := true, awaitTag := some 78 } }
/-- A KEYX packet. -/
def kx (step : Nat) (b : Bytes) : Packet := withData (pk .req 9 step) b
/-- The exchange before its PROOF: the far IDENTITY holds the public key of the scalar 1. -/
def beforeProof : Keyx := { ident := some (pubOf 1 ++ zeros 96), sent := 3 }
/-- The exchange with all four packets sent and the far SHARE's point, the public key of the scalar 1. -/
def lastProof : Keyx := { ident := some (pubOf 1 ++ zeros 96), share := some (pubOf 1 ++ zeros 40), sent := 4 }
/-- The far PROOF: the exchange's digest signed with the scalar 1. -/
def proof1 : Bytes := ecdsaSign 1 2 ((keying (kx 4 []) beforeProof).keyxT 0)

theorem test_witness_KeyExchangeStepsAreTaken_proof :
    let k := kx 4 proof1
    let s := keying k beforeProof
    (s.peer 0).inbox.find? (fun x => x.opcode == 0x09 && x.subop.toNat == 4) = some k ∧ k.payload.length = 96 ∧
    (s.peer 0).keyx.running = true ∧ (s.peer 0).keyx.awaitTag ≠ none ∧ (s.peer 0).keyx.sent < 4 ∧
    ecdsaVerify (((s.peer 0).keyx.ident.getD []).take 96) (s.keyxT 0) k.payload = true ∧
    ecdsaVerify (((s.peer 0).keyx.ident.getD []).take 96) (s.keyxT 0) (zeros 96) = false := by decide +kernel

theorem test_witness_KeyExchangeStepsAreTaken_up :
    let k := kx 4 (ecdsaSign 1 2 ((keying (kx 4 []) lastProof).keyxT 0))
    let s : State := { keying k lastProof with fuses := { up.fuses with policy := 1 } }
    s.holdsPackets 0 = false ∧ (s.peer 0).inbox.find? (fun x => x.opcode == 0x09 && x.subop.toNat == 4) = some k ∧
    k.payload.length = 96 ∧ (s.peer 0).keyx.running = true ∧ 4 ≤ (s.peer 0).keyx.sent ∧
    ecdsaVerify (((s.peer 0).keyx.ident.getD []).take 96) (s.keyxT 0) k.payload = true ∧ s.fuses.policy.getLsbD 0 = true ∧
    ((s.peer 0).keyx.share.getD []).take 96 = pubOf 1 := by decide +kernel

theorem test_witness_KeyExchangeStepsAreTaken :
    ((up.peer 0).inbox = [] ∧ (kx 1 (zeros 135)).payload.length ≠ 136 ∧ (kx 2 (zeros 191)).payload.length ≠ 192 ∧
      (kx 3 (zeros 97)).payload.length ≠ 96 ∧ (kx 4 []).payload.length ≠ 96 ∧
      ((got (kx 4 [])).peer 0).inbox.find? (fun x => x.opcode == 0x09 && x.subop.toNat == 4) = some (kx 4 [])) ∧
    (let k := kx 1 (zeros 136)
     let s := keying k {}
     (s.peer 0).inbox.find? (fun x => x.opcode == 0x09 && x.subop.toNat == 1) = some k ∧ k.payload.length = 136 ∧ (s.peer 0).keyx.share = none) ∧
    (let k := kx 2 (zeros 192)
     let s := keying k {}
     (s.peer 0).inbox.find? (fun x => x.opcode == 0x09 && x.subop.toNat == 2) = some k ∧ k.payload.length = 192 ∧
       (s.peer 0).keyx.ident = none ∧ ((keying k beforeProof).peer 0).keyx.ident ≠ none) ∧
    (let k := kx 3 (zeros 96)
     let s := keying k {}
     (s.peer 0).inbox.find? (fun x => x.opcode == 0x09 && x.subop.toNat == 3) = some k ∧ k.payload.length = 96 ∧
       (s.peer 0).keyx.issuer = none ∧ ((keying k { issuer := some [] }).peer 0).keyx.issuer ≠ none) ∧
    (((keying (kx 1 []) { tries := 2 }).peer 0).keyx.awaitTag = some 78 ∧ ((keying (kx 1 []) { tries := 2 }).peer 0).keyx.tries < 3 ∧
      3 ≤ ((keying (kx 1 []) { tries := 3 }).peer 0).keyx.tries) ∧
    (let s := keying (kx 1 []) {}
     s.charted = true ∧ s.theChart.ports.peerEnable.getLsbD 0 = true ∧ s.fenced.peer.getLsbD 0 = false ∧ (s.peer 0).state = .keying ∧
       (s.peer 0).waiting = []) := by decide +kernel

/-! ### Witnesses: engines and memory ports -/

/-- A beat of port 0 with these first bytes. -/
def beat (b : Bytes) : EarlyBeat := { port := 0, tag := 5, data := b, be := 0 }
/-- `up` with that beat waiting, the quotas of chart3 being free. -/
def beaten (b : Bytes) : State := { up with beats := [beat b] }
/-- What a request needs: the block takes it, its port and stream are on, its form is right. -/
def takes (s : State) (rq : EngineReq) : Bool :=
  s.engineReady && s.engReqs.isEmpty && s.portOn 0 && decide (rq.len ≠ 0) && decide (rq.len.toNat ≤ 256) && decide (rq.scope.toNat ≤ 4)
    && s.streamUse rq.stream.toNat && s.partOn (s.streamPart rq.stream.toNat) && !s.modeHeld (.enginePort 0)
    && [Link.slA, .slB, .slC].all (fun l => (s.linkFault l).isNone)

theorem test_witness_EngineRequestsAreCheckedInOrder :
    (up.engineReady = true ∧ up.engReq 0 5 = none ∧ up.portOn 0 = true ∧ up.portOn 1 = false ∧ (0 : BitVec 4).toNat = 0 ∧
      8 < (9 : BitVec 4).toNat ∧ up.beats = []) ∧
    ((ereq 0).len = 0 ∧ 256 < (ereq 257).len.toNat ∧ 4 < (5 : BitVec 3).toNat ∧ ({ up with mgmt := {} } : State).feature 8 = false) ∧
    (¬ ((ereq 256).len = 0 ∨ 256 < (ereq 256).len.toNat ∨ 4 < (ereq 256).scope.toNat) ∧ up.streamUse (2 : BitVec 8).toNat = false ∧
      up.streamUse (ereq 256).stream.toNat = true ∧ up.partOn (up.streamPart (ereq 256).stream.toNat) = true ∧
      ({ up with parts := [(0, .disabled)] } : State).partOn 0 = false ∧ up.feature 8 = true ∧ (ereq 16 8).va ≠ 0 ∧ (ereq 8).len.toNat ≠ 16) := by
  decide +kernel

theorem test_witness_EngineRequestsArePerformed :
    (takes up (ereq 256 0xFF00) = true ∧ up.beats = [] ∧ (ereq 256 0xFF00).len.toNat ≤ 2 ^ 21 - (ereq 256 0xFF00).va.toNat % 2 ^ 21 ∧
      256 * (((ereq 256 0xFF00).va.toNat % 256 + (ereq 256 0xFF00).len.toNat + 255) / 256) = 256 ∧ up.holdFree 0 256 = true) ∧
    (takes up (ereq 256 0x1FFF80) = true ∧ 2 ^ 21 - (ereq 256 0x1FFF80).va.toNat % 2 ^ 21 < (ereq 256 0x1FFF80).len.toNat ∧
      256 * (((ereq 256 0x1FFF80).va.toNat % 256 + (ereq 256 0x1FFF80).len.toNat + 255) / 256) = 512 ∧ up.holdFree 0 512 = true) ∧
    (let s : State := { up with chart := { up.chart with chart := some { chart3 with quota := [0, 4096] } } }
     takes s (ereq 256 0xFF00) = true ∧ s.beats = [] ∧ s.holdFree 0 256 = false) ∧
    (let s := beaten (zeros 128)
     takes s (ereq 128 0x80) = true ∧ s.beats = [beat (zeros 128)] ∧ (beat (zeros 128)).tag = (ereq 128).tag ∧
       (ereq 128 0x80).va.toNat % 2 ^ 21 + (ereq 128 0x80).len.toNat ≤ 2 ^ 21 ∧ (ereq 128).len.toNat ≤ 128 ∧ s.holdFree 0 256 = true) ∧
    (let b := leBytes 8 9 ++ zeros 8 ++ [1, 8]
     let r : EngReq := { port := 0, op := .atomic, rq := ereq 8 0xF8, part := 0, order := 0, beats := [], enables := [], nBeats := 0,
                         started := false, parts := [], waiting := false }
     takes (beaten b) (ereq 8 0xF8) = true ∧ atomicBeatOk (r.addBeat (beat b)) = true ∧ (beaten b).holdFree 0 256 = true) ∧
    (let b := leBytes 8 (bell 31 5).toNat
     let s : State := { beaten b with queues := [(31, { dbEnable := true, sizeLog2 := 4 })] }
     takes s (ereq 8 (4096 * 31)) = true ∧ (ereq 8 (4096 * 31)).va.toNat = 4096 * 31 ∧
       s.doorbellCheck 31 (BitVec.ofNat 64 (fld (padTo b 128) 0 8)) (doorbellOk 31 (BitVec.ofNat 64 (fld (padTo b 128) 0 8))) (some 0) = 0) ∧
    (let b := leBytes 8 31 ++ leBytes 8 5
     let s : State := { beaten b with tide := { up.tide with values := [(31, 5)] } }
     takes s (ereq 16) = true ∧ s.tideInRange (fld (padTo b 128) 0 2) (some 0) = true ∧
       (s.tideVal (fld (padTo b 128) 0 2) - BitVec.ofNat 64 (fld (padTo b 128) 8 8)).toNat < 2 ^ 63 ∧
       2 ^ 63 ≤ ((beaten b).tideVal (fld (padTo b 128) 0 2) - BitVec.ofNat 64 (fld (padTo b 128) 8 8)).toNat) ∧
    (let b := leBytes 8 (2 ^ 41) ++ [7]
     let r : EngReq := { port := 0, op := .alloc, rq := ereq 16, part := 0, order := 0, beats := [], enables := [], nBeats := 0,
                         started := false, parts := [], waiting := false }
     takes (beaten b) (ereq 16) = true ∧ (beaten b).feature 8 = true ∧ (ereq 16).va = 0 ∧ (ereq 16).len = 16 ∧
       allocBeatOk (r.addBeat (beat b)) = true) := by decide +kernel

/-- An object record of a partition: VA and size, with the crc. -/
def record (p : Byte) (va size : Nat) : Bytes :=
  let b := [p, 0, 0, 0] ++ leBytes 8 va ++ leBytes 8 size ++ zeros 36
  zeros 4 ++ b ++ leBytes 4 (crc32c b)
/-- A pool of 512 slots; slot 0 in use, one page on the stack. -/
def pool0 : Pool := { arenaBase := 0, metaBase := 0, slots := 512, stack := [BitVec.ofNat 60 (3 * 2 ^ 48 + 2 ^ 21)],
                      pages := [(0, BitVec.ofNat 60 (3 * 2 ^ 48))], used := [0], start := 1 }

/-- A FREE in hand whose record is being read. -/
def freeReq : EngReq :=
  { EngReq.addBeat { port := 0, op := .free, rq := ereq 8, part := 0, order := 0, beats := [], enables := [], nBeats := 0,
                     started := false, parts := [], waiting := false } (beat (leBytes 8 64)) with started := true }
/-- The status that ends it, if it goes no further, where the record reads so. -/
def freeEnds (rec : Bytes) : Option Status :=
  match State.freeNew { up.setPool 0 (some pool0) with engReqs := [freeReq], nextOrder := 1 } (.engine 0 5) (some 0) rec 64 1 with
  | .inl st => some st
  | .inr _ => none

theorem test_witness_EngineRequestsArePerformed_free :
    takes { up.setPool 0 (some pool0) with beats := [beat (leBytes 8 64)] } (ereq 8) = true ∧ allocBeatOk freeReq = true ∧
    (let a := { mkAccess (.engine 0 0) (.freeRecord (.engine 0 5) 1) .read (some 0) 0 64 with va := some 64 }
     a.purpose = .freeRecord (.engine 0 5) 1 ∧ a.va = some 64 ∧ a.mc = false ∧ (a.data ++ zeros 32).length < 64 ∧
       64 ≤ (a.data ++ zeros 64).length) ∧
    freeEnds (record 0 0 1) = none ∧ freeEnds (zeros 64) = some .checkFail ∧
    freeEnds (record 1 0 1) = some .permission ∧ freeEnds (record 0 (2 ^ 21) 1) = some .malformed := by decide +kernel

/-- `up` with a request of channel 0 outstanding at memory port 3. -/
def memOut (wr : Bool) : State := { up with
  accesses := [{ mkAccess (.channel 0) (.descFetch 0) (if wr then .write else .read) (some 0) (BitVec.ofNat 60 (3 * 2 ^ 48)) 64 with
    id := 9, stage := .memPort 3 1023 }],
  mems := [(3, { out := [{ tag := 1023, access := 9, addr := 0, lines := 1, write := wr }] })] }

theorem test_witness_BeatsMemoryAnswersAndPortControl :
    (up.engineReady = true ∧ up.owedBeats = [] ∧ up.engReq 0 5 = none ∧
      ({ up with owedBeats := [(0, 5, 2)] } : State).owedBeats = [((0 : Fin 8).val, 5, 2)]) ∧
    (∀ wr ∈ [true, false], ∃ x a, ((memOut wr).mem 3).out.find? (fun t => t.tag == 1023) = some x ∧ (memOut wr).acc x.access = some a ∧
      a.purpose ≠ .ras ∧ a.agent = .channel 0 ∧ ((memOut wr).core (3 + 0 / 16)).state ≠ .watchdog ∧ x.write = wr) ∧
    (let s := up.setMem 3 { dead := [(7, true)] }
     s.ctrlLost .hd = false ∧ (s.mem 3).out.find? (fun t => t.tag == 7) = none ∧ (s.mem 3).dead.find? (fun d => d.1 == 7) = some (7, true)) ∧
    (up.reach .cp (0x100E00 + 4 * 7) = true ∧ up.theChart.ports.engineEnable.getLsbD 7 = true ∧ up.fenced.engine.getLsbD 7 = false) ∧
    (let s : State := { up with thermal := { up.thermal with stackStates := [(3, { throttled := true })] } }
     (s.stackState 3).throttled = true ∧ s.theChart.thermal.useThrottleReq = false) := by
  refine ⟨by decide +kernel, ?_, by decide +kernel, by decide +kernel, by decide +kernel⟩
  intro wr h
  cases wr
  · exact ⟨_, _, rfl, rfl, by decide, rfl, by decide, rfl⟩
  · exact ⟨_, _, rfl, rfl, by decide, rfl, by decide, rfl⟩

/-! ### Witnesses: charts and firmware -/

/-- `at_ n` with a chart delivery in this state and with these bytes staged. -/
def deliver (n : Nat) (st : ChartState) (b : Bytes) : State := { at_ n with
  chart := { state := st, source := 1, staged := b }, fuses := { sampled := true, policy := 1 } }

theorem test_witness_ChartDeliveryFillsStaging :
    ((deliver 6 .empty []).reach .cp 0x30 = true ∧ (deliver 6 .empty []).reach .cp 0x34 = true ∧ 6 ≤ (deliver 6 .empty []).start.step ∧
      (deliver 6 .empty []).start.stopped = false ∧ (deliver 6 .empty []).chart.state = .empty) ∧
    ((deliver 5 .empty []).reach .cp 0x30 = true ∧ (deliver 5 .empty []).reach .cp 0x34 = true ∧ (deliver 5 .empty []).start.step < 6) ∧
    ((deliver 6 .loading []).chart.state = .loading ∧ (deliver 6 .loading []).chart.source = 1 ∧
      (deliver 6 .loading []).chart.staged.length + 4 ≤ 65536 ∧ (deliver 6 .empty []).chart.state ≠ .loading) := by decide +kernel

theorem test_witness_ChartDeliveryFillsStaging_full (b : Bytes) (h : b.length = 65536) :
    (deliver 6 .loading b).chart.state = .loading ∧ 65536 < (deliver 6 .loading b).chart.staged.length + 4 := by
  simp [deliver, h]

theorem test_witness_ChartIsAcceptedWholeOrRejected_fails :
    let s := deliver 6 .checking (zeros 64)
    s.chart.state = .checking ∧ s.start.step = 6 ∧ s.start.stopped = false ∧ s.warmReset = false ∧ (at_ 6).chart.state ≠ .checking ∧
    s.ctrlLost .sh = false ∧ s.start.step ≠ 10 ∧
    (chartSpoilt s.chart.staged s.chart.stagedBad).or (firstCheck (chartChecks s.chart.staged s.chart.overLong s.fuses.keyHash
      (s.fuses.policy.getLsbD 0) s.fenced (if s.inSeed then some s.chart.image else none))) = some (1, 0, 0) ∧
    (chartSpoilt s.chart.staged [3]).isSome = true := by decide +kernel

/-- A section with its header and crc. -/
def section_ (t : Nat) (count : Nat) (body : Bytes) : Bytes :=
  let h := [BitVec.ofNat 8 t, 1] ++ leBytes 2 count ++ leBytes 4 body.length ++ zeros 4
  h ++ leBytes 4 (crc32c (h ++ body)) ++ body
/-- The header of a seed chart of instance 3, a worker under package manager 0 and pod manager 1, with its crc. -/
def seedHead : Bytes :=
  let h := leBytes 4 0x54524843 ++ leBytes 2 1 ++ leBytes 2 4 ++ leBytes 4 0x01020000 ++ leBytes 4 2280 ++ [0, 1] ++ leBytes 2 3 ++
    leBytes 4 7 ++ zeros 36
  h ++ leBytes 4 (crc32c h)
/-- The first twelve bytes of the header of ROUTES. -/
def routesHead : Bytes := [10, 1] ++ leBytes 2 4096 ++ leBytes 4 2048 ++ zeros 4
/-- What stands before the crc of ROUTES: PORTS with every memory port, and CLOCKS. -/
def seedFront : Bytes :=
  seedHead ++ section_ 1 0 (zeros 13 ++ [15, 0, 0]) ++ section_ 2 0 (leBytes 4 4096 ++ zeros 4) ++ routesHead
/-- The routes: none. -/
def noRoutes : Bytes := List.replicate 2048 0
/-- A level record without children. -/
def noKids (parent : Nat) : Bytes := leBytes 2 parent ++ [0, 0] ++ List.replicate 16 0xFF ++ zeros 4
/-- HIERARCHY. -/
def seedBack : Bytes := section_ 11 0 (leBytes 2 0 ++ leBytes 2 1 ++ leBytes 2 2 ++ zeros 2 ++ noKids 0 ++ noKids 0xFFFF ++ noKids 0xFFFF)
/-- The seed chart: no instance is routed to. -/
def seedImage : Bytes := seedFront ++ (leBytes 4 (crc32c (routesHead ++ noRoutes)) ++ (noRoutes ++ seedBack))

theorem firstFail_none : ∀ l : List ChartReq, (∀ x, x ∈ l → x.1 = true) → firstFail l = none := by
  intro l
  induction l with
  | nil => exact fun _ => rfl
  | cons x l ih =>
    intro h
    obtain ⟨ok, a⟩ := x
    have := h (ok, a) (by simp)
    simp only at this
    simp only [firstFail, this, if_true]
    exact ih (fun y hy => h y (by simp [hy]))

theorem all_of_firstFail : ∀ l : List ChartReq, firstFail l = none → ∀ x, x ∈ l → x.1 = true := by
  intro l
  induction l with
  | nil => simp
  | cons y l ih =>
    intro h x hx
    obtain ⟨ok, a⟩ := y
    simp only [firstFail] at h
    split at h
    · rcases List.mem_cons.mp hx with rfl | hx
      · assumption
      · exact ih h x hx
    · exact absurd h (by simp)

theorem seed_length : seedFront.length = 132 := by decide +kernel

theorem noRoutes_length : noRoutes.length = 2048 := List.length_replicate

theorem seed_at_crc : seedImage.drop 132 = leBytes 4 (crc32c (routesHead ++ noRoutes)) ++ (noRoutes ++ seedBack) := by
  rw [seedImage, ← seed_length, List.drop_left]

theorem seed_at_routes : seedImage.drop 136 = noRoutes ++ seedBack := by
  rw [show 136 = 132 + 4 from rfl, ← List.drop_drop, seed_at_crc]
  exact List.drop_left' rfl

theorem seed_route_byte (d : Nat) (h : d < 4096) : byteAt seedImage (136 + d / 2) = 0 := by
  have hd : d / 2 < 2048 := by omega
  rw [byteAt, ← List.drop_drop, seed_at_routes, List.drop_append_of_le_length (by rw [noRoutes_length]; omega), noRoutes,
    List.drop_replicate]
  obtain ⟨m, hm⟩ : ∃ m, 2048 - d / 2 = m + 1 := ⟨2047 - d / 2, by omega⟩
  rw [hm, List.replicate_succ]; rfl

theorem seed_sections : sectionsOf seedImage = [{ ty := 1, ver := 1, pos := 64, count := 0, len := 16 },
    { ty := 2, ver := 1, pos := 96, count := 0, len := 8 }, { ty := 10, ver := 1, pos := 120, count := 4096, len := 2048 },
    { ty := 11, ver := 1, pos := 2184, count := 0, len := 80 }] := by decide +kernel

theorem seed_ranges : firstFail (chkRanges seedImage (chartOf seedImage)) = none := by
  apply firstFail_none
  have h0 : firstFail ((decide (byteAt seedImage 0x10 ≤ 3), 0, 0x10) ::
      (rangesOf seedImage (chartOf seedImage) { ty := 1, ver := 1, pos := 64, count := 0, len := 16 } ++
       rangesOf seedImage (chartOf seedImage) { ty := 2, ver := 1, pos := 96, count := 0, len := 8 } ++
       rangesOf seedImage (chartOf seedImage) { ty := 11, ver := 1, pos := 2184, count := 0, len := 80 })) = none := by decide +kernel
  have ha := all_of_firstFail _ h0
  have hr : ∀ x, x ∈ rangesOf seedImage (chartOf seedImage) { ty := 10, ver := 1, pos := 120, count := 4096, len := 2048 } → x.1 = true := by
    have hp : (chartOf seedImage).routes = (List.range 4096).map (fun d =>
        BitVec.ofNat 4 (byteAt seedImage (136 + d / 2) / 2 ^ (4 * (d % 2)))) := by
      have hk : secOf seedImage 0x0A = some { ty := 10, ver := 1, pos := 120, count := 4096, len := 2048 } := by
        rw [secOf, seed_sections]; decide
      simp only [chartOf, withSec, hk, ChartSec.body]
    have hz : ∀ m, m ∈ (chartOf seedImage).routes → m = 0 := by
      intro m hm
      rw [hp, List.mem_map] at hm
      obtain ⟨d, hd, rfl⟩ := hm
      rw [seed_route_byte d (by simpa using hd)]; simp
    intro x hx
    simp only [rangesOf, eachEntry, List.mem_flatMap, List.mem_cons, List.not_mem_nil, or_false] at hx
    obtain ⟨⟨d, m⟩, hm, rfl⟩ := hx
    have := hz m (List.of_mem_zip hm).2
    subst this
    simp
  intro x hx
  simp only [chkRanges, seed_sections, List.flatMap_cons, List.flatMap_nil, List.append_nil, List.mem_cons, List.mem_append] at hx
  rcases hx with rfl | h | h | h | h
  · exact ha _ (by simp)
  · exact ha _ (by simp [h])
  · exact ha _ (by simp [h])
  · exact hr _ h
  · exact ha _ (by simp [h])

theorem seed_section_crc : firstFail (chkSectionCrc seedImage) = none := by
  have hb : cut seedImage 136 2048 = noRoutes := by
    rw [cut, seed_at_routes, List.take_append_of_le_length (by rw [noRoutes_length]), List.take_of_length_le (by rw [noRoutes_length])]
  have hh : cut seedImage 120 12 = routesHead := by
    have h : (seedFront.drop 120) = routesHead := by decide +kernel
    rw [cut, seedImage, List.drop_append_of_le_length (by rw [seed_length]; decide), h]
    exact List.take_left' rfl
  have hc : cut seedImage 132 4 = leBytes 4 (crc32c (routesHead ++ noRoutes)) := by
    rw [cut, seed_at_crc]; exact List.take_left' rfl
  have ho : firstFail ([{ ty := 1, ver := 1, pos := 64, count := 0, len := 16 }, { ty := 2, ver := 1, pos := 96, count := 0, len := 8 },
      { ty := 11, ver := 1, pos := 2184, count := 0, len := 80 }].map (fun (k : ChartSec) =>
        (crc32c (cut seedImage k.pos 12 ++ cut seedImage k.body k.len) == fld seedImage (k.pos + 0x0C) 4, k.ty, k.pos + 0x0C))) = none := by
    decide +kernel
  have ha := all_of_firstFail _ ho
  apply firstFail_none
  intro x hx
  rw [chkSectionCrc, seed_sections] at hx
  simp only [List.map_cons, List.map_nil, List.mem_cons, List.not_mem_nil, or_false] at hx ha
  rcases hx with rfl | rfl | rfl | rfl
  · exact ha _ (.inl rfl)
  · exact ha _ (.inr (.inl rfl))
  · show (crc32c (cut seedImage 120 12 ++ cut seedImage 136 2048) == fld seedImage 132 4) = true
    rw [hh, hb, fld, hc, leNat_leBytes_four _ (crc32c_lt _)]; exact beq_self_eq_true _
  · exact ha _ (.inr (.inr rfl))

theorem seed_form : firstFail (chkMagic seedImage ++ chkFormat seedImage ++ chkRelease seedImage ++ chkLength seedImage false ++
    chkHeaderCrc seedImage ++ chkOrder seedImage ++ chkMissing seedImage ++ chkSectionLength seedImage ++ chkSignature seedImage 0 ++
    chkUnsigned seedImage true ++ chkReserved seedImage) = none := by decide +kernel

theorem seed_meaning (w : Nat) : firstFail (chkHierarchy seedImage (chartOf seedImage)) = none ∧
    firstFail (chkOverlap seedImage (chartOf seedImage)) = none ∧ firstFail (chkOvercommit seedImage (chartOf seedImage) w) = none ∧
    firstFail (chkDegraded seedImage (chartOf seedImage) State.reset.fenced) = none ∧
    firstFail (chkScope seedImage (chartOf seedImage)) = none := by
  have h : ∀ t, t ∈ [3, 4, 5, 6, 7, 8, 9] → secOf seedImage t = none := by
    intro t ht
    rw [secOf, seed_sections]
    simp only [List.mem_cons, List.not_mem_nil, or_false] at ht
    rcases ht with rfl | rfl | rfl | rfl | rfl | rfl | rfl <;> decide
  refine ⟨by decide +kernel, ?_, ?_, by decide +kernel, ?_⟩
  · simp only [chkOverlap, withSec, h 3 (by decide), h 5 (by decide), h 7 (by decide), h 9 (by decide), List.append_nil, firstFail]
  · simp only [chkOvercommit, withSec, h 3 (by decide), h 4 (by decide), h 5 (by decide), h 6 (by decide), h 7 (by decide),
      List.append_nil, firstFail]
  · simp only [chkScope, withSec, h 8 (by decide), firstFail]

theorem firstCheck_cons (c : Nat) (f : Unit → List ChartReq) (rest : List (Nat × (Unit → List ChartReq))) (h : firstFail (f ()) = none)
    (hr : firstCheck rest = none) : firstCheck ((c, f) :: rest) = none := by
  simp only [firstCheck, h, hr]

/-- The seed chart passes every check where the fuses allow an unsigned chart. -/
theorem seed_passes :
    firstCheck (chartChecks seedImage false 0 true State.reset.fenced none) = none := by
  have hf := all_of_firstFail _ seed_form
  have hm : ∀ l : List ChartReq, (∀ x, x ∈ l → x ∈ chkMagic seedImage ++ chkFormat seedImage ++ chkRelease seedImage ++
      chkLength seedImage false ++ chkHeaderCrc seedImage ++ chkOrder seedImage ++ chkMissing seedImage ++ chkSectionLength seedImage ++
      chkSignature seedImage 0 ++ chkUnsigned seedImage true ++ chkReserved seedImage) → firstFail l = none :=
    fun l h => firstFail_none l (fun x hx => hf x (h x hx))
  obtain ⟨h1, h2, h3, h4, h5⟩ := seed_meaning ((List.range 32).filter (fun w => !State.reset.fenced.walkers.getLsbD w)).length
  unfold chartChecks
  refine firstCheck_cons _ _ _ (hm (chkMagic seedImage) (by intro x hx; simp only [List.mem_append, hx, true_or])) ?_
  refine firstCheck_cons _ _ _ (hm (chkFormat seedImage) (by intro x hx; simp only [List.mem_append, hx, true_or, or_true])) ?_
  refine firstCheck_cons _ _ _ (hm (chkRelease seedImage) (by intro x hx; simp only [List.mem_append, hx, true_or, or_true])) ?_
  refine firstCheck_cons _ _ _ (hm (chkLength seedImage false) (by intro x hx; simp only [List.mem_append, hx, true_or, or_true])) ?_
  refine firstCheck_cons _ _ _ (hm (chkHeaderCrc seedImage) (by intro x hx; simp only [List.mem_append, hx, true_or, or_true])) ?_
  refine firstCheck_cons _ _ _ (hm (chkOrder seedImage) (by intro x hx; simp only [List.mem_append, hx, true_or, or_true])) ?_
  refine firstCheck_cons _ _ _ (hm (chkMissing seedImage) (by intro x hx; simp only [List.mem_append, hx, true_or, or_true])) ?_
  refine firstCheck_cons _ _ _ seed_section_crc ?_
  refine firstCheck_cons _ _ _ (hm (chkSectionLength seedImage) (by intro x hx; simp only [List.mem_append, hx, true_or, or_true])) ?_
  refine firstCheck_cons _ _ _ (hm (chkSignature seedImage 0) (by intro x hx; simp only [List.mem_append, hx, true_or, or_true])) ?_
  refine firstCheck_cons _ _ _ (hm (chkUnsigned seedImage true) (by intro x hx; simp only [List.mem_append, hx, true_or, or_true])) ?_
  refine firstCheck_cons _ _ _ (hm (chkReserved seedImage) (by intro x hx; simp only [List.mem_append, hx, or_true])) ?_
  refine firstCheck_cons _ _ _ seed_ranges ?_
  refine firstCheck_cons _ _ _ h1 ?_
  refine firstCheck_cons _ _ _ h2 ?_
  refine firstCheck_cons _ _ _ h3 ?_
  refine firstCheck_cons _ _ _ h4 ?_
  refine firstCheck_cons _ _ _ h5 ?_
  exact firstCheck_cons _ _ _ rfl rfl
theorem test_witness_ChartIsAcceptedWholeOrRejected :
    let s := deliver 6 .checking seedImage
    s.chart.state = .checking ∧ s.start.step = 6 ∧ s.start.stopped = false ∧ s.warmReset = false ∧
    (chartSpoilt s.chart.staged s.chart.stagedBad).or (firstCheck (chartChecks s.chart.staged s.chart.overLong s.fuses.keyHash
      (s.fuses.policy.getLsbD 0) s.fenced (if s.inSeed then some s.chart.image else none))) = none :=
  have h : chartSpoilt seedImage [] = none := by unfold chartSpoilt; rfl
  ⟨rfl, rfl, rfl, rfl, by
    show (chartSpoilt seedImage []).or _ = none
    rw [h, Option.none_or]; exact seed_passes⟩

theorem test_witness_FirmwareImagesAreVerified :
    ((at_ 11).reach .cp 0x30108 = true ∧ (at_ 11).start.step = 11 ∧ (at_ 11).start.stopped = false ∧ (at_ 11).warmReset = false ∧
      (at_ 11).fw.busy = false) ∧
    (let s := up.modCore 6 (fun c => { c with state := .watchdog })
     s.reach .cp 0x30108 = true ∧ s.start.ready = true ∧ s.fw.busy = false ∧ (0x40 : BitVec 7) ≠ 0 ∧ (0x40 : BitVec 7).getLsbD 0 = false ∧
       ∀ c, c < 7 → (0x40 : BitVec 7).getLsbD c = true → (s.core c).state = .watchdog) ∧
    ((1 : BitVec 7).getLsbD 0 = true ∧ (at_ 11).start.ready = false) ∧
    (let s : State := { at_ 11 with fw := { busy := true, cores := 2 } }
     s.fw.busy = true ∧ (∀ a, a ∈ s.accesses → a.purpose ≠ .image) ∧ s.fw.reload = false) ∧
    (let s : State := { up with fw := { busy := true, reload := true, cores := 2 } }
     s.fw.busy = true ∧ (∀ a, a ∈ s.accesses → a.purpose ≠ .image) ∧ s.fw.reload = true ∧ s.fw.cores.getLsbD 1 = true ∧
       (s.core 1).measured = none) := by decide +kernel

theorem test_witness_WatchdogsKickAndExpire :
    (let s := up.modCore 6 (fun c => { c with state := .running })
     s.reach (.core 6) (0x30008 + 32 * 6) = true ∧ (0xA5 : BitVec 32).toNat % 256 = 0xA5 ∧ (0xA4 : BitVec 32).toNat % 256 ≠ 0xA5 ∧
       Path.core 5 ≠ .core 6 ∧ (s.core 6).state = .running) ∧
    (up.core 3).state ≠ .running := by decide +kernel

/-! ### Witnesses: rings and firmware work -/

/-- What a command needs: HARBOUR takes it, the session is open, its number is the next. -/
def accepts (s : State) (e : CmdEntry) : Bool := s.ringReady && s.mgmt.session && e.seq == s.mgmt.prevSeq + 1

theorem test_witness_RingCommandsAreChecked :
    on.ringReady = false ∧ up.ringReady = true ∧ up.mgmt.session = true ∧
    (({ up with mgmt := { up.mgmt with session := false } } : State).ringReady = true) ∧
    (({ entry 0 [] with seq := 2 } : CmdEntry).seq ≠ up.mgmt.prevSeq + 1) ∧ (entry 0 []).seq = up.mgmt.prevSeq + 1 ∧
    (entry 1 []).length.toNat ≠ 0 ∧ allZero ((cmdBytes (entry 16 (zeros 16 ++ [1]))).drop 16) = false ∧
    cmdFld (entry 32 [1]) 8 1 = 1 ∧ cmdFld (entry 32 [4]) 8 1 = 4 ∧ cmdFld (entry 40 [0, 3]) 9 1 = 3 ∧ cmdFld (entry 40 [0, 4]) 9 1 = 4 ∧
    cmdFld (entry 2 [1]) 8 1 = 1 ∧ cmdFld (entry 2 [2]) 8 1 = 2 := by decide +kernel

theorem test_witness_RingSessionsAndIndices :
    (up.reach .cp 0x30208 = true ∧ up.reach .cp 0x3021C = true ∧ ((16 : BitVec 32) - up.mgmt.cmdCons).toNat ≤ up.theChart.limits.cmdRing ∧
      up.theChart.limits.cmdRing < ((17 : BitVec 32) - up.mgmt.cmdCons).toNat ∧ (17 : BitVec 32) ≠ up.mgmt.cmdProd) ∧
    (up.ringReady = true ∧ up.mgmt.session = true ∧ (entry 0 []).seq = up.mgmt.prevSeq + 1 ∧ (entry 0 []).length = 0 ∧
      allZero (cmdBytes (entry 0 [])) = true) ∧
    (let s : State := { up with mgmt := { up.mgmt with session := false } }
     let e := entry 24 ([1, 0] ++ zeros 6 ++ [0xFF])
     s.ringReady = true ∧ s.mgmt.session = false ∧ e.length = 24 ∧ allZero ((cmdBytes e).drop 24) = true ∧ cmdFld e 8 1 = 1 ∧
       allZero (cut (cmdBytes e) 2 6) = true ∧ (∀ q, q ∈ s.queues → q.2.enable = false) ∧ s.start.step ≠ 13 ∧ (warm 13).start.step = 13 ∧
       (warm 13).start.stopped = false ∧ (warm 13).warmReset = false) ∧
    knownCommand 0x53 = false ∧ (EntryRead.timeout, (0x07 : Byte)) ∈ [(EntryRead.crcFail, (0x05 : Byte)), (.poison, 0x05), (.busError, 0x01),
      (.timeout, 0x07)] := by decide +kernel

/-- A mode change of kind 4 that waits for these units. -/
def change (ph : ModePhase) (w : List UnitRef) : ModeChange :=
  { mkChange 1 4 0 1 with phase := ph, units := [.clockUnit .sh, .clockUnit .en, .clockUnit .hd], waitFor := w }
/-- `up` with that change in hand. -/
def changing (m : ModeChange) : State := { up with mgmt := { up.mgmt with change := some m } }

theorem test_witness_ModeChangesAreTwoPhase :
    (let e := entry 32 [4, 0, 0, 0, 1]
     accepts up e = true ∧ e.length = 32 ∧ allZero ((cmdBytes e).drop 32) = true ∧ up.modeFieldsOk e = true ∧ cmdFld e 8 1 = 4 ∧
       up.mgmt.change = none ∧ up.mgmt.changes = [] ∧ (changing (change .prepare [])).modeFieldsOk e = true ∧
       accepts (changing (change .prepare [])) e = true) ∧
    (let m := change .prepare [.clockUnit .sh, .clockUnit .en]
     (changing m).mgmt.change = some m ∧ m.orphan = false ∧ .clockUnit .en ∈ m.waitFor ∧ .clockUnit .en ∉ m.gone ∧ m.phase = .prepare ∧
       (changing m).unitReady m (.clockUnit .en) = true ∧ m.waitFor.erase (.clockUnit .en) ≠ []) ∧
    (let m := change .prepare [.clockUnit .hd]
     m.phase = .prepare ∧ (changing m).unitReady m (.clockUnit .hd) = true ∧ m.waitFor = [.clockUnit .hd] ∧ m.units ≠ [] ∧ m.kind ≠ 3) ∧
    (let m := change .commit [.clockUnit .sh, .clockUnit .en]
     m.orphan = false ∧ .clockUnit .sh ∈ m.waitFor ∧ .clockUnit .sh ∉ m.gone ∧ m.phase = .commit ∧ m.kind = 4 ∧
       m.waitFor.erase (.clockUnit .sh) ≠ [] ∧ (changing m).harbour = true ∧ (changing m).mgmt.changes = []) ∧
    (let m := { change .prepare [] with orphan := true, gone := [.clockUnit .sh] }
     (changing m).mgmt.change = some m ∧ m.orphan = true ∧ (changing m).mgmt.changes = [] ∧ .clockUnit .hd ∈ m.units ∧
       .clockUnit .hd ∉ m.gone) := by decide +kernel

theorem test_witness_ModeChangesAreTwoPhase_ends :
    (let m := change .commit [.clockUnit .en]
     (changing m).mgmt.change = some m ∧ m.orphan = false ∧ .clockUnit .en ∈ m.waitFor ∧ .clockUnit .en ∉ m.gone ∧ m.phase = .commit ∧
       m.kind = 4 ∧ m.waitFor = [.clockUnit .en] ∧ (changing m).mgmt.changes = [] ∧ (changing m).evtFull = false ∧
       (changing m).harbour = true ∧
       (∀ sl, sl ∈ [Slice.sh, .en, .hd] → ((changing m).clock sl).supplyGoal = none ∧ ((changing m).clock sl).supplyBack = false)) ∧
    (let m := change .prepare [.clockUnit .en]
     let n := mkChange 2 4 0 0
     let s : State := { changing m with mgmt := { (changing m).mgmt with changes := [n] } }
     s.mgmt.change = some m ∧ m.phase = .prepare ∧ s.harbour = true ∧ s.mgmt.changes = n :: [] ∧
       s.modeUnits n.kind.toNat n.target.toNat n.fallback ≠ []) := by decide +kernel

/-- A measurement in hand. -/
def measuring : MeasureJob :=
  { seq := 9, k := 63, doSeal := true, part := 0, va := 0, len := 3, base := 0, started := true, waits := [4], fired := false }
/-- `up` with this SEC work. -/
def secWork (l : List SecJob) : State := { up with ident := { up.ident with jobs := l } }

theorem test_witness_SecWorkRunsInOrder :
    (let s := secWork [.measure measuring]
     let e := entry 16 (leBytes 8 leafBytes ++ leBytes 8 leafBytes)
     accepts s e = true ∧ s.ident.jobs = [.measure measuring] ∧ measuring.started = true ∧ e.length = 16 ∧
       allZero ((cmdBytes e).drop 16) = true ∧ cmdFld e 8 8 % leafBytes = 0 ∧ cmdFld e 0x10 8 % leafBytes = 0 ∧ cmdFld e 0x10 8 ≠ 0 ∧
       s.spanOk (cmdFld e 8 8) (cmdFld e 0x10 8) = true ∧ s.sealHit (cmdFld e 8 8) (cmdFld e 0x10 8) = false) ∧
    (let s := secWork [.measure measuring]
     let e := entry 32 [2, 63]
     accepts s e = true ∧ e.length = 32 ∧ allZero ((cmdBytes e).drop 32) = true ∧ cmdFld e 9 1 ≤ 63 ∧ cmdFld e 8 1 = 2 ∧ s.feature 6 = true ∧
       allZero (cut (cmdBytes e) 2 30) = true ∧ cmdFld (entry 32 [3, 63]) 8 1 = 3) ∧
    (let s := secWork [.measure measuring]
     let e := entry 32 ([1, 63] ++ zeros 6 ++ leBytes 8 leafBytes ++ leBytes 8 3 ++ leBytes 8 (2 * leafBytes))
     accepts s e = true ∧ cmdFld e 9 1 ≤ 63 ∧ cmdFld e 0x0A 1 ≤ 15 ∧ cmdFld e 0x0B 5 = 0 ∧ cmdFld e 0x10 8 % leafBytes = 0 ∧
       cmdFld e 0x18 8 ≠ 0 ∧ cmdFld e 0x18 8 ≤ 2 ^ 47 ∧ cmdFld e 0x20 8 % leafBytes = 0 ∧ s.partOn (cmdFld e 0x0A 1) = true ∧
       s.spanOk (cmdFld e 0x20 8) (roundUp (cmdFld e 0x18 8) leafBytes) = true ∧
       s.leavesOk [{ va := BitVec.ofNat 64 leafBytes, pa := some (BitVec.ofNat 60 (3 * 2 ^ 48 + 2 * leafBytes)), rd := true }] (cmdFld e 0x10 8)
         (cmdFld e 0x20 8) (roundUp (cmdFld e 0x18 8) leafBytes / leafBytes) = true ∧
       cmdFld e 8 1 = 1 ∧ s.feature 6 = true ∧
       s.sealHit (cmdFld e 0x20 8) (roundUp (cmdFld e 0x18 8) leafBytes) (cmdFld e 9 1) = false ∧ cmdFld (entry 32 [0]) 8 1 = 0) ∧
    (let b : ScrubJob := { seq := 9, base := 0, len := leafBytes, started := true, done := some .ok }
     (secWork [.scrub b]).sec = true ∧ (secWork [.scrub b]).ident.jobs = [.scrub b] ∧ b.done = some .ok) ∧
    ((secWork [.measure measuring]).sec = true ∧ (∀ id, id ∈ measuring.waits → (secWork [.measure measuring]).acc id = none) ∧
      (∀ x, x ∈ (secWork [.measure measuring]).home.txns → x.id ∉ measuring.txns)) := by
  decide +kernel

/-- An ALLOC_POOL of an operation on partition 0: 512 slots, arena and metadata at 0, one page. -/
def poolCmd (op : Byte) : CmdEntry := entry 40 ([0, op, 0, 0] ++ leBytes 4 512 ++ zeros 24 ++ leBytes 4 1)
/-- The page at 2 MiB of instance 3. -/
def onePage : Bytes := leBytes 8 (3 * 2 ^ 48 + 2 ^ 21)
/-- A metadata header of partition 0 with 512 slots, this reserved byte, and its crc. -/
def poolHead (rsv : Byte := 0) : Bytes :=
  let h := leBytes 4 0x4C4F4F50 ++ zeros 3 ++ [rsv] ++ leBytes 4 512 ++ zeros 48
  h ++ leBytes 4 (crc32c h)
/-- An allocation of slot 0 of partition 0 in the course of its writes. -/
def writing : AllocJob := {
  id := 1, asker := .gone, part := 0, isFree := false, size := 1, flags := 0, recVa := 0, phys := false, amount := 1, n := 1, first := 0, pages := [], stage := .writing, todo := [], tables := [(0, 0)], seek := (0, 0), left := 0, status := .ok }
/-- `up` with that operation, as a warm reset interrupted it. -/
def tornBy (j : AllocJob) : State := { up with alloc := { up.alloc with torn := [(j, pool0)] } }
/-- `up` with an allocation of slot 0 of partition 0 that a warm reset interrupted. -/
def tornUp : State := tornBy writing
/-- `up` with a free of slot 0 of partition 0 that a warm reset interrupted when the count had reached 0. -/
def countedUp : State := tornBy { writing with isFree := true, stage := .count, size := 64 }

theorem test_witness_PoolsQueueSaveAndRelease :
    (accepts up (entry 0 []) = true ∧ (entry 0 []).length = 0 ∧ allZero (cmdBytes (entry 0 [])) = true) ∧
    (let e := entry 1 [0]
     accepts up e = true ∧ e.length = 1 ∧ allZero ((cmdBytes e).drop 1) = true ∧ byteAt (padTo e.payload 52) 0 = cmdFld e 8 1 ∧
       up.part 0 ≠ .disabled) ∧
    (let e := entry 1 [1]
     byteAt (padTo e.payload 52) 0 = 1 ∧ up.part 1 = .disabled ∧ up.pool 1 = none ∧ up.partLines 1 = []) ∧
    (let b := padTo (poolCmd 0).payload 52
     accepts up (poolCmd 0) = true ∧ (poolCmd 0).length = 40 ∧ allZero ((cmdBytes (poolCmd 0)).drop 40) = true ∧ up.feature 8 = true ∧
       up.partExists (byteAt b 0) = true ∧ poolFieldsOk b = true ∧ byteAt b 1 = cmdFld (poolCmd 0) 9 1 ∧ byteAt b 1 = 0 ∧ up.pool 0 = none ∧
       up.pagesOk (onePage.take (8 * fld b 0x20 4)) = true ∧ (pagesOf (onePage.take (8 * fld b 0x20 4))).length ≤ fld b 4 4) ∧
    (let b := padTo (poolCmd 1).payload 52
     let s := up.setPool 0 (some pool0)
     accepts s (poolCmd 1) = true ∧ poolFieldsOk b = true ∧ byteAt b 1 = 1 ∧ s.pool 0 = some pool0 ∧
       s.pagesOk (onePage.take (8 * fld b 0x20 4)) = true ∧ pool0.stack.length + (pagesOf (onePage.take (8 * fld b 0x20 4))).length ≤ pool0.slots) ∧
    (let b := padTo (poolCmd 2).payload 52
     accepts up (poolCmd 2) = true ∧ poolFieldsOk b = true ∧ byteAt b 1 = 2 ∧ crc32c (poolHead.take 60) = fld poolHead 60 4 ∧ allZero (cut poolHead 5 3) = true ∧ allZero (cut poolHead 0x18 36) = true ∧
       fld poolHead 0 4 = 0x4C4F4F50 ∧ byteAt poolHead 4 = 0 ∧ fld poolHead 8 4 = fld b 4 4 ∧ up.pool 0 = none ∧ up.tornOf 0 = [] ∧
       crc32c ((poolHead 1).take 60) = fld (poolHead 1) 60 4 ∧ allZero (cut (poolHead 1) 5 3) = false ∧ tornUp.tornOf 0 ≠ [] ∧
       up.resumable 0 = [] ∧ countedUp.tornOf 0 = [] ∧ countedUp.resumable 0 ≠ [] ∧ countedUp.pool 0 = none ∧
       accepts countedUp (poolCmd 2) = true ∧
       tornUp.pool 0 = none ∧ accepts tornUp (poolCmd 2) = true ∧ fld (zeros 64) 0 4 ≠ 0x4C4F4F50) ∧
    (let b := padTo (poolCmd 3).payload 52
     poolFieldsOk b = true ∧ byteAt b 1 = 3 ∧ pool0.used ≠ []) ∧
    (let j : ReleaseJob := { part := 1, seq := 9 }
     let s : State := { up with releases := [j] }
     s.sec = true ∧ s.releases = [j] ∧ s.releaseReady j.part = true ∧ s.partEntry j.part = some (part 1)) := by decide +kernel

/-- `up` as the manager of instances 4 to 7 of its package. -/
def manager : State := { up with chart := { state := .accepted, chart := some { chart3 with
  hier := { levels := [{ parent := 0xFFFF, children := [4] }] } } } }
/-- A chart header that names instance `t`. -/
def chartFor (t : Nat) : Bytes := zeros 0x12 ++ leBytes 2 t ++ zeros 44

theorem test_witness_ForwardsStartRelays :
    (let e := entry 16 (leBytes 2 9 ++ zeros 2 ++ leBytes 4 64 ++ leBytes 8 (2 ^ 48 - 8))
     accepts manager e = true ∧ e.length = 16 ∧ allZero ((cmdBytes e).drop 16) = true ∧ cmdFld e 0x0A 2 = 0 ∧ 64 ≤ cmdFld e 0x0C 4 ∧
       cmdFld e 0x0C 4 ≤ 65536 ∧ cmdFld e 0x10 8 % 8 = 0 ∧ cmdFld e 0x10 8 < 2 ^ 48 ∧ cmdFld e 8 2 ≠ manager.ownId ∧ cmdFld e 8 2 < 4096 ∧
       manager.childFor (BitVec.ofNat 12 (cmdFld e 8 2)) = none) ∧
    (let e := entry 16 (leBytes 2 4 ++ zeros 2 ++ leBytes 4 65536)
     accepts manager e = true ∧ cmdFld e 8 2 ≠ manager.ownId ∧ manager.childFor (BitVec.ofNat 12 (cmdFld e 8 2)) = some 4 ∧
       chartTarget ((chartFor 5).take (cmdFld e 0x0C 4)) ≠ cmdFld e 8 2 ∧ chartTarget ((chartFor 4).take (cmdFld e 0x0C 4)) = cmdFld e 8 2) ∧
    (let e := entry 16 (leBytes 2 3 ++ zeros 2 ++ leBytes 4 64)
     let s : State := { manager with chart := { manager.chart with state := .rejected } }
     accepts s e = true ∧ cmdFld e 8 2 = s.ownId ∧ s.chartMayBegin = true ∧ chartTarget ((chartFor 3).take (cmdFld e 0x0C 4)) = cmdFld e 8 2) ∧
    (let e := entry 24 (leBytes 2 4 ++ [127, 0] ++ leBytes 4 292 ++ leBytes 8 64 ++ leBytes 8 (2 ^ 48 - 64))
     accepts manager e = true ∧ e.length = 24 ∧ allZero ((cmdBytes e).drop 24) = true ∧ cmdFld e 0x0B 1 = 0 ∧ cmdFld e 0x0A 1 < 128 ∧
       292 ≤ cmdFld e 0x0C 4 ∧ cmdFld e 0x0C 4 ≤ 192 + 512 * 1024 + 96 ∧ cmdFld e 0x10 8 % 64 = 0 ∧ cmdFld e 0x10 8 < 2 ^ 48 ∧
       cmdFld e 0x18 8 % 64 = 0 ∧ cmdFld e 0x18 8 < 2 ^ 48 ∧ cmdFld e 8 2 ≠ manager.ownId ∧ cmdFld e 8 2 < 4096 ∧
       manager.childFor (BitVec.ofNat 12 (cmdFld e 8 2)) = some 4) ∧
    manager.childFor 8 = none := by decide +kernel

/-- A stored history of instance `i`: four records, each with its crc, and no log entry; slice SH has this
flags byte. -/
def history (magic i : Nat) (rsv : Byte := 0) (flags : Byte := 0) : Bytes :=
  let rec64 (b : Bytes) : Bytes := b ++ leBytes 4 (crc32c b)
  rec64 (leBytes 4 magic ++ leBytes 2 1 ++ leBytes 2 i ++ zeros 51 ++ [rsv]) ++ rec64 ([0, flags] ++ zeros 58) ++ rec64 (zeros 60) ++ rec64 (zeros 60)

theorem test_witness_TelemetryMarginAndAgeingCommands :
    (accepts up (entry 2 [9, 0]) = true ∧ (entry 2 [9, 0]).length = 2 ∧ allZero ((cmdBytes (entry 2 [9, 0])).drop 2) = true ∧
      up.telemetryPage 9 0 = none ∧ (up.telemetryPage 0 2).isSome = true ∧ (up.core 2).shedding = false ∧
      ((up.modCore 2 (fun c => { c with shedding := true })).core 2).shedding = true ∧
      ((up.modCore 2 (fun c => { c with shedding := true })).telemetryPage 0 2).isSome = true ∧
      accepts (up.modCore 2 (fun c => { c with shedding := true })) (entry 2 [0, 2]) = true) ∧
    (up.pwr = true ∧ ({ up with cores := [(2, { state := .running })] } : State).pwr = false ∧
      accepts { up with cores := [(2, { state := .running })] } (entry 2 [0, 3]) = true ∧ cmdFld (entry 2 [0, 3]) 8 1 = 0 ∧
      cmdFld (entry 2 [0, 3]) 9 1 ≤ 3) ∧
    (cmdFld (entry 2 [1, 2]) 8 1 = 1 ∧ cmdFld (entry 2 [1, 2]) 9 1 ≤ 2 ∧ (up.marginOf 2).offered = false ∧
      (({ up with health := { up.health with slices := [(2, { offered := true })] } } : State).marginOf 2).offered = true ∧
      (up.clock (sliceOf 2)).fallback = false) ∧
    (accepts up (entry 0 []) = true ∧ fld (zeros 256) 0 4 = 0 ∧ fld (history 5 3) 0 4 ≠ 0 ∧ historyChecks (history 5 3) = true ∧
      fld (history 5 3) 0 4 ≠ 0x31454741 ∧ historyChecks (5 :: zeros 255) = false ∧ historyChecks (history 0x31454741 3) = true ∧
      fld (history 0x31454741 3) 0 4 = 0x31454741 ∧ fld (history 0x31454741 3) 4 2 = 1 ∧ fld (history 0x31454741 3) 6 2 = up.ownId ∧
      fld (history 0x31454741 4) 6 2 ≠ up.ownId ∧ historyRsv (history 0x31454741 3) = false ∧
      historyChecks (history 0x31454741 3 1) = true ∧ historyRsv (history 0x31454741 3 1) = true ∧
      historyChecks (history 0x31454741 3 0 1) = true ∧ historyRsv (history 0x31454741 3 0 1) = false ∧
      fld (history 0x31454741 3 0 1) 0 4 = 0x31454741 ∧ fld (history 0x31454741 3 0 1) 4 2 = 1 ∧
      fld (history 0x31454741 3 0 1) 6 2 = up.ownId ∧ bit (byteAt (history 0x31454741 3 0 1) 0x41) 0 = true ∧
      (up.clock (sliceOf 0)).fallback = false ∧ up.pwr = true) := by decide +kernel

/-! ### Witnesses: queues and channels -/

/-- `up` with queue 31 in a state, bound to channel 1. -/
def withState (st : QState) : State := withQ { state := st, channel := 1, sizeLog2 := 4, cons := 3, prod := 3, abortProd := 3 }

theorem test_witness_EnablesTakeEffectUnderConditions :
    (up.reach .cp (0x200100 + 16 * 1) = true ∧ up.part 1 = .disabled ∧ up.burstTear 1 = false ∧ up.part 0 ≠ .disabled ∧
      (let s : State := { up with tearBurst := [(1, true)], mgmt := {} }
       s.part 1 = .disabled ∧ s.burstTear 1 = true ∧ s.feature 7 = false)) ∧
    (let v : BitVec 32 := 0x04010010
     up.reach .cp (0x220008 + 32 * 31) = true ∧ up.queueOwner 31 = some 0 ∧ v.getLsbD 26 = true ∧ (up.queue 31).state = .disabled ∧
       4 ≤ bits v.toNat 7 0 ∧ bits v.toNat 7 0 ≤ 16 ∧ bits v.toNat 23 16 < 60 ∧ (up.chanEntry (bits v.toNat 23 16)).inUse = true ∧
       (up.chan (bits v.toNat 23 16)).state ≠ .fenced ∧ (up.chanEntry (bits v.toNat 23 16)).partition = 0 ∧ up.part 0 = .enabled ∧
       up.start.ready = true) ∧
    (up.queueOwner 4095 = none ∧ up.reach .cp (0x220008 + 32 * 4095) = true ∧ bits (0x04000003 : BitVec 32).toNat 7 0 < 4 ∧
      16 < bits (0x04000011 : BitVec 32).toNat 7 0 ∧ 60 ≤ bits (0x043C0010 : BitVec 32).toNat 23 16 ∧
      ((withState .enabled).queue 31).state ≠ .disabled ∧ ((withState .enabled).queue 31).state ≠ .refused) ∧
    (let s := up.setChan 63 { state := .disabled, mSizeLog2 := 16 }
     s.reach (.core 0) (0x210000 + 256 * 63) = true ∧ ringPath (.core 0) 63 = true ∧ (s.chan 63).state = .disabled ∧
       4 ≤ (s.chan 63).mSizeLog2.toNat ∧ (s.chan 63).mSizeLog2.toNat ≤ 16 ∧ (up.chan 63).state ≠ .disabled) := by decide +kernel

theorem test_witness_StopsAbortsAndTheirCompletion :
    ((withState .enabled).queueOwner 31 = some 0 ∧ (withState .enabled).reach .cp (0x22000C + 32 * 31) = true ∧
      ((withState .enabled).queue 31).state = .enabled ∧ ((withState .stopping).queue 31).state = .stopping ∧
      (up.queue 31).state = .disabled) ∧
    (let s := (withState .enabled).setChan 1 { state := .enabled }
     s.reach .cp (0x210000 + 256 * 1) = true ∧ ringPath .cp 1 = true ∧ (s.chan 1).state = .enabled ∧ 31 ∈ s.boundQueues 1 ∧
       (s.queue 31).state = .enabled ∧ 30 ∉ s.boundQueues 1 ∧ ((s.setChan 1 { state := .stopping }).chan 1).state = .stopping ∧
       ((s.setChan 1 { state := .disabled }).chan 1).state = .disabled) ∧
    ((withState .enabled).reach .cp (0x200100 + 16 * 0) = true ∧ (withState .enabled).part 0 = .enabled ∧ 31 ∈ (withState .enabled).partQueues 0 ∧
      (withState .enabled).queueOwner 32 ≠ some 0 ∧ (({ up with parts := [(0, .stopping)] } : State).part 0) = .stopping ∧ up.part 1 = .disabled) ∧
    (((withState .aborting).queue 31).state = .aborting ∧ ((withState .aborting).queue 31).cons = ((withState .aborting).queue 31).abortProd ∧
      ((withState .aborting).queue 31).cursor = 0 ∧ ((withState .aborting).chan 1).run = none ∧ ((withState .aborting).chan 1).fetch = none) ∧
    (let r : Running := { words := [], addr := 0, queue := some 31, cls := 0, phase := .active }
     let s := (withState .stopping).setChan 1 { state := .enabled, run := some r }
     (s.chan (s.queue 31).channel.toNat).run = some r ∧ r.queue = some (31 : Fin 4096).val) := by decide +kernel

/-- `up` with channel 0 enabled and channel 1 in a state. -/
def twoChans (st : ChState) : State := { up with chans := [(0, { state := .enabled }), (1, { state := st })] }
/-- `up` with partition 0 in a state. -/
def partIn (st : PartState) : State := { up with parts := [(0, st)] }

theorem test_witness_StopsAbortsAndTheirCompletion_channels :
    (let s := twoChans .stopping
     0 ∈ s.partChans 0 ∧ (s.chan 0).state = .enabled ∧ 1 ∈ s.partChans 0 ∧ (s.chan 1).state = .stopping ∧ 63 ∉ s.partChans 0) ∧
    (let s := twoChans .aborting
     (s.chan 1).state = .aborting ∧ (∀ q ∈ s.boundQueues 1, (s.queue q).state ≠ .stopping ∧ (s.queue q).state ≠ .aborting) ∧
       (s.chan 1).run = none ∧ (s.chan 1).fetch = none ∧ (1 : Fin 64).val < 60) ∧
    (let s := up.setChan 63 { state := .aborting, mCons := 5, mAbort := 5 }
     (s.chan 63).state = .aborting ∧ (s.chan 63).mCons = (s.chan 63).mAbort ∧ (s.chan 63).mCursor = 0) ∧
    (let r : Running := { words := [], addr := 0, queue := some 31, cls := 0, phase := .active }
     let s := (partIn .stopping).setChan 1 { state := .stopping, run := some r }
     (s.chan 1).run ≠ none ∧ s.part 0 = .stopping ∧ 1 ∈ s.partChans 0 ∧ (up.chan 1).state ≠ .stopping ∧ (up.chan 1).state ≠ .aborting) ∧
    (let s := partIn .aborting
     s.part 0 = .aborting ∧ (∀ q ∈ s.partQueues 0, (s.queue q).state = .disabled ∨ (s.queue q).state = .refused) ∧
       (∀ c ∈ s.partChans 0, (s.chan c).run = none ∧ (s.chan c).fetch = none ∧ (s.chan c).state ≠ .stopping ∧ (s.chan c).state ≠ .aborting) ∧
       (∀ r ∈ s.engReqs, s.reqPart r ≠ (0 : Fin 16).val) ∧
       (∀ e ∈ s.cmb.slots, s.slotOwner e.1 = some (0 : Fin 16).val → e.2.state ≠ .open_ ∧ e.2.state ≠ .writing)) ∧
    (let s := (partIn .stopping).setSlot 31 { state := .open_ }
     ∃ e ∈ s.cmb.slots, s.slotOwner e.1 = some (0 : Fin 16).val ∧ (e.2.state = .open_ ∨ e.2.state = .writing)) := by decide +kernel

/-- `up` with management channel 60 in use, and the low half of a doorbell for this prod written. -/
def mgmtRing (st : ChState) (lo : Option (BitVec 32)) : State :=
  up.setChan 60 { state := st, mSizeLog2 := 4, mProd := 0xFFFFFFFF, mCons := 0xFFFFFFFF, mDbLo := lo }
/-- The high half of channel 60's doorbell for a prod. -/
def bellHi (prod : Nat) : BitVec 32 := BitVec.ofNat 32 ((bell (0x1000 + 60) prod).toNat / 2 ^ 32)

theorem test_witness_CountsDoorbellsAndFetches_ring :
    (ringPath .cp 60 = true ∧ up.reach .cp (0x210008 + 256 * 60) = true ∧ up.reach .cp (0x210054 + 256 * 60) = true ∧
      up.reach .cp (0x210058 + 256 * 60) = true ∧ ((mgmtRing .enabled none).chan 60).mDbLo = none) ∧
    (let lo : BitVec 32 := 15
     let s := mgmtRing .enabled (some lo)
     (s.chan 60).mDbLo = some lo ∧ crc16 (leBytes 6 (bellHi 15 ++ lo).toNat) = bits (bellHi 15 ++ lo).toNat 63 48 ∧
       bits (bellHi 15 ++ lo).toNat 47 32 = 0x1000 + (60 : Fin 64).val ∧ crc16 (leBytes 6 ((0 : BitVec 32) ++ lo).toNat) ≠ 0 ∧
       (s.chan 60).state ≠ .unused ∧ (s.chan 60).state ≠ .fenced ∧ ((mgmtRing .fenced (some lo)).chan 60).state = .fenced ∧
       (lo - (s.chan 60).mProd).toNat < 2 ^ 31 ∧ lo ≠ (s.chan 60).mProd ∧ (lo - (s.chan 60).mCons).toNat ≤ 2 ^ (s.chan 60).mSizeLog2.toNat ∧
       2 ^ (s.chan 60).mSizeLog2.toNat < ((16 : BitVec 32) - (s.chan 60).mCons).toNat ∧
       2 ^ 31 ≤ ((0x80000000 : BitVec 32) - (s.chan 60).mProd).toNat) := by decide +kernel

/-- A descriptor: an opcode with flags (and ELEM above them), no pipeline, words at places, and its crc at 0x7C over the first 120 bytes. -/
def desc (op flags : Nat) (w : Tab Nat) : Bytes :=
  let b := ((List.range 15).map (fun i => leBytes 8 (if i = 0 then op + 2 ^ 8 * 0xFF + 2 ^ 16 * flags else tabGet 0 w i))).flatten
  b ++ zeros 4 ++ leBytes 4 (crc32c b)
/-- `up` with queue 31 of channel 1 in a state, and a fetch of it that returned this. -/
def fetched (st : QState) (ab : Bool) (res : AccResult) : State :=
  (withQ { state := st, channel := 1, sizeLog2 := 4, prod := 1 }).setChan 1
    { state := .enabled, fetch := some { addr := 0, queue := some 31, aborting := ab, result := some res } }
/-- A good answer. -/
def answered (b : Bytes) : AccResult := { status := .ok, data := b, poison := [] }
/-- A SIGNAL of tidemark 31 to instance 3; a paced one that watches counter 0 of its partition, or queue 64. -/
def signalD : Bytes := desc 6 0 [(2, 3), (13, 31)]
def pacedD (src : Nat) : Bytes := desc 1 (0x10 + 2 ^ 16 * 4) [(3, 1 + 2 ^ 32), (4, 1), (13, 0xFFFF + 2 ^ 16 * src + 2 ^ 32 * 2)]

theorem test_witness_CountsDoorbellsAndFetches :
    (let s := (withQ { state := .enabled, channel := 1, sizeLog2 := 4, prod := 1 }).setChan 1 { state := .enabled }
     let k : Queue := { state := .enabled, channel := 1, sizeLog2 := 4, prod := 1 }
     (s.chan 1).run = none ∧ (s.chan 1).fetch = none ∧ (s.chan 1).state = .enabled ∧ s.modeHeld (.channel 1) = false ∧
       s.queues.filter (s.servable 1) = [(31, k)] ∧ ({ s with queues := [] } : State).queues.filter (s.servable 1) = []) ∧
    (let s := fetched .enabled false (answered signalD)
     (s.chan 1).fetch = some { addr := 0, queue := some 31, aborting := false, result := some (answered signalD) } ∧
       (s.queue 31).state = .enabled ∧ (answered signalD).status = .ok ∧ (answered signalD).bad = false ∧ dCrcOk signalD = true ∧
       dNext (wordsOf signalD) % 128 = 0 ∧ dFence (wordsOf signalD) % 16 = 0 ∧ s.descOk (wordsOf signalD) false = true ∧
       dFlag (wordsOf signalD) 4 = false) ∧
    (let s := fetched .stopping false (answered [])
     (s.queue 31).state ≠ .enabled ∧ (s.queue 31).state ≠ .aborting ∧ dCrcOk (zeros 128) = false) ∧
    (let s := fetched .aborting true (answered signalD)
     (s.queue 31).state = .aborting ∧ ({ status := .busError, data := [], poison := [] } : AccResult).status ≠ .ok) ∧
    (dCrcOk (desc 6 0 [(14, 64)]) = true ∧ dNext (wordsOf (desc 6 0 [(14, 64)])) % 128 ≠ 0) := by decide +kernel

/-- `up` with channel 1 running a descriptor. -/
def runs (r : Running) : State := up.setChan 1 { state := .enabled, run := some r }
/-- A descriptor of an opcode with words at places, in a phase. -/
def run (op : Nat) (w : Tab Nat) (ph : RunPhase := .checked) : Running :=
  { words := wordsOf (desc op 0 w), addr := 0, queue := some 31, cls := 0, phase := ph }

theorem test_witness_CheckedDescriptorsBegin :
    (∀ op ∈ [1, 2, 3, 8, 9, 4, 5], ((runs (run op [])).chan 1).run = some (run op []) ∧ (run op []).phase = .checked ∧
      dFlag (run op []).words 3 = false ∧ dFlag (run op []).words 2 = false ∧ dOp (run op []).words = op ∧
      (runs (run op [])).holdFree (quotaOf ((runs (run op [])).chanPart 1)) (rowBytes ((runs (run op [])).pipeOps (run op []).words)
        (run op []).words) = true) ∧
    (let r := run 1 []
     let s : State := { runs r with hold := { up.hold with used := [(0, 2 ^ 40)] } }
     s.holdFree (quotaOf (s.chanPart 1)) (rowBytes (s.pipeOps r.words) r.words) = false) ∧
    (let r := run 6 [(2, 3), (13, 31)]
     dOp r.words = 6 ∧ dDst r.words = (runs r).ownId ∧ (runs r).tideInRange (dTide r.words) ((runs r).chanPart 1) = true ∧
       (runs r).tideInRange 32 ((runs r).chanPart 1) = false ∧ dDst (run 6 [(2, 9)]).words ≠ (runs r).ownId ∧ (runs r).routeMask 9 = 0) ∧
    (let r := run 7 [(10, 5), (13, 31)]
     let s : State := { runs r with tide := { up.tide with values := [(31, 5)] } }
     dOp r.words = 7 ∧ s.tideInRange (dTide r.words) (s.chanPart 1) = true ∧
       (s.tideVal (dTide r.words) - BitVec.ofNat 64 (dOperand r.words)).toNat < 2 ^ 63 ∧
       2 ^ 63 ≤ ((runs r).tideVal (dTide r.words) - BitVec.ofNat 64 (dOperand r.words)).toNat ∧
       s.tideInRange 32 (s.chanPart 1) = false) ∧
    dOp (run 10 []).words = 10 ∧
    (dOp (run 11 [(10, 2 ^ 27 + 1)]).words = 11 ∧ 64 < pagesFor (bits (dOperand (run 11 [(10, 2 ^ 27 + 1)]).words) 47 0) ∧
      pagesFor (bits (dOperand (run 11 [(10, 2 ^ 27)]).words) 47 0) ≤ 64 ∧ (runs (run 11 [])).chanPart 1 = some 0 ∧
      (runs (run 11 [])).pool 0 = none ∧ pool0.stack.length < pagesFor (bits (dOperand (run 11 [(10, 2 ^ 27)]).words) 47 0)) ∧
    ((run 12 []).unstarted = true ∧ dOp (run 12 []).words = 12 ∧ (1 : Fin 64).val = 16 * (0 : Fin 4).val + (1 : Fin 16).val ∧
      dOp (run 1 []).words ≠ 12) := by decide +kernel

/-- The read of a RELEASE's record by channel 1. -/
def recordRead (part : Option Nat) : Access := { mkAccess (.channel 1) (.freeRecord (.channel 1) 1) .read part 0 64 with mc := part.isNone }

theorem test_witness_BurstsPacingEndsAndJournal_record :
    (∀ p ∈ [some 0, none], (recordRead p).purpose = .freeRecord (.channel 1) 1 ∧ (recordRead p).data = []) ∧
    64 ≤ (answered (record 1 0 1)).data.length ∧ 64 ≤ (answered (zeros 64)).data.length ∧ ((runs (run 12 [] .sending)).chan 1).run.isSome = true ∧
    Status.busError ≠ .sealed ∧ Status.busError ≠ .ok ∧ (answered (zeros 64)).status = .ok ∧ recordOk (answered (zeros 64)).data = false ∧
    (answered (record 1 0 1)).bad = false ∧ recordOk (answered (record 1 0 1)).data = true ∧
    (recordRead (some 0)).mc = false ∧ (recordRead (some 0)).part = some 0 ∧ 0 ≠ byteAt (answered (record 1 0 1)).data 4 ∧
    (recordRead none).mc = true ∧ (runs (run 12 [])).pool (byteAt (record 1 0 1) 4) = none ∧
    ((runs (run 12 [])).setPool 0 (some pool0)).pool (byteAt (record 0 0 0) 4) = some pool0 ∧ recordOk (record 0 0 0) = true ∧
    fld (record 0 0 0) 0x10 8 = 0 := by decide +kernel

/-- A read burst, returned or not. -/
def rb (n : Nat) (back : Bool) : ReadBurst := { burst := n, result := if back then some (.ok, []) else none, arrived := false }
/-- Work of the allocator for engine 0's tag 5. -/
def job (st : AllocStage) (n : Nat) : AllocJob :=
  { id := 1, asker := .engine 0 5, part := 0, isFree := false, size := 1, flags := 0, recVa := 0, phys := false, amount := 1, n := n, first := 0,
    pages := [], stage := st, todo := [], tables := [], seek := (0, 0), left := 0, status := .ok }
/-- `up` with that work, a journal holding `held` records, and perhaps a pool. -/
def allocs (j : AllocJob) (held : BitVec 32) (p : Option Pool) : State :=
  { up.setPool 0 p with alloc := { (up.setPool 0 p).alloc with jobs := [j], jnlProd := held } }

theorem test_witness_BurstsPacingEndsAndJournal :
    (∀ i, i < 16 → up.readReady (16 * (3 : Fin 4).val + i) = false ∧ up.writeReady (16 * (3 : Fin 4).val + i) = false) ∧
    (let r := { run 1 [] .active with reads := [rb 0 false, rb 1 true] }
     ((runs r).chan 1).run = some r ∧ r.reads = [rb 0 false, rb 1 true] ∧ (rb 0 false).result = none ∧ (rb 0 false).arrived = false ∧
       (rb 1 true).result ≠ none ∧ (runs r).mgmt.change = none ∧ ∀ x ∈ [rb 0 false], x.burst ≠ (rb 1 true).burst) ∧
    (let r := { run 1 [(13, 0xFFFF + 2 ^ 16 * 0x8000 + 2 ^ 32 * 7)] .paceWait with paused := false }
     let s := (runs r).setTideVal 0 7
     r.phase = .paceWait ∧ dPaceHi r.words = 7 ∧ dPaceHi r.words ≤ s.paceLevel 1 r.words ∧ (runs r).paceLevel 1 r.words < dPaceHi r.words) ∧
    ((run 1 []).phase ≠ .paceWait ∧ (run 1 []).paused = false) ∧
    (let r := { run 1 [] .active with paused := true }
     r.paused = true ∧ r.phase ≠ .paceWait ∧ dPaceHi r.words ≤ (runs r).paceLevel 1 r.words ∧ (runs r).theChart.limits.waitLimit ≠ 0 ∧
       r.phase ≠ .drained) ∧
    (let r := run 1 [] .drained
     r.phase = .drained ∧ r.noStatus = false ∧ r.early = none ∧ dOp r.words ≠ 3 ∧ r.cmb.poison = false ∧ Status.timeout ≠ .ok) ∧
    (on.harbour = false ∧ up.harbour = true) ∧
    (let s := allocs (job .slow 1) 16 (some pool0)
     s.alloc.jobs = [job .slow 1] ∧ (job .slow 1).stage = .slow ∧ (job .slow 1).isFree = false ∧ s.pool 0 = some pool0 ∧
       (job .slow 1).n ≤ pool0.stack.length ∧ (job .slow 1).n ≤ s.theChart.limits.journalRing ∧ s.journalRoom (job .slow 1).n = false ∧
       (allocs (job .slow 1) 16 none).pool 0 = none) ∧
    ((allocs (job .room 1) 16 none).journalRoom 1 = false ∧ (allocs (job .room 1) 15 none).journalRoom 1 = true ∧
      (job .room 1).stage = .room ∧ up.alloc.jobs = [] ∧ ∀ j ∈ (allocs (job .slow 1) 16 none).alloc.jobs, j.stage ≠ .room) ∧
    up.reach .cp 0x20020C = true := by decide +kernel

/-- A COPY of four 4-byte elements, from 256 on. -/
def copyRun : Running := { run 1 [] .active with words := wordsOf (desc (1 + 2 ^ 32 * 4) 0 [(1, 256), (3, 4 + 2 ^ 32), (4, 1)]) }
/-- Four bytes of it waiting to be written, the last of it. -/
def outRun : Running := { copyRun with srcNext := 16, outQ := (List.range 4).map (fun i => ⟨BitVec.ofNat 64 (508 + i), 7, false, 0⟩) }

theorem test_witness_BurstsPacingEndsAndJournal_granted :
    (let s := runs copyRun
     (s.chan 1).run = some copyRun ∧ dFlag copyRun.words 4 = false ∧ badPhysical 1 256 = false ∧
       (s.arbitrate 0 s.readReady 5 (s.readArb 0)).map (·.1) = some 1 ∧ (s.nextRead 1 copyRun).1 = some (256, 4)) ∧
    (let s := runs outRun
     (s.chan 1).run = some outRun ∧ dFlag outRun.words 4 = false ∧ badPhysical 1 508 = false ∧
       (s.arbitrate 0 s.writeReady 5 (s.writeArb 0)).map (·.1) = some 1 ∧
       (outRun.nextWrite (s.pipeOps outRun.words)).head?.map (·.addr) = some 508 ∧ outRun.seqD = none) := by decide +kernel

theorem test_witness_CountsDoorbellsAndFetches_paced :
    dCrcOk (pacedD 0x8000) = true ∧ up.descOk (wordsOf (pacedD 0x8000)) false = true ∧ dFlag (wordsOf (pacedD 0x8000)) 4 = true ∧
    up.paceOwned 1 (wordsOf (pacedD 0x8000)) = true ∧ up.descOk (wordsOf (pacedD 64)) false = true ∧
    up.paceOwned 1 (wordsOf (pacedD 64)) = false := by decide +kernel

/-- A TIDE_WAIT of engine 0 on tidemark 31 for this value. -/
def waits (v : Nat) : EngReq :=
  { port := 0, op := .tideWait, rq := ereq 16, part := 0, order := 0, beats := leBytes 8 31 ++ leBytes 8 v, enables := [], nBeats := 1,
    started := true, parts := [], waiting := true }

/-- An engine request of partition 0 keeps its DISABLE_COMPLETE off. -/
theorem test_witness_StopsAbortsAndTheirCompletion_engine :
    let s : State := { partIn .stopping with engReqs := [waits 1] }
    ∃ r ∈ s.engReqs, s.reqPart r = (0 : Fin 16).val := by decide +kernel

theorem test_witness_TideWaitsAndDriverWrites :
    (let r := run 7 [(10, 5), (13, 31)] .waiting
     ((runs r).chan 1).run = some r ∧ r.phase = .waiting ∧ 2 ^ 63 ≤ ((runs r).tideVal (dTide r.words) - BitVec.ofNat 64 (dOperand r.words)).toNat ∧
       (((runs r).setTideVal 31 5).tideVal (dTide r.words) - BitVec.ofNat 64 (dOperand r.words)).toNat < 2 ^ 63 ∧
       ({ r with unstarted := false } : Running).unstarted = false ∧ (∀ j ∈ (runs r).alloc.jobs, j.asker ≠ .channel 1) ∧ (runs r).theChart.limits.waitLimit ≠ 0 ∧
       (at_ 16).theChart.limits.waitLimit = 0) ∧
    (let s : State := { up with engReqs := [waits 1] }
     s.engReq (0 : Fin 8).val 5 = some (waits 1) ∧ (waits 1).waiting = true ∧
       2 ^ 63 ≤ (s.tideVal (fld (waits 1).beats 0 2) - BitVec.ofNat 64 (fld (waits 1).beats 8 8)).toNat ∧
       ((s.setTideVal 31 1).tideVal (fld (waits 1).beats 0 2) - BitVec.ofNat 64 (fld (waits 1).beats 8 8)).toNat < 2 ^ 63 ∧
       s.theChart.limits.waitLimit ≠ 0) ∧
    (up.reach .cp (0x240000 + 8 * 65535) = true ∧ up.reach .cp (0x240004 + 8 * 65535) = true ∧ up.tideOwner 65535 = none ∧
      up.tideOwner 63 = some 1 ∧ up.part 1 = .disabled ∧ up.tideOwner 31 = some 0 ∧ up.part 0 ≠ .disabled ∧
      (({ up with latches := [(0, { staged := some (65535, 9) })] } : State).latch (pathIx .cp)).staged = some (65535, 9)) ∧
    (up.reach .cp (0x201000 + 4 * 2047) = true ∧ up.tideOwner (32 * 1 + 31) = some 1 ∧ up.tideOwner (32 * 0 + 31) = some 0) := by
  decide +kernel

/-! ### Witnesses: combine slots, translation, landings, health, registers -/

/-- A piece of contribution 1 of slot 31, round 2, of `n` bytes at an offset of the contribution. -/
def piece (off n : Nat) : Packet :=
  { withData (pk .req 5) (zeros n) with addr := BitVec.ofNat 48 (31 + 2 ^ 12 + 2 ^ 24 * off), aux := 2, tide := 0xFFFF }
/-- `got` the piece, with slot 31 in a state and at a round; channel 1 has it too and runs. -/
def slotIn (k : Packet) (st : SlotState) (round : BitVec 16) : State :=
  ((got k).setSlot 31 { state := st, round := round, status := .timeout }).setChan 1
    { state := .enabled, pieces := [k], run := some (run 4 [] .active) }

/-- The header line of contribution 1 of two of slot 31, round 2: an addition of one FP32 element, its result at 512 MiB. -/
def header1 : Bytes :=
  let h := leBytes 4 0x31424D43 ++ leBytes 2 2 ++ leBytes 2 31 ++ leBytes 2 1 ++ leBytes 2 2 ++ [0, 0, 0, 0] ++ leBytes 4 1 ++ leBytes 4 4 ++
    leBytes 8 (2 ^ 29) ++ leBytes 2 0xFFFF ++ zeros 26
  h ++ leBytes 4 (crc32c h)

theorem test_witness_CombineSlotsRefuseFoldAndExpire :
    (let k := piece 255 2
     let s := slotIn k .free_ 0
     256 < pieceAt k % 256 + k.payload.length ∧ s.warmStart = false ∧ s.warmReset = false ∧ s.linkFault .slA = none ∧
       (s.peer 0).inbox.find? (fun x => x.opcode == 0x05) = some k ∧ (s.chan 1).pieces = [k] ∧ (s.chan 1).run = some (run 4 [] .active) ∧ (run 4 [] .active).early = none ∧ Status.malformed ≠ .ok) ∧
    (let k := piece 16776960 256
     pieceAt k ≠ 0 ∧ pieceAt k % 256 + k.payload.length ≤ 256 ∧ pieceAt k + k.payload.length ≤ 16777216 ∧ (slotIn k .free_ 0).pieceOwned k = true ∧
       pieceSlot k = 31 ∧ ¬ ((slotIn k .open_ 1).slot (pieceSlot k)).round.toNat = pieceRound k ∧
       ((slotIn k .open_ 1).slot (pieceSlot k)).state = .open_ ∧
       ((slotIn k .done 2).slot (pieceSlot k)).round.toNat = pieceRound k ∧ ((slotIn k .done 2).slot (pieceSlot k)).state = .done ∧
       ((slotIn k .failed 2).slot (pieceSlot k)).state = .failed ∧ ((slotIn k .failed 2).slot (pieceSlot k)).status = .timeout) ∧
    (let k := { piece 256 256 with addr := BitVec.ofNat 48 (32 + 2 ^ 24 * 256) }
     (got k).pieceOwned k = false ∧ (got k).partOn ((got k).slotPart (pieceSlot k)) = false ∧
       (got { k with part := 1 }).pieceOwned { k with part := 1 } = true ∧ ((got k).slot (pieceSlot k)).state = .free_) ∧
    ((up.chan 1).pieces = [] ∧ (up.slot 31).header = none ∧ (up.slot 31).state ≠ .open_) ∧
    (let h : CmbHeader := { round := 2, slot := 31, index := 0, k := 2, op := 0, type_ := 0, norm := false, failed := false, dgroups := 0, count := 1,
                            dataBytes := 8, result := 0, tide := 0xFFFF, part := 0, failStatus := .ok }
     let s := up.setSlot 31 { state := .open_, header := some h }
     (s.slot 31).header = some h ∧ (s.slot 31).state = .open_) := by decide +kernel

theorem test_witness_CombineSlotsRefuseFoldAndExpire_taken :
    (let k := piece 256 256
     let s := slotIn k .open_ 2
     let sl := s.slot (pieceSlot k)
     pieceAt k ≠ 0 ∧ k.payload ≠ [] ∧ pieceAt k % 256 + k.payload.length ≤ 256 ∧ pieceAt k + k.payload.length ≤ 16777216 ∧
       s.pieceOwned k = true ∧ sl.state = .open_ ∧ sl.round.toNat = pieceRound k ∧ (∀ e ∈ sl.refused, e.1 ≠ pieceIndex k) ∧
       pieceIndex k ∉ sl.accepted ∧ (pieceIndex k, pieceAt k / 256) ∉ sl.served ∧ s.holdFree (s.slotPart (pieceSlot k)) 256 = true ∧
       (s.peer 0).inbox.find? (fun y => y.opcode == 0x05) = some k ∧ (s.chan 1).pieces = [k]) ∧
    (let k := { piece 0 64 with payload := header1 }
     let s := slotIn k .free_ 0
     let h := cmbHeaderOf (k.payload.take 64)
     pieceAt k = 0 ∧ k.payload.length = 64 ∧ s.headerCheck k h = .ok ∧ h.failed = false ∧ h.index < h.k ∧
       (s.slot (pieceSlot k)).state = .free_ ∧ s.partOn (s.slotPart (pieceSlot k)) = true ∧
       s.holdFree (s.slotPart (pieceSlot k)) h.accBytes = true ∧ s.warmStart = false ∧ s.warmReset = false ∧
       (s.peer 0).inbox.find? (fun y => y.opcode == 0x05) = some k ∧ (s.chan 1).pieces = [k]) := by decide +kernel

/-- A walk of partition 0 at walker 31, or waiting, with what its entry read gave. -/
def walk (w : Option Nat) (r : Option AccResult) : Walk :=
  { id := 1, part := 0, va := 0, stream := 0, askers := [], walker := w, level := 1, table := 0, marked := false, got := r }
/-- `up` with that walk. -/
def walking (x : Walk) : State := { up with trans := { up.trans with walks := [x] } }
/-- A command of the driver. -/
def inv (taken : Bool) (fl : List Nat) : InvCmd :=
  { source := .driver, ticket := 1, scope := .range, part := 0, va := 0, pages := 1, drain := true, taken := taken, inFlight := fl, late := false }
/-- `up` with these commands held, and the pages operand. -/
def holds (l : List InvCmd) (pages : BitVec 32 := 0) : State := { up with inv := { up.inv with held := l, pages := pages } }
/-- `up` with partition 0 disabled too. -/
def quiet : State := { up with parts := [(0, .disabled), (1, .disabled)] }

theorem test_witness_RootsWindowsWalksAndInvalidations :
    (up.reach .cp (0x100000 + 8 * 1 + (if true then 4 else 0)) = true ∧ up.part 1 = .disabled ∧ up.part 0 ≠ .disabled) ∧
    (up.reach .cp (0x100100 + 16 * 3 + 4 * 3) = true ∧ up.allPartsDisabled = false ∧ quiet.allPartsDisabled = true ∧
      quiet.reach .cp (0x100100 + 16 * 3 + 4 * 1) = true) ∧
    (up.nextWalkPart = none ∧ ({ up.fenced with walkers := 1 }).walkers.getLsbD 0 = true ∧
      (walking (walk none none)).nextWalkPart = some (0, false) ∧ up.fenced.walkers.getLsbD 31 = false ∧
      (∀ x ∈ (walking (walk none none)).trans.walks, x.walker ≠ some (31 : Fin 32).val) ∧
      (∀ x ∈ (walking (walk (some 31) none)).trans.walks, x.walker ≠ some (31 : Fin 32).val ∨ x.got = none)) ∧
    (let bad : AccResult := { status := .busError, data := [], poison := [] }
     let x := walk (some 31) (some bad)
     (walking x).trans.walks.find? (fun y => y.walker == some (31 : Fin 32).val && y.got.isSome) = some x ∧ x.got = some bad ∧
       bad.status ≠ .ok) ∧
    (let bad : AccResult := { status := .ok, data := zeros 8, poison := [true] }
     let x := walk (some 31) (some bad)
     (walking x).trans.walks.find? (fun y => y.walker == some (31 : Fin 32).val && y.got.isSome) = some x ∧ bad.status = .ok ∧
       bad.poison = [true]) ∧
    (up.reach .cp 0x100C0C = true ∧ (0x80000000 : BitVec 32).getLsbD 31 = true ∧ up.inv.held.length < 16 ∧
      16 ≤ (holds (List.replicate 16 (inv false []))).inv.held.length ∧ bits (0x80300000 : BitVec 32).toNat 21 20 = 3 ∧
      bits (0x82100000 : BitVec 32).toNat 27 24 = 2 ∧ up.partExists 2 = false ∧ bits (0x80000000 : BitVec 32).toNat 21 20 = 0 ∧
      up.inv.pages = 0 ∧ up.partExists 0 = true ∧ (holds [] 1).inv.pages ≠ 0 ∧ bits (0x80200000 : BitVec 32).toNat 21 20 = 2) ∧
    (let x := inv false []
     let y : InvCmd := { inv false [] with ticket := 2, drain := false }
     x.taken = false ∧ y.taken = false ∧ x.drain = true ∧ y.drain = false ∧ y.source = .driver ∧ (holds [y]).inv.atsWait = [] ∧
       (y.ticket - x.ticket).toNat < 2 ^ 31 ∧ (∀ z ∈ (holds [inv true []]).inv.held, z.taken = true)) ∧
    (let y := inv false []
     let x : InvCmd := { inv true [4] with ticket := 1 }
     let a : InvCmd := { inv true [] with source := .ats 1 9 }
     y.taken = false ∧ x.taken = true ∧ x.source = .driver ∧ (∀ i ∈ x.inFlight, (holds [y, x]).inFlightStill i = false) ∧
       a.source = .ats 1 9 ∧ a.taken = true ∧ (y.ticket - x.ticket).toNat < 2 ^ 31 ∧ (holds [y, x]).inv.fence.toNat = 0) ∧
    (let s : State := { holds [inv true [4]] with inv := { (holds [inv true [4]]).inv with unacked := [(4, .never)] } }
     (∃ i ∈ (inv true [4]).inFlight, s.inFlightStill i = true) ∧ (∀ i ∈ (inv true [4]).inFlight, (holds [inv true [4]]).inFlightStill i = false) ∧
       (inv true [4]).source = .driver ∧ s.inv.atsWait = [] ∧ (holds [inv true [4]]).inFlightStill 4 = false) := by decide +kernel

/-- `walk` at a level with what its entry read gave. -/
def reading (level e : Nat) (marked : Bool := false) : Walk :=
  { walk (some 31) (some (answered (leBytes 8 e))) with level := level, marked := marked }
/-- A mirror-table entry with its crc: these low bits, and what it points to. -/
def tableEntry (b : Nat) : Nat := b + crc8 (leBytes 7 b) * 2 ^ 56

theorem test_witness_RootsWindowsWalksAndInvalidations_entries :
    (let e := leNat (answered (leBytes 8 (leafEntry 7))).data
     let pa := bits e 47 9 * 2 ^ 21
     let x := reading 1 (leafEntry 7)
     (walking x).trans.walks.find? (fun y => y.walker == some (31 : Fin 32).val && y.got.isSome) = some x ∧ x.got.isSome = true ∧
       true ∉ (answered (leBytes 8 (leafEntry 7))).poison ∧ crc8 (leBytes 7 e) = e >>> 56 ∧ e.testBit 0 = true ∧ e.testBit 1 = true ∧
       1 ≤ x.level ∧ x.level ≤ 3 ∧ e &&& 0x1C0 = 0 ∧ pa % 2 ^ (21 + 9 * (x.level - 1)) = 0 ∧ e.testBit 2 = true ∧ e.testBit 3 = true ∧
       up.windowConsistent x.part (pa >>> 48) (pa % 2 ^ 48) (2 ^ (21 + 9 * (x.level - 1))) (e.testBit 5) = true ∧ pa >>> 48 = up.ownId ∧
       x.marked = false ∧ (reading 1 (leafEntry 7) true).marked = true) ∧
    (let e := leNat (answered (leBytes 8 (tableEntry (1 + (up.ownId * 2 ^ 36 + 9) * 2 ^ 8)))).data
     let x := reading 2 (tableEntry (1 + (up.ownId * 2 ^ 36 + 9) * 2 ^ 8))
     crc8 (leBytes 7 e) = e >>> 56 ∧ e.testBit 0 = true ∧ e.testBit 1 = false ∧ 2 ≤ x.level ∧ e &&& 0xFC = 0 ∧
       (bits e 55 8 * 4096) >>> 48 = up.ownId) ∧
    (crc8 (leBytes 7 1) ≠ 1 >>> 56 ∧ crc8 (leBytes 7 (tableEntry 2)) = tableEntry 2 >>> 56 ∧ (tableEntry 2).testBit 0 = false) ∧
    (let a : Access := { mkAccess .block (.readBurst 1 0) .read (some 0) 0 4 with id := 4, va := some 5 }
     ({ up with accesses := [a] } : State).acc 4 = some a ∧ a.va = some 5 ∧ a.kind = .read) ∧
    ((walking (walk none none)).root 0 = {} ∧ quiet.reach .cp (0x100000 + 8 * 0) = true ∧ quiet.part 0 = .disabled ∧
      instOf (BitVec.ofNat 60 (up.ownId * 2 ^ 48)) = quiet.ownId) ∧
    ((inv true []).late = false ∧ ((2 : BitVec 32) - 1).toNat < 2 ^ 31 ∧ ((0 : BitVec 32) - 0xFFFFFFFF).toNat < 2 ^ 31) := by decide +kernel

theorem test_witness_RootsWindowsWalksAndInvalidations_deadline :
    (let x := inv true [4]
     let d (t : State) : Bool := t.inv.held.find? (fun y => y.taken && y.inFlight.contains 4 && t.inFlightStill 4) == some x &&
       x.inFlight.filter (fun k => t.inFlightStill k && t.samePath 4 k) == [4]
     let a (wr : Bool) : Access := { mkAccess .block .none (if wr then .write else .read) (some 0) 0 4 with id := 4, stage := .home }
     let s (wr : Bool) : State := { holds [x] with accesses := [a wr] }
     let gone : State := { holds [x] with inv := { (holds [x]).inv with unacked := [(4, .never)] } }
     (d (s true) = true ∧ (s true).acc 4 = some (a true) ∧ (a true).issued = true ∧ (a true).kind ≠ .read) ∧
       (d (s false) = true ∧ (s false).acc 4 = some (a false) ∧ (a false).kind = .read) ∧ d gone = true ∧ gone.acc 4 = none) := by decide +kernel

/-- A landing record of partition 0's stream 315. -/
def miss : LandRec :=
  { part := 0, seq := 0, cause := .notPresent, access := 0, resolves := .translationFault, stream := 315, pending := 0, level := 1, stalled := true,
    isMap := false, port := 0, tag := 0, va := 0, aux := 0, cycles := 0, desc := 0, acc := none }
/-- `up` with that stream stalled on these misses. -/
def stalledOn (l : List LandRec) : State :=
  { up.setStall 315 { state := .stalled, misses := l, latest := 0x1FFFF } with landings := [(0, { valid := true, sizeLog2 := 6 })] }

theorem test_witness_LandingsAndResumes :
    (up.reach .cp (0x100808 + 32 * 15) = true ∧ up.part 0 ≠ .disabled ∧ up.part 1 = .disabled ∧ up.reach .cp (0x100810 + 32 * 15) = true) ∧
    (let s := up.setLanding 15 { prod := 1, cons := 0xFFFFFFFF }
     ((1 : BitVec 32) - (s.landing 15).cons).toNat ≤ ((s.landing 15).prod - (s.landing 15).cons).toNat ∧
       ((s.landing 15).prod - (s.landing 15).cons).toNat < ((2 : BitVec 32) - (s.landing 15).cons).toNat) ∧
    (let s := up.setLanding 0 { valid := true, sizeLog2 := 6, prod := 63, waiting := [miss] }
     (s.landing 0).waiting = [miss] ∧ (s.landing 0).writing = none ∧ (s.landing 0).valid = true ∧ (s.landing 0).room = true ∧
       ({ (s.landing 0) with prod := 64 } : Landing).room = false ∧ (up.landing 0).waiting = []) ∧
    (let v : BitVec 32 := BitVec.ofNat 32 (2 ^ 16 * 0xFFFF + 2 ^ 12 * 2 + 315)
     let s := stalledOn [miss]
     s.reach .cp 0x100D00 = true ∧ bits v.toNat 8 0 < 316 ∧ (s.stall (bits v.toNat 8 0)).state = .stalled ∧
       (s.stall (bits v.toNat 8 0)).latest.toNat % 2 ^ 16 = bits v.toNat 31 16 ∧
       s.missLive 315 = false ∧
       (∀ m ∈ (s.stall (bits v.toNat 8 0)).misses, (s.landing m.part).valid = true) ∧ bits v.toNat 13 12 = 2 ∧
       bits (v - 2 ^ 12).toNat 13 12 = 1 ∧ ((stalledOn []).stall 315).misses = [] ∧ bits (v + 2 ^ 12).toNat 13 12 = 3 ∧ ¬ 316 < 316) ∧
    (((stalledOn [miss]).stall 315).state = .stalled ∧ (stalledOn [miss]).partEntry 0 = some (part 0) ∧ (part 0).faultTimeout ≠ 0 ∧
      (up.stall 315).state ≠ .stalled) := by decide +kernel

/-- An error record. -/
def errRec : ErrRec :=
  { seq := 0, cls := 0, status := .ok, slice := .sh, unit_ := 0, index := 0, part := 0, flags := 0, inst := 3, origin := 0, region := 0, address := 0,
    cycles := 0, detail0 := 0, detail1 := 0 }

theorem test_witness_PatrolRecordsAndMonitorScans :
    (on.hold.patrolOn = true ∧ up.hold.patrolOn = true ∧ (up.clock .hd).porN = true ∧ up.start.ready = true ∧ (State.reset.clock .hd).porN = false ∧
      ∀ x ∈ [(63, 262143, 79)], x.2.1 % 2 ^ 18 / 8 ≠ up.hold.row) ∧
    (let s : State := { up with ras := { up.ras with waiting := [errRec], valid := true, sizeLog2 := 6, prod := 63 } }
     s.ras.waiting = [errRec] ∧ s.ras.writing = none ∧ s.charted = true ∧ s.ras.valid = true ∧
       (s.ras.prod - s.ras.cons).toNat < 2 ^ s.ras.sizeLog2.toNat ∧ 2 ^ s.ras.sizeLog2.toNat ≤ ((64 : BitVec 32) - s.ras.cons).toNat) ∧
    up.ras.waiting = [] ∧
    (let s : State := { up with ras := { up.ras with prod := 3 } }
     s.reach .cp 0x2E0410 = true ∧ ((3 : BitVec 32) - s.ras.cons).toNat ≤ (s.ras.prod - s.ras.cons).toNat ∧
       (s.ras.prod - s.ras.cons).toNat < ((4 : BitVec 32) - s.ras.cons).toNat) ∧
    (up.pwr = true ∧ up.ctrlLost .hd = false ∧ up.ctrlLost .sh = false ∧ (up.marginOf (sliceIx .hd)).due = none ∧ (up.core 1).shedding = false ∧ (up.marginOf (sliceIx .hd)).rescan = false ∧
      ((up.modCore 1 (fun c => { c with shedding := true })).core 1).shedding = true ∧
      (let s : State := { up with health := { up.health with slices := [(2, { due := some 4, rescan := true })] } }
       (s.marginOf (sliceIx .hd)).due = some 4 ∧ (s.marginOf (sliceIx .hd)).rescan = true)) := by decide +kernel

theorem test_witness_RegisterWritesTakeEffect :
    (up.reach .cp 0x50 = true ∧ up.reach .cp 0x54 = true ∧ up.irq.vecValid = false ∧ up.reach .cp 0x58 = true ∧ up.vectorRefused 63 = true) ∧
    (up.reach .cp (0x2D0000 + 4 * 7) = true ∧ up.allPartsDisabled = false ∧ quiet.allPartsDisabled = true ∧
      quiet.reach .cp (0x2D0000 + 4 * 7) = true ∧ bits (0x80000009 : BitVec 32).toNat 11 0 ≠ quiet.ownId ∧
      (∀ j, j ∈ [2, 3, 4, 5, 6, 7] → j ≠ (7 : Fin 8).val → quiet.cacheOn j = true → quiet.cacheInst j ≠ 9) ∧
      bits (0x80000003 : BitVec 32).toNat 11 0 = quiet.ownId) ∧
    (let s : State := { quiet with home := { quiet.home with attach := [(2, 0x80000009)] } }
     ∃ j, j ∈ [2, 3, 4, 5, 6, 7] ∧ j ≠ (7 : Fin 8).val ∧ s.cacheOn j = true ∧ s.cacheInst j = bits (0x80000009 : BitVec 32).toNat 11 0) ∧
    (up.reach .cp 0x20001C = true ∧ up.reach .cp 0x200200 = true ∧ up.reach .cp (0x2E0008 : BitVec 24).toNat = true) ∧
    (up.reach .cp 0x2D0900 = true ∧ up.reach .cp 0 = true ∧ up.reach .cp (0x214000 : BitVec 24).toNat = false ∧
      actionReg (0x214000 : BitVec 24).toNat = false ∧ State.reset.reach .cp 0x50 = false ∧ on.reach .cp 0x2E0410 = false ∧
      on.reach .cp 0x2D0900 = false) := by decide +kernel

theorem test_witness_IdentificationReadsRelease : on.reach .cp 0x000000 = true ∧ on.reach .cp 0x000004 = true := by decide +kernel

/-- Slot 31 open for BF16 elements of two contributors, 1.0 of contribution 0 parked. -/
def folding : State := up.setSlot 31 {
  state := .open_, round := 2, accepted := [0], acc := [([0, 0, 0, 0], false, 0)],
  header := some { round := 2, slot := 31, index := 0, k := 2, op := 0, type_ := 2, norm := false, failed := false, dgroups := 0, count := 1,
                   dataBytes := 2, result := 0, tide := 0xFFFF, part := 0, failStatus := .ok },
  parked := [{ index := 0, first := 64, data := [(0x80, false), (0x3F, false)] }] }

/-- The element has an accumulator before and after the fold, and it takes contribution 0, widened (12 R297). -/
theorem test_witness_FoldsAndElementsInOrder :
    (folding.slot 31).acc[0]? = some ([0, 0, 0, 0], false, 0) ∧
    (match exec (.combineFold 31) folding with
      | .next t => (t.slot 31).acc[0]? == some ([0, 0, 0x80, 0x3F], false, 1)
      | _ => false) = true := by decide +kernel

/-- A descriptor of an opcode with flags, a pipeline, ELEM and N0, from 256 to 4096, with one read burst back. -/
def moving (op flags pipe elem n0 : Nat) (bs : MarkedBytes) : Running :=
  { words := [BitVec.ofNat 64 (op + 2 ^ 8 * pipe + 2 ^ 16 * flags + 2 ^ 32 * elem), 256, 4096, BitVec.ofNat 64 (n0 + 2 ^ 32), 1,
      BitVec.ofNat 64 (elem + 2 ^ 32 * elem)],
    addr := 0, queue := some 31, cls := 0, phase := .active,
    reads := [{ burst := 0, result := some (.ok, bs), arrived := false }] }
/-- `up` with that descriptor on channel 1 and these operation words in pipeline 0. -/
def sluicing (r : Running) (ops : List (BitVec 32) := []) : State := { runs r with sluice := { up.sluice with pipes := [(0, { ops := ops })] } }
/-- Bytes without poison. -/
def good (b : Bytes) : MarkedBytes := b.map (fun x => (x, false))
/-- What every clause on a read burst asks. -/
def readsBack (r : Running) (bs : MarkedBytes) : Bool :=
  ((sluicing r).chan 1).run == some r && r.reads == [{ burst := 0, result := some (.ok, bs), arrived := false }] && !r.quit && !r.stopWrites &&
  (sluicing r).mgmt.change == none && r.seqD == none && decide (0 < dElem r.words) && r.carry == []
/-- OP, PIPE and the two zero-run flags. -/
def form (r : Running) : Nat × Nat × Bool × Bool := (dOp r.words, dPipe r.words, dFlag r.words 8, dFlag r.words 9)
/-- No byte is poisoned. -/
def isClean (bs : MarkedBytes) : Bool := bs.all (fun x => !x.2)

theorem test_witness_FoldsAndElementsInOrder_copy :
    (let b := good (zeros 8)
     let r := moving 1 0 0xFF 4 2 b
     readsBack r b = true ∧ form r = (1, 0xFF, false, false) ∧ isClean b = true ∧ b.length = 2 * dElem r.words) ∧
    (let b : MarkedBytes := [(1, false), (2, true)]
     let r := moving 1 0 0xFF 2 2 b
     readsBack r b = true ∧ form r = (1, 0xFF, false, false) ∧ isClean b = false ∧ b.length = dElem r.words ∧ r.outQ = [] ∧ r.group = []) ∧
    (let b := good (zeros 4)
     let r := moving 1 0 0 4 32 b
     readsBack r b = true ∧ dOp r.words = 1 ∧ dFlag r.words 8 = false ∧ dFlag r.words 9 = false ∧ isClean b = true ∧ b.length = dElem r.words ∧
       (let ops := (sluicing r [0x02000204]).pipeOps r.words
        ops ≠ [] ∧ mxIn ops = false ∧ mxOut ops = false ∧ pipeSoftmax ops = false) ∧
       (let w : BitVec 32 := 0x02000215
        let ops := (sluicing r [w]).pipeOps r.words
        ops = [w] ∧ opField w = 2 ∧ mxIn ops = false ∧ fmtMx (opOut w) = true ∧
          ({ r with group := List.replicate 31 (0, none, false) } : Running).group.length = 31) ∧
       (let w : BitVec 32 := 0x07000001
        let ops := (sluicing r [w]).pipeOps r.words
        ops = [w] ∧ opField w = 7 ∧ mxIn ops = false ∧
          ({ r with group := List.replicate 31 (0, none, false) } : Running).group.length + 1 = dN0 r.words)) ∧
    (let b := good (zeros 33)
     let r := moving 1 0 0 33 1 b
     let w : BitVec 32 := 0x02001502
     readsBack r b = true ∧ dOp r.words = 1 ∧ dFlag r.words 6 = false ∧ dFlag r.words 8 = false ∧ dFlag r.words 9 = false ∧ isClean b = true ∧
       b.length = dElem r.words ∧ (sluicing r [w]).pipeOps r.words = [w] ∧ opField w = 2 ∧ fmtMx (opIn w) = true ∧ fmtMx (opOut w) = false) ∧
    (∀ op ∈ [3, 8], let b := good (zeros 4)
     let r := moving op 0 0xFF 4 1 b
     readsBack r b = true ∧ dOp r.words = op ∧ dFlag r.words 8 = false ∧ isClean b = true ∧ b.length = dElem r.words) := by decide +kernel

/-- A zero-run header of one-byte elements: this count and body length, and its crc. -/
def zrcHead (count len : Nat) : Bytes :=
  let h := leBytes 4 0x3143525A ++ leBytes 2 1 ++ zeros 2 ++ leBytes 8 count ++ leBytes 8 len ++ zeros 4
  h ++ leBytes 4 (crc32c h)

theorem test_witness_FoldsAndElementsInOrder_zero_runs :
    (∀ x ∈ [((0x01 : Byte), ([] : Bytes), 1, 2), (0x00, [], 2, 1), (0x81, [5, 6], 3, 2), (0x80, [5], 9, 1), (0x7F, [], 9, 128)],
      let b := (x.1, false) :: good x.2.1
      let r := { moving 1 0x100 0xFF 1 2 b with zrc := { bodyLen := some x.2.2.1 } }
      readsBack r b = true ∧ form r = (1, 0xFF, true, false) ∧ isClean b = true ∧ r.zrc.bodyLen = some x.2.2.1 ∧ r.zrc.left = 0 ∧
        r.unitIx < dCount r.words ∧ (if x.1.toNat < 0x80 then x.1.toNat + 1 else x.1.toNat - 0x7F) = x.2.2.2 ∧
        ((x.2.2.2 = 2 ∧ b.length = x.2.2.1) ∨ (x.2.2.2 < 2 ∧ b.length < x.2.2.1) ∨ dCount r.words < x.2.2.2) ∧
        (x.1.toNat < 0x80 ∧ x.2.1 = [] ∨ 0x80 ≤ x.1.toNat ∧ x.2.1.length = x.2.2.2)) ∧
    (∀ x ∈ [zeros 32, zrcHead 2 9, zrcHead 3 9],
      let b := good x
      let r := moving 1 0x100 0xFF 1 2 b
      readsBack r b = true ∧ form r = (1, 0xFF, true, false) ∧ isClean b = true ∧ r.zrc.bodyLen = none ∧ b.length = 32 ∧ b.map (·.1) = x ∧
        r.zrc.parsed < 9 ∧ r.zrc.left = 0 ∧ r.unitIx < dCount r.words ∧ dCount r.words = 2 ∧ dElem r.words = 1) ∧
    crc32c ((zeros 32).take 28) ≠ fld (zeros 32) 28 4 ∧
    (∀ n ∈ [2, 3], crc32c ((zrcHead n 9).take 28) = fld (zrcHead n 9) 28 4 ∧ fld (zrcHead n 9) 8 8 = n ∧ fld (zrcHead n 9) 0 4 = 0x3143525A ∧
      fld (zrcHead n 9) 4 2 = 1 ∧ fld (zrcHead n 9) 6 2 = 0 ∧ fld (zrcHead n 9) 0x18 4 = 0 ∧ fld (zrcHead n 9) 0x10 8 = 9) := by
  decide +kernel

/-- Every byte is zero. -/
def isZero (e : MarkedBytes) : Bool := e.all (fun x => x.1 == 0)
/-- OPERAND of a descriptor with room for this many times 256 bytes. -/
def roomFor (n : Nat) : Nat := dOperand [0, 0, 0, 0, 0, 0, 0, 0, 0, 0, BitVec.ofNat 64 (2 ^ 32 * n)]

theorem test_witness_FoldsAndElementsInOrder_zero_run_output :
    (∀ l ∈ [[], [good [0]], [good [1]], List.replicate 128 (good [0])],
      let b := good [0]
      let r := { moving 1 0x200 0xFF 1 200 b with zrc := { run := l } }
      readsBack r b = true ∧ form r = (1, 0xFF, false, true) ∧ isClean b = true ∧ b.length = dElem r.words ∧ r.zrc.run.all isClean = true) ∧
    isZero (good [0]) = true ∧ isZero (good [1]) = false ∧ [good [0]].length < 128 ∧ 128 ≤ (List.replicate 128 (good [0])).length ∧
    0x20 + 2 ≤ bits (roomFor 1) 63 32 * 256 ∧ bits (roomFor 0) 63 32 * 256 < 0x20 + 2 := by decide +kernel

/-- The clauses on groups and rows: a NaN, zeros only, a largest exponent; a NaN, an infinity, negative infinities, and numbers. -/
theorem test_witness_FoldsAndElementsInOrder_groups :
    (let g : List (Machine.Num × Option Nat) := [(.fin false 3 4, none), (.fin true 0 0, none)]
     (∀ v ∈ g, v.1 ≠ .nan) ∧ (∃ v ∈ g, v.1 = .fin false 3 4 ∧ 3 ≠ 0 ∧ ((3 : Nat).log2 : Int) + 4 = 5)) ∧
    (∃ v ∈ [((Machine.Num.nan : Machine.Num), (none : Option Nat))], v.1 = .nan) ∧
    (numOf 2 0x7FC00000 = .nan ∧ numOf 2 0x7F800000 ≠ .nan ∧ numOf 2 0x3F800000 ≠ .nan ∧ (0x3F800000 : Nat) ≠ 0x7F800000 ∧
      (0x3F800000 : Nat) ≠ 0xFF800000 ∧ (0x3F800000 : Nat) < 2 ^ 32 ∧ ∀ x ∈ [(0xFF800000 : Nat)], x = 0xFF800000) := by decide +kernel

/-- A magnitude that rounds beyond the largest of E4M3. -/
theorem test_witness_FoldsAndElementsInOrder_overflow :
    ((fmtMax 5).1 : ℚ) * 2 ^ (fmtMax 5).2 < (roundAt 1024 0 (spacing 5 1024 0) none : ℚ) * 2 ^ spacing 5 1024 0 := by
  have h : spacing 5 1024 0 = 7 ∧ roundAt 1024 0 7 none = 8 := by decide +kernel
  rw [h.1, h.2]; norm_num [fmtMax]

theorem test_witness_ConfigurationChangesOnlyByItsCommands :
    (Instr.ioRequest 0).configures = false ∧ up.reach .cp (0xFFFFFC : BitVec 24).toNat = false ∧ up.pending = [] ∧
    (let s := on
     s.accesses = [] ∧ s.ended = [] ∧ s.engReqs = [] ∧ (∀ e ∈ s.chans, e.2.run = none) ∧ s.alloc.bulks = [] ∧ s.home.txns = [] ∧
       s.home.hostHeld = [] ∧ s.ident.jobs = [] ∧ s.mgmt.changes = [] ∧ s.stalls = [] ∧ (∀ e ∈ s.peers, e.2.stored = []) ∧ s.harbour = false) := by decide +kernel

theorem test_witness_EveryStepKeepsConfigurationLegal :
    ({ up with pending := [.ioRequest 0] } : State).conf.legal = true ∧
    step { up with pending := [.ioRequest 0] } = .next { up with out := .cplUr 0 :: up.out } := ⟨by decide +kernel, rfl⟩

/-! ### One-command tests with the spec's values -/

/-- The check value of CRC-32C that RFC 3720 names: the crc of "123456789". -/
theorem test_crc32c_check_value : crc32c (ascii "123456789") = 0xE3069283 := by decide +kernel

/-- SHA-384 of "abc" (FIPS 180-4), its first and last bytes. -/
theorem test_sha384_abc : (sha384 (ascii "abc")).take 4 = [0xCB, 0x00, 0x75, 0x3F] ∧ (sha384 (ascii "abc")).drop 46 = [0x25, 0xA7] := by
  decide +kernel

/-- 01 R1: SH_ID and SH_RELEASE. -/
theorem test_identification : (on.readReg .cp 0).1 = some 0x00CAE001 ∧ (on.readReg .cp 4).1 = some 0x01020000 := by decide +kernel

/-- 06 R133: a doorbell with prod behind the queue's is dropped without a count, one past the ring is counted. -/
theorem test_doorbell_order :
    let s := withQ { dbEnable := true, sizeLog2 := 4, prod := 5, cons := 5 }
    (match exec (.hostDoorbell 0 31 (bell 31 4)) s with
      | .next t => t == s
      | _ => false) = true ∧
    (match exec (.hostDoorbell 0 31 (bell 31 22)) s with
      | .next t => t.dbCheck == 1 && t.dbLast == 31 && (t.queue 31).prod == 5
      | _ => false) = true := by decide +kernel

/-- 13 R319: a wait of 0 on a counter of 0 ends at once; one of 1 does not. -/
theorem test_wait_compares_wrapping :
    (match exec (.wait 1) (runs (run 7 [(10, 0), (13, 31)])) with
      | .next t => ((t.chan 1).run.map (·.phase)) == some .statusWrite || ((t.chan 1).run.map (·.phase)) == some .active
          || ((t.chan 1).run.map (·.phase)) == some .drained
      | _ => false) = true ∧
    (match exec (.wait 1) (runs (run 7 [(10, 1), (13, 31)])) with
      | .next t => ((t.chan 1).run.map (·.phase)) == some .waiting
      | _ => false) = true := by decide +kernel

/-- The word a table row would be decoded from: the table gives no row bits. -/
theorem test_no_word_decodes : decodeTableWord 8 0 = none ∧ decodeTableWord 64 5 = none := by decide

end Sys2Proof.Tests
end

/-! Register reads: what a read that reaches its register answers, and the identification registers (01 R1). -/

namespace Sys2Proof.Machine

theorem State.readReg_of_reach {s : State} {path : Path} {a : Nat} (h : s.reach path a = true) :
    s.readReg path a = (some (BitVec.ofNat 32 (s.readWord path a)), s.readLatch path a) := if_pos h

theorem State.readWord_of_global (s : State) (path : Path) {a : Nat} (h : a < 0x10000) :
    s.readWord path a = s.readGlobal a := if_pos h

/-- The three pairs of 17 R413 latch, and all of them lie past the SH global range. -/
theorem State.readLatch_of_global (s : State) (path : Path) {a : Nat} (h : a < 0x10000) : s.readLatch path a = s := by
  have hMeas : a ≠ 0x40018 := by omega
  have hTide : ¬ 0x240000 ≤ a := by omega
  have hCycles : ¬ 0x300000 ≤ a := by omega
  simp [State.readLatch, inRange, hMeas, hTide, hCycles]

/-- A read of the SH global range answers the register's value and changes no state. -/
theorem State.readReg_of_global {s : State} {path : Path} {a : Nat} (hr : s.reach path a = true) (h : a < 0x10000) :
    s.readReg path a = (some (BitVec.ofNat 32 (s.readGlobal a)), s) := by
  rw [s.readReg_of_reach hr, s.readWord_of_global path h, s.readLatch_of_global path h]

@[simp] theorem State.readGlobal_blockId (s : State) : s.readGlobal 0x00 = 0x00CAE001 := rfl

@[simp] theorem State.readGlobal_version (s : State) : s.readGlobal 0x04 = 0x01020000 := rfl

/-- SH_BLOCK_ID, on every path that reaches it. -/
theorem State.readReg_blockId {s : State} {path : Path} (h : s.reach path 0x000000 = true) :
    s.readReg path 0x000000 = (some 0x00CAE001, s) := by
  rw [State.readReg_of_global h (by decide), s.readGlobal_blockId]; rfl

/-- SH_VERSION, on every path that reaches it. -/
theorem State.readReg_version {s : State} {path : Path} (h : s.reach path 0x000004 = true) :
    s.readReg path 0x000004 = (some 0x01020000, s) := by
  rw [State.readReg_of_global h (by decide), s.readGlobal_version]; rfl

/-- SH_VERSION's word spells release 1.2, patch 0. -/
theorem version_fields :
    bits (0x01020000 : BitVec 32).toNat 31 24 = 1 ∧ bits (0x01020000 : BitVec 32).toNat 23 16 = 2 ∧
      bits (0x01020000 : BitVec 32).toNat 15 0 = 0 := by decide

/-- Settles O56: both registers lie in the SH global range, whose reads latch nothing, and read as constants. -/
theorem identificationReadsRelease : Obligations.IdentificationReadsRelease := by
  unfold Obligations.IdentificationReadsRelease
  intro s w
  refine ⟨State.readReg_blockId, fun h => ⟨State.readReg_version h, fun v hv => ?_⟩⟩
  have hword : (0x01020000 : BitVec 32) = v := by simpa [State.readReg_version h] using hv
  exact hword ▸ version_fields

end Sys2Proof.Machine

/-! Resets of a slice (03 R73, R74): what each bank reads after the assertion of a cold or a warm reset. -/

namespace Sys2Proof.Machine

/-! ### Tables and slices -/

/-- Dropping the entries of some indices from a table leaves the others as they read. -/
theorem tabGet_filter {α : Type} (d : α) (p : Nat → Bool) (t : Tab α) (k : Nat) :
    tabGet d (t.filter (fun e => p e.1)) k = if p k then tabGet d t k else d := by
  induction t with
  | nil => simp
  | cons e t ih =>
    obtain ⟨i, v⟩ := e
    by_cases hik : i = k
    · subst hik; cases hp : p i <;> simp_all [tabGet]
    · cases hp : p i <;> simp_all [tabGet]

theorem coreSlice_eq_sh {c : Nat} : coreSlice c = .sh ↔ c < 3 := by unfold coreSlice; split <;> simp_all

theorem coreSlice_eq_hd {c : Nat} : coreSlice c = .hd ↔ 3 ≤ c := by unfold coreSlice; split <;> simp <;> omega

theorem coreSlice_ne_en (c : Nat) : coreSlice c ≠ .en := by unfold coreSlice; split <;> simp

/-! ### Cold reset -/

/-- A cold reset writes one clock block, the slice's own. -/
theorem State.coldAssert_clock (s : State) (sl k : Slice) :
    (s.coldAssert sl).clock k = if k = sl then (s.clock sl).cold else s.clock k := by
  have h : (s.coldAssert sl).clock k = (s.modClock sl ClockState.cold).clock k := by cases sl <;> rfl
  rw [h, State.modClock, State.clock_setClock]

/-- A cold reset takes the slice's own cores to their reset values (01 R14) and leaves the others. -/
theorem State.coldAssert_core (s : State) (sl : Slice) (c : Nat) :
    (s.coldAssert sl).core c = if coreSlice c = sl then {} else s.core c := by
  cases sl with
  | sh => 
    refine (tabGet_filter _ (fun i => decide (3 ≤ i)) _ _).trans ?_
    simp only [coreSlice_eq_sh, decide_eq_true_eq, ← Nat.not_lt, ite_not]; rfl
  | en => rw [if_neg (coreSlice_ne_en c)]; rfl
  | hd => 
    refine (tabGet_filter _ (fun i => decide (i < 3)) _ _).trans ?_
    simp only [coreSlice_eq_hd, decide_eq_true_eq, ← Nat.not_le, ite_not]; rfl

/-- Settles O4: the effect of the assertion is `State.coldAssert`, whose clocks and cores the lemmas above give; every other bank
it names is written, or kept, by the update itself. -/
theorem coldResetClearsSliceState : Obligations.ColdResetClearsSliceState := by
  unfold Obligations.ColdResetClearsSliceState
  intro s sl
  refine ⟨s.coldAssert sl, rfl, ?_, fun k hk => ?_, ?_, ?_, fun c hc => ?_, fun c hc => ?_, ?_, ?_, ?_⟩
  · rw [State.coldAssert_clock, if_pos rfl]; rfl
  · rw [State.coldAssert_clock, if_neg hk]
  · cases sl <;> rfl
  · cases sl <;> rfl
  · rw [State.coldAssert_core, if_pos hc]
  · rw [State.coldAssert_core, if_neg hc]
  · rintro rfl; exact ⟨rfl, rfl, rfl, rfl, rfl, rfl, rfl, rfl, rfl, rfl, rfl, rfl, rfl, rfl, rfl, rfl⟩
  · rintro rfl; exact ⟨rfl, rfl, rfl, rfl, rfl, rfl, rfl, rfl, rfl⟩
  · rintro rfl; exact ⟨rfl, rfl, rfl, rfl, rfl, rfl, rfl, rfl, rfl, rfl, rfl, rfl, rfl, rfl⟩


/-! ### Operations done for each index of a list -/

/-- What every step of a list of operations keeps, the whole list keeps. -/
theorem eachOf_keeps {α β : Type} {f : α → State → State} (g : State → β) (h : ∀ x t, g (f x t) = g t) (l : List α) (s : State) :
    g (eachOf f l s) = g s := by
  induction l generalizing s with
  | nil => rfl
  | cons x xs ih => rw [eachOf, ih, h]

/-- A relation of a state to a later one that every step of a list of operations respects holds over the whole list. -/
theorem eachOf_relates {α : Type} {f : α → State → State} {R : State → State → Prop} (hrefl : ∀ t, R t t)
    (htrans : ∀ a b c, R a b → R b c → R a c) (h : ∀ x t, R t (f x t)) (l : List α) (s : State) : R s (eachOf f l s) := by
  induction l generalizing s with
  | nil => exact hrefl s
  | cons x xs ih => exact htrans _ _ _ (h x s) (ih _)

/-! ### Warm reset -/

/-- Two clock blocks differ at most in what a mode change may set: the supply goal, fallback and ordered ebb (05 R117). -/
def ClockState.sameButModes (k k' : ClockState) : Prop :=
  k' = { k with supplyGoal := k'.supplyGoal, fallback := k'.fallback, ebbOrdered := k'.ebbOrdered }

theorem ClockState.sameButModes_trans {a b c : ClockState} (h : a.sameButModes b) (h' : b.sameButModes c) : a.sameButModes c := by
  unfold ClockState.sameButModes at *; rw [h', h]

/-- A change of a clock block's modes alone leaves every clock block the same but for its modes. -/
theorem State.modClock_sameButModes (s : State) (sl k : Slice) {f : ClockState → ClockState} (h : ∀ c : ClockState, c.sameButModes (f c)) :
    (s.clock k).sameButModes ((s.modClock sl f).clock k) := by
  rw [State.modClock, State.clock_setClock]
  split
  · next e => subst e; exact h _
  · rfl

/-- What setting one unit of a mode change writes: clocks' modes, a tear mode or a pipeline (05 R117). -/
theorem State.unitSet_cases (m : ModeChange) (new : Bool) (u : UnitRef) (s : State) :
    (∃ sl f, (∀ c : ClockState, c.sameButModes (f c)) ∧ State.unitSet m new u s = s.modClock sl f) ∨
      ∃ a b, State.unitSet m new u s = { s with tearBurst := a, sluice := b } := by
  unfold State.unitSet
  generalize (if new = true then m.value else m.old) = v
  split
  · exact .inr ⟨_, s.sluice, rfl⟩
  · exact .inr ⟨s.tearBurst, _, rfl⟩
  · refine .inl ⟨_, _, ?_, rfl⟩; exact fun _ => rfl
  · refine .inl ⟨_, _, ?_, rfl⟩; exact fun _ => rfl
  · refine .inl ⟨_, _, ?_, rfl⟩; exact fun _ => rfl
  · exact .inr ⟨s.tearBurst, s.sluice, rfl⟩

theorem State.unitSet_clock (m : ModeChange) (new : Bool) (u : UnitRef) (s : State) (k : Slice) :
    (s.clock k).sameButModes ((State.unitSet m new u s).clock k) := by
  obtain ⟨sl, f, hf, h⟩ | ⟨a, b, h⟩ := State.unitSet_cases m new u s <;> rw [h]
  · exact s.modClock_sameButModes sl k hf
  · rfl

/-- A mode change writes clocks, tear modes and pipelines: what does not speak of them is kept. -/
theorem State.unitSet_keeps {β : Type} (g : State → β) (h : ∀ (t : State) a b c, g { t with clocks := a, tearBurst := b, sluice := c } = g t)
    (m : ModeChange) (new : Bool) (u : UnitRef) (s : State) : g (State.unitSet m new u s) = g s := by
  obtain ⟨sl, f, -, hu⟩ | ⟨a, b, hu⟩ := State.unitSet_cases m new u s <;> rw [hu]
  · exact h s _ s.tearBurst s.sluice
  · exact h s s.clocks a b

/-- What going back in a mode change keeps: everything but clocks, tear modes and pipelines. -/
theorem State.modeOld_keeps {β : Type} (g : State → β) (h : ∀ (t : State) a b c, g { t with clocks := a, tearBurst := b, sluice := c } = g t)
    (m : ModeChange) (s : State) : g (s.modeOld m) = g s :=
  eachOf_keeps g (fun u t => State.unitSet_keeps g h m false u t) m.units s

theorem State.modeOld_clock (m : ModeChange) (s : State) (k : Slice) : (s.clock k).sameButModes ((s.modeOld m).clock k) :=
  eachOf_relates (R := fun a b => (a.clock k).sameButModes (b.clock k)) (fun _ => rfl) (fun _ _ _ => ClockState.sameButModes_trans)
    (fun u t => State.unitSet_clock m false u t k) m.units s

/-- The mode change in progress, if any, taken back. -/
def State.changeUndone (s : State) : State :=
  match s.mgmt.change with
  | some m => s.modeOld m
  | none => s

theorem State.changeUndone_keeps {β : Type} (g : State → β)
    (h : ∀ (t : State) a b c, g { t with clocks := a, tearBurst := b, sluice := c } = g t) (s : State) : g s.changeUndone = g s := by
  unfold State.changeUndone
  split
  · exact State.modeOld_keeps g h _ s
  · rfl

theorem State.changeUndone_clock (s : State) (k : Slice) : (s.clock k).sameButModes (s.changeUndone.clock k) := by
  unfold State.changeUndone
  split
  · exact s.modeOld_clock _ k
  · rfl

theorem State.changeUndone_of_none {s : State} (h : s.mgmt.change = none) : s.changeUndone = s := by
  unfold State.changeUndone; rw [h]

theorem State.warmSh_start (s : State) (d : BitVec 9) : (s.warmSh d).start = s.start :=
  State.changeUndone_keeps State.start (fun _ _ _ _ => rfl) s

theorem State.warmSh_tide (s : State) (d : BitVec 9) : (s.warmSh d).tide = s.tide :=
  State.changeUndone_keeps State.tide (fun _ _ _ _ => rfl) s

theorem State.warmSh_clock (s : State) (d : BitVec 9) (k : Slice) : (s.warmSh d).clock k = s.changeUndone.clock k := rfl

/-- The cores whose index a predicate takes are held; a core that is not listed is held already. -/
theorem tabGet_map_held (p : Nat → Bool) (t : Tab Core) (c : Nat) :
    (tabGet ({} : Core) (t.map (fun e => if p e.1 then (e.1, e.2.held) else e)) c) =
      if p c then (tabGet ({} : Core) t c).held else tabGet ({} : Core) t c := by
  induction t with
  | nil => simp [Core.held]
  | cons e t ih =>
    obtain ⟨i, v⟩ := e
    by_cases hic : i = c
    · subst hic; cases hp : p i <;> simp [tabGet, hp]
    · cases hp : p i <;> simpa [tabGet, hp, hic] using ih

/-- The shore slice's own cores are held (01 R14). -/
theorem State.warmSh_core (s : State) (d : BitVec 9) (c : Nat) :
    (s.warmSh d).core c = if c < 3 then (s.core c).held else s.core c := by
  have h : (s.warmSh d).core c = tabGet ({} : Core) (s.changeUndone.cores.map (fun e => if e.1 < 3 then (e.1, e.2.held) else e)) c := rfl
  have hmap := tabGet_map_held (fun i => decide (i < 3)) s.changeUndone.cores c
  simp only [decide_eq_true_eq] at hmap
  rw [h, hmap, State.changeUndone_keeps State.cores (fun _ _ _ _ => rfl)]; rfl

/-- Ending the engine requests writes what is driven and the requests. -/
theorem State.engAborted_keeps {β : Type} (g : State → β) (h : ∀ (t : State) a b, g { t with out := a, engReqs := b } = g t) (s : State) :
    g s.engAborted = g s := by
  refine (h _ _ []).trans ?_
  exact eachOf_keeps g (fun _ t => h t _ t.engReqs) s.engReqs s

/-- A channel in the state FENCED. -/
def Channel.fence (k : Channel) : Channel := { k with state := .fenced }

/-- A channel that the self-test fenced takes the state FENCED. -/
def State.fenceChan (c : Nat) (t : State) : State := if t.fenced.channels.getLsbD c then t.modChan c Channel.fence else t

theorem State.fenceChan_fenced (x : Nat) (s : State) : (State.fenceChan x s).fenced = s.fenced := by unfold State.fenceChan; split <;> rfl

theorem State.fenceChan_chan (x : Nat) (s : State) (c : Nat) :
    (State.fenceChan x s).chan c = if c = x ∧ s.fenced.channels.getLsbD c = true then (s.chan c).fence else s.chan c := by
  unfold State.fenceChan
  split
  · next h =>
    rw [State.modChan, State.chan_setChan]
    by_cases hc : c = x
    · subst hc; rw [if_pos rfl, if_pos ⟨rfl, h⟩]
    · rw [if_neg hc, if_neg (fun e => hc e.1)]
  · next h => rw [if_neg]; rintro ⟨rfl, e⟩; exact h e

theorem State.chan_eachOf_fenceChan (l : List Nat) (s : State) (c : Nat) : (eachOf State.fenceChan l s).chan c =
    if c ∈ l ∧ s.fenced.channels.getLsbD c = true then (s.chan c).fence else s.chan c := by
  induction l generalizing s with
  | nil => simp [eachOf]
  | cons x xs ih =>
    rw [eachOf, ih, State.fenceChan_fenced, State.fenceChan_chan]
    have hidem : (s.chan c).fence.fence = (s.chan c).fence := rfl
    by_cases hx : c = x
    · subst hx; by_cases hf : s.fenced.channels.getLsbD c = true <;> simp [hf, hidem]
    · simp [hx]

/-- Queues, channels, slots and requests at their reset values, before fenced channels and partitions are told. -/
def State.workReset (s : State) : State :=
  { s with
    queues := [], chans := [], arbR := [], arbW := [], cmb := {}, sluice := { pipes := s.sluice.pipes, foldCc := s.sluice.foldCc },
    engReqs := [], beats := [], owedBeats := [], portEnable := [], releases := [] }

theorem State.resetWork_reads_parts {β : Type} (g : State → β) (hp : ∀ (t : State) p, g { t with parts := p } = g t) (s : State) :
    g s.resetWork = g (eachOf State.fenceChan (List.range 64) s.workReset) := by
  refine (eachOf_keeps g ?_ _ _).trans rfl
  exact fun e t => hp t _

/-- After `State.resetWork` everything but channels and partitions reads as `State.workReset` puts it. -/
theorem State.resetWork_reads {β : Type} (g : State → β) (hp : ∀ (t : State) p, g { t with parts := p } = g t)
    (hc : ∀ (t : State) c, g { t with chans := c } = g t) (s : State) : g s.resetWork = g s.workReset := by
  rw [State.resetWork_reads_parts g hp, eachOf_keeps g]
  intro c t
  unfold State.fenceChan
  split
  · exact hc t _
  · rfl

/-- Channels are at their reset values, but for the fenced ones (09 R235). -/
theorem State.resetWork_chan (s : State) {c : Nat} (hc : c < 64) :
    s.resetWork.chan c = if s.fenced.channels.getLsbD c then { state := .fenced } else {} := by
  rw [State.resetWork_reads_parts (fun t => t.chan c) (fun _ _ => rfl), State.chan_eachOf_fenceChan]
  simp only [List.mem_range, hc, true_and]; rfl

theorem State.warmEn_start (s : State) : s.warmEn.start = s.start := State.engAborted_keeps State.start (fun _ _ _ => rfl) s

theorem State.warmEn_tide (s : State) : s.warmEn.tide = s.tide := State.engAborted_keeps State.tide (fun _ _ _ => rfl) s

theorem State.warmEn_clock (s : State) (k : Slice) : s.warmEn.clock k = s.clock k :=
  State.engAborted_keeps (fun t => t.clock k) (fun _ _ _ => rfl) s

theorem State.warmEn_core (s : State) (c : Nat) : s.warmEn.core c = s.core c :=
  State.engAborted_keeps (fun t => t.core c) (fun _ _ _ => rfl) s

/-- What ending the engine requests and resetting the work leaves alone. -/
theorem State.workGone_keeps {β : Type} (g : State → β) (hp : ∀ (t : State) p, g { t with parts := p } = g t)
    (hc : ∀ (t : State) c, g { t with chans := c } = g t) (hw : ∀ t : State, g t.workReset = g t)
    (ho : ∀ (t : State) a b, g { t with out := a, engReqs := b } = g t) (s : State) : g s.engAborted.resetWork = g s := by
  rw [State.resetWork_reads g hp hc, hw, State.engAborted_keeps g ho]

theorem State.warmHd_start (s : State) : s.warmHd.start = s.start :=
  State.workGone_keeps State.start (fun _ _ => rfl) (fun _ _ => rfl) (fun _ => rfl) (fun _ _ _ => rfl) s

theorem State.warmHd_tideValues (s : State) : s.warmHd.tide.values = s.tide.values :=
  State.workGone_keeps (fun t => t.tide.values) (fun _ _ => rfl) (fun _ _ => rfl) (fun _ => rfl) (fun _ _ _ => rfl) s

theorem State.warmHd_clock (s : State) (k : Slice) : s.warmHd.clock k = s.clock k :=
  State.workGone_keeps (fun t => t.clock k) (fun _ _ => rfl) (fun _ _ => rfl) (fun _ => rfl) (fun _ _ _ => rfl) s

/-- The hold slice's own cores are held (01 R14). -/
theorem State.warmHd_core (s : State) (c : Nat) : s.warmHd.core c = if 3 ≤ c then (s.core c).held else s.core c := by
  have h : s.warmHd.core c =
    tabGet ({} : Core) (s.engAborted.resetWork.cores.map (fun e => if 3 ≤ e.1 then (e.1, e.2.held) else e)) c := rfl
  have hmap := tabGet_map_held (fun i => decide (3 ≤ i)) s.engAborted.resetWork.cores c
  simp only [decide_eq_true_eq] at hmap
  rw [h, hmap, State.workGone_keeps State.cores (fun _ _ => rfl) (fun _ _ => rfl) (fun _ => rfl) (fun _ _ _ => rfl)]; rfl

theorem State.warmHd_chan (s : State) {c : Nat} (hc : c < 64) :
    s.warmHd.chan c = if s.fenced.channels.getLsbD c then { state := .fenced } else {} := by
  refine (s.engAborted.resetWork_chan hc).trans ?_
  rw [State.engAborted_keeps State.fenced (fun _ _ _ => rfl)]

/-- A slice link whose crossing lost its clock is down (03 R74). -/
def State.crossDown (sl : Slice) (dead : BitVec 9) (k : Nat) (t : State) : State :=
  match crossAt sl k with
  | .link l => if dead.getLsbD k then t.modLink l (fun x => { x with up := false }) else t
  | _ => t

theorem State.crossDown_links (sl : Slice) (dead : BitVec 9) (k : Nat) (t : State) :
    ∃ v, State.crossDown sl dead k t = { t with links := v } := by
  unfold State.crossDown
  split
  · split
    · exact ⟨_, rfl⟩
    · exact ⟨t.links, rfl⟩
  · exact ⟨t.links, rfl⟩

theorem State.eachOf_crossDown_links (sl : Slice) (dead : BitVec 9) (l : List Nat) (t : State) :
    ∃ v, eachOf (State.crossDown sl dead) l t = { t with links := v } := by
  refine eachOf_relates (R := fun a b => ∃ v, b = { a with links := v }) (fun a => ⟨a.links, rfl⟩) ?_ (State.crossDown_links sl dead) l t
  rintro a _ _ ⟨v, rfl⟩ ⟨w, rfl⟩
  exact ⟨w, rfl⟩

/-- The state in which the reset of a slice finds the block: the slice's clock block and the start as a warm reset leaves them, links
of lost crossings down. -/
def State.warmBegun (s : State) (sl : Slice) (links : Tab LinkState) : State :=
  { s.setClock sl (s.clock sl).warm with
    links := links, start := { step := 1, warm := true, lost := s.start.lost || (s.clock sl).dead != 0 } }

/-- What a warm reset resets of the slice itself. -/
def State.warmSlice (t : State) (sl : Slice) (dead : BitVec 9) : State :=
  match sl with
  | .sh => t.warmSh dead
  | .en => t.warmEn
  | .hd => t.warmHd

/-- A warm reset that has effect: clocks and start first, then the slice's own state. -/
theorem State.warmAssert_eq {s : State} {sl : Slice} (h : s.warmOk sl = true) :
    ∃ links, s.warmAssert sl = (s.warmBegun sl links).warmSlice sl (s.clock sl).dead := by
  have hsteps : s.warmAssert sl =
      (((eachOf (State.crossDown sl (s.clock sl).dead) (List.range 9) s).modClock sl ClockState.warm).setStart
        { step := 1, warm := true,
          lost := (eachOf (State.crossDown sl (s.clock sl).dead) (List.range 9) s).start.lost || (s.clock sl).dead != 0 }).warmSlice sl
        (s.clock sl).dead := by
    unfold State.warmAssert; rw [h]; rfl
  obtain ⟨v, hv⟩ := State.eachOf_crossDown_links sl (s.clock sl).dead (List.range 9) s
  refine ⟨v, ?_⟩
  rw [hsteps, hv]; rfl

theorem Core.held_state (k : Core) : k.held.state = if k.state = .fenced then .fenced else .held := rfl

theorem State.warmSlice_start (t : State) (sl : Slice) (d : BitVec 9) : (t.warmSlice sl d).start = t.start := by
  cases sl with
  | sh => exact t.warmSh_start d
  | en => exact t.warmEn_start
  | hd => exact t.warmHd_start

theorem State.warmSlice_tideValues (t : State) (sl : Slice) (d : BitVec 9) : (t.warmSlice sl d).tide.values = t.tide.values := by
  cases sl with
  | sh => exact congrArg TideUnit.values (t.warmSh_tide d)
  | en => exact congrArg TideUnit.values t.warmEn_tide
  | hd => exact t.warmHd_tideValues

theorem State.warmSlice_clock (t : State) (sl k : Slice) (d : BitVec 9) :
    (t.clock k).sameButModes ((t.warmSlice sl d).clock k) := by
  cases sl with
  | sh => exact t.changeUndone_clock k
  | en => exact (t.warmEn_clock k) ▸ rfl
  | hd => exact (t.warmHd_clock k) ▸ rfl

/-- With no mode change in progress the slice's reset changes no clock block further. -/
theorem State.warmSlice_clock_of_none {t : State} (h : t.mgmt.change = none) (sl k : Slice) (d : BitVec 9) :
    (t.warmSlice sl d).clock k = t.clock k := by
  cases sl with
  | sh => rw [State.warmSlice, State.warmSh_clock, State.changeUndone_of_none h]
  | en => exact t.warmEn_clock k
  | hd => exact t.warmHd_clock k

/-- The slice's own cores are held, the others go on (01 R14). -/
theorem State.warmSlice_core (t : State) (sl : Slice) (d : BitVec 9) (c : Nat) :
    (t.warmSlice sl d).core c = if coreSlice c = sl then (t.core c).held else t.core c := by
  cases sl with
  | sh => simp only [coreSlice_eq_sh]; exact t.warmSh_core d c
  | en => rw [if_neg (coreSlice_ne_en c)]; exact t.warmEn_core c
  | hd => simp only [coreSlice_eq_hd]; exact t.warmHd_core c

theorem State.warmBegun_clock (s : State) (sl k : Slice) (links : Tab LinkState) :
    (s.warmBegun sl links).clock k = if k = sl then (s.clock sl).warm else s.clock k := s.clock_setClock sl k _

/-- Settles O8: the effect is `State.warmAssert_eq`'s; the slice's clock block is as `ClockState.warm` leaves it, but for modes that a
mode change in progress takes back, and the rest follows slice by slice from what each slice's reset keeps and resets. -/
theorem warmResetKeepsConfiguration : Obligations.WarmResetKeepsConfiguration := by
  unfold Obligations.WarmResetKeepsConfiguration
  intro s sl hpor hstop hrun
  have hok : s.warmOk sl = true := by simpa [State.warmOk, hpor, hstop] using hrun
  obtain ⟨links, hu⟩ := State.warmAssert_eq hok
  have hbegun : (s.warmBegun sl links).clock sl = (s.clock sl).warm := by rw [State.warmBegun_clock, if_pos rfl]
  have hclock : (s.clock sl).warm.sameButModes ((s.warmAssert sl).clock sl) := by
    rw [hu, ← hbegun]; exact State.warmSlice_clock _ _ _ _
  refine ⟨s.warmAssert sl, rfl, ?_, ?_, fun hnone => ?_, ?_, ?_, ?_, ?_, ?_, ?_, ?_, ?_, s.warmAssert_conf sl, ?_, ?_, fun c hc => ?_,
    fun c hc => ?_, ?_, ?_⟩
  · rw [hclock]; rfl
  · rw [hclock]; exact hpor
  · rw [hu, State.warmSlice_clock_of_none (by exact hnone), hbegun]; rfl
  · rw [hclock]; rfl
  · rw [hclock]; rfl
  · rw [hclock]; rfl
  · rw [hclock]; rfl
  · rw [hclock]; rfl
  · rw [hclock]; rfl
  · rw [hclock]; rfl
  · rw [hu, State.warmSlice_start]; rfl
  · rw [hu, State.warmSlice_tideValues]; rfl
  · rintro rfl; rw [hu]; exact ⟨rfl, rfl, rfl, rfl⟩
  · rw [hu, State.warmSlice_core, if_pos hc]; rfl
  · rw [hu, State.warmSlice_core, if_neg hc]; rfl
  · rintro rfl; rw [hu]; exact ⟨rfl, rfl, rfl, rfl, rfl⟩
  · rintro rfl
    rw [hu]
    exact ⟨State.resetWork_reads State.queues (fun _ _ => rfl) (fun _ _ => rfl) _,
      State.resetWork_reads State.engReqs (fun _ _ => rfl) (fun _ _ => rfl) _,
      State.resetWork_reads State.cmb (fun _ _ => rfl) (fun _ _ => rfl) _, fun c hc => State.warmHd_chan _ hc⟩

end Sys2Proof.Machine

/-! CHART_FORWARD and IMAGE_FORWARD (05 R111, R116; 11 R284): what the commands do once the ring's checks have passed. -/

namespace Sys2Proof.Machine

/-- HARBOUR consumes the command and the checks 2, 3 and 4 of 05 R111 pass, for a payload of `n` bytes. -/
structure State.Accepts (s : State) (e : CmdEntry) (n : Nat) : Prop where
  ring : s.ringReady = true
  session : s.mgmt.session = true
  seq : e.seq = s.mgmt.prevSeq + 1
  length : e.length.toNat = n
  pad : allZero ((cmdBytes e).drop n) = true

/-- The state in which an accepted command runs: consumed, its sequence the one the next is checked against. -/
def State.ringTaken (s : State) (e : CmdEntry) : State :=
  { s with mgmt := { s.mgmt with cmdCons := s.mgmt.cmdCons + 1, prevSeq := e.seq } }

/-- An accepted command runs on the state that has taken it. -/
theorem State.Accepts.ringCmd {s : State} {e : CmdEntry} {n : Nat} (h : s.Accepts e n) (opcode : Nat) (f : State → State) :
    s.ringCmd e opcode n f = f (s.ringTaken e) := by
  have hsession : s.ringTake.mgmt.session = true := h.session
  have hseq : e.seq = s.ringTake.mgmt.prevSeq + 1 := h.seq
  have hpay : (e.length.toNat != n || !allZero ((cmdBytes e).drop n)) = false := by simp [h.length, h.pad]
  simp only [State.ringCmd, h.ring, hsession, ← hseq, hpay, bne_self_eq_false, Bool.not_true, Bool.false_and, Bool.and_false,
    Bool.false_eq_true, if_false]
  rfl

theorem State.respond_queue_length (s : State) (seq : BitVec 32) (st : Status) :
    (s.respond seq st).mgmt.queue.length = s.mgmt.queue.length + 1 := by
  simp [State.respond, State.pushEvent]

/-- A command's target is this device, or a device that a child leads to. -/
def State.reaches (s : State) (t : Nat) : Prop := t = s.ownId ∨ t < 4096 ∧ (s.childFor (BitVec.ofNat 12 t)).isSome = true

theorem State.not_reaches_iff (s : State) (t : Nat) :
    ¬ s.reaches t ↔ t ≠ s.ownId ∧ (4096 ≤ t ∨ (s.childFor (BitVec.ofNat 12 t)).isNone = true) := by
  unfold State.reaches
  cases s.childFor (BitVec.ofNat 12 t) <;> simp

/-! ### CHART_FORWARD -/

/-- The ranges of CHART_FORWARD's fields (05, commands). -/
def chartFieldsOk (e : CmdEntry) : Prop :=
  cmdFld e 0x0A 2 = 0 ∧ 64 ≤ cmdFld e 0x0C 4 ∧ cmdFld e 0x0C 4 ≤ 65536 ∧ cmdFld e 0x10 8 % 8 = 0 ∧ cmdFld e 0x10 8 < 2 ^ 48

theorem chartFieldsOk.inRange {e : CmdEntry} (h : chartFieldsOk e) :
    ¬ (cmdFld e 0x0A 2 ≠ 0 ∨ cmdFld e 0x0C 4 < 64 ∨ 65536 < cmdFld e 0x0C 4 ∨ cmdFld e 0x10 8 % 8 ≠ 0 ∨ 2 ^ 48 ≤ cmdFld e 0x10 8) := by
  obtain ⟨hrsv, hlo, hhi, halign, haddr⟩ := h
  omega

/-- What CHART_FORWARD does with the bytes of a chart whose target it reaches. -/
def State.chartTo (s : State) (e : CmdEntry) (b : Bytes) : State :=
  let t := cmdFld e 8 2
  if chartTarget b ≠ t then s.respond e.seq .permission
  else if t = s.ownId then (s.respond e.seq .ok).chartOwn b
  else match s.childFor (BitVec.ofNat 12 t) with
    | some c => (s.respond e.seq .ok).relayStart {
        isChart := true, target := BitVec.ofNat 12 t, child := c, data := b, place := 0, cores := 0, next := 0 }
    | none => s.respond e.seq .ok

section
variable {s : State} {e : CmdEntry}

/-- A target no child leads to is refused before the chart is looked at. -/
theorem State.chartForward_of_not_reaches (ha : s.Accepts e 16) (hf : chartFieldsOk e) (hr : ¬ s.reaches (cmdFld e 8 2)) (x : ReadResult) :
    s.chartForward e x = (s.ringTaken e).respond e.seq .permission := by
  unfold State.chartForward
  rw [ha.ringCmd]
  exact (if_neg hf.inRange).trans (if_pos ((s.ringTaken e).not_reaches_iff _ |>.mp hr))

/-- A failed read answers its status. -/
theorem State.chartForward_unread (ha : s.Accepts e 16) (hf : chartFieldsOk e) (hr : s.reaches (cmdFld e 8 2)) {x : ReadResult} {st : Status}
    (hx : readStatus x = .inl st) : s.chartForward e x = (s.ringTaken e).respond e.seq st := by
  unfold State.chartForward
  rw [ha.ringCmd]
  refine (if_neg hf.inRange).trans ((if_neg (mt ((s.ringTaken e).not_reaches_iff _).mpr (not_not.mpr hr))).trans ?_)
  rw [hx]

theorem State.chartForward_read (ha : s.Accepts e 16) (hf : chartFieldsOk e) (hr : s.reaches (cmdFld e 8 2)) (b : Bytes) :
    s.chartForward e (.ok b) = (s.ringTaken e).chartTo e (b.take (cmdFld e 0x0C 4)) := by
  unfold State.chartForward
  rw [ha.ringCmd]
  exact (if_neg hf.inRange).trans (if_neg (mt ((s.ringTaken e).not_reaches_iff _).mpr (not_not.mpr hr)))

/-- A chart whose header names another target is refused. -/
theorem State.chartTo_misaddressed {b : Bytes} (h : chartTarget b ≠ cmdFld e 8 2) : s.chartTo e b = s.respond e.seq .permission := if_pos h

theorem State.chartTo_own {b : Bytes} (h : chartTarget b = cmdFld e 8 2) (ht : cmdFld e 8 2 = s.ownId) :
    s.chartTo e b = (s.respond e.seq .ok).chartOwn b := (if_neg (not_not.mpr h)).trans (if_pos ht)

/-- A chart for a device below begins its relay. -/
theorem State.chartTo_below {b : Bytes} {c : BitVec 12} (h : chartTarget b = cmdFld e 8 2) (ht : cmdFld e 8 2 ≠ s.ownId)
    (hc : s.childFor (BitVec.ofNat 12 (cmdFld e 8 2)) = some c) :
    s.chartTo e b = (s.respond e.seq .ok).relayStart {
      isChart := true, target := BitVec.ofNat 12 (cmdFld e 8 2), child := c, data := b, place := 0, cores := 0, next := 0 } := by
  refine (if_neg (not_not.mpr h)).trans ((if_neg ht).trans ?_)
  rw [hc]

/-- A chart for this device is checked in its own staging unit, where a delivery may begin. -/
theorem State.chartOwn_of_mayBegin {b : Bytes} (h : s.chartMayBegin = true) :
    s.chartOwn b = { s.chartBegin 2 with chart := { (s.chartBegin 2).chart with staged := b, state := .checking } } := by
  rw [State.chartOwn, h]; rfl

end

/-! ### IMAGE_FORWARD -/

/-- The ranges of IMAGE_FORWARD's fields (05, commands). -/
def imageFieldsOk (e : CmdEntry) : Prop :=
  cmdFld e 0x0B 1 = 0 ∧ cmdFld e 0x0A 1 < 128 ∧ 292 ≤ cmdFld e 0x0C 4 ∧ cmdFld e 0x0C 4 ≤ 192 + 512 * 1024 + 96 ∧
    cmdFld e 0x10 8 % 64 = 0 ∧ cmdFld e 0x10 8 < 2 ^ 48 ∧ cmdFld e 0x18 8 % 64 = 0 ∧ cmdFld e 0x18 8 < 2 ^ 48

theorem imageFieldsOk.inRange {e : CmdEntry} (h : imageFieldsOk e) :
    ¬ (cmdFld e 0x0B 1 ≠ 0 ∨ 128 ≤ cmdFld e 0x0A 1 ∨ cmdFld e 0x0C 4 < 292 ∨ 192 + 512 * 1024 + 96 < cmdFld e 0x0C 4 ∨
      cmdFld e 0x10 8 % 64 ≠ 0 ∨ 2 ^ 48 ≤ cmdFld e 0x10 8 ∨ cmdFld e 0x18 8 % 64 ≠ 0 ∨ 2 ^ 48 ≤ cmdFld e 0x18 8) := by
  obtain ⟨hrsv, hcores, hlo, hhi, halign, haddr, hplace, hplaceLt⟩ := h
  omega

section
variable {s : State} {e : CmdEntry}

theorem State.imageForward_of_not_reaches (ha : s.Accepts e 24) (hf : imageFieldsOk e) (ht : cmdFld e 8 2 ≠ 0xFFFF)
    (hr : ¬ s.reaches (cmdFld e 8 2)) (x : ReadResult) : s.imageForward e x = (s.ringTaken e).respond e.seq .permission := by
  unfold State.imageForward
  rw [ha.ringCmd]
  exact (if_neg hf.inRange).trans (if_pos ⟨ht, (s.ringTaken e).not_reaches_iff _ |>.mp hr⟩)

theorem State.imageForward_unread (ha : s.Accepts e 24) (hf : imageFieldsOk e) (hr : s.reaches (cmdFld e 8 2)) {x : ReadResult} {st : Status}
    (hx : readStatus x = .inl st) : s.imageForward e x = (s.ringTaken e).respond e.seq st := by
  unfold State.imageForward
  rw [ha.ringCmd]
  refine (if_neg hf.inRange).trans ((if_neg (fun h => ((s.ringTaken e).not_reaches_iff _).mpr h.2 hr)).trans ?_)
  rw [hx]

/-- An image for one device goes to it. -/
theorem State.imageForward_read (ha : s.Accepts e 24) (hf : imageFieldsOk e) (ht : cmdFld e 8 2 ≠ 0xFFFF) (hr : s.reaches (cmdFld e 8 2))
    (b : Bytes) : s.imageForward e (.ok b) = State.imageTo (b.take (cmdFld e 0x0C 4)) (cmdFld e 0x18 8)
      (BitVec.ofNat 7 (cmdFld e 0x0A 1)) (BitVec.ofNat 12 (cmdFld e 8 2)) ((s.ringTaken e).respond e.seq .ok) := by
  unfold State.imageForward
  rw [ha.ringCmd]
  refine (if_neg hf.inRange).trans ((if_neg (fun h => ((s.ringTaken e).not_reaches_iff _).mpr h.2 hr)).trans ?_)
  dsimp only [readStatus]
  rw [if_neg ht]; rfl

theorem State.imageTo_below {b : Bytes} {place : Nat} {cores : BitVec 7} {t c : BitVec 12} (ht : t.toNat ≠ s.ownId)
    (hc : s.childFor t = some c) : State.imageTo b place cores t s = s.relayStart {
      isChart := false, target := t, child := c, data := b, place := BitVec.ofNat 48 place, cores := cores, next := 0 } := by
  refine (if_neg ht).trans ?_
  rw [hc]

end

theorem exec_chartForward {s t : State} {e : CmdEntry} {x : ReadResult} (h : s.chartForward e x = t) :
    exec (.chartForward e x) s = .next t.settle := h ▸ rfl

theorem exec_imageForward {s t : State} {e : CmdEntry} {x : ReadResult} (h : s.imageForward e x = t) :
    exec (.imageForward e x) s = .next t.settle := h ▸ rfl

/-- Settles O43: with the ring's checks and the fields' ranges passed, the commands run as the lemmas above say, target by target. -/
theorem forwardsStartRelays : Obligations.ForwardsStartRelays := by
  unfold Obligations.ForwardsStartRelays
  intro s e hring hsession hseq
  refine ⟨fun hlen hpad hrsv hlo hhi halign haddr => ?_, fun hlen hpad hrsv hcores hlo hhi halign haddr hplace hplaceLt hown hlt => ?_⟩
  · have ha : s.Accepts e 16 := ⟨hring, hsession, hseq, by rw [hlen]; rfl, hpad⟩
    have hf : chartFieldsOk e := ⟨hrsv, hlo, hhi, halign, haddr⟩
    refine ⟨fun x hown hlt hnone => ?_, fun c hown hlt hc => ?_, fun hown hbegin b hb => ?_⟩
    · have hr : ¬ s.reaches (cmdFld e 8 2) := (s.not_reaches_iff _).mpr ⟨hown, .inr (by rw [hnone]; rfl)⟩
      exact exec_chartForward (State.chartForward_of_not_reaches ha hf hr x)
    · have hr : s.reaches (cmdFld e 8 2) := .inr ⟨hlt, by rw [hc]; rfl⟩
      refine ⟨?_, ?_, fun b hb => ?_, fun b hb => ?_⟩
      · exact exec_chartForward (State.chartForward_unread ha hf hr rfl)
      · exact exec_chartForward (State.chartForward_unread ha hf hr rfl)
      · exact exec_chartForward ((State.chartForward_read ha hf hr b).trans (State.chartTo_misaddressed hb))
      · exact exec_chartForward ((State.chartForward_read ha hf hr b).trans (State.chartTo_below hb hown hc))
    · have hstaged := (State.chartForward_read ha hf (.inl hown) b).trans ((State.chartTo_own (s := s.ringTaken e) hb hown).trans
        (State.chartOwn_of_mayBegin (s := (s.ringTaken e).respond e.seq .ok) hbegin))
      refine ⟨s.chartForward e (.ok b), rfl, ?_, ?_, ?_, ?_, s.chartForward_conf e _, ?_⟩
      · rw [hstaged]
      · rw [hstaged]
      · rw [hstaged]; rfl
      · rw [hstaged]; exact State.respond_queue_length _ _ _
      · rw [hstaged]; rfl
  · have ha : s.Accepts e 24 := ⟨hring, hsession, hseq, by rw [hlen]; rfl, hpad⟩
    have hf : imageFieldsOk e := ⟨hrsv, hcores, hlo, hhi, halign, haddr, hplace, hplaceLt⟩
    have hall : cmdFld e 8 2 ≠ 0xFFFF := by omega
    refine ⟨fun x hnone => ?_, fun c hc => ⟨?_, fun b => ?_⟩⟩
    · have hr : ¬ s.reaches (cmdFld e 8 2) := (s.not_reaches_iff _).mpr ⟨hown, .inr (by rw [hnone]; rfl)⟩
      exact exec_imageForward (State.imageForward_of_not_reaches ha hf hall hr x)
    · exact exec_imageForward (State.imageForward_unread ha hf (.inr ⟨hlt, by rw [hc]; rfl⟩) rfl)
    · have hid : (BitVec.ofNat 12 (cmdFld e 8 2)).toNat ≠ s.ownId := by rwa [BitVec.toNat_ofNat, Nat.mod_eq_of_lt (by simpa using hlt)]
      exact exec_imageForward ((State.imageForward_read ha hf hall (.inr ⟨hlt, by rw [hc]; rfl⟩) b).trans
        (State.imageTo_below (s := (s.ringTaken e).respond e.seq .ok) hid hc))

end Sys2Proof.Machine

/-! The order of folds at a combine slot (01 R23; 12 R297). -/

namespace Sys2Proof.Machine

theorem State.slot_setSlot_self (s : State) (n : Nat) (v : Slot) : (s.setSlot n v).slot n = v := by
  rw [State.slot_setSlot, if_pos rfl]

theorem State.slot_setSlot_ne (s : State) {n j : Nat} (v : Slot) (h : j ≠ n) : (s.setSlot n v).slot j = s.slot j := by
  rw [State.slot_setSlot, if_neg h]

theorem State.holdGive_slot (s : State) (q k j : Nat) : (s.holdGive q k).slot j = s.slot j := rfl

theorem State.foldCycles_slot (s : State) (j : Nat) : s.foldCycles.slot j = s.slot j := rfl

/-- A slot's result is written from its accumulator, which stays. -/
theorem State.slotWrite_slot (s : State) (n : Nat) (h : CmbHeader) (j : Nat) :
    (j ≠ n → (s.slotWrite n h).slot j = s.slot j) ∧ ((s.slotWrite n h).slot n).acc = (s.slot n).acc := by
  unfold State.slotWrite
  refine ⟨fun hj => ?_, ?_⟩
  · rw [eachOf_keeps (fun t => t.slot j)]
    · exact s.slot_setSlot_ne _ hj
    · exact fun _ _ => rfl
  · rw [eachOf_keeps (fun t => (t.slot n).acc)]
    · rw [State.slot_setSlot_self]
    · exact fun _ _ => rfl

/-- What follows a fold frees windows, counts contributions and writes a whole result: it folds nothing. -/
theorem State.slotSettle_slot (s : State) (n j : Nat) :
    (j ≠ n → (s.slotSettle n).slot j = s.slot j) ∧ ((s.slotSettle n).slot n).acc = (s.slot n).acc := by
  unfold State.slotSettle
  dsimp only
  split
  · exact ⟨fun _ => rfl, rfl⟩
  · split
    · obtain ⟨hother, hacc⟩ := State.slotWrite_slot _ n _ j
      exact ⟨fun hj => (hother hj).trans (State.slot_setSlot_ne _ _ hj), by rw [hacc, State.slot_setSlot_self]⟩
    · exact ⟨fun hj => State.slot_setSlot_ne _ _ hj, by rw [State.slot_setSlot_self]⟩

/-- The accumulator after COMBINE_FOLD: each element takes the contribution it awaits, if that one has been accepted. -/
def Slot.foldNext (k : Slot) (h : CmbHeader) : List AccElem :=
  ((List.range k.acc.length).zip k.acc).map (fun x => if k.accepted.contains x.2.2.2 then foldAt h k.parked x.2.2.2 x.1 x.2 else x.2)

theorem Slot.foldNext_length (k : Slot) (h : CmbHeader) : (k.foldNext h).length = k.acc.length := by simp [Slot.foldNext]

theorem Slot.foldNext_getElem? (k : Slot) (h : CmbHeader) (j : Nat) : (k.foldNext h)[j]? =
    k.acc[j]?.map (fun a => if k.accepted.contains a.2.2 then foldAt h k.parked a.2.2 j a else a) := by
  simp only [Slot.foldNext, List.getElem?_map]
  by_cases hj : j < k.acc.length
  · simp [hj]
  · simp [not_lt.mp hj]

/-- One fold at an element (12 R297): none, or the contribution it awaits, whole, widened where it is the first. -/
theorem foldAt_cases (h : CmbHeader) (ws : List CmbWindow) (j : Nat) (a : AccElem) :
    foldAt h ws a.2.2 j a = a ∨ ((foldAt h ws a.2.2 j a).2.2 = a.2.2 + 1 ∧ ∃ c : MarkedBytes, cmbElem h ws a.2.2 j = some c ∧
      (foldAt h ws a.2.2 j a).1 = if a.2.2 = 0 then h.widen (c.map (·.1)) else h.foldElem a.1 (c.map (·.1))) := by
  unfold foldAt
  rw [if_neg (not_not.mpr rfl)]
  cases hc : cmbElem h ws a.2.2 j with
  | none => exact .inl rfl
  | some c => exact .inr ⟨rfl, c, rfl, rfl⟩

/-- COMBINE_FOLD of an open round leaves the slot with the folded accumulator, and the other slots as they are. -/
theorem State.slotFold_slot {s : State} {n : Nat} {h : CmbHeader} (hh : (s.slot n).header = some h) (ho : (s.slot n).state = .open_) (j : Nat) :
    (j ≠ n → (s.slotFold n).slot j = s.slot j) ∧ ((s.slotFold n).slot n).acc = (s.slot n).foldNext h := by
  have hfold : s.slotFold n = State.slotSettle (State.setSlot (if (s.slot n).foldNext h = (s.slot n).acc then s else s.foldCycles) n
      { s.slot n with acc := (s.slot n).foldNext h }) n := by
    unfold State.slotFold
    dsimp only
    rw [hh]
    exact if_neg (not_not.mpr ho)
  obtain ⟨hother, hacc⟩ := State.slotSettle_slot _ n j
  refine ⟨fun hj => ?_, ?_⟩
  · rw [hfold, hother hj, State.slot_setSlot_ne _ _ hj]
    split <;> rfl
  · rw [hfold, hacc, State.slot_setSlot_self]

/-- No header, or no open round: nothing is folded. -/
theorem State.slotFold_eq_self {s : State} {n : Nat} (h : (s.slot n).header = none ∨ (s.slot n).state ≠ .open_) : s.slotFold n = s := by
  unfold State.slotFold
  dsimp only
  split
  · rfl
  · next hh => exact if_pos (h.resolve_left (by simp [hh]))

/-- An element that COMBINE_FOLD changes takes exactly the contribution it awaits (01 R23). -/
theorem Slot.foldNext_cases {k : Slot} {h : CmbHeader} {j : Nat} {a b : AccElem} (ha : k.acc[j]? = some a) (hb : (k.foldNext h)[j]? = some b) :
    b = a ∨ (b.2.2 = a.2.2 + 1 ∧ a.2.2 ∈ k.accepted ∧ ∃ c : MarkedBytes, cmbElem h k.parked a.2.2 j = some c ∧
      b.1 = if a.2.2 = 0 then h.widen (c.map (·.1)) else h.foldElem a.1 (c.map (·.1))) := by
  rw [Slot.foldNext_getElem?, ha, Option.map_some, Option.some.injEq] at hb
  subst hb
  split
  · next hin =>
    obtain hsame | ⟨hnext, hc⟩ := foldAt_cases h k.parked j a
    · exact .inl hsame
    · exact .inr ⟨hnext, by simpa using hin, hc⟩
  · exact .inl rfl

/-- COMBINE_FOLD folds contributions in index order, whatever order they came in. -/
theorem combineFold_in_order (s : State) (n : Fin 4096) : ∃ u : State, exec (.combineFold n) s = .next u.settle ∧
    (∀ j : Nat, j ≠ n → u.slot j = s.slot j) ∧ (u.slot n).acc.length = (s.slot n).acc.length ∧
    ((s.slot n).header = none ∨ (s.slot n).state ≠ .open_ → u = s) ∧
    ∀ (j : Nat) (a b : Bytes × Bool × Nat), (s.slot n).acc[j]? = some a → (u.slot n).acc[j]? = some b → b = a ∨
      (b.2.2 = a.2.2 + 1 ∧ a.2.2 ∈ (s.slot n).accepted ∧ ∃ (h : CmbHeader) (c : MarkedBytes), (s.slot n).header = some h ∧
        cmbElem h (s.slot n).parked a.2.2 j = some c ∧
        b.1 = (if a.2.2 = 0 then h.widen (c.map (·.1)) else h.foldElem a.1 (c.map (·.1)))) := by
  refine ⟨s.slotFold n, rfl, ?_⟩
  by_cases hidle : (s.slot n).header = none ∨ (s.slot n).state ≠ .open_
  · rw [State.slotFold_eq_self hidle]
    refine ⟨fun _ _ => rfl, rfl, fun _ => rfl, fun j a b ha hb => .inl ?_⟩
    rw [ha] at hb
    exact (Option.some.inj hb).symm
  · push Not at hidle
    obtain ⟨hhead, hopen⟩ := hidle
    obtain ⟨h, hh⟩ := Option.ne_none_iff_exists'.mp hhead
    have hacc := (State.slotFold_slot hh hopen n).2
    refine ⟨fun j hj => (State.slotFold_slot hh hopen j).1 hj, by rw [hacc, Slot.foldNext_length],
      fun hn => absurd hn (by simp [hhead, hopen]), fun j a b ha hb => ?_⟩
    rw [hacc] at hb
    obtain hsame | ⟨hnext, hin, c, hc, hval⟩ := Slot.foldNext_cases ha hb
    · exact .inl hsame
    · exact .inr ⟨hnext, hin, h, c, hh, hc, hval⟩

end Sys2Proof.Machine

/-! READ_BURST_RETURN of a descriptor's only read burst (09 R211, R227; 10 R240): the state it answers, and bytes at their places. -/

namespace Sys2Proof.Machine

/-! ### Writing a channel twice -/

theorem tabErase_tabPut {α : Type} (t : Tab α) (k : Nat) (v : α) : tabErase (tabPut t k v) k = tabErase t k := by
  induction t with
  | nil => simp [tabPut, tabErase]
  | cons e t ih =>
    obtain ⟨i, w⟩ := e
    simp only [tabPut]
    split
    · simp [tabErase]
    · split
      · next h => subst h; simp [tabErase]
      · simp [tabErase, ih]

theorem tabPut_tabPut {α : Type} (t : Tab α) (k : Nat) (v w : α) : tabPut (tabPut t k v) k w = tabPut t k w := by
  induction t with
  | nil => simp [tabPut]
  | cons e t ih =>
    obtain ⟨i, x⟩ := e
    simp only [tabPut]
    split
    · simp [tabPut]
    · next hlt =>
      split
      · next h => subst h; simp [tabPut]
      · next hne => simp [tabPut, hlt, hne, ih]

/-- Of two writes of one entry the second stays, where the first lists it. -/
theorem tabSet_tabSet {α : Type} [DecidableEq α] {d : α} (t : Tab α) (k : Nat) {v : α} (w : α) (hv : v ≠ d) :
    tabSet d (tabSet d t k v) k w = tabSet d t k w := by
  simp only [tabSet, if_neg hv, tabErase_tabPut, tabPut_tabPut]

theorem State.setChan_setChan (s : State) (c : Nat) {v : Channel} (w : Channel) (hv : v ≠ {}) :
    (s.setChan c v).setChan c w = s.setChan c w := by
  simp only [State.setChan, tabSet_tabSet _ _ _ hv]

theorem State.chan_setChan_self (s : State) (c : Nat) (v : Channel) : (s.setChan c v).chan c = v := by
  rw [State.chan_setChan, if_pos rfl]

/-- Replacing the running descriptor of a channel that has one. -/
theorem State.modRun_of_run {s : State} {c : Nat} {r : Running} (h : (s.chan c).run = some r) (f : Running → Running) :
    s.modRun c f = s.setChan c { s.chan c with run := some (f r) } := by
  simp only [State.modRun, State.modChan, h, Option.map_some]

theorem State.modRun_setRun (s : State) (c : Nat) (r : Running) (f : Running → Running) :
    (s.setChan c { s.chan c with run := some r }).modRun c f = s.setChan c { s.chan c with run := some (f r) } := by
  have hv : ({ s.chan c with run := some r } : Channel) ≠ {} := fun h => by simpa using congrArg Channel.run h
  rw [State.modRun_of_run (r := r) (by rw [State.chan_setChan_self]), State.chan_setChan_self, State.setChan_setChan _ _ _ hv]

/-! ### The bytes of a burst enter -/

/-- The descriptor with its only read burst taken. -/
def Running.taken (r : Running) : Running := { r with reads := [] }

/-- What the bytes of read burst `b` give once they have entered: the descriptor and the sluice's counts. -/
def Work.entered (r : Running) (ops : List (BitVec 32)) (b : Nat) (bs : MarkedBytes) : Work :=
  let w := Work.feed (r, {}) ops b bs
  let w := if bs.any (·.2) then Work.cutShort w ops b else w
  (if bs.any (·.2) then w.1.poisonStop b else w.1, w.2)

theorem State.takeReads_nil {s : State} {c : Nat} {r : Running} (hrun : (s.chan c).run = some r) (hreads : r.reads = []) (fuel : Nat) :
    State.takeReads c fuel s = s := by
  cases fuel with
  | zero => rfl
  | succ fuel => rw [State.takeReads, hrun]; dsimp only; rw [hreads]

/-- A burst that has come back and whose data have entered the hold is taken, where no pipeline waits to change. -/
theorem State.takeReads_one {s : State} {c : Nat} {r : Running} {a : ReadBurst} {st : Status} {bs : MarkedBytes}
    (hrun : (s.chan c).run = some r) (hreads : r.reads = [a]) (harr : a.arrived = true) (hres : a.result = some (st, bs))
    (hquit : r.quit = false) (hheld : s.pipeHeld (dPipe r.words) = false) (fuel : Nat) :
    State.takeReads c (fuel + 1) s = State.takeReads c fuel
      ((s.modRun c (fun _ => (Work.entered r.taken (s.pipeOps r.words) a.burst bs).1)).sluiceNote r.words
        (Work.entered r.taken (s.pipeOps r.words) a.burst bs).2) := by
  rw [State.takeReads, hrun]
  dsimp only
  rw [hreads]
  dsimp only
  rw [harr, hres]
  dsimp only
  rw [if_neg (by simp [hquit, hheld])]
  dsimp only [Work.entered, Running.taken]

/-- No mode change is in progress, and `a` is the only read burst of the channel's descriptor, come back without an error. -/
structure State.OneReadBack (s : State) (c : Nat) (r : Running) (a : ReadBurst) (bs : MarkedBytes) : Prop where
  run : (s.chan c).run = some r
  reads : r.reads = [a]
  result : a.result = some (.ok, bs)
  quit : r.quit = false
  change : s.mgmt.change = none

theorem State.burstArrive_of_oneReadBack {s : State} {c : Nat} {r : Running} {a : ReadBurst} {bs : MarkedBytes}
    (h : s.OneReadBack c r a bs) {x : Running} {k : SluiceNote} (hreads : x.reads = [])
    (hx : Work.entered r.taken (s.pipeOps r.words) a.burst bs = (x, k)) :
    s.burstArrive c a.burst = (s.setChan c { s.chan c with run := some x }).sluiceNote r.words k := by
  have hcome : s.burstArrive c a.burst =
      State.takeReads c 33 (s.setChan c { s.chan c with run := some { r with reads := [{ a with arrived := true }] } }) := by
    simp only [State.burstArrive, State.modRun_of_run h.run, h.reads, h.result, List.map_cons, List.map_nil, Option.isSome_some,
      and_self, if_true]
  have hheld : (s.setChan c { s.chan c with run := some { r with reads := [{ a with arrived := true }] } }).pipeHeld (dPipe r.words) = false := by
    have hchange : (s.setChan c { s.chan c with run := some { r with reads := [{ a with arrived := true }] } }).mgmt.change = none := h.change
    rw [State.pipeHeld, hchange]
  have hentered : Work.entered (Running.taken { r with reads := [{ a with arrived := true }] }) (s.pipeOps r.words) a.burst bs = (x, k) := hx
  rw [hcome, State.takeReads_one (r := { r with reads := [{ a with arrived := true }] }) (a := { a with arrived := true }) (st := .ok)
    (bs := bs) (by rw [State.chan_setChan_self]) rfl rfl h.result h.quit hheld, State.modRun_setRun]
  have hops : (s.setChan c { s.chan c with run := some { r with reads := [{ a with arrived := true }] } }).pipeOps r.words = s.pipeOps r.words := rfl
  dsimp only
  rw [hops, hentered]
  refine State.takeReads_nil (r := x) ?_ hreads 32
  have hchan : ∀ (t : State) (d : Words), (t.sluiceNote d k).chan c = t.chan c := fun t d => by unfold State.sluiceNote; dsimp only; split <;> rfl
  rw [hchan, State.chan_setChan_self]

/-- READ_BURST_RETURN answers what the bytes give once they have entered. -/
theorem State.readBurstReturn_of_entered {s : State} {c : Fin 64} {r : Running} {a : ReadBurst} {bs : MarkedBytes}
    (h : s.OneReadBack c r a bs) {x : Running} {k : SluiceNote}
    (hx : Work.entered r.taken (s.pipeOps r.words) a.burst bs = ({ x with reads := [] }, k)) :
    exec (.readBurstReturn c a.burst) s =
      .next (State.settle ((s.setChan c { s.chan c with run := some { x with reads := [] } }).sluiceNote r.words k)) := by
  have hexec : exec (.readBurstReturn c a.burst) s = .next (State.settle ((s.burstArrive c a.burst).modeNote c)) := rfl
  rw [hexec, State.burstArrive_of_oneReadBack h rfl hx]
  have hnote : ∀ t : State, t.mgmt.change = none → t.modeNote c = t := fun t ht => by rw [State.modeNote, ht]
  rw [hnote]
  refine Eq.trans ?_ h.change
  unfold State.sluiceNote
  dsimp only
  split <;> rfl

end Sys2Proof.Machine

/-! Whole elements of a read burst at their places in the nest (09 R209, R213, R227). -/

namespace Sys2Proof.Machine

/-! ### Bytes at a place -/

/-- The place of destination item `e`, of `perRow` items to an inner run, each `step` bytes after the one before (09 R209). -/
def nestPlace (d : Words) (perRow : Nat) (step : Int) (e : Nat) : Int :=
  (dDst d : Int) + ((e / (perRow * dN1 d) : Nat) : Int) * dD d 2 + ((e / perRow % dN1 d : Nat) : Int) * dD d 1 + ((e % perRow : Nat) : Int) * step

/-- Bytes without poison, from read burst `b`, that wait to be written from a place. -/
def outBytes (b : Nat) (p : Int) (l : Bytes) : List OutByte :=
  ((List.range l.length).zip l).map (fun x => { addr := BitVec.ofInt 64 (p + (x.1 : Int)), val := x.2, poison := false, burst := b })

/-- `k` elements from the bytes `l`, at the places of the elements `e` on. -/
def copyOut (d : Words) (b e k : Nat) (l : Bytes) : List OutByte :=
  (List.range k).flatMap (fun i => outBytes b (nestPlace d (dN0 d) (dD d 0) (e + i)) ((l.drop (i * dElem d)).take (dElem d)))

theorem copyOut_succ (d : Words) (b e k : Nat) (l : Bytes) : copyOut d b e (k + 1) l =
    outBytes b (nestPlace d (dN0 d) (dD d 0) e) (l.take (dElem d)) ++ copyOut d b (e + 1) k (l.drop (dElem d)) := by
  simp only [copyOut, List.range_succ_eq_map, List.flatMap_cons, List.flatMap_map, Nat.zero_mul, List.drop_zero, Nat.add_zero,
    List.drop_drop, Nat.succ_mul, Nat.succ_eq_add_one, Nat.add_assoc, Nat.add_comm 1, Nat.add_comm (dElem d)]

/-- Bytes without poison are their values, marked clean. -/
theorem eq_mark_of_clean {bs : MarkedBytes} (h : ∀ x ∈ bs, x.2 = false) : bs = mark false (bs.map (·.1)) := by
  induction bs with
  | nil => rfl
  | cons x l ih =>
    obtain ⟨v, p⟩ := x
    have hp : p = false := h (v, p) (by simp)
    have hl : l = mark false (l.map (·.1)) := ih (fun y hy => h y (List.mem_cons_of_mem _ hy))
    subst hp
    exact congrArg ((v, false) :: ·) hl

theorem any_poison_mark (l : Bytes) : (mark false l).any (·.2) = false := by simp [mark]

theorem map_fst_mark (p : Bool) (l : Bytes) : (mark p l).map (·.1) = l := by simp [mark, Function.comp_def]

theorem length_mark (p : Bool) (l : Bytes) : (mark p l).length = l.length := by simp [mark]

theorem Running.putAt_mark (r : Running) (b : Nat) (place : Int) (l : Bytes) :
    r.putAt b place (mark false l) = { r with outQ := r.outQ ++ outBytes b place l } := by
  have hbytes : ((List.range (mark false l).length).zip (mark false l)).map (fun x =>
      ({ addr := BitVec.ofInt 64 (place + (x.1 : Int)), val := x.2.1, poison := x.2.2, burst := b } : OutByte)) = outBytes b place l := by
    rw [length_mark, mark, List.zip_map_right, List.map_map]; rfl
  rw [Running.putAt, hbytes]

/-! ### A plain destination -/

/-- The descriptor is a COPY with no coded and no sequence-mapped destination, and its writes go on. -/
structure Running.Copies (r : Running) : Prop where
  op : dOp r.words = 1
  plain : dFlag r.words 9 = false
  seq : r.seqD = none
  writes : r.stopWrites = false

theorem Running.Copies.emit {r : Running} (h : r.Copies) (b : Nat) (place : Int) (bs : MarkedBytes) : r.emit b place bs = r.putAt b place bs := by
  simp [Running.emit, h.op, h.plain, h.writes]

theorem Running.dst_place {r : Running} (hop : dOp r.words = 1) (hseq : r.seqD = none) (ops : List (BitVec 32)) (e : Nat) :
    dstBase r + dstOff ops r.words e =
      nestPlace r.words (dstPerRow ops r.words) (if mxOut ops then (delem ops r.words : Int) else dD r.words 0) e := by
  simp only [dstBase, hseq, dstOff, dstRows, hop, nestOff, nestPlace, Nat.reduceEqDiff, if_false, ← add_assoc]

/-- A unit of a descriptor without a pipeline that neither compares nor hashes is one element. -/
theorem Work.unit_plain {r : Running} (h3 : dOp r.words ≠ 3) (h8 : dOp r.words ≠ 8) (k : SluiceNote) (b : Nat) (bs : MarkedBytes) :
    Work.unit (r, k) [] b bs = (Running.emit { r with unitIx := r.unitIx + 1, elemIx := r.elemIx + 1 } b
      (dstBase r + dstOff [] r.words r.elemIx)
      (if bs.any (·.2) then poisonBytes (dstBase r + dstOff [] r.words r.elemIx) bs.length else bs), k) :=
  (if_neg h3).trans (if_neg h8)

theorem Running.Copies.ne_compare {r : Running} (h : r.Copies) : dOp r.words ≠ 3 := by rw [h.op]; decide

theorem Running.Copies.ne_hash {r : Running} (h : r.Copies) : dOp r.words ≠ 8 := by rw [h.op]; decide

/-- The place of an element of a descriptor without a pipeline. -/
theorem Running.Copies.place {r : Running} (h : r.Copies) (e : Nat) :
    dstBase r + dstOff [] r.words e = nestPlace r.words (dN0 r.words) (dD r.words 0) e := Running.dst_place h.op h.seq [] e

/-- The descriptor after its next element's bytes have been queued at the element's place. -/
def Running.copied (r : Running) (b : Nat) (l : Bytes) : Running :=
  { r with
    unitIx := r.unitIx + 1, elemIx := r.elemIx + 1,
    outQ := r.outQ ++ outBytes b (nestPlace r.words (dN0 r.words) (dD r.words 0) r.elemIx) l }

/-- Without a pipeline one whole element goes to its place (09 R209). -/
theorem Work.unit_copy {r : Running} (h : r.Copies) (k : SluiceNote) (b : Nat) (l : Bytes) :
    Work.unit (r, k) [] b (mark false l) = (r.copied b l, k) := by
  have hemit := Running.Copies.emit (r := { r with unitIx := r.unitIx + 1, elemIx := r.elemIx + 1 }) ⟨h.op, h.plain, h.seq, h.writes⟩
  rw [Work.unit_plain h.ne_compare h.ne_hash, any_poison_mark, h.place, hemit]
  exact congrArg (·, k) (Running.putAt_mark _ _ _ _)

theorem Running.Copies.copied {r : Running} (h : r.Copies) (b : Nat) (l : Bytes) : (r.copied b l).Copies := ⟨h.op, h.plain, h.seq, h.writes⟩

/-! ### Whole units of the bytes in hand -/

theorem Work.units_stop {w : Work} (h : w.1.carry.length < dElem w.1.words) (ops : List (BitVec 32)) (b fuel : Nat) :
    Work.units ops b fuel w = w := by
  cases fuel with
  | zero => rfl
  | succ fuel => exact if_pos h

theorem Work.units_step {r : Running} {bs : MarkedBytes} (h : dElem r.words ≤ bs.length) (k : SluiceNote) (ops : List (BitVec 32))
    (b fuel : Nat) : Work.units ops b (fuel + 1) ({ r with carry := bs }, k) =
      Work.units ops b fuel (Work.unit ({ r with carry := bs.drop (dElem r.words) }, k) ops b (bs.take (dElem r.words))) :=
  if_neg (not_lt.mpr h)

/-- The descriptor after `m` elements have been queued, none left in hand. -/
def Running.copiedAll (r : Running) (b m : Nat) (l : Bytes) : Running :=
  { r with carry := [], unitIx := r.unitIx + m, elemIx := r.elemIx + m, outQ := r.outQ ++ copyOut r.words b r.elemIx m l }

theorem Running.copiedAll_succ (r : Running) (b m : Nat) (l : Bytes) :
    r.copiedAll b (m + 1) l = (r.copied b (l.take (dElem r.words))).copiedAll b m (l.drop (dElem r.words)) := by
  simp only [Running.copiedAll, Running.copied, copyOut_succ, List.append_assoc, Nat.add_assoc, Nat.add_comm 1]

/-- Each whole element of the bytes in hand goes to its place, in loop order. -/
theorem Work.units_copy (k : SluiceNote) (b : Nat) {m fuel : Nat} (hfuel : m < fuel) {r : Running} (h : r.Copies) {l : Bytes}
    (hn : 0 < dElem r.words) (hl : l.length = m * dElem r.words) :
    Work.units [] b fuel ({ r with carry := mark false l }, k) = (r.copiedAll b m l, k) := by
  induction m generalizing r l fuel with
  | zero =>
    obtain rfl : l = [] := List.eq_nil_of_length_eq_zero (by simpa using hl)
    rw [Work.units_stop (by simpa [mark] using hn)]
    simp [Running.copiedAll, copyOut, mark]
  | succ m ih =>
    obtain ⟨fuel, rfl⟩ : ∃ f, fuel = f + 1 := ⟨fuel - 1, by omega⟩
    have hle : dElem r.words ≤ l.length := by rw [hl, Nat.succ_mul]; omega
    have hdrop : (l.drop (dElem r.words)).length = m * dElem r.words := by rw [List.length_drop, hl, Nat.succ_mul]; omega
    have hunit := Work.unit_copy (r := { r with carry := mark false (l.drop (dElem r.words)) }) ⟨h.op, h.plain, h.seq, h.writes⟩ k b
      (l.take (dElem r.words))
    rw [Work.units_step (by rwa [length_mark]), mark, ← List.map_drop, ← List.map_take, ← mark, ← mark, hunit, Running.copiedAll_succ]
    exact ih (by omega) (h.copied b _) hn hdrop

/-! ### A burst enters -/

theorem Work.entered_clean {bs : MarkedBytes} (h : ∀ x ∈ bs, x.2 = false) (r : Running) (ops : List (BitVec 32)) (b : Nat) :
    Work.entered r ops b bs = Work.feed (r, {}) ops b bs := by
  have hany : bs.any (·.2) = false := by simpa using h
  simp only [Work.entered, hany, Bool.false_eq_true, if_false]

theorem Work.feed_plain {r : Running} (h8 : dFlag r.words 8 = false) (hcarry : r.carry = []) (k : SluiceNote) (ops : List (BitVec 32)) (b : Nat)
    (bs : MarkedBytes) : Work.feed (r, k) ops b bs = Work.units ops b (bs.length + 1) ({ r with carry := bs }, k) := by
  simp only [Work.feed, hcarry, List.nil_append, h8, Bool.false_eq_true, if_false]

/-- A burst of one whole unit. -/
theorem Work.feed_unit {r x : Running} {k k' : SluiceNote} {ops : List (BitVec 32)} {b : Nat} {bs : MarkedBytes}
    (h8 : dFlag r.words 8 = false) (hcarry : r.carry = []) (hn : 0 < dElem r.words) (hlen : bs.length = dElem r.words)
    (hunit : Work.unit (r, k) ops b bs = (x, k')) (hx : x.carry = []) (hw : x.words = r.words) : Work.feed (r, k) ops b bs = (x, k') := by
  have hr : { r with carry := [] } = r := by rw [← hcarry]
  rw [Work.feed_plain h8 hcarry, Work.units_step hlen.ge, ← hlen, List.drop_length, List.take_length, hr, hunit]
  exact Work.units_stop (by simpa [hx, hw] using hn) ops b _

/-- A burst of whole elements without poison. -/
theorem Work.entered_copy {r : Running} (h : r.Copies) (h8 : dFlag r.words 8 = false) (hcarry : r.carry = []) (hn : 0 < dElem r.words)
    {bs : MarkedBytes} (hclean : ∀ x ∈ bs, x.2 = false) (b : Nat) {m : Nat} (hlen : bs.length = m * dElem r.words) :
    Work.entered r [] b bs = (r.copiedAll b m (bs.map (·.1)), {}) := by
  have hm : m < bs.length + 1 := by rw [hlen]; nlinarith
  have hunits := Work.units_copy {} b hm h hn
    (l := bs.map (·.1)) (by simpa using hlen)
  rw [Work.entered_clean hclean, Work.feed_plain h8 hcarry, ← hunits, ← eq_mark_of_clean hclean]

end Sys2Proof.Machine

/-! ### A poisoned element (09 R227) -/

namespace Sys2Proof.Machine

theorem burstPrefix_isPrefix (n : Nat) (l : List OutByte) : burstPrefix n l <+: l := by
  induction l generalizing n with
  | nil => cases n <;> simp [burstPrefix]
  | cons b l ih =>
    cases n with
    | zero => simp [burstPrefix]
    | succ n =>
      cases l with
      | nil => simp [burstPrefix]
      | cons c l =>
        rw [burstPrefix]
        split
        · exact (List.prefix_cons_inj b).mpr (ih n)
        · exact ⟨c :: l, rfl⟩

theorem burstPrefix_length_pos {n : Nat} (hn : n ≠ 0) (b : OutByte) (l : List OutByte) : 0 < (burstPrefix n (b :: l)).length := by
  obtain ⟨n, rfl⟩ := Nat.exists_eq_succ_of_ne_zero hn
  cases l with
  | nil => simp [burstPrefix]
  | cons c l => rw [burstPrefix]; split <;> simp

/-- The bursts that bytes are cut into hold all of them, and none is empty. -/
theorem burstsOf_flatten {fuel : Nat} {l : List OutByte} (h : l.length ≤ fuel) :
    (burstsOf fuel l).flatten = l ∧ ∀ p ∈ burstsOf fuel l, p ≠ [] := by
  induction fuel generalizing l with
  | zero => simp [burstsOf, List.eq_nil_of_length_eq_zero (Nat.le_zero.mp h)]
  | succ fuel ih =>
    cases l with
    | nil => simp [burstsOf]
    | cons b l =>
      have hroom : 256 - b.addr.toNat % 256 ≠ 0 := by omega
      have hpos := burstPrefix_length_pos hroom b l
      obtain ⟨hflat, hne⟩ := ih (l := (b :: l).drop (burstPrefix (256 - b.addr.toNat % 256) (b :: l)).length)
        (by simp only [List.length_drop, List.length_cons] at h ⊢; omega)
      have hhead := List.prefix_iff_eq_take.mp (burstPrefix_isPrefix (256 - b.addr.toNat % 256) (b :: l))
      rw [burstsOf]
      refine ⟨?_, fun p hp => ?_⟩
      · rw [List.flatten_cons, hflat]
        conv_lhs => arg 1; rw [hhead]
        exact List.take_append_drop _ _
      · obtain rfl | hp := List.mem_cons.mp hp
        · exact List.ne_nil_of_length_pos hpos
        · exact hne p hp

/-- Bytes that all came with read burst `b` stay, whatever write bursts they are cut into. -/
theorem burstsOf_filter_flatten {b : Nat} {l : List OutByte} (h : ∀ x ∈ l, x.burst = b) :
    ((burstsOf l.length l).filter (fun p => p.any (fun x => x.burst == b))).flatten = l := by
  obtain ⟨hflat, hne⟩ := burstsOf_flatten (le_refl l.length)
  rw [List.filter_eq_self.mpr, hflat]
  intro p hp
  obtain ⟨x, hx⟩ := List.exists_mem_of_ne_nil p (hne p hp)
  have hin : x ∈ l := hflat ▸ List.mem_flatten.mpr ⟨p, hp, hx⟩
  exact List.any_eq_true.mpr ⟨x, hx, by simp [h x hin]⟩

/-- Bytes marked poisoned, from read burst `b`, that wait to be written from a place. -/
def outPoison (b : Nat) (p : Int) (n : Nat) : List OutByte :=
  ((List.range (poisonBytes p n).length).zip (poisonBytes p n)).map (fun x =>
    { addr := BitVec.ofInt 64 (p + (x.1 : Int)), val := x.2.1, poison := x.2.2, burst := b })

theorem outPoison_marks (b : Nat) (p : Int) (n : Nat) :
    (outPoison b p n).map (fun x => (x.addr, x.poison)) = (List.range n).map (fun (i : Nat) => (BitVec.ofInt 64 (p + (i : Int)), true)) := by
  apply List.ext_getElem
  · simp [outPoison, poisonBytes]
  · intro i _ _
    simp [outPoison, poisonBytes]

theorem outPoison_burst (b : Nat) (p : Int) (n : Nat) : ∀ x ∈ outPoison b p n, x.burst = b := by
  intro x hx
  obtain ⟨y, -, rfl⟩ := List.mem_map.mp hx
  rfl

/-- What a poisoned line leaves of a descriptor that gathers no contribution and codes nothing. -/
theorem Running.poisonStop_plain {r : Running} (hop : ¬ (dOp r.words = 4 ∨ dOp r.words = 5)) (h9 : dFlag r.words 9 = false) (b : Nat) :
    r.poisonStop b = { r with
      early := some (r.early.getD .poison), quit := true, carry := [], group := [], reads := r.reads.filter (fun x => x.result.isNone),
      outQ := ((burstsOf r.outQ.length r.outQ).filter (fun p => p.any (fun x => x.burst == b))).flatten } := by
  refine (if_neg hop).trans ?_
  rw [h9]
  rfl

/-- Nothing in hand and nothing gathered: a poisoned line cuts no element short. -/
theorem Work.cutShort_nothing {r : Running} (h8 : dFlag r.words 8 = false) (hcarry : r.carry = []) (hgroup : r.group = []) (k : SluiceNote)
    (ops : List (BitVec 32)) (b : Nat) : Work.cutShort (r, k) ops b = (r, k) := by
  simp only [Work.cutShort, Work.cutGroup, h8, hcarry, hgroup, Bool.false_and, Bool.false_eq_true, if_false, List.any_nil, Bool.not_false,
    if_true, ite_self]

/-- The descriptor after its next element has been queued as poisoned bytes. -/
def Running.poisoned (r : Running) (b : Nat) : Running :=
  { r with
    unitIx := r.unitIx + 1, elemIx := r.elemIx + 1,
    outQ := outPoison b (nestPlace r.words (dN0 r.words) (dD r.words 0) r.elemIx) (dElem r.words) }

theorem Work.unit_poisoned {r : Running} (h : r.Copies) {bs : MarkedBytes} (hbad : bs.any (·.2) = true) (hlen : bs.length = dElem r.words)
    (hout : r.outQ = []) (k : SluiceNote) (b : Nat) : Work.unit (r, k) [] b bs = (r.poisoned b, k) := by
  have hemit := Running.Copies.emit (r := { r with unitIx := r.unitIx + 1, elemIx := r.elemIx + 1 }) ⟨h.op, h.plain, h.seq, h.writes⟩
  rw [Work.unit_plain h.ne_compare h.ne_hash, hbad, if_pos rfl, h.place, hemit, hlen]
  simp only [Running.putAt, hout, List.nil_append]
  rfl

/-- A poisoned element goes to its place marked, with nothing before it in hand, and the descriptor ends POISON. -/
theorem Work.entered_poisoned {r : Running} (h : r.Copies) (h8 : dFlag r.words 8 = false) (hcarry : r.carry = []) (hn : 0 < dElem r.words)
    {bs : MarkedBytes} (hbad : bs.any (·.2) = true) (b : Nat) (hlen : bs.length = dElem r.words) (hout : r.outQ = []) (hgroup : r.group = []) :
    Work.entered r [] b bs = ((r.poisoned b).poisonStop b, {}) ∧ (r.poisoned b).poisonStop b = { r.poisoned b with
      early := some (r.early.getD .poison), quit := true, carry := [], group := [], reads := r.reads.filter (fun x => x.result.isNone) } := by
  constructor
  · have hfeed := Work.feed_unit h8 hcarry hn hlen (Work.unit_poisoned h hbad hlen hout {} b) hcarry rfl
    have hcut := Work.cutShort_nothing (r := r.poisoned b) h8 hcarry hgroup {} [] b
    simp only [Work.entered, hfeed, hbad, if_true, hcut]
  · have hop : ¬ (dOp (r.poisoned b).words = 4 ∨ dOp (r.poisoned b).words = 5) := by
      have hop : dOp (r.poisoned b).words = 1 := h.op
      rw [hop]; decide
    rw [Running.poisonStop_plain hop h.plain, burstsOf_filter_flatten (l := (r.poisoned b).outQ) (outPoison_burst b _ _)]
    rfl

end Sys2Proof.Machine

/-! ### Elements through a pipeline (10 R240 to R263) -/

namespace Sys2Proof.Machine

/-- A unit of a pipeline whose source is not block-scaled is one element. -/
theorem Work.unit_pipe {r : Running} (h : r.Copies) {ops : List (BitVec 32)} (hops : ops ≠ []) (hin : mxIn ops = false) (k : SluiceNote)
    (b : Nat) (l : Bytes) : Work.unit (r, k) ops b (mark false l) = Work.runElem ({ r with unitIx := r.unitIx + 1 }, k) ops b (leNat l) := by
  have hne : ¬ ops.isEmpty = true := by simpa using hops
  refine (if_neg h.ne_compare).trans ((if_neg h.ne_hash).trans ((if_neg hne).trans ((if_neg (by simp [hin])).trans
    ((if_neg (by simp [any_poison_mark])).trans ?_))))
  rw [map_fst_mark]

/-- The descriptor after bytes of its next element have been queued at a place. -/
def Running.given (r : Running) (b : Nat) (place : Int) (l : Bytes) : Running :=
  { r with elemIx := r.elemIx + 1, outQ := r.outQ ++ outBytes b place l }

theorem Running.Copies.emit_mark {r : Running} (h : r.Copies) (b : Nat) (place : Int) (l : Bytes) :
    r.emit b place (mark false l) = { r with outQ := r.outQ ++ outBytes b place l } := by
  rw [h.emit, Running.putAt_mark]

/-- Past plain cells an element leaves at its place. -/
theorem Work.emitElem_plain {r : Running} (h : r.Copies) {ops : List (BitVec 32)} (hout : mxOut ops = false) (hsoft : pipeSoftmax ops = false)
    (k : SluiceNote) (b c : Nat) : Work.emitElem (r, k) ops b (some c) =
      (r.given b (nestPlace r.words (dN0 r.words) (dD r.words 0) r.elemIx) (leBytes (delem ops r.words) c), { k with elems := k.elems + 1 }) := by
  have hplace := Running.dst_place h.op h.seq ops r.elemIx
  simp only [dstPerRow, hout, Bool.false_eq_true, if_false] at hplace
  have hemit := Running.Copies.emit_mark (r := { r with elemIx := r.elemIx + 1 }) ⟨h.op, h.plain, h.seq, h.writes⟩ b
    (dstBase r + dstOff ops r.words r.elemIx) (leBytes (delem ops r.words) c)
  refine (if_neg (by simp [hout])).trans ((if_neg (by simp [hsoft])).trans ?_)
  rw [← hplace]
  exact congrArg (·, { k with elems := k.elems + 1 }) hemit

theorem Work.runElem_eq (r : Running) (k : SluiceNote) (ops : List (BitVec 32)) (b code : Nat) {y : Nat × CellSt}
    (hy : runCells ops (dFlag r.words 5) (dFlag r.words 6) code { lfsr := r.lfsr.toNat } = y) :
    Work.runElem (r, k) ops b code = Work.emitElem ({ r with lfsr := BitVec.ofNat 32 y.2.lfsr },
      { k with sat := k.sat + y.2.sat, ovf := k.ovf + y.2.ovf }) ops b (some y.1) := by
  subst hy; rfl

theorem delem_of_ne_nil {ops : List (BitVec 32)} (h : ops ≠ []) (d : Words) : delem ops d = fmtBytes (pipeOut ops) :=
  if_neg (by simpa using h)

/-- No coded stream, nothing in hand, and the burst is one whole unit without poison. -/
structure Running.TakesUnit (r : Running) (bs : MarkedBytes) : Prop where
  uncoded : dFlag r.words 8 = false
  carry : r.carry = []
  pos : 0 < dElem r.words
  clean : ∀ x ∈ bs, x.2 = false
  whole : bs.length = dElem r.words

theorem Work.entered_unit {r x : Running} {bs : MarkedBytes} (h : r.TakesUnit bs) {ops : List (BitVec 32)} {b : Nat} {k : SluiceNote}
    (hunit : Work.unit (r, {}) ops b (mark false (bs.map (·.1))) = (x, k)) (hx : x.carry = []) (hw : x.words = r.words) :
    Work.entered r ops b bs = (x, k) := by
  rw [← eq_mark_of_clean h.clean] at hunit
  rw [Work.entered_clean h.clean, Work.feed_unit h.uncoded h.carry h.pos h.whole hunit hx hw]

/-- One element through plain cells: converted, and at its place. -/
theorem Work.entered_cells {r : Running} (h : r.Copies) {bs : MarkedBytes} (hbs : r.TakesUnit bs) {ops : List (BitVec 32)} (hops : ops ≠ [])
    (hin : mxIn ops = false) (hout : mxOut ops = false) (hsoft : pipeSoftmax ops = false) (b : Nat) {y : Nat × CellSt}
    (hy : runCells ops (dFlag r.words 5) (dFlag r.words 6) (leNat (bs.map (·.1))) { lfsr := r.lfsr.toNat } = y) :
    Work.entered r ops b bs = ({ r with
      unitIx := r.unitIx + 1, elemIx := r.elemIx + 1, lfsr := BitVec.ofNat 32 y.2.lfsr,
      outQ := r.outQ ++ outBytes b (nestPlace r.words (dN0 r.words) (dD r.words 0) r.elemIx) (leBytes (fmtBytes (pipeOut ops)) y.1) },
      { sat := y.2.sat, ovf := y.2.ovf, elems := 1 }) := by
  have hcells := Work.emitElem_plain (r := { r with unitIx := r.unitIx + 1, lfsr := BitVec.ofNat 32 y.2.lfsr })
    ⟨h.op, h.plain, h.seq, h.writes⟩ hout hsoft { sat := y.2.sat, ovf := y.2.ovf } b y.1
  rw [delem_of_ne_nil hops] at hcells
  have hunit := Work.unit_pipe h hops hin {} b (bs.map (·.1))
  have hrun := Work.runElem_eq { r with unitIx := r.unitIx + 1 } {} ops b (leNat (bs.map (·.1))) (y := y) hy
  simp only [Nat.zero_add] at hrun
  rw [hrun, hcells] at hunit
  exact Work.entered_unit hbs hunit hbs.carry rfl

/-! #### A group that is encoded -/

/-- A CONVERT to a block-scaled format leaves codes to the group's encoding. -/
theorem runCells_mxOut {w : BitVec 32} (h : fmtMx (opOut w) = true) (sat stoch : Bool) (c : Nat) (k : CellSt) :
    runCells [w] sat stoch c k = (c, k) := by
  simp [runCells, innerCells, h]

theorem runCells_mxIn {w : BitVec 32} (h : fmtMx (opIn w) = true) (sat stoch : Bool) (c : Nat) (k : CellSt) :
    runCells [w] sat stoch c k = (c, k) := by
  simp [runCells, innerCells, h]

theorem runCells_softmax {w : BitVec 32} (h : opField w = 7) (sat stoch : Bool) (c : Nat) (k : CellSt) :
    runCells [w] sat stoch c k = (c, k) := by
  simp [runCells, innerCells, isSoftmax, h]

/-- A gathered group without poison leaves as its record. -/
theorem Work.flushGroup_mx {r : Running} (h : r.Copies) {ops : List (BitVec 32)} (hout : mxOut ops = true)
    (hgroup : ∀ g ∈ r.group, g.2.2 = false) (k : SluiceNote) (b : Nat) {e : Bytes × Nat}
    (he : encodeGroup ops (r.group.map (fun g => (g.1, g.2.1))) = e) :
    Work.flushGroup (r, k) ops b = ({ r with
      group := [], outQ := r.outQ ++ outBytes b (nestPlace r.words (dN0 r.words / 32) (delem ops r.words) (r.elemIx / 32 - 1)) e.1 },
      { k with sat := k.sat + e.2, elems := k.elems + 32 }) := by
  have hplace := Running.dst_place h.op h.seq ops (r.elemIx / 32 - 1)
  simp only [dstPerRow, hout, if_true] at hplace
  have hbad : r.group.any (fun g => g.2.2) = false := by simpa using hgroup
  have hemit := Running.Copies.emit_mark (r := { r with group := [] }) ⟨h.op, h.plain, h.seq, h.writes⟩ b
    (dstBase r + dstOff ops r.words (r.elemIx / 32 - 1)) e.1
  refine (if_pos hout).trans ((if_neg (by simp [hbad])).trans ?_)
  rw [he, ← hplace]
  exact congrArg (·, { k with sat := k.sat + e.2, elems := k.elems + 32 }) hemit

/-- The 32nd element of a group for a block-scaled destination completes it. -/
theorem Work.emitElem_mx {r : Running} {ops : List (BitVec 32)} (hout : mxOut ops = true) (hlen : r.group.length = 31) (k : SluiceNote) (b c : Nat)
    {draw : Option Nat × CellSt} (hdraw : groupDraw ops (dFlag r.words 6) { lfsr := r.lfsr.toNat } = draw) :
    Work.emitElem (r, k) ops b (some c) = Work.flushGroup ({ r with
      elemIx := r.elemIx + 1, lfsr := BitVec.ofNat 32 draw.2.lfsr, group := r.group ++ [(c, draw.1, false)] }, k) ops b := by
  subst hdraw
  refine (if_pos hout).trans ((if_pos ?_).trans ?_)
  · simp [hlen]
  · simp

end Sys2Proof.Machine

/-! Groups and rows that an element completes (10 R251, R262), and block-scaled records (10 R254). -/

namespace Sys2Proof.Machine

/-- The draw that an element takes for its place in a group, and the generator after it. -/
theorem groupDraw_single {w : BitVec 32} (h : fmtMx (opOut w) = true) (stoch : Bool) (g : BitVec 32) :
    groupDraw [w] stoch { lfsr := g.toNat } = (if stoch then some (stoDraw g.toNat) else none,
      { lfsr := if stoch then stoDraw g.toNat else g.toNat }) := by
  cases stoch <;> simp [groupDraw, cellDraw, pipeOut, h]

/-- The 32nd element of a group completes the group's record (10 R251). -/
theorem Work.entered_mx {r : Running} (h : r.Copies) {bs : MarkedBytes} (hbs : r.TakesUnit bs) {w : BitVec 32}
    (hin : mxIn [w] = false) (hout : fmtMx (opOut w) = true) (hlen : r.group.length = 31) (hclean : ∀ g ∈ r.group, g.2.2 = false) (b : Nat)
    {draw : Option Nat} (hdraw : draw = if dFlag r.words 6 then some (stoDraw r.lfsr.toNat) else none) {e : Bytes × Nat}
    (he : mxEncode (fmtCode (opOut w)) ((r.group.map (fun g => (g.1, g.2.1)) ++ [(leNat (bs.map (·.1)), draw)]).map
      (fun g => (numOf (opIn w) g.1, g.2))) = e) :
    Work.entered r [w] b bs = ({ r with
      unitIx := r.unitIx + 1, elemIx := r.elemIx + 1, group := [],
      lfsr := if dFlag r.words 6 then BitVec.ofNat 32 (stoDraw r.lfsr.toNat) else r.lfsr,
      outQ := r.outQ ++ outBytes b (nestPlace r.words (dN0 r.words / 32) (recordSize (fmtCode (opOut w)) : Int) ((r.elemIx + 1) / 32 - 1)) e.1 },
      { sat := e.2, elems := 32 }) := by
  have hmx : mxOut [w] = true := hout
  have hsize : delem [w] r.words = recordSize (fmtCode (opOut w)) := (delem_of_ne_nil (by simp) _).trans (if_pos hout)
  have hlfsr : BitVec.ofNat 32 (if dFlag r.words 6 then stoDraw r.lfsr.toNat else r.lfsr.toNat) =
      if dFlag r.words 6 then BitVec.ofNat 32 (stoDraw r.lfsr.toNat) else r.lfsr := by
    split <;> simp
  have hunit := Work.unit_pipe h (List.cons_ne_nil w []) hin {} b (bs.map (·.1))
  have hrun := Work.runElem_eq { r with unitIx := r.unitIx + 1 } {} [w] b _ (runCells_mxOut hout (dFlag r.words 5) (dFlag r.words 6)
    (leNat (bs.map (·.1))) { lfsr := r.lfsr.toNat })
  simp only [BitVec.ofNat_toNat, BitVec.setWidth_eq, Nat.add_zero] at hrun
  have hemit := Work.emitElem_mx (r := { r with unitIx := r.unitIx + 1 }) hmx hlen {} b (leNat (bs.map (·.1)))
    (groupDraw_single hout (dFlag r.words 6) r.lfsr)
  rw [hlfsr, ← hdraw] at hemit
  have hflush := Work.flushGroup_mx (r := { r with
      unitIx := r.unitIx + 1, elemIx := r.elemIx + 1,
      lfsr := if dFlag r.words 6 then BitVec.ofNat 32 (stoDraw r.lfsr.toNat) else r.lfsr,
      group := r.group ++ [(leNat (bs.map (·.1)), draw, false)] }) ⟨h.op, h.plain, h.seq, h.writes⟩ hmx
    (by simpa [or_imp, forall_and] using hclean) {} b (e := e) (by rw [← he]; simp [encodeGroup])
  rw [hrun, hemit, hflush, hsize, Nat.zero_add, Nat.zero_add] at hunit
  exact Work.entered_unit hbs hunit hbs.carry rfl

/-! ### A row of ROW_SOFTMAX -/

theorem Running.Copies.foldl_emit (b : Nat) (place : Nat → Int) (out : Nat → Bytes) (n : Nat) {r : Running} (h : r.Copies) :
    ((List.range n).zip ((List.range n).map (fun i => mark false (out i)))).foldl (fun t x => Running.emit t b (place x.1) x.2) r =
      { r with outQ := r.outQ ++ (List.range n).flatMap (fun i => outBytes b (place i) (out i)) } := by
  have hzip : (List.range n).zip ((List.range n).map (fun i => mark false (out i))) = (List.range n).map (fun i => (i, mark false (out i))) := by
    simp [List.map_prod_left_eq_zip]
  rw [hzip, List.foldl_map]
  induction List.range n generalizing r with
  | nil => simp
  | cons i l ih =>
    rw [List.foldl_cons, h.emit_mark]
    refine (ih (r := { r with outQ := r.outQ ++ outBytes b (place i) (out i) }) ⟨h.op, h.plain, h.seq, h.writes⟩).trans ?_
    rw [List.flatMap_cons, ← List.append_assoc]

theorem Running.tail_place {r : Running} (hop : dOp r.words = 1) (hseq : r.seqD = none) (row : Nat) :
    dstBase r + tailOff r.words row = nestPlace r.words 1 0 row + 4 * (dN0 r.words : Int) := by
  simp only [dstBase, hseq, tailOff, dstRows, hop, nestOff, nestPlace, Nat.reduceEqDiff, if_false, ← add_assoc]

/-- The entries of a softmax row at their places. -/
def rowOut (d : Words) (b row : Nat) (y : SoftRow) : List OutByte :=
  (List.range (dN0 d)).flatMap (fun i => outBytes b (nestPlace d (dN0 d) (dD d 0) (row * dN0 d + i)) (leBytes 4 (y.out.getD i 0)))

/-- A gathered row without poison leaves with its tail. -/
theorem Work.flushGroup_softmax {r : Running} (h : r.Copies) {w : BitVec 32} (hout : mxOut [w] = false)
    (hgroup : ∀ g ∈ r.group, g.2.2 = false) (k : SluiceNote) (b : Nat) {row : Nat} (hrow : r.elemIx / dN0 r.words - 1 = row) {y : SoftRow}
    (hy : softmaxRow (w.getLsbD 0) (r.group.map (·.1)) = y) :
    Work.flushGroup (r, k) [w] b = ({ r with
      group := [],
      outQ := r.outQ ++ rowOut r.words b row y ++ outBytes b (nestPlace r.words 1 0 row + 4 * (dN0 r.words : Int)) (softTail y) },
      { k with elems := k.elems + dN0 r.words }) := by
  have hnorm : bit w.toNat 0 = w.getLsbD 0 := by
    rw [BitVec.getLsbD, Nat.testBit_eq_decide_div_mod_eq, bit, Nat.shiftRight_eq_div_pow]; rfl
  have hbad : r.group.any (fun g => g.2.2) = false := by simpa using hgroup
  have hplace : ∀ e, dstBase r + dstOff [w] r.words e = nestPlace r.words (dN0 r.words) (dD r.words 0) e := fun e => by
    rw [Running.dst_place h.op h.seq [w] e]
    simp only [dstPerRow, hout, Bool.false_eq_true, if_false]
  have hputs := Running.Copies.foldl_emit b (fun i => dstBase r + dstOff [w] r.words (row * dN0 r.words + i)) (fun i => leBytes 4 (y.out.getD i 0))
    (dN0 r.words) (r := { r with group := [] }) ⟨h.op, h.plain, h.seq, h.writes⟩
  simp only [hplace] at hputs
  subst hrow
  refine (if_neg (by simp [hout])).trans ?_
  simp only [hbad, Bool.false_eq_true, if_false, List.getLast?_singleton, Option.map_some, Option.getD_some, hnorm, hy, hplace,
    Running.tail_place h.op h.seq]
  have htail := Running.Copies.emit_mark
    (r := { r with group := [], outQ := r.outQ ++ rowOut r.words b (r.elemIx / dN0 r.words - 1) y }) ⟨h.op, h.plain, h.seq, h.writes⟩
  rw [hputs]
  exact congrArg (·, { k with elems := k.elems + dN0 r.words }) (htail b _ _)

/-- The last entry of a row releases the row and its tail (10 R262). -/
theorem Work.entered_softmax {r : Running} (h : r.Copies) {bs : MarkedBytes} (hbs : r.TakesUnit bs) {w : BitVec 32}
    (hin : mxIn [w] = false) (hop : opField w = 7) (hlen : r.group.length + 1 = dN0 r.words) (hclean : ∀ g ∈ r.group, g.2.2 = false) (b : Nat)
    {row : Nat} (hrow : (r.elemIx + 1) / dN0 r.words - 1 = row) {y : SoftRow}
    (hy : softmaxRow (w.getLsbD 0) (r.group.map (·.1) ++ [leNat (bs.map (·.1))]) = y) :
    Work.entered r [w] b bs = ({ r with
      unitIx := r.unitIx + 1, elemIx := r.elemIx + 1, group := [],
      outQ := r.outQ ++ rowOut r.words b row y ++ outBytes b (nestPlace r.words 1 0 row + 4 * (dN0 r.words : Int)) (softTail y) },
      { elems := dN0 r.words }) := by
  have hmx : mxOut [w] = false := by simp [mxOut, pipeOut, opOut, hop, fmtMx, bit]
  have hsoft : pipeSoftmax [w] = true := by simp [pipeSoftmax, isSoftmax, hop]
  have hunit := Work.unit_pipe h (List.cons_ne_nil w []) hin {} b (bs.map (·.1))
  have hrun := Work.runElem_eq { r with unitIx := r.unitIx + 1 } {} [w] b _ (runCells_softmax hop (dFlag r.words 5) (dFlag r.words 6)
    (leNat (bs.map (·.1))) { lfsr := r.lfsr.toNat })
  simp only [BitVec.ofNat_toNat, BitVec.setWidth_eq, Nat.add_zero] at hrun
  have hflush := Work.flushGroup_softmax (r := { r with
      unitIx := r.unitIx + 1, elemIx := r.elemIx + 1, group := r.group ++ [(leNat (bs.map (·.1)), none, false)] })
    ⟨h.op, h.plain, h.seq, h.writes⟩ hmx (by simpa [or_imp, forall_and] using hclean) {} b hrow (y := y) (by rw [← hy]; simp)
  have hemit : Work.emitElem ({ r with unitIx := r.unitIx + 1 }, {}) [w] b (some (leNat (bs.map (·.1)))) = _ :=
    (if_neg (by simp [hmx])).trans ((if_pos hsoft).trans ((if_pos (by simpa using hlen)).trans hflush))
  rw [hrun, hemit, Nat.zero_add] at hunit
  exact Work.entered_unit hbs hunit hbs.carry rfl

end Sys2Proof.Machine

/-! Elements of a block-scaled record (10 R254), and COMPARE and HASH (09 R215, R216). -/

namespace Sys2Proof.Machine

/-- Codes of `m` bytes each at the places of the elements `e` on. -/
def codesOut (d : Words) (b m e : Nat) (l : List Nat) : List OutByte :=
  (List.range l.length).flatMap (fun i => outBytes b (nestPlace d (dN0 d) (dD d 0) (e + i)) (leBytes m (l.getD i 0)))

theorem codesOut_cons (d : Words) (b m e c : Nat) (l : List Nat) :
    codesOut d b m e (c :: l) = outBytes b (nestPlace d (dN0 d) (dD d 0) e) (leBytes m c) ++ codesOut d b m (e + 1) l := by
  simp only [codesOut, List.length_cons, List.range_succ_eq_map, List.flatMap_cons, List.flatMap_map, List.getD_cons_zero, Nat.add_zero,
    Nat.succ_eq_add_one, List.getD_cons_succ, Nat.add_assoc, Nat.add_comm 1]

/-- One decoded value of a record, converted without a draw. -/
theorem Work.runRecord_eq {r : Running} (h : r.Copies) {w : BitVec 32} (hop : opField w = 2) (hin : fmtMx (opIn w) = true)
    (hout : fmtMx (opOut w) = false) (h6 : dFlag r.words 6 = false) (k : SluiceNote) (b : Nat) (v : Num) {y : Conv}
    (hy : convert (opOut w) (dFlag r.words 5) none v = y) :
    Work.runRecord (r, k) [w] b v =
      (r.given b (nestPlace r.words (dN0 r.words) (dD r.words 0) r.elemIx) (leBytes (fmtBytes (opOut w)) y.code),
        { sat := k.sat + y.sat, ovf := k.ovf + y.ovf, elems := k.elems + 1 }) := by
  have hcell : cellConvert (opOut w) (dFlag r.words 5) (dFlag r.words 6 && opOut w != 2) v { lfsr := r.lfsr.toNat } =
      (y.code, { lfsr := r.lfsr.toNat, sat := y.sat, ovf := y.ovf }) := by
    simp [cellConvert, cellDraw, h6, hy]
  have hsoft : pipeSoftmax [w] = false := by simp [pipeSoftmax, isSoftmax, hop]
  have hrun := Work.runElem_eq r { k with sat := k.sat + y.sat, ovf := k.ovf + y.ovf } [w] b _
    (runCells_mxIn hin (dFlag r.words 5) (dFlag r.words 6) y.code { lfsr := r.lfsr.toNat })
  simp only [BitVec.ofNat_toNat, BitVec.setWidth_eq, Nat.add_zero] at hrun
  have hsize : delem [w] r.words = fmtBytes (opOut w) := delem_of_ne_nil (by simp) _
  have hemit := Work.emitElem_plain h (ops := [w]) hout hsoft { k with sat := k.sat + y.sat, ovf := k.ovf + y.ovf } b y.code
  rw [hsize] at hemit
  simp only [Work.runRecord, hcell, BitVec.ofNat_toNat, BitVec.setWidth_eq, hrun, hemit]

theorem Work.foldl_runRecord {w : BitVec 32} (hop : opField w = 2) (hin : fmtMx (opIn w) = true) (hout : fmtMx (opOut w) = false) (b : Nat)
    (vs : List Num) {r : Running} (h : r.Copies) (h6 : dFlag r.words 6 = false) (k : SluiceNote) {ys : List Conv}
    (hys : vs.map (convert (opOut w) (dFlag r.words 5) none) = ys) :
    vs.foldl (fun t v => Work.runRecord t [w] b v) (r, k) =
      ({ r with
        elemIx := r.elemIx + vs.length, outQ := r.outQ ++ codesOut r.words b (fmtBytes (opOut w)) r.elemIx (ys.map (·.code)) },
        { sat := k.sat + (ys.map (·.sat)).sum, ovf := k.ovf + (ys.map (·.ovf)).sum, elems := k.elems + vs.length }) := by
  subst hys
  induction vs generalizing r k with
  | nil => simp [codesOut]
  | cons v vs ih =>
    rw [List.foldl_cons, Work.runRecord_eq h hop hin hout h6 k b v rfl]
    refine (ih (r := r.given b _ _) ⟨h.op, h.plain, h.seq, h.writes⟩ h6 _).trans ?_
    simp only [Running.given, List.map_cons, List.sum_cons, List.length_cons, codesOut_cons, List.append_assoc, Nat.add_assoc,
      Nat.add_comm 1]

theorem mxDecode_length (f : Nat) (l : Bytes) : (mxDecode f l).length = 32 := by simp [mxDecode]

/-- A record of a block-scaled source leaves as its 32 elements (10 R254). -/
theorem Work.entered_record {r : Running} (h : r.Copies) {bs : MarkedBytes} (hbs : r.TakesUnit bs) {w : BitVec 32} (hop : opField w = 2)
    (hin : fmtMx (opIn w) = true) (hout : fmtMx (opOut w) = false) (h6 : dFlag r.words 6 = false) (b : Nat) {ys : List Conv}
    (hys : (mxDecode (fmtCode (opIn w)) (bs.map (·.1))).map (convert (opOut w) (dFlag r.words 5) none) = ys) :
    Work.entered r [w] b bs = ({ r with
      unitIx := r.unitIx + 1, elemIx := r.elemIx + 32,
      outQ := r.outQ ++ codesOut r.words b (fmtBytes (opOut w)) r.elemIx (ys.map (·.code)) },
      { sat := (ys.map (·.sat)).sum, ovf := (ys.map (·.ovf)).sum, elems := 32 }) := by
  have hunit : Work.unit (r, {}) [w] b (mark false (bs.map (·.1))) =
      (mxDecode (fmtCode (opIn w)) (bs.map (·.1))).foldl (fun t v => Work.runRecord t [w] b v) ({ r with unitIx := r.unitIx + 1 }, {}) := by
    refine (if_neg h.ne_compare).trans ((if_neg h.ne_hash).trans ((if_neg (by simp)).trans ((if_pos hin).trans
      ((if_neg (by simp [any_poison_mark])).trans ?_))))
    rw [map_fst_mark]
    rfl
  have hfold := Work.foldl_runRecord hop hin hout b (mxDecode (fmtCode (opIn w)) (bs.map (·.1))) (r := { r with unitIx := r.unitIx + 1 })
    ⟨h.op, h.plain, h.seq, h.writes⟩ h6 {} hys
  rw [hfold, mxDecode_length] at hunit
  simp only [Nat.zero_add] at hunit
  exact Work.entered_unit hbs hunit hbs.carry rfl

/-! ### COMPARE and HASH -/

/-- COMPARE counts an element that differs from the pattern's next, and keeps the index of the first. -/
theorem Work.entered_compare {r : Running} (hop : dOp r.words = 3) {bs : MarkedBytes} (hbs : r.TakesUnit bs) (ops : List (BitVec 32))
    (b : Nat) {miss : Bool} (hmiss : (bs.map (·.1) != (fillElem r.words r.prbs).1) = miss) :
    Work.entered r ops b bs = ({ r with
      unitIx := r.unitIx + 1, elemIx := r.elemIx + 1, prbs := (fillElem r.words r.prbs).2,
      mism := if miss then r.mism + 1 else r.mism,
      firstMis := if miss ∧ r.firstMis = none then some r.elemIx else r.firstMis }, {}) := by
  refine Work.entered_unit hbs ((if_pos hop).trans ?_) hbs.carry rfl
  simp only [Running.compareElem, any_poison_mark, map_fst_mark, hmiss, Bool.not_false, Bool.true_and]

/-- HASH takes the bytes. -/
theorem Work.entered_hash {r : Running} (hop : dOp r.words = 8) {bs : MarkedBytes} (hbs : r.TakesUnit bs) (ops : List (BitVec 32)) (b : Nat) :
    Work.entered r ops b bs =
      ({ r with unitIx := r.unitIx + 1, elemIx := r.elemIx + 1, hashed := r.hashed ++ bs.map (·.1) }, {}) := by
  have h3 : ¬ dOp r.words = 3 := by rw [hop]; decide
  refine Work.entered_unit hbs ((if_neg h3).trans ((if_pos hop).trans ?_)) hbs.carry rfl
  rw [map_fst_mark]

end Sys2Proof.Machine

/-! Zero-run coded streams, read (10 R264, R266) and written (09 R213; 10 R265). -/

namespace Sys2Proof.Machine

/-! ### The runs of a coded body -/

/-- Inside a coded body: the bytes in hand, the bytes taken so far, and the elements left of the run. -/
def Running.inBody (r : Running) (l : Bytes) (parsed left : Nat) : Running :=
  { r with carry := mark false l, zrc := { r.zrc with parsed := parsed, left := left } }

/-- A descriptor that reads a coded body of `len` bytes, inside a run of literals or of zeros. -/
structure Running.ReadsBody (r : Running) (len : Nat) (lit : Bool) : Prop extends r.Copies where
  quit : r.quit = false
  body : r.zrc.bodyLen = some len
  literal : r.zrc.literal = lit

theorem Running.ReadsBody.copied {r : Running} {len : Nat} {lit : Bool} (h : r.ReadsBody len lit) (b : Nat) (l : Bytes) :
    (r.copied b l).ReadsBody len lit := ⟨h.toCopies.copied b l, h.quit, h.body, h.literal⟩

theorem Running.copiedAll_zero_inBody (r : Running) (b : Nat) (l c : Bytes) (p q : Nat) : (r.copiedAll b 0 l).inBody c p q = r.inBody c p q := by
  simp [Running.copiedAll, copyOut, Running.inBody]

theorem Work.coded_zero {r : Running} {len : Nat} (h : r.ReadsBody len false) (hlt : r.unitIx < dCount r.words) (c : Bytes) (p m : Nat)
    (k : SluiceNote) (b fuel : Nat) : Work.coded [] b (fuel + 1) (r.inBody c p (m + 1), k) =
      Work.coded [] b fuel ((r.copied b (zeros (dElem r.words))).inBody c p m, k) := by
  have hunit := Work.unit_copy (r := r.inBody c p m) ⟨h.op, h.plain, h.seq, h.writes⟩ k b (zeros (dElem r.words))
  refine Eq.trans ?_ (congrArg (Work.coded [] b fuel) hunit)
  rw [Work.coded]
  simp only [Running.inBody, h.quit, h.body, hlt.ne, h.literal, Bool.false_eq_true, if_false, Nat.add_one_ne_zero, Nat.add_sub_cancel]

theorem Work.coded_literal {r : Running} {len : Nat} (h : r.ReadsBody len true) (hlt : r.unitIx < dCount r.words) {c : Bytes}
    (hc : dElem r.words ≤ c.length) (p m : Nat) (k : SluiceNote) (b fuel : Nat) : Work.coded [] b (fuel + 1) (r.inBody c p (m + 1), k) =
      Work.coded [] b fuel ((r.copied b (c.take (dElem r.words))).inBody (c.drop (dElem r.words)) (p + dElem r.words) m, k) := by
  have hunit := Work.unit_copy (r := r.inBody (c.drop (dElem r.words)) (p + dElem r.words) m) ⟨h.op, h.plain, h.seq, h.writes⟩ k b
    (c.take (dElem r.words))
  refine Eq.trans ?_ (congrArg (Work.coded [] b fuel) hunit)
  rw [Work.coded]
  simp only [Running.inBody, h.quit, h.body, hlt.ne, h.literal, Bool.false_eq_true, if_false, if_true, Nat.add_one_ne_zero,
    Nat.add_sub_cancel, length_mark, not_lt.mpr hc]
  simp only [mark, List.map_drop, List.map_take]

/-- Between the runs of a body: it ends here as it must, or another run is still to come. -/
theorem Work.coded_rest {r : Running} {len : Nat} {lit : Bool} (h : r.ReadsBody len lit) {p : Nat}
    (hend : (r.unitIx = dCount r.words ∧ p = len) ∨ (r.unitIx < dCount r.words ∧ p < len)) (k : SluiceNote) (ops : List (BitVec 32))
    (b fuel : Nat) : Work.coded ops b fuel (r.inBody [] p 0, k) = (r.inBody [] p 0, k) := by
  cases fuel with
  | zero => rfl
  | succ fuel =>
    rw [Work.coded]
    obtain ⟨hunit, hlen⟩ | ⟨hunit, hlen⟩ := hend
    · simp only [Running.inBody, h.quit, h.body, hunit, hlen, Bool.false_eq_true, if_false, if_true]
    · simp only [Running.inBody, h.quit, h.body, hunit.ne, mark, List.map_nil, not_le.mpr hlen, Bool.false_eq_true, if_false, if_true]

/-- The rest of a zero run gives its zero elements. -/
theorem Work.coded_zeros {len : Nat} (k : SluiceNote) (b fuel p m : Nat) {r : Running} (h : r.ReadsBody len false)
    (hle : r.unitIx + m ≤ dCount r.words) : Work.coded [] b (fuel + m) (r.inBody [] p m, k) =
      Work.coded [] b fuel ((r.copiedAll b m (zeros (m * dElem r.words))).inBody [] p 0, k) := by
  induction m generalizing r with
  | zero => rw [Running.copiedAll_zero_inBody, Nat.add_zero]
  | succ m ih =>
    have htake : (zeros ((m + 1) * dElem r.words)).take (dElem r.words) = zeros (dElem r.words) := by
      simp only [zeros, List.take_replicate, Nat.succ_mul, Nat.min_eq_left (Nat.le_add_left _ _)]
    have hdrop : (zeros ((m + 1) * dElem r.words)).drop (dElem r.words) = zeros (m * dElem r.words) := by
      simp only [zeros, List.drop_replicate, Nat.succ_mul, Nat.add_sub_cancel]
    have hnext : (r.copied b (zeros (dElem r.words))).unitIx + m ≤ dCount r.words := by simp only [Running.copied]; omega
    rw [← Nat.add_assoc, Work.coded_zero h (by omega), ih (h.copied b _) hnext, Running.copiedAll_succ, htake, hdrop]
    rfl

/-- The rest of a literal run gives the elements in hand. -/
theorem Work.coded_literals {len : Nat} (k : SluiceNote) (b fuel m : Nat) {p : Nat} {r : Running} (h : r.ReadsBody len true)
    (hle : r.unitIx + m ≤ dCount r.words) {c : Bytes} (hc : c.length = m * dElem r.words) :
    Work.coded [] b (fuel + m) (r.inBody c p m, k) =
      Work.coded [] b fuel ((r.copiedAll b m c).inBody [] (p + c.length) 0, k) := by
  induction m generalizing r c p with
  | zero =>
    obtain rfl : c = [] := List.eq_nil_of_length_eq_zero (by simpa using hc)
    rw [Running.copiedAll_zero_inBody, Nat.add_zero, List.length_nil, Nat.add_zero]
  | succ m ih =>
    have hge : dElem r.words ≤ c.length := by rw [hc, Nat.succ_mul]; omega
    have hdrop : (c.drop (dElem r.words)).length = m * dElem r.words := by rw [List.length_drop, hc, Nat.succ_mul]; omega
    have hnext : (r.copied b (c.take (dElem r.words))).unitIx + m ≤ dCount r.words := by simp only [Running.copied]; omega
    have hsum : p + dElem r.words + (c.drop (dElem r.words)).length = p + c.length := by rw [List.length_drop]; omega
    rw [← Nat.add_assoc, Work.coded_literal h (by omega) hge, ih (h.copied b _) hnext hdrop, Running.copiedAll_succ, hsum]

/-! ### A burst that begins a run -/

theorem Work.feed_coded {r : Running} (h8 : dFlag r.words 8 = true) (hcarry : r.carry = []) (k : SluiceNote) (ops : List (BitVec 32)) (b : Nat)
    (bs : MarkedBytes) : Work.feed (r, k) ops b bs = Work.coded ops b (200 * (bs.length + 1)) ({ r with carry := bs }, k) := by
  simp only [Work.feed, hcarry, List.nil_append, h8, if_true]

/-- The elements that a run's first byte announces (10 R265). -/
def runLength (k : Byte) : Nat := if k.toNat < 0x80 then k.toNat + 1 else k.toNat - 0x7F

/-- A descriptor that reads a coded stream and stands between two runs of its body, which is not at its end. -/
structure Running.BetweenRuns (r : Running) (len : Nat) : Prop extends r.Copies where
  coded : dFlag r.words 8 = true
  carry : r.carry = []
  quit : r.quit = false
  body : r.zrc.bodyLen = some len
  left : r.zrc.left = 0
  more : r.unitIx < dCount r.words

/-- A run of more elements than are left breaks the coding. -/
theorem Work.entered_run_malformed {r : Running} {len : Nat} (h : r.BetweenRuns len) {v : Byte} {l : MarkedBytes}
    (hclean : ∀ x ∈ (v, false) :: l, x.2 = false) (hrun : dCount r.words < r.unitIx + runLength v) (b : Nat) :
    Work.entered r [] b ((v, false) :: l) = (r.codedBad, {}) := by
  obtain ⟨fuel, hfuel⟩ : ∃ f, 200 * (((v, false) :: l).length + 1) = f + 1 := ⟨200 * (((v, false) :: l).length + 1) - 1, by omega⟩
  rw [Work.entered_clean hclean, Work.feed_coded h.coded h.carry, hfuel, Work.coded]
  rw [runLength] at hrun
  simp only [h.quit, h.body, h.more.ne, h.left, hrun, Bool.false_eq_true, if_false, if_true]
  rfl

/-- A run's first byte opens the run. -/
theorem Work.entered_run {r : Running} {len : Nat} (h : r.BetweenRuns len) {v : Byte} {l : MarkedBytes}
    (hclean : ∀ x ∈ (v, false) :: l, x.2 = false) (hrun : r.unitIx + runLength v ≤ dCount r.words) (b : Nat) :
    ∃ fuel, 199 + l.length ≤ fuel ∧ Work.entered r [] b ((v, false) :: l) = Work.coded [] b fuel
      ((Running.inBody { r with zrc := { r.zrc with literal := decide (128 ≤ v.toNat) } } (l.map (·.1)) (r.zrc.parsed + 1) (runLength v)), {}) := by
  obtain ⟨fuel, hfuel⟩ : ∃ f, 200 * (((v, false) :: l).length + 1) = f + 1 := ⟨200 * (((v, false) :: l).length + 1) - 1, by omega⟩
  refine ⟨fuel, by rw [List.length_cons] at hfuel; omega, ?_⟩
  have hl : l = mark false (l.map (·.1)) := eq_mark_of_clean (fun x hx => hclean x (List.mem_cons_of_mem _ hx))
  rw [Work.entered_clean hclean, Work.feed_coded h.coded h.carry, hfuel, Work.coded]
  have hmore : ¬ dCount r.words < r.unitIx + if v.toNat < 128 then v.toNat + 1 else v.toNat - 0x7F := not_lt.mpr hrun
  simp only [h.quit, h.body, h.more.ne, h.left, hmore, Bool.false_eq_true, if_false, if_true]
  rw [Running.inBody, ← hl]
  rfl

theorem runLength_le (v : Byte) : runLength v ≤ 128 := by
  have := v.isLt
  rw [runLength]; split <;> omega

/-- After a run the body ends as its header says, or goes on. -/
def Running.goesOn (r : Running) (m last len : Nat) : Prop :=
  (r.unitIx + m = dCount r.words ∧ last = len) ∨ (r.unitIx + m < dCount r.words ∧ last < len)

theorem Running.goesOn.le {r : Running} {m last len : Nat} (h : r.goesOn m last len) : r.unitIx + m ≤ dCount r.words := by
  obtain ⟨h, -⟩ | ⟨h, -⟩ := h <;> omega

/-- A zero run gives its zero elements. -/
theorem Work.entered_zeros {r : Running} {len : Nat} (h : r.BetweenRuns len) {v : Byte} (hv : v.toNat < 0x80)
    (hend : r.goesOn (runLength v) (r.zrc.parsed + 1) len) (b : Nat) :
    Work.entered r [] b [(v, false)] = ({ r.copiedAll b (runLength v) (zeros (runLength v * dElem r.words)) with
      zrc := { r.zrc with parsed := r.zrc.parsed + 1, left := 0, literal := false } }, {}) := by
  obtain ⟨fuel, hfuel, heq⟩ := Work.entered_run h (l := []) (by simp) hend.le b
  obtain ⟨fuel, rfl⟩ : ∃ f, fuel = f + runLength v := ⟨fuel - runLength v, by have := runLength_le v; omega⟩
  have hreads : Running.ReadsBody { r with zrc := { r.zrc with literal := decide (128 ≤ v.toNat) } } len false :=
    ⟨⟨h.op, h.plain, h.seq, h.writes⟩, h.quit, h.body, by simpa using hv⟩
  have hrest := Work.coded_rest (r := Running.copiedAll { r with zrc := { r.zrc with literal := decide (128 ≤ v.toNat) } } b (runLength v)
    (zeros (runLength v * dElem r.words))) ⟨⟨h.op, h.plain, h.seq, h.writes⟩, h.quit, h.body, hreads.literal⟩ hend {} [] b fuel
  have hzeros := Work.coded_zeros {} b fuel (r.zrc.parsed + 1) _ hreads hend.le
  rw [heq]
  refine hzeros.trans (hrest.trans ?_)
  rw [show decide (128 ≤ v.toNat) = false from hreads.literal]
  rfl

/-- A literal run gives the elements that follow it. -/
theorem Work.entered_literals {r : Running} {len : Nat} (h : r.BetweenRuns len) {v : Byte} (hv : 0x80 ≤ v.toNat)
    {l : MarkedBytes} (hclean : ∀ x ∈ (v, false) :: l, x.2 = false) (hlen : l.length = runLength v * dElem r.words)
    (hend : r.goesOn (runLength v) (r.zrc.parsed + ((v, false) :: l).length) len) (b : Nat) :
    Work.entered r [] b ((v, false) :: l) = ({ r.copiedAll b (runLength v) (l.map (·.1)) with
      zrc := { r.zrc with parsed := r.zrc.parsed + ((v, false) :: l).length, left := 0, literal := true } }, {}) := by
  obtain ⟨fuel, hfuel, heq⟩ := Work.entered_run h hclean hend.le b
  obtain ⟨fuel, rfl⟩ : ∃ f, fuel = f + runLength v := ⟨fuel - runLength v, by have := runLength_le v; omega⟩
  have hlast : r.zrc.parsed + ((v, false) :: l).length = r.zrc.parsed + 1 + (l.map (·.1)).length := by simp; omega
  have hreads : Running.ReadsBody { r with zrc := { r.zrc with literal := decide (128 ≤ v.toNat) } } len true :=
    ⟨⟨h.op, h.plain, h.seq, h.writes⟩, h.quit, h.body, by simpa using hv⟩
  rw [hlast] at hend ⊢
  have hrest := Work.coded_rest (r := Running.copiedAll { r with zrc := { r.zrc with literal := decide (128 ≤ v.toNat) } } b (runLength v)
    (l.map (·.1))) ⟨⟨h.op, h.plain, h.seq, h.writes⟩, h.quit, h.body, hreads.literal⟩ hend {} [] b fuel
  have hliterals := Work.coded_literals {} b fuel _ (p := r.zrc.parsed + 1) hreads hend.le (c := l.map (·.1)) (by simpa using hlen)
  rw [heq]
  refine hliterals.trans (hrest.trans ?_)
  rw [show decide (128 ≤ v.toNat) = true from hreads.literal]
  rfl

/-! ### The header of a coded stream -/

/-- The descriptor after a header that is refused. -/
def Running.headerBad (r : Running) (st : Status) : Running :=
  { r with early := some (r.early.getD st), quit := true, stopWrites := true, carry := [] }

/-- A whole header in hand: refused, or the body's length is known (10 R266). -/
theorem Work.entered_header {r : Running} (h8 : dFlag r.words 8 = true) (hcarry : r.carry = []) (hquit : r.quit = false)
    (hbody : r.zrc.bodyLen = none) {bs : MarkedBytes} (hclean : ∀ x ∈ bs, x.2 = false) (hlen : bs.length = 32) (ops : List (BitVec 32))
    (b : Nat) : ∃ fuel, Work.entered r ops b bs = match zrcHeaderCheck (bs.map (·.1)) (dElem r.words) (dCount r.words) with
      | .inl st => (r.headerBad st, {})
      | .inr len => Work.coded ops b fuel ({ r with zrc := { r.zrc with bodyLen := some len } }, {}) := by
  obtain ⟨fuel, hfuel⟩ : ∃ f, 200 * (bs.length + 1) = f + 1 := ⟨200 * (bs.length + 1) - 1, by omega⟩
  refine ⟨fuel, ?_⟩
  have htake : bs.take 32 = bs := List.take_of_length_le hlen.le
  have hdrop : bs.drop 32 = [] := List.drop_of_length_le hlen.le
  have hany : bs.any (·.2) = false := by simpa using hclean
  rw [Work.entered_clean hclean, Work.feed_coded h8 hcarry, hfuel, Work.coded]
  simp only [hquit, hbody, htake, hdrop, hany, hlen, lt_irrefl, Bool.false_eq_true, if_false]
  cases zrcHeaderCheck (bs.map (·.1)) (dElem r.words) (dCount r.words) with
  | inl st => rfl
  | inr len => simp only [hcarry]

theorem Work.entered_header_good {r : Running} (h : r.Copies) (h8 : dFlag r.words 8 = true) (hcarry : r.carry = []) (hquit : r.quit = false)
    (hbody : r.zrc.bodyLen = none) {bs : MarkedBytes} (hclean : ∀ x ∈ bs, x.2 = false) (hlen : bs.length = 32) {len : Nat}
    (hgood : zrcHeaderCheck (bs.map (·.1)) (dElem r.words) (dCount r.words) = .inr len) (hparsed : r.zrc.parsed < len)
    (hleft : r.zrc.left = 0) (hmore : r.unitIx < dCount r.words) (b : Nat) :
    Work.entered r [] b bs = ({ r with zrc := { r.zrc with bodyLen := some len } }, {}) := by
  obtain ⟨fuel, heq⟩ := Work.entered_header h8 hcarry hquit hbody hclean hlen [] b
  have hrest := Work.coded_rest (r := { r with zrc := { r.zrc with bodyLen := some len } })
    ⟨⟨h.op, h.plain, h.seq, h.writes⟩, hquit, rfl, rfl⟩ (Or.inr ⟨hmore, hparsed⟩) {} [] b fuel
  have hr : Running.inBody { r with zrc := { r.zrc with bodyLen := some len } } [] r.zrc.parsed 0 =
      { r with zrc := { r.zrc with bodyLen := some len } } := by
    simp only [Running.inBody, mark, List.map_nil, ← hcarry, ← hleft]
  rw [hgood] at heq
  rw [hr] at hrest
  exact heq.trans hrest

theorem zrcHeaderCheck_crc {l : Bytes} (h : crc32c (l.take 28) ≠ fld l 28 4) (n count : Nat) : zrcHeaderCheck l n count = .inl .checkFail :=
  if_pos h

/-- The fields of a stream header that suit the descriptor (10 R264). -/
def headerGood (l : Bytes) (n count : Nat) : Prop :=
  fld l 0 4 = 0x3143525A ∧ fld l 4 2 = n ∧ fld l 6 2 = 0 ∧ fld l 8 8 = count ∧ fld l 0x18 4 = 0 ∧ 0 < fld l 8 8 ∧ fld l 8 8 ≤ 2 ^ 48

theorem zrcHeaderCheck_fields {l : Bytes} (h : crc32c (l.take 28) = fld l 28 4) (n count : Nat) :
    (headerGood l n count → zrcHeaderCheck l n count = .inr (fld l 16 8)) ∧
    (¬ headerGood l n count → zrcHeaderCheck l n count = .inl .malformed) := by
  have hbad : (fld l 0 4 ≠ 0x3143525A ∨ fld l 6 2 ≠ 0 ∨ fld l 24 4 ≠ 0 ∨ fld l 4 2 ≠ n ∨ fld l 8 8 ≠ count
      ∨ fld l 8 8 = 0 ∨ 2 ^ 48 < fld l 8 8) ↔ ¬ headerGood l n count := by
    rw [headerGood]; omega
  constructor
  · intro hgood
    exact (if_neg (not_not.mpr h)).trans (if_neg (fun hb => hbad.mp hb hgood))
  · intro hgood
    exact (if_neg (not_not.mpr h)).trans (if_pos (hbad.mpr hgood))

/-! ### Coding -/

/-- What a unit of a descriptor without a pipeline gives its coder: the element joins the run in hand, or first the run leaves. -/
theorem Work.unit_encode {r : Running} (hop : dOp r.words = 1) (h9 : dFlag r.words 9 = true) (hw : r.stopWrites = false) {bs : MarkedBytes}
    (hclean : ∀ x ∈ bs, x.2 = false) (k : SluiceNote) (b : Nat) {out : MarkedBytes} {run : List MarkedBytes}
    (hpush : zrcPush r.zrc.run bs = (out, run)) :
    Work.unit (r, k) [] b bs = (if out.isEmpty
      then { r with unitIx := r.unitIx + 1, elemIx := r.elemIx + 1, zrc := { r.zrc with run := run } }
      else Running.putCoded { r with unitIx := r.unitIx + 1, elemIx := r.elemIx + 1, zrc := { r.zrc with run := run } } b out, k) := by
  have hany : bs.any (·.2) = false := by simpa using hclean
  rw [Work.unit_plain (by rw [hop]; decide) (by rw [hop]; decide), hany]
  simp only [Running.emit, hw, h9, hpush, Bool.false_eq_true, if_false, if_true]

theorem zeroElem_of_clean {e : MarkedBytes} (h : ∀ x ∈ e, x.2 = false) : zeroElem e = true ↔ ∀ x ∈ e, x.1 = 0 := by
  simp only [zeroElem, List.all_eq_true, Bool.and_eq_true, beq_iff_eq, Bool.not_eq_true']
  exact forall₂_congr (fun x hx => and_iff_left (h x hx))

/-- Two elements without poison are of one kind where both are zero or neither is. -/
theorem zeroElem_eq_iff {f e : MarkedBytes} (hf : ∀ x ∈ f, x.2 = false) (he : ∀ x ∈ e, x.2 = false) :
    zeroElem f = zeroElem e ↔ ((∀ x ∈ f, x.1 = 0) ↔ ∀ x ∈ e, x.1 = 0) := by
  rw [← zeroElem_of_clean hf, ← zeroElem_of_clean he, Bool.eq_iff_iff]

/-- An element like those of a run that has room joins it. -/
theorem zrcPush_joins {run : List MarkedBytes} {e : MarkedBytes}
    (h : run = [] ∨ (run.length < 128 ∧ ∀ f ∈ run.head?, zeroElem f = zeroElem e)) : zrcPush run e = ([], run ++ [e]) := by
  cases run with
  | nil => rfl
  | cons f l =>
    obtain h | ⟨hlen, hlike⟩ := h
    · cases h
    · exact if_pos ⟨hlike f rfl, hlen⟩

/-- An element of the other kind, or past a full run, has the run leave first. -/
theorem zrcPush_releases {f e : MarkedBytes} {l : List MarkedBytes} (h : 128 ≤ (f :: l).length ∨ zeroElem f ≠ zeroElem e) :
    zrcPush (f :: l) e = (zrcRun (f :: l), [e]) := by
  refine if_neg (fun ⟨hlike, hlen⟩ => ?_)
  obtain h | h := h
  · exact absurd hlen (by simpa using h)
  · exact h hlike

/-- The bytes of a run without poison, coded (10 R265). -/
theorem zrcRun_of_clean {f : MarkedBytes} {l : List MarkedBytes} (h : ∀ e ∈ f :: l, ∀ x ∈ e, x.2 = false) :
    zrcRun (f :: l) = mark false (if zeroElem f then [BitVec.ofNat 8 ((f :: l).length - 1)]
      else BitVec.ofNat 8 ((f :: l).length + 0x7F) :: (f :: l).flatten.map (·.1)) := by
  have hflat : ∀ x ∈ (f :: l).flatten, x.2 = false := fun x hx => by
    obtain ⟨e, he, hx⟩ := List.mem_flatten.mp hx
    exact h e he x hx
  cases hz : zeroElem f with
  | true => exact if_pos hz
  | false =>
    refine (if_neg (by simp [hz])).trans ?_
    conv_lhs => rw [eq_mark_of_clean hflat]
    rfl

/-- A released run goes behind the coded bytes before it, or beyond the capacity (09 R213). -/
theorem Running.putCoded_mark {r : Running} (hseq : r.seqD = none) (b : Nat) (l : Bytes) :
    (0x20 + r.zrc.out + l.length ≤ bits (dOperand r.words) 63 32 * 256 → r.putCoded b (mark false l) = { r with
      zrc := { r.zrc with out := r.zrc.out + l.length },
      outQ := r.outQ ++ outBytes b ((dDst r.words : Int) + ((0x20 + r.zrc.out : Nat) : Int)) l }) ∧
    (bits (dOperand r.words) 63 32 * 256 < 0x20 + r.zrc.out + l.length → r.putCoded b (mark false l) =
      { r with early := some (r.early.getD .quota), quit := true, stopWrites := true, outQ := [] }) := by
  constructor
  · intro hroom
    have hplace : dstBase r + 0x20 + (r.zrc.out : Int) = (dDst r.words : Int) + ((0x20 + r.zrc.out : Nat) : Int) := by
      simp only [dstBase, hseq]; push_cast; ring
    refine (if_neg (by rw [length_mark]; exact not_lt.mpr hroom)).trans ?_
    rw [Running.putAt_mark, hplace, length_mark]
  · intro hfull
    exact if_pos (by rwa [length_mark])

end Sys2Proof.Machine

/-! What READ_BURST_RETURN does to the channel's descriptor, by the kind of its elements (09 R209, R227; 10 R240). -/

namespace Sys2Proof.Machine

/-- READ_BURST_RETURN of `a` leaves the channel the descriptor `x`, without read bursts, and counts `k` in the sluice. -/
def State.BurstGives (s : State) (c : Fin 64) (r : Running) (a : ReadBurst) (x : Running) (k : SluiceNote) : Prop :=
  exec (.readBurstReturn c a.burst) s =
    .next (State.settle ((s.setChan c { s.chan c with run := some { x with reads := [] } }).sluiceNote r.words k))

/-- READ_BURST_RETURN of `a` ends the channel's descriptor. -/
def State.BurstEnds (s : State) (c : Fin 64) (r : Running) (a : ReadBurst) (st : Status) : Prop :=
  ∃ x : Running, s.BurstGives c r a x {} ∧ x.early = some (r.early.getD st) ∧ x.quit = true ∧ x.words = r.words

section
variable {s : State} {c : Fin 64} {r : Running} {a : ReadBurst} {bs : MarkedBytes} (h : s.OneReadBack c r a bs)
include h

theorem State.OneReadBack.gives {x : Running} {k : SluiceNote} {ops : List (BitVec 32)} (hops : s.pipeOps r.words = ops)
    (hx : Work.entered r.taken ops a.burst bs = ({ x with reads := [] }, k)) : s.BurstGives c r a x k :=
  State.readBurstReturn_of_entered h (hops ▸ hx)

theorem State.OneReadBack.ends {x : Running} {st : Status} {ops : List (BitVec 32)} (hops : s.pipeOps r.words = ops)
    (hx : Work.entered r.taken ops a.burst bs = ({ x with reads := [] }, {})) (hearly : x.early = some (r.early.getD st))
    (hquit : x.quit = true) (hwords : x.words = r.words) : s.BurstEnds c r a st :=
  ⟨x, h.gives hops hx, hearly, hquit, hwords⟩

theorem State.OneReadBack.gives_copy (hr : r.Copies) (hpipe : s.pipeOps r.words = []) (h8 : dFlag r.words 8 = false) (hcarry : r.carry = [])
    (hn : 0 < dElem r.words) (hclean : ∀ x ∈ bs, x.2 = false) {m : Nat} (hlen : bs.length = m * dElem r.words) :
    s.BurstGives c r a { r with
      unitIx := r.unitIx + m, elemIx := r.elemIx + m, outQ := r.outQ ++ copyOut r.words a.burst r.elemIx m (bs.map (·.1)) } {} := by
  have hx := Work.entered_copy (r := r.taken) ⟨hr.op, hr.plain, hr.seq, hr.writes⟩ h8 hcarry hn hclean a.burst hlen
  refine h.gives hpipe (hx.trans ?_)
  simp only [Running.copiedAll, Running.taken, hcarry]

theorem State.OneReadBack.gives_poisoned (hr : r.Copies) (hpipe : s.pipeOps r.words = []) (h8 : dFlag r.words 8 = false) (hcarry : r.carry = [])
    (hn : 0 < dElem r.words) (hbad : bs.any (·.2) = true) (hlen : bs.length = dElem r.words) (hout : r.outQ = []) (hgroup : r.group = []) :
    ∃ x : Running, s.BurstGives c r a x {} ∧ x.early = some (r.early.getD .poison) ∧ x.quit = true ∧ x.elemIx = r.elemIx + 1 ∧
      x.outQ.map (fun b => (b.addr, b.poison)) = (List.range (dElem r.words)).map (fun (i : Nat) =>
        (BitVec.ofInt 64 (nestPlace r.words (dN0 r.words) (dD r.words 0) r.elemIx + (i : Int)), true)) := by
  obtain ⟨hx, hstop⟩ := Work.entered_poisoned (r := r.taken) ⟨hr.op, hr.plain, hr.seq, hr.writes⟩ h8 hcarry hn hbad a.burst hlen hout hgroup
  rw [hstop] at hx
  exact ⟨{ r.poisoned a.burst with early := some (r.early.getD .poison), quit := true, carry := [], group := [] }, h.gives hpipe hx,
    rfl, rfl, rfl, outPoison_marks _ _ _⟩

theorem State.OneReadBack.gives_cells (hr : r.Copies) (hbs : r.TakesUnit bs) (hops : s.pipeOps r.words ≠ [])
    (hin : mxIn (s.pipeOps r.words) = false) (hout : mxOut (s.pipeOps r.words) = false) (hsoft : pipeSoftmax (s.pipeOps r.words) = false)
    {y : Nat × CellSt} (hy : runCells (s.pipeOps r.words) (dFlag r.words 5) (dFlag r.words 6) (leNat (bs.map (·.1))) { lfsr := r.lfsr.toNat } = y) :
    s.BurstGives c r a { r with
      unitIx := r.unitIx + 1, elemIx := r.elemIx + 1, lfsr := BitVec.ofNat 32 y.2.lfsr,
      outQ := r.outQ ++ outBytes a.burst (nestPlace r.words (dN0 r.words) (dD r.words 0) r.elemIx)
        (leBytes (fmtBytes (pipeOut (s.pipeOps r.words))) y.1) } { sat := y.2.sat, ovf := y.2.ovf, elems := 1 } :=
  h.gives rfl (Work.entered_cells (r := r.taken) ⟨hr.op, hr.plain, hr.seq, hr.writes⟩ ⟨hbs.uncoded, hbs.carry, hbs.pos, hbs.clean, hbs.whole⟩
    hops hin hout hsoft a.burst hy)

theorem State.OneReadBack.gives_mx (hr : r.Copies) (hbs : r.TakesUnit bs) {w : BitVec 32} (hops : s.pipeOps r.words = [w])
    (hin : mxIn [w] = false) (hout : fmtMx (opOut w) = true) (hlen : r.group.length = 31) (hclean : ∀ g ∈ r.group, g.2.2 = false)
    {draw : Option Nat} (hdraw : draw = if dFlag r.words 6 then some (stoDraw r.lfsr.toNat) else none) {e : Bytes × Nat}
    (he : mxEncode (fmtCode (opOut w)) ((r.group.map (fun g => (g.1, g.2.1)) ++ [(leNat (bs.map (·.1)), draw)]).map
      (fun g => (numOf (opIn w) g.1, g.2))) = e) :
    s.BurstGives c r a { r with
      unitIx := r.unitIx + 1, elemIx := r.elemIx + 1, group := [],
      lfsr := if dFlag r.words 6 then BitVec.ofNat 32 (stoDraw r.lfsr.toNat) else r.lfsr,
      outQ := r.outQ ++ outBytes a.burst
        (nestPlace r.words (dN0 r.words / 32) (recordSize (fmtCode (opOut w)) : Int) ((r.elemIx + 1) / 32 - 1)) e.1 }
      { sat := e.2, elems := 32 } :=
  h.gives hops (Work.entered_mx (r := r.taken) ⟨hr.op, hr.plain, hr.seq, hr.writes⟩ ⟨hbs.uncoded, hbs.carry, hbs.pos, hbs.clean, hbs.whole⟩
    hin hout hlen hclean a.burst hdraw he)

theorem State.OneReadBack.gives_softmax (hr : r.Copies) (hbs : r.TakesUnit bs) {w : BitVec 32} (hops : s.pipeOps r.words = [w])
    (hin : mxIn [w] = false) (hop : opField w = 7) (hlen : r.group.length + 1 = dN0 r.words) (hclean : ∀ g ∈ r.group, g.2.2 = false)
    {row : Nat} (hrow : (r.elemIx + 1) / dN0 r.words - 1 = row) {y : SoftRow}
    (hy : softmaxRow (w.getLsbD 0) (r.group.map (·.1) ++ [leNat (bs.map (·.1))]) = y) :
    s.BurstGives c r a { r with
      unitIx := r.unitIx + 1, elemIx := r.elemIx + 1, group := [],
      outQ := r.outQ ++ rowOut r.words a.burst row y ++
        outBytes a.burst (nestPlace r.words 1 0 row + 4 * (dN0 r.words : Int)) (softTail y) } { elems := dN0 r.words } :=
  h.gives hops (Work.entered_softmax (r := r.taken) ⟨hr.op, hr.plain, hr.seq, hr.writes⟩
    ⟨hbs.uncoded, hbs.carry, hbs.pos, hbs.clean, hbs.whole⟩ hin hop hlen hclean a.burst hrow hy)

theorem State.OneReadBack.gives_record (hr : r.Copies) (hbs : r.TakesUnit bs) {w : BitVec 32} (hops : s.pipeOps r.words = [w])
    (hop : opField w = 2) (hin : fmtMx (opIn w) = true) (hout : fmtMx (opOut w) = false) (h6 : dFlag r.words 6 = false) {ys : List Conv}
    (hys : (mxDecode (fmtCode (opIn w)) (bs.map (·.1))).map (convert (opOut w) (dFlag r.words 5) none) = ys) :
    s.BurstGives c r a { r with
      unitIx := r.unitIx + 1, elemIx := r.elemIx + 32,
      outQ := r.outQ ++ (List.range 32).flatMap (fun i => outBytes a.burst (nestPlace r.words (dN0 r.words) (dD r.words 0) (r.elemIx + i))
        (leBytes (fmtBytes (opOut w)) ((ys.map (·.code)).getD i 0))) }
      { sat := (ys.map (·.sat)).sum, ovf := (ys.map (·.ovf)).sum, elems := 32 } := by
  have hlen : (ys.map (·.code)).length = 32 := by rw [← hys, List.length_map, List.length_map, mxDecode_length]
  have hx := Work.entered_record (r := r.taken) ⟨hr.op, hr.plain, hr.seq, hr.writes⟩
    ⟨hbs.uncoded, hbs.carry, hbs.pos, hbs.clean, hbs.whole⟩ hop hin hout h6 a.burst hys
  rw [codesOut, hlen] at hx
  exact h.gives hops hx

theorem State.OneReadBack.gives_compare (hop : dOp r.words = 3) (hbs : r.TakesUnit bs) {miss : Bool}
    (hmiss : (bs.map (·.1) != (fillElem r.words r.prbs).1) = miss) : s.BurstGives c r a { r with
      unitIx := r.unitIx + 1, elemIx := r.elemIx + 1, prbs := (fillElem r.words r.prbs).2,
      mism := if miss then r.mism + 1 else r.mism,
      firstMis := if miss ∧ r.firstMis = none then some r.elemIx else r.firstMis } {} :=
  h.gives rfl (Work.entered_compare (r := r.taken) hop ⟨hbs.uncoded, hbs.carry, hbs.pos, hbs.clean, hbs.whole⟩ _ a.burst hmiss)

theorem State.OneReadBack.gives_hash (hop : dOp r.words = 8) (hbs : r.TakesUnit bs) : s.BurstGives c r a { r with
      unitIx := r.unitIx + 1, elemIx := r.elemIx + 1, hashed := r.hashed ++ bs.map (·.1) } {} :=
  h.gives rfl (Work.entered_hash (r := r.taken) hop ⟨hbs.uncoded, hbs.carry, hbs.pos, hbs.clean, hbs.whole⟩ _ a.burst)

/-! ### Coded streams -/

theorem State.OneReadBack.ends_run {len : Nat} (hr : r.BetweenRuns len) (hpipe : s.pipeOps r.words = []) (hclean : ∀ x ∈ bs, x.2 = false)
    {v : Byte} {l : MarkedBytes} (hbs : bs = (v, false) :: l) (hrun : dCount r.words < r.unitIx + runLength v) :
    s.BurstEnds c r a .malformed := by
  subst hbs
  exact h.ends (x := r.codedBad) hpipe (Work.entered_run_malformed (r := r.taken)
    ⟨⟨hr.op, hr.plain, hr.seq, hr.writes⟩, hr.coded, hr.carry, hr.quit, hr.body, hr.left, hr.more⟩ hclean hrun a.burst) rfl rfl rfl

theorem State.OneReadBack.gives_zeros {len : Nat} (hr : r.BetweenRuns len) (hpipe : s.pipeOps r.words = []) {v : Byte}
    (hbs : bs = [(v, false)]) (hv : v.toNat < 0x80) (hend : r.goesOn (runLength v) (r.zrc.parsed + 1) len) :
    s.BurstGives c r a { r with
      unitIx := r.unitIx + runLength v, elemIx := r.elemIx + runLength v,
      outQ := r.outQ ++ copyOut r.words a.burst r.elemIx (runLength v) (zeros (runLength v * dElem r.words)),
      zrc := { r.zrc with parsed := r.zrc.parsed + 1, left := 0, literal := false } } {} := by
  subst hbs
  have hx := Work.entered_zeros (r := r.taken)
    ⟨⟨hr.op, hr.plain, hr.seq, hr.writes⟩, hr.coded, hr.carry, hr.quit, hr.body, hr.left, hr.more⟩ hv hend a.burst
  refine h.gives hpipe (hx.trans ?_)
  simp only [Running.copiedAll, Running.taken, hr.carry]

theorem State.OneReadBack.gives_literals {len : Nat} (hr : r.BetweenRuns len) (hpipe : s.pipeOps r.words = [])
    (hclean : ∀ x ∈ bs, x.2 = false) {v : Byte} {l : MarkedBytes} (hbs : bs = (v, false) :: l) (hv : 0x80 ≤ v.toNat)
    (hlen : l.length = runLength v * dElem r.words) (hend : r.goesOn (runLength v) (r.zrc.parsed + bs.length) len) :
    s.BurstGives c r a { r with
      unitIx := r.unitIx + runLength v, elemIx := r.elemIx + runLength v,
      outQ := r.outQ ++ copyOut r.words a.burst r.elemIx (runLength v) (l.map (·.1)),
      zrc := { r.zrc with parsed := r.zrc.parsed + bs.length, left := 0, literal := true } } {} := by
  subst hbs
  have hx := Work.entered_literals (r := r.taken)
    ⟨⟨hr.op, hr.plain, hr.seq, hr.writes⟩, hr.coded, hr.carry, hr.quit, hr.body, hr.left, hr.more⟩ hv hclean hlen hend a.burst
  refine h.gives hpipe (hx.trans ?_)
  simp only [Running.copiedAll, Running.taken, hr.carry]

theorem State.OneReadBack.ends_header (h8 : dFlag r.words 8 = true) (hcarry : r.carry = []) (hbody : r.zrc.bodyLen = none)
    (hclean : ∀ x ∈ bs, x.2 = false) (hlen : bs.length = 32) {st : Status}
    (hst : zrcHeaderCheck (bs.map (·.1)) (dElem r.words) (dCount r.words) = .inl st) : s.BurstEnds c r a st := by
  obtain ⟨fuel, hx⟩ := Work.entered_header (r := r.taken) h8 hcarry h.quit hbody hclean hlen (s.pipeOps r.words) a.burst
  have hst' : zrcHeaderCheck (bs.map (·.1)) (dElem r.taken.words) (dCount r.taken.words) = .inl st := hst
  rw [hst'] at hx
  exact h.ends (x := r.headerBad st) rfl hx rfl rfl rfl

theorem State.OneReadBack.gives_header (hr : r.Copies) (hpipe : s.pipeOps r.words = []) (h8 : dFlag r.words 8 = true) (hcarry : r.carry = [])
    (hbody : r.zrc.bodyLen = none) (hclean : ∀ x ∈ bs, x.2 = false) (hlen : bs.length = 32) {len : Nat}
    (hgood : zrcHeaderCheck (bs.map (·.1)) (dElem r.words) (dCount r.words) = .inr len) (hparsed : r.zrc.parsed < len)
    (hleft : r.zrc.left = 0) (hmore : r.unitIx < dCount r.words) :
    s.BurstGives c r a { r with zrc := { r.zrc with bodyLen := some len } } {} :=
  h.gives hpipe (Work.entered_header_good (r := r.taken) ⟨hr.op, hr.plain, hr.seq, hr.writes⟩ h8 hcarry h.quit hbody hclean hlen hgood hparsed
    hleft hmore a.burst)

/-- An element that joins the run in hand. -/
theorem State.OneReadBack.gives_joined (hop : dOp r.words = 1) (hpipe : s.pipeOps r.words = []) (h9 : dFlag r.words 9 = true)
    (hw : r.stopWrites = false) (hbs : r.TakesUnit bs)
    (hjoin : r.zrc.run = [] ∨ (r.zrc.run.length < 128 ∧ ∀ f ∈ r.zrc.run.head?, zeroElem f = zeroElem bs)) :
    s.BurstGives c r a { r with
      unitIx := r.unitIx + 1, elemIx := r.elemIx + 1, zrc := { r.zrc with run := r.zrc.run ++ [bs] } } {} := by
  have hunit := Work.unit_encode (r := r.taken) hop h9 hw hbs.clean {} a.burst (zrcPush_joins hjoin)
  rw [List.isEmpty_nil, if_pos rfl] at hunit
  have hin : r.taken.TakesUnit bs := ⟨hbs.uncoded, hbs.carry, hbs.pos, hbs.clean, hbs.whole⟩
  refine h.gives hpipe (Work.entered_unit (x := { r.taken with
    unitIx := r.unitIx + 1, elemIx := r.elemIx + 1, zrc := { r.zrc with run := r.zrc.run ++ [bs] } }) hin ?_ hbs.carry rfl)
  rw [← eq_mark_of_clean hbs.clean]
  exact hunit

/-- An element of the other kind, or past a full run: the run in hand leaves, or is beyond the capacity. -/
theorem State.OneReadBack.gives_released (hop : dOp r.words = 1) (hpipe : s.pipeOps r.words = []) (h9 : dFlag r.words 9 = true)
    (hw : r.stopWrites = false) (hseq : r.seqD = none) (hbs : r.TakesUnit bs) {f : MarkedBytes} {l : List MarkedBytes}
    (hrun : r.zrc.run = f :: l) (hclean : ∀ e ∈ r.zrc.run, ∀ x ∈ e, x.2 = false)
    (hleave : 128 ≤ r.zrc.run.length ∨ zeroElem f ≠ zeroElem bs) {out : Bytes}
    (hout : out = if zeroElem f then [BitVec.ofNat 8 (r.zrc.run.length - 1)]
      else BitVec.ofNat 8 (r.zrc.run.length + 0x7F) :: r.zrc.run.flatten.map (·.1)) :
    (0x20 + r.zrc.out + out.length ≤ bits (dOperand r.words) 63 32 * 256 → s.BurstGives c r a { r with
      unitIx := r.unitIx + 1, elemIx := r.elemIx + 1, zrc := { r.zrc with run := [bs], out := r.zrc.out + out.length },
      outQ := r.outQ ++ outBytes a.burst ((dDst r.words : Int) + ((0x20 + r.zrc.out : Nat) : Int)) out } {}) ∧
    (bits (dOperand r.words) 63 32 * 256 < 0x20 + r.zrc.out + out.length → s.BurstEnds c r a .quota) := by
  rw [hrun] at hleave hout hclean
  have hcoded : zrcRun (f :: l) = mark false out := by rw [hout]; exact zrcRun_of_clean hclean
  have hsome : (mark false out).isEmpty = false := by rw [hout]; split <;> rfl
  have hpush : zrcPush r.taken.zrc.run bs = (mark false out, [bs]) :=
    (congrArg (zrcPush · bs) hrun).trans ((zrcPush_releases hleave).trans (by rw [hcoded]))
  have hunit := Work.unit_encode (r := r.taken) hop h9 hw hbs.clean {} a.burst hpush
  rw [hsome, if_neg (by decide)] at hunit
  obtain ⟨hroom, hfull⟩ := Running.putCoded_mark
    (r := { r.taken with unitIx := r.unitIx + 1, elemIx := r.elemIx + 1, zrc := { r.zrc with run := [bs] } }) hseq a.burst out
  have hin : r.taken.TakesUnit bs := ⟨hbs.uncoded, hbs.carry, hbs.pos, hbs.clean, hbs.whole⟩
  constructor
  · intro hle
    have hput := hunit.trans (congrArg (·, ({} : SluiceNote)) (hroom hle))
    exact h.gives hpipe (Work.entered_unit hin (by rw [← eq_mark_of_clean hbs.clean]; exact hput) hbs.carry rfl)
  · intro hlt
    have hput := hunit.trans (congrArg (·, ({} : SluiceNote)) (hfull hlt))
    exact h.ends (x := { r with
        unitIx := r.unitIx + 1, elemIx := r.elemIx + 1, zrc := { r.zrc with run := [bs] },
        early := some (r.early.getD .quota), quit := true, stopWrites := true, outQ := [] })
      hpipe (Work.entered_unit hin (by rw [← eq_mark_of_clean hbs.clean]; exact hput) hbs.carry rfl) rfl rfl rfl

end

end Sys2Proof.Machine

/-! Rounding (10 R247, R257), saturation and overflow (10 R248), and the shared exponent of a group (10 R251). -/

namespace Sys2Proof.Machine

/-! ### One rounding -/

/-- A power of two times a whole number of smaller ones. -/
theorem zpow_split {e q : Int} (h : e ≤ q) : (2 : ℚ) ^ q = 2 ^ (q - e).toNat * 2 ^ e := by
  rw [← zpow_natCast, ← zpow_add₀ (by norm_num)]
  congr 1
  omega

theorem roundAt_exact {e q : Int} (h : q ≤ e) (m : Nat) (draw : Option Nat) : ((roundAt m e q draw : Nat) : ℚ) * 2 ^ q = m * 2 ^ e := by
  rw [roundAt, if_pos h, zpow_split h, Nat.cast_mul, Nat.cast_pow, Nat.cast_ofNat, mul_assoc]

/-- The distance of a rounded magnitude from the exact one, in units of the exact one's. -/
theorem roundAt_off {e q : Int} (h : e ≤ q) (m n : Nat) :
    |(n : ℚ) * 2 ^ q - (m : ℚ) * 2 ^ e| = ((|(n : ℤ) * 2 ^ (q - e).toNat - m| : ℤ) : ℚ) * 2 ^ e := by
  have hpos : (0 : ℚ) < 2 ^ e := by positivity
  rw [zpow_split h, ← mul_assoc, ← sub_mul, abs_mul, abs_of_pos hpos]
  push_cast
  rfl

/-- To nearest: at most half a spacing off, and at half of one, even. -/
theorem roundAt_nearest {e q : Int} (h : e < q) (m : Nat) :
    2 * |((roundAt m e q none : Nat) : ℤ) * 2 ^ (q - e).toNat - m| ≤ 2 ^ (q - e).toNat ∧
    (2 * |((roundAt m e q none : Nat) : ℤ) * 2 ^ (q - e).toNat - m| = 2 ^ (q - e).toNat → roundAt m e q none % 2 = 0) := by
  rw [roundAt, if_neg (not_le.mpr h)]
  generalize (q - e).toNat = k
  have hdiv := Nat.div_add_mod m (2 ^ k)
  have hmod := Nat.mod_lt m (Nat.two_pow_pos k)
  have hcast : ((2 : ℤ) ^ k) = ((2 ^ k : ℕ) : ℤ) := by push_cast; rfl
  dsimp only
  rw [Nat.shiftRight_eq_div_pow, hcast]
  generalize 2 ^ k = K at *
  generalize m / K = n at *
  generalize m % K = rem at *
  subst hdiv
  have hup : ((n + 1 : ℕ) : ℤ) * K - ((K * n + rem : ℕ) : ℤ) = K - rem := by push_cast; ring
  have hdown : ((n : ℕ) : ℤ) * K - ((K * n + rem : ℕ) : ℤ) = -rem := by push_cast; ring
  split
  · rw [hup, abs_of_nonneg (by omega)]; omega
  · split
    · rw [hdown, abs_neg, abs_of_nonneg (by omega)]; omega
    · obtain heven | hodd := Nat.mod_two_eq_zero_or_one n
      · rw [heven, Nat.add_zero, hdown, abs_neg, abs_of_nonneg (by omega)]; omega
      · rw [hodd, hup, abs_of_nonneg (by omega)]; omega

/-- Under a draw: less than a spacing off. -/
theorem roundAt_drawn {e q : Int} (h : e < q) (m x : Nat) :
    |((roundAt m e q (some x) : Nat) : ℤ) * 2 ^ (q - e).toNat - m| < 2 ^ (q - e).toNat := by
  rw [roundAt, if_neg (not_le.mpr h)]
  generalize (q - e).toNat = k
  have hdiv := Nat.div_add_mod m (2 ^ k)
  have hmod := Nat.mod_lt m (Nat.two_pow_pos k)
  have hcast : ((2 : ℤ) ^ k) = ((2 ^ k : ℕ) : ℤ) := by push_cast; rfl
  have hrem : x < (m % 2 ^ k) <<< 32 >>> k → 0 < m % 2 ^ k := fun hx => by
    by_contra hzero
    rw [Nat.eq_zero_of_not_pos hzero] at hx
    simp at hx
  dsimp only
  rw [Nat.shiftRight_eq_div_pow (m := m), hcast]
  generalize (m % 2 ^ k) <<< 32 >>> k = t at *
  generalize 2 ^ k = K at *
  generalize m / K = n at *
  generalize m % K = rem at *
  subst hdiv
  have hup : ((n + 1 : ℕ) : ℤ) * K - ((K * n + rem : ℕ) : ℤ) = K - rem := by push_cast; ring
  have hdown : ((n : ℕ) : ℤ) * K - ((K * n + rem : ℕ) : ℤ) = -rem := by push_cast; ring
  split
  · next hx =>
    have := hrem hx
    rw [hup, abs_of_nonneg (by omega)]; omega
  · rw [hdown, abs_neg, abs_of_nonneg (by omega)]; omega

/-- Rounding errs by at most half a spacing, ties to even, and by less than a spacing under a draw. -/
theorem roundAt_error (m : Nat) (e q : Int) :
    |((roundAt m e q none : Nat) : ℚ) * 2 ^ q - (m : ℚ) * 2 ^ e| * 2 ≤ 2 ^ q ∧
    (|((roundAt m e q none : Nat) : ℚ) * 2 ^ q - (m : ℚ) * 2 ^ e| * 2 = 2 ^ q → roundAt m e q none % 2 = 0) ∧
    ∀ x : Nat, |((roundAt m e q (some x) : Nat) : ℚ) * 2 ^ q - (m : ℚ) * 2 ^ e| < 2 ^ q := by
  have hq : (0 : ℚ) < 2 ^ q := by positivity
  obtain hle | hlt := le_or_gt q e
  · simp only [roundAt_exact hle, sub_self, abs_zero, zero_mul]
    exact ⟨hq.le, fun h => absurd h hq.ne, fun _ => hq⟩
  · have he : (0 : ℚ) < 2 ^ e := by positivity
    obtain ⟨hnear, htie⟩ := roundAt_nearest hlt m
    simp only [roundAt_off hlt.le]
    rw [zpow_split hlt.le, mul_right_comm]
    refine ⟨mul_le_mul_of_nonneg_right ?_ he.le, fun h => htie ?_, fun x => mul_lt_mul_of_pos_right ?_ he⟩
    · rw [mul_comm]; exact_mod_cast hnear
    · have h := mul_right_cancel₀ he.ne' h
      rw [mul_comm] at h
      exact_mod_cast h
    · exact_mod_cast roundAt_drawn hlt m x

/-! ### Beyond the largest finite value -/

theorem magGt_iff (m : Nat) (e : Int) (n : Nat) (q : Int) : magGt m e n q = true ↔ (n : ℚ) * 2 ^ q < (m : ℚ) * 2 ^ e := by
  rw [magGt]
  obtain hle | hlt := le_or_gt q e
  · have hq : (0 : ℚ) < 2 ^ q := by positivity
    rw [if_pos hle, decide_eq_true_iff, zpow_split hle, ← mul_assoc, mul_lt_mul_iff_of_pos_right hq]
    norm_cast
  · have he : (0 : ℚ) < 2 ^ e := by positivity
    rw [if_neg (not_le.mpr hlt), decide_eq_true_iff, zpow_split hlt.le, ← mul_assoc, mul_lt_mul_iff_of_pos_right he]
    norm_cast

/-- What a finite value that rounds beyond the largest finite one converts to. -/
theorem convert_beyond {f m : Nat} {e : Int} (neg : Bool) {draw : Option Nat} (hm : m ≠ 0)
    (hgt : ((fmtMax f).1 : ℚ) * 2 ^ (fmtMax f).2 < (roundAt m e (spacing f m e) draw : ℚ) * 2 ^ spacing f m e) (sat : Bool) :
    convert f sat draw (.fin neg m e) =
      if sat then { code := withSign f neg (withSign f false (packMag f (fmtMax f).1 (fmtMax f).2)), sat := 1 }
      else if fmtInf f then { code := fmtInfCode f neg, ovf := 1 }
      else { code := fmtNan f, ovf := 1 } :=
  (if_neg hm).trans (if_pos ((magGt_iff _ _ _ _).mpr hgt))

/-- The largest finite value of a format as its code gives it. -/
def fmtTop (f : Nat) : Nat × Int := if f = 5 then (14, 5) else fmtMax f

theorem fmtTop_value (f : Nat) : ((fmtTop f).1 : ℚ) * 2 ^ (fmtTop f).2 = ((fmtMax f).1 : ℚ) * 2 ^ (fmtMax f).2 := by
  rw [fmtTop]
  split
  · next h => subst h; norm_num [fmtMax]
  · rfl

/-- The code of a signed largest value reads back. -/
theorem numOf_top {f : Nat} (h1 : 1 ≤ f) (h6 : f ≤ 6) (neg : Bool) :
    numOf f (withSign f neg (withSign f false (packMag f (fmtMax f).1 (fmtMax f).2))) = .fin neg (fmtTop f).1 (fmtTop f).2 := by
  interval_cases f <;> cases neg <;> decide

/-- The code of an overflow reads back as an infinity, or as the NaN of a format without infinities. -/
theorem numOf_overflow {f : Nat} (h1 : 1 ≤ f) (h6 : f ≤ 6) (neg : Bool) :
    numOf f (if fmtInf f then fmtInfCode f neg else fmtNan f) = if f = 5 then .nan else .inf neg := by
  interval_cases f <;> cases neg <;> rfl

theorem convert_overflow {f m : Nat} {e : Int} {neg : Bool} {draw : Option Nat} (h1 : 1 ≤ f) (h6 : f ≤ 6) (hm : m ≠ 0)
    (hgt : ((fmtMax f).1 : ℚ) * 2 ^ (fmtMax f).2 < (roundAt m e (spacing f m e) draw : ℚ) * 2 ^ spacing f m e) :
    (∃ (a : Nat) (b : Int), numOf f (convert f true draw (.fin neg m e)).code = .fin neg a b ∧
      (a : ℚ) * 2 ^ b = ((fmtMax f).1 : ℚ) * 2 ^ (fmtMax f).2) ∧
    numOf f (convert f false draw (.fin neg m e)).code = (if f = 5 then .nan else .inf neg) ∧
    (convert f true draw (.fin neg m e)).sat = 1 ∧ (convert f false draw (.fin neg m e)).ovf = 1 := by
  rw [convert_beyond neg hm hgt true, convert_beyond neg hm hgt false, if_pos rfl, if_neg (by decide)]
  refine ⟨⟨_, _, numOf_top h1 h6 neg, fmtTop_value f⟩, ?_, rfl, by split <;> rfl⟩
  rw [← numOf_overflow h1 h6 neg]
  split <;> rfl

/-! ### The shared exponent of a group -/

/-- The exponent of a value that is finite and not zero. -/
def Num.log? : Num → Option Int
  | .fin _ m e => if m = 0 then none else some ((m.log2 : Int) + e)
  | _ => none

theorem Num.log?_eq_some {v : Num} {t : Int} : v.log? = some t ↔ ∃ neg m e, v = .fin neg m e ∧ m ≠ 0 ∧ (m.log2 : Int) + e = t := by
  cases v <;> simp [Num.log?]

/-- The largest exponent of a group is the largest among those of its values. -/
theorem groupLog_eq_max (g : List Num) : groupLog g = (g.filterMap Num.log?).max? := by
  induction g with
  | nil => rfl
  | cons v g ih =>
    cases v with
    | nan => exact ih
    | inf neg => exact ih
    | fin neg m e =>
      simp only [groupLog, ih, Num.log?, List.filterMap_cons]
      by_cases hm : m = 0
      · rw [if_pos hm, if_pos hm]
      · rw [if_neg hm, if_neg hm]
        simp only [List.max?_cons]
        cases (g.filterMap Num.log?).max? with
        | none => rfl
        | some x => exact congrArg some (max_comm _ _)

/-- A group whose values are all zero has the least shared exponent. -/
theorem sharedExp_zeros {g : List Num} (f : Nat) (h : ∀ v ∈ g, v.log? = none) : sharedExp f g = -127 := by
  have hnone : groupLog g = none := by rw [groupLog_eq_max, List.max?_eq_none_iff, List.filterMap_eq_nil_iff]; exact h
  rw [sharedExp, hnone]

/-- The shared exponent follows the group's largest magnitude (10 R251). -/
theorem sharedExp_top {g : List Num} (f : Nat) {top : Int} (hmem : ∃ v ∈ g, v.log? = some top)
    (hmax : ∀ v ∈ g, ∀ t, v.log? = some t → t ≤ top) : sharedExp f g = max (-127) (min 127 (top - mxEmax f)) := by
  have hsome : groupLog g = some top := by
    rw [groupLog_eq_max, List.max?_eq_some_iff]
    refine ⟨List.mem_filterMap.mpr hmem, fun t ht => ?_⟩
    obtain ⟨v, hv, hvt⟩ := List.mem_filterMap.mp ht
    exact hmax v hv t hvt
  rw [sharedExp, hsome]

/-! ### Records -/

theorem length_leBytes (n v : Nat) : (leBytes n v).length = n := by
  induction n generalizing v with
  | zero => rfl
  | succ n ih => rw [leBytes, List.length_cons, ih]

theorem mxEncode_special {f : Nat} {g : List (Num × Option Nat)} (h : ∃ v ∈ g, v.1 = .nan ∨ ∃ neg, v.1 = .inf neg) :
    mxEncode f g = (zeros (4 * fmtBits f) ++ [0xFF], 0) := by
  obtain ⟨v, hv, hspecial⟩ := h
  refine if_pos (List.any_eq_true.mpr ⟨v, hv, ?_⟩)
  obtain hnan | ⟨neg, hinf⟩ := hspecial
  · rw [hnan]
  · rw [hinf]

theorem mxEncode_finite (f : Nat) {g : List (Num × Option Nat)} (h : ∀ v ∈ g, ∃ neg m e, v.1 = .fin neg m e) :
    ∃ l : Bytes, l.length = 4 * fmtBits f ∧
      (mxEncode f g).1 = l ++ [BitVec.ofNat 8 (sharedExp f (g.map (·.1)) + 127).toNat] := by
  refine ⟨_, length_leBytes _ _, congrArg Prod.fst (if_neg ?_)⟩
  rw [Bool.not_eq_true, List.any_eq_false]
  intro v hv
  obtain ⟨neg, m, e, hfin⟩ := h v hv
  rw [hfin]
  exact Bool.false_ne_true

/-- A group's record: its shared exponent follows its largest magnitude, and a value that is not finite spoils it. -/
theorem mxEncode_follows (f : Nat) (g : List (Num × Option Nat)) :
    ((∃ v ∈ g, v.1 = .nan ∨ ∃ neg, v.1 = .inf neg) → mxEncode f g = (zeros (4 * fmtBits f) ++ [0xFF], 0)) ∧
    ((∀ v ∈ g, ∃ neg m e, v.1 = .fin neg m e) → ∃ (l : Bytes) (x : Int), (mxEncode f g).1 = l ++ [BitVec.ofNat 8 (x + 127).toNat] ∧
      l.length = 4 * fmtBits f ∧
      ((∀ v ∈ g, ∀ neg m e, v.1 = .fin neg m e → m = 0) → x = -127) ∧
      (∀ top : Int, (∃ v ∈ g, ∃ neg m e, v.1 = .fin neg m e ∧ m ≠ 0 ∧ (m.log2 : Int) + e = top) →
        (∀ v ∈ g, ∀ neg m e, v.1 = .fin neg m e → m ≠ 0 → (m.log2 : Int) + e ≤ top) →
        x = max (-127) (min 127 (top - mxEmax f)))) := by
  refine ⟨mxEncode_special, fun hfin => ?_⟩
  obtain ⟨l, hl, heq⟩ := mxEncode_finite f hfin
  refine ⟨l, _, heq, hl, fun hzero => sharedExp_zeros f ?_, fun top hmem hmax => sharedExp_top f ?_ ?_⟩
  · intro v hv
    obtain ⟨u, hu, rfl⟩ := List.mem_map.mp hv
    refine Option.eq_none_iff_forall_ne_some.mpr fun t ht => ?_
    obtain ⟨neg, m, e, hval, hm, -⟩ := Num.log?_eq_some.mp ht
    exact hm (hzero u hu neg m e hval)
  · obtain ⟨u, hu, hval⟩ := hmem
    exact ⟨u.1, List.mem_map_of_mem hu, Num.log?_eq_some.mpr hval⟩
  · intro v hv t ht
    obtain ⟨u, hu, rfl⟩ := List.mem_map.mp hv
    obtain ⟨neg, m, e, hval, hm, rfl⟩ := Num.log?_eq_some.mp ht
    exact hmax u hu neg m e hval hm

end Sys2Proof.Machine

/-! The outcomes of a softmax row (10 R262, R263): the order of FP32 numbers, and a row's largest entry. -/

namespace Sys2Proof.Machine

/-! ### The order of FP32 numbers -/

/-- The value of a sign, a mantissa and an exponent. -/
def finValue (neg : Bool) (m : Nat) (e : Int) : ℚ := (if neg then -(m : ℚ) else m) * 2 ^ e

theorem finValue_pos (neg : Bool) (m : Nat) (e : Int) : 0 < finValue neg m e ↔ (!neg && m != 0) = true := by
  have he : (0 : ℚ) < 2 ^ e := by positivity
  rw [finValue, mul_pos_iff_of_pos_right he]
  cases neg <;> simp [Nat.pos_iff_ne_zero]

theorem finValue_not (neg : Bool) (m : Nat) (e : Int) : finValue (!neg) m e = - finValue neg m e := by
  cases neg <;> simp [finValue]

theorem finValue_shift (neg : Bool) (m : Nat) {e q : Int} (h : q ≤ e) : finValue neg (m * 2 ^ (e - q).toNat) q = finValue neg m e := by
  rw [finValue, finValue, zpow_split h, Nat.cast_mul, Nat.cast_pow, Nat.cast_ofNat, ← mul_assoc]
  split <;> ring

/-- The sum of two finite values is exact. -/
theorem finAdd_value (sa : Bool) (ma : Nat) (ea : Int) (sb : Bool) (mb : Nat) (eb : Int) :
    ∃ neg m e, finAdd sa ma ea sb mb eb = .fin neg m e ∧ finValue neg m e = finValue sa ma ea + finValue sb mb eb := by
  rw [← finValue_shift sa ma (min_le_left ea eb), ← finValue_shift sb mb (min_le_right ea eb), finAdd]
  generalize ma * 2 ^ (ea - min ea eb).toNat = x
  generalize mb * 2 ^ (eb - min ea eb).toNat = y
  generalize min ea eb = q
  by_cases hs : sa = sb
  · subst hs
    refine ⟨sa, x + y, q, if_pos rfl, ?_⟩
    rw [finValue, finValue, finValue, ← add_mul]
    push_cast
    split <;> ring
  · obtain rfl : sb = !sa := by cases sa <;> cases sb <;> simp_all
    rw [if_neg hs, finValue_not sa y]
    obtain hlt | heq | hgt := lt_trichotomy y x
    · refine ⟨sa, x - y, q, if_pos hlt, ?_⟩
      simp only [finValue, Nat.cast_sub hlt.le]
      split <;> ring
    · subst heq
      exact ⟨false, 0, q, by simp, by simp [finValue]⟩
    · refine ⟨!sa, y - x, q, (if_neg hgt.le.not_gt).trans (if_pos hgt), ?_⟩
      rw [finValue_not]
      simp only [finValue, Nat.cast_sub hgt.le]
      split <;> ring

/-- The place of a number that is not a NaN in the order of FP32 numbers. -/
def Num.rank : Num → WithBot (WithTop ℚ)
  | .nan => ⊥
  | .inf neg => if neg then ⊥ else ((⊤ : WithTop ℚ) : WithBot (WithTop ℚ))
  | .fin neg m e => ((finValue neg m e : WithTop ℚ) : WithBot (WithTop ℚ))

/-- FP32 comparison is the order of the numbers' ranks. -/
theorem f32Gt_iff {x y : Nat} (hx : numOf 2 x ≠ .nan) (hy : numOf 2 y ≠ .nan) :
    f32Gt x y = true ↔ (numOf 2 y).rank < (numOf 2 x).rank := by
  rw [f32Gt]
  cases hxv : numOf 2 x with
  | nan => exact absurd hxv hx
  | inf a =>
    cases hyv : numOf 2 y with
    | nan => exact absurd hyv hy
    | inf b => cases a <;> cases b <;> simp [Num.rank]
    | fin sb mb eb =>
      cases a with
      | false => simpa [Num.rank] using WithBot.coe_lt_coe.mpr (WithTop.coe_lt_top (finValue sb mb eb))
      | true => simp [Num.rank]
  | fin sa ma ea =>
    cases hyv : numOf 2 y with
    | nan => exact absurd hyv hy
    | inf b => cases b <;> simp [Num.rank]
    | fin sb mb eb =>
      obtain ⟨neg, m, e, hsum, hval⟩ := finAdd_value sa ma ea (!sb) mb eb
      rw [finValue_not, ← sub_eq_add_neg] at hval
      simp only [hsum, Num.rank, WithBot.coe_lt_coe, WithTop.coe_lt_coe]
      rw [← finValue_pos neg m e, hval, sub_pos]

theorem f32Gt_eq_false_iff {x y : Nat} (hx : numOf 2 x ≠ .nan) (hy : numOf 2 y ≠ .nan) :
    f32Gt x y = false ↔ (numOf 2 x).rank ≤ (numOf 2 y).rank := by
  rw [← not_lt, ← f32Gt_iff hx hy, Bool.not_eq_true]

/-- The largest entry is an entry, and none is greater. -/
theorem f32Largest_spec (l : List Nat) {m : Nat} (h : ∀ x ∈ m :: l, numOf 2 x ≠ .nan) :
    f32Largest l m ∈ m :: l ∧ ∀ x ∈ m :: l, f32Gt x (f32Largest l m) = false := by
  induction l generalizing m with
  | nil =>
    have hm := h m (by simp)
    simpa [f32Largest] using (f32Gt_eq_false_iff hm hm).mpr le_rfl
  | cons x l ih =>
    have hm : numOf 2 m ≠ .nan := h m (by simp)
    have hx : numOf 2 x ≠ .nan := h x (by simp)
    have hl : ∀ z ∈ l, numOf 2 z ≠ .nan := fun z hz => h z (by simp [hz])
    rw [f32Largest]
    obtain ⟨n, hn, hmem, hmn, hxn⟩ : ∃ n, (if f32Gt x m then x else m) = n ∧ (n = m ∨ n = x) ∧
        (numOf 2 m).rank ≤ (numOf 2 n).rank ∧ (numOf 2 x).rank ≤ (numOf 2 n).rank := by
      cases hgt : f32Gt x m with
      | true => exact ⟨x, rfl, .inr rfl, ((f32Gt_iff hx hm).mp hgt).le, le_rfl⟩
      | false => exact ⟨m, rfl, .inl rfl, le_rfl, (f32Gt_eq_false_iff hx hm).mp hgt⟩
    have hnan : numOf 2 n ≠ .nan := by obtain rfl | rfl := hmem <;> assumption
    have hnl : ∀ z ∈ n :: l, numOf 2 z ≠ .nan := List.forall_mem_cons.mpr ⟨hnan, hl⟩
    obtain ⟨hin, hmax⟩ := ih hnl
    rw [hn]
    generalize f32Largest l n = top at *
    have htop : numOf 2 top ≠ .nan := hnl top hin
    have hle : (numOf 2 n).rank ≤ (numOf 2 top).rank := (f32Gt_eq_false_iff hnan htop).mp (hmax n (by simp))
    refine ⟨?_, List.forall_mem_cons.mpr ⟨(f32Gt_eq_false_iff hm htop).mpr (hmn.trans hle),
      List.forall_mem_cons.mpr ⟨(f32Gt_eq_false_iff hx htop).mpr (hxn.trans hle), fun z hz => hmax z (by simp [hz])⟩⟩⟩
    obtain rfl | hin := List.mem_cons.mp hin
    · obtain rfl | rfl := hmem <;> simp
    · simp [hin]

/-! ### The outcomes of a row -/

/-- A NaN in the row. -/
theorem softmaxRow_nan (norm : Bool) {row : List Nat} (h : ∃ x ∈ row, numOf 2 x = .nan) : softmaxRow norm row =
    { out := row.map (fun _ => fmtNan 2), m := fmtNan 2, l := fmtNan 2, flags := 2 } := by
  obtain ⟨x, hx, hnan⟩ := h
  have hbeq : (numOf 2 x == .nan) = true := beq_iff_eq.mpr hnan
  exact if_pos (List.any_eq_true.mpr ⟨x, hx, hbeq⟩)

theorem any_nan_eq_false {row : List Nat} (h : ∀ x ∈ row, numOf 2 x ≠ .nan) : row.any (fun x => numOf 2 x == .nan) = false :=
  List.any_eq_false.mpr fun x hx hnan => h x hx (beq_iff_eq.mp hnan)

/-- Plus infinities, and no NaN. -/
theorem softmaxRow_inf (norm : Bool) {row : List Nat} (h : ∀ x ∈ row, numOf 2 x ≠ .nan) (hinf : f32Inf ∈ row) : softmaxRow norm row =
    { out := row.map (fun x => if x = f32Inf then (if norm then rcp (toF32 (.fin false (row.count f32Inf) 0)) else 0x3F800000) else 0),
      m := f32Inf, l := toF32 (.fin false (row.count f32Inf) 0), flags := 0 } := by
  have hany : row.any (fun x => x == f32Inf) = true := List.any_eq_true.mpr ⟨_, hinf, beq_self_eq_true _⟩
  rw [softmaxRow, any_nan_eq_false h, hany, if_neg (by decide), if_pos rfl]
  rfl

theorem any_inf_eq_false {row : List Nat} (h : ∀ x ∈ row, x ≠ f32Inf) : row.any (fun x => x == f32Inf) = false :=
  List.any_eq_false.mpr fun x hx hinf => h x hx (beq_iff_eq.mp hinf)

/-- No entry above minus infinity. -/
theorem softmaxRow_negInf (norm : Bool) {row : List Nat} (h : ∀ x ∈ row, x = f32NegInf) : softmaxRow norm row =
    { out := row.map (fun _ => 0), m := f32NegInf, l := 0, flags := 1 } := by
  have hnan : ∀ x ∈ row, numOf 2 x ≠ .nan := fun x hx => by rw [h x hx]; decide
  have hinf : ∀ x ∈ row, x ≠ f32Inf := fun x hx => by rw [h x hx]; decide
  have hall : row.all (fun x => x == f32NegInf) = true := List.all_eq_true.mpr fun x hx => beq_iff_eq.mpr (h x hx)
  rw [softmaxRow, any_nan_eq_false hnan, any_inf_eq_false hinf, if_neg (by decide), if_neg (by decide),
    hall, if_pos rfl]

/-- Finite entries and minus infinities, not all of them minus infinity. -/
theorem softmaxRow_finite (norm : Bool) {row : List Nat} (hnan : ∀ x ∈ row, numOf 2 x ≠ .nan) (hinf : ∀ x ∈ row, x ≠ f32Inf)
    (hsome : ∃ x ∈ row, x ≠ f32NegInf) {m : Nat} (hm : f32Largest row.tail (row.headD 0) = m) {es : List Nat}
    (hes : row.map (fun x => exp2 (f32Sub x m)) = es) {l : Nat} (hl : es.tail.foldl f32Add (es.headD 0) = l) : softmaxRow norm row =
    { out := if norm then es.map (fun e => f32Mul e (rcp l)) else es, m := m, l := l, flags := 0 } := by
  subst hm hes hl
  obtain ⟨x, hx, hne⟩ := hsome
  have hall : ¬ row.all (fun x => x == f32NegInf) = true := fun hall => hne (beq_iff_eq.mp (List.all_eq_true.mp hall x hx))
  rw [softmaxRow, any_nan_eq_false hnan, any_inf_eq_false hinf, if_neg (by decide), if_neg (by decide), if_neg hall]

/-- The outcomes of a row (10 R263). -/
theorem softmaxRow_outcomes (norm : Bool) {row : List Nat} (hrow : row ≠ []) {y : SoftRow} (hy : softmaxRow norm row = y) :
    ((∃ x ∈ row, numOf 2 x = .nan) → (∀ z ∈ y.out, z = 0x7FC00000) ∧ y.m = 0x7FC00000 ∧ y.l = 0x7FC00000 ∧ y.flags = 2) ∧
    ((∀ x ∈ row, numOf 2 x ≠ .nan) → 0x7F800000 ∈ row → y.m = 0x7F800000 ∧ y.flags = 0 ∧ y.l = toF32 (.fin false (row.count 0x7F800000) 0) ∧
      y.out = row.map (fun x => if x = 0x7F800000 then (if norm then rcp y.l else 0x3F800000) else 0)) ∧
    ((∀ x ∈ row, x = 0xFF800000) → y.m = 0xFF800000 ∧ y.l = 0 ∧ y.flags = 1 ∧ ∀ z ∈ y.out, z = 0) ∧
    ((∀ x ∈ row, numOf 2 x ≠ .nan ∧ x ≠ 0x7F800000 ∧ x < 2 ^ 32) → (∃ x ∈ row, x ≠ 0xFF800000) →
      y.m ∈ row ∧ (∀ x ∈ row, f32Gt x y.m = false) ∧ y.flags = 0 ∧
      y.l = (row.map (fun x => exp2 (f32Sub x y.m))).tail.foldl f32Add ((row.map (fun x => exp2 (f32Sub x y.m))).headD 0) ∧
      y.out = (if norm then (row.map (fun x => exp2 (f32Sub x y.m))).map (fun z => f32Mul z (rcp y.l))
        else row.map (fun x => exp2 (f32Sub x y.m)))) := by
  subst hy
  refine ⟨fun hnan => ?_, fun hnan hinf => ?_, fun hall => ?_, fun hnum hsome => ?_⟩
  · rw [softmaxRow_nan norm hnan]
    exact ⟨fun z hz => by obtain ⟨_, -, rfl⟩ := List.mem_map.mp hz; rfl, rfl, rfl, rfl⟩
  · rw [softmaxRow_inf norm hnan hinf]
    exact ⟨rfl, rfl, rfl, rfl⟩
  · rw [softmaxRow_negInf norm hall]
    exact ⟨rfl, rfl, rfl, fun z hz => by obtain ⟨_, -, rfl⟩ := List.mem_map.mp hz; rfl⟩
  · rw [softmaxRow_finite norm (fun x hx => (hnum x hx).1) (fun x hx => (hnum x hx).2.1) hsome rfl rfl rfl]
    obtain ⟨x, l, rfl⟩ := List.exists_cons_of_ne_nil hrow
    obtain ⟨hmem, hmax⟩ := f32Largest_spec l (m := x) (fun z hz => (hnum z hz).1)
    exact ⟨hmem, hmax, rfl, rfl, rfl⟩

end Sys2Proof.Machine

/-! The order of folds and of elements (01 R23; 09 R209, R227; 10 R240 to R266). -/

namespace Sys2Proof.Machine

/-- Settles O57: READ_BURST_RETURN is what its bytes give once they have entered, kind by kind; the folds and the numbers are lemmas of
their own. -/
theorem foldsAndElementsInOrder : Obligations.FoldsAndElementsInOrder := by
  unfold Obligations.FoldsAndElementsInOrder
  refine ⟨combineFold_in_order, fun s c r a bs hrun hreads hres hquit hstop hchange hseq => ?_, roundAt_error,
    fun f m e neg draw h1 h6 hm => convert_overflow h1 h6 hm, fun f g _ _ => mxEncode_follows f g,
    fun norm row hrow => softmaxRow_outcomes norm hrow rfl⟩
  intro d ops n raw code clean place bytesAt elemsAt step ends moved joined hn hcarry
  have h : s.OneReadBack c r a bs := ⟨hrun, hreads, hres, hquit, hchange⟩
  have hcopies : dOp d = 1 → dFlag d 9 = false → r.Copies := fun hop h9 => ⟨hop, h9, hseq, hstop⟩
  have hnone : dPipe d = 0xFF → s.pipeOps r.words = [] := fun hp => if_pos hp
  have hunit : dFlag d 8 = false → clean → bs.length = n → r.TakesUnit bs := fun h8 hc hlen => ⟨h8, hcarry, hn, hc, hlen⟩
  refine ⟨fun hop hp h8 h9 => ⟨fun k hc hlen => ?_, fun hc hlen hout hgroup => ?_⟩, fun hop hops hin h8 h9 hc hlen =>
    ⟨fun hout hsoft => ?_, fun w hw hf hmx hg hgc => ?_, fun w hw hf hg hgc => ?_⟩,
    fun w hop hw hf hmx hmo h6 h8 h9 hc hlen => ?_, fun hop hp h8 h9 hc => ⟨fun len k l hbody hleft hlt hbs => ?_, fun hbody hlen => ?_⟩,
    fun hop hp h8 h9 hc hlen hruns => ⟨fun hjoin => ?_, fun e l coded hr hleave hcoded => ?_⟩,
    fun h8 hc hlen => ⟨fun hop => ?_, fun hop => ?_⟩⟩
  · exact h.gives_copy (hcopies hop h9) (hnone hp) h8 hcarry hn hc hlen
  · have hbad : bs.any (·.2) = true := by
      obtain ⟨x, hx, hp⟩ := not_forall₂.mp hc
      exact List.any_eq_true.mpr ⟨x, hx, by simpa using hp⟩
    exact h.gives_poisoned (hcopies hop h9) (hnone hp) h8 hcarry hn hbad hlen hout hgroup
  · exact h.gives_cells (hcopies hop h9) (hunit h8 hc hlen) hops hin hout hsoft rfl
  · exact h.gives_mx (hcopies hop h9) (hunit h8 hc hlen) hw (hw ▸ hin) hmx hg hgc rfl rfl
  · exact h.gives_softmax (hcopies hop h9) (hunit h8 hc hlen) hw (hw ▸ hin) hf hg hgc rfl rfl
  · exact h.gives_record (hcopies hop h9) (hunit h8 hc hlen) hw hf hmx hmo h6 rfl
  · have hr : r.BetweenRuns len := ⟨hcopies hop h9, h8, hcarry, hquit, hbody, hleft, hlt⟩
    refine ⟨fun hrun => h.ends_run hr (hnone hp) hc hbs hrun, fun hend => ⟨fun hk hl => ?_, fun hk hl => ?_⟩⟩
    · subst hl
      have hlast : r.zrc.parsed + bs.length = r.zrc.parsed + 1 := by rw [hbs, List.length_singleton]
      have hgive := h.gives_zeros hr (hnone hp) hbs hk (hlast ▸ hend)
      rw [← hlast] at hgive
      exact hgive
    · exact h.gives_literals hr (hnone hp) hc hbs hk hl hend
  · refine ⟨fun hcrc => h.ends_header h8 hcarry hbody hc hlen (zrcHeaderCheck_crc hcrc _ _), fun hcrc => ⟨fun hbad => ?_, fun hgood => ?_⟩⟩
    · exact h.ends_header h8 hcarry hbody hc hlen ((zrcHeaderCheck_fields hcrc _ _).2 hbad)
    · exact h.gives_header (hcopies hop h9) (hnone hp) h8 hcarry hbody hc hlen ((zrcHeaderCheck_fields hcrc _ _).1 hgood)
  · refine h.gives_joined hop (hnone hp) h9 hstop (hunit h8 hc hlen) (hjoin.imp_right fun ⟨hroom, hlike⟩ => ⟨hroom, fun f hf => ?_⟩)
    exact zeroElem_eq_iff (hruns f (List.mem_of_mem_head? hf)) hc |>.mpr (hlike f hf)
  · have he : ∀ x ∈ e, x.2 = false := hruns e (by rw [hr]; simp)
    refine h.gives_released hop (hnone hp) h9 hstop hseq (hunit h8 hc hlen) hr hruns
      (hleave.imp_right fun hne heq => hne ((zeroElem_eq_iff he hc).mp heq)) ?_
    obtain ⟨hzero, rfl⟩ | ⟨hzero, rfl⟩ := hcoded
    · rw [if_pos ((zeroElem_of_clean he).mpr hzero)]
    · rw [if_neg (fun hz => hzero ((zeroElem_of_clean he).mp hz))]
  · exact h.gives_compare hop (hunit h8 hc hlen) rfl
  · exact h.gives_hash hop (hunit h8 hc hlen)

end Sys2Proof.Machine

/-! The configuration and the commands (03 R74): what `Instr.configures` does not name leaves it as it is. -/

namespace Sys2Proof.Machine

theorem State.startTold_conf (s old : State) : (s.startTold old).conf = s.conf := by
  unfold State.startTold; split <;> simp only [State.statusUp_conf]

theorem State.chartTold_conf (s old : State) : (s.chartTold old).conf = s.conf := by
  unfold State.chartTold; split <;> simp only [State.statusUp_conf]

theorem State.imageTold_conf (s old : State) : (s.imageTold old).conf = s.conf := by
  unfold State.imageTold; split <;> simp only [State.statusUp_conf]

theorem State.afterLoss_conf (s old : State) : (s.afterLoss old).conf = s.conf := by
  unfold State.afterLoss
  simp only []
  split <;> (repeat' split) <;> simp only [State.endRounds_conf, State.cutHome_conf, State.failWhere_conf, State.endEngines_conf]

theorem State.ite_conf {s u : State} {p : Prop} [Decidable p] (h : u.conf = s.conf) : (if p then u else s).conf = s.conf := by
  split
  · exact h
  · rfl

theorem State.conf_of_next {s u t : State} (h : (Host.Outcome.next u : Host.Outcome State Fault Refusal) = .next t)
    (hu : u.conf = s.conf) : t.conf = s.conf := Host.Outcome.next.inj h ▸ hu

theorem State.conf_of_settle {s u t : State} (h : (Host.Outcome.next u.settle : Host.Outcome State Fault Refusal) = .next t)
    (hu : u.conf = s.conf) : t.conf = s.conf := State.conf_of_next h (u.settle_conf.trans hu)

open State in
/-- A command that is not one of `Instr.configures` leaves the configuration as it is, by the laws of the operations it is made of. -/
theorem exec_conf {s t : State} : ∀ {c : Instr}, c.configures = false → exec c s = .next t → t.conf = s.conf
  | .porNAssert .., hc, _ | .fuseRead .., hc, _ | .selfTestComplete .., hc, _
  | .deviceidDerivation, hc, _ | .chartCheckComplete, hc, _ | .partitionReleaseComplete, hc, _
  | .hdTideModeWrite .., hc, _ | .enLandCfgWrite .., hc, _ | .enRootWrite .., hc, _
  | .enHostwinWrite .., hc, _ | .hdWinAttachWrite .., hc, _ | .hdApClear .., hc, _
  | .shIdEndorseCommit .., hc, _ | .registerWrite .., hc, _ => nomatch hc
  | .porNRelease .., _, h => conf_of_next h (State.coldRelease_conf ..)
  | .wrstNAssert .., _, h => conf_of_settle h (State.warmAssert_conf ..)
  | .wrstNRelease .., _, h => conf_of_settle h ((State.startTold_conf ..).trans (State.warmGo_conf ..))
  | .fuseTimeout, _, h => conf_of_next h ((State.startTold_conf ..).trans (State.fuseTimeout_conf ..))
  | .sliceLinkBringUp .., _, h => conf_of_next h ((State.startTold_conf ..).trans (State.linkBringUp_conf ..))
  | .sliceLinkBringUpTimeout .., _, h => conf_of_next h ((State.startTold_conf ..).trans (State.linkSilent_conf ..))
  | .holdInitialisation, _, h => conf_of_next h ((State.startTold_conf ..).trans (State.holdInit_conf ..))
  | .portReadiness, _, h => conf_of_next h ((State.startTold_conf ..).trans (State.portsReady_conf ..))
  | .peerKeySetupComplete, _, h => conf_of_next h ((State.startTold_conf ..).trans (State.peersReady_conf ..))
  | .aliasKeyDerivation .., _, h => conf_of_next h ((State.startTold_conf ..).trans (State.deriveAlias_conf ..))
  | .secReady, _, h => conf_of_settle h ((State.startTold_conf ..).trans (State.secReadyGo_conf ..))
  | .startInvalidation, _, h => conf_of_settle h ((State.startTold_conf ..).trans (State.startInvalidate_conf ..))
  | .startStateReset, _, h => conf_of_settle h ((State.startTold_conf ..).trans (State.startReset_conf ..))
  | .queueStateRecovery .., _, h => conf_of_settle h ((State.startTold_conf ..).trans (State.queueRecover_conf ..))
  | .supplyWarnRise .., _, h => conf_of_next h (State.warnRise_conf ..)
  | .supplyWarnFall .., _, h => conf_of_next h (State.warnFall_conf ..)
  | .ebbExit .., _, h => conf_of_next h (State.ebbExit_conf ..)
  | .supplyAck .., _, h => conf_of_settle h (State.supplyAcked_conf ..)
  | .supplyAckTimeout .., _, h => conf_of_settle h (State.supplyMissed_conf ..)
  | .stackTemperatureCode .., _, h => conf_of_settle h (State.stackCode_conf ..)
  | .stackStaleTimeout .., _, h => conf_of_next h (State.stackStale_conf ..)
  | .clockLost .., _, h => conf_of_settle h ((State.afterLoss_conf ..).trans (State.clockLost_conf ..))
  | .unitClockGate .., _, h => conf_of_next h (State.gateUnit_conf ..)
  | .hostLinkUp .., _, h => conf_of_next h (State.hostUp_conf ..)
  | .hostLinkErr .., _, h => conf_of_settle h (State.hostErr_conf ..)
  | .bar0InvalidAccess .., _, h => conf_of_next h (State.bar0Invalid_conf ..)
  | .hostDoorbell .., _, h => conf_of_next h (State.doorbellIn_conf ..)
  | .bar2OtherWrite .., _, h => conf_of_next h (State.bar2Write_conf ..)
  | .bar2Read .., _, h => conf_of_next h (State.bar2Read_conf ..)
  | .configurationRequest .., _, h => conf_of_next h (State.configRequest_conf ..)
  | .ioRequest .., _, h => conf_of_next h (State.ioRequest_conf ..)
  | .hostSnoop .., _, h | .biconflict .., _, h | .unknownM2sRequest .., _, h => conf_of_next h (State.hostCome_conf ..)
  | .cxlCacheCompletion .., _, h => conf_of_settle h (State.cacheReturned_conf ..)
  | .atsInvalidationRequest .., _, h => conf_of_next h (State.atsInvalidate_conf ..)
  | .atsTranslationRequest .., _, h => conf_of_next h (State.atsTranslate_conf ..)
  | .memrd .., _, h | .memrddata .., _, h | .memwr .., _, h | .memwrptl .., _, h
  | .birsp .., _, h | .hdmHRequest .., _, h => conf_of_settle h (State.hostCome_conf ..)
  | .memspecrd .., _, h => conf_of_next h (State.specDropped_conf ..)
  | .snoopTimeout .., _, h => conf_of_settle h (State.snoopTimeout_conf ..)
  | .getVersion .., _, h => conf_of_next h (State.getVersion_conf ..)
  | .getCapabilities .., _, h => conf_of_next h (State.getCapabilities_conf ..)
  | .negotiateAlgorithms .., _, h => conf_of_next h (State.negotiate_conf ..)
  | .getDigests .., _, h => conf_of_next h (State.getDigests_conf ..)
  | .getCertificate .., _, h => conf_of_next h (State.getCertificate_conf ..)
  | .challenge .., _, h => conf_of_next h (State.challenge_conf ..)
  | .getMeasurements .., _, h => conf_of_next h (State.getMeasurements_conf ..)
  | .keyExchange .., _, h => conf_of_next h (State.keyExchange_conf ..)
  | .finish .., _, h => conf_of_next h (State.finishSession_conf ..)
  | .heartbeat .., _, h => conf_of_next h (State.heartbeat_conf ..)
  | .keyUpdate .., _, h => conf_of_next h (State.keyUpdate_conf ..)
  | .endSession .., _, h => conf_of_next h (State.endSession_conf ..)
  | .unsupportedSpdmRequest .., _, h => conf_of_next h (State.spdmOther_conf ..)
  | .spdmHeartbeatExpiry, _, h => conf_of_next h (State.heartbeatExpired_conf ..)
  | .query .., _, h => conf_of_next h (State.ideQuery_conf ..)
  | .keyProg .., _, h => conf_of_next h (State.ideKey_conf ..)
  | .kSetGo .., _, h => conf_of_next h (State.ideGo_conf ..)
  | .kSetStop .., _, h => conf_of_next h (State.ideStop_conf ..)
  | .peerLinkUp .., _, h => conf_of_next h (State.peerUp_conf ..)
  | .peerLinkDown .., _, h => conf_of_settle h ((State.losePaths_conf ..).trans (State.peerDown_conf ..))
  | .peerFlitReceive .., _, h =>
    conf_of_settle h ((State.losePaths_conf ..).trans ((State.flitIn_conf ..).trans (State.creditReturn_conf ..)))
  | .peerNak .., _, h => conf_of_settle h ((State.losePaths_conf ..).trans (State.peerNakIn_conf ..))
  | .peerAckTimeout .., _, h => conf_of_settle h ((State.losePaths_conf ..).trans (State.replay_conf ..))
  | .peerPadAck .., _, h => conf_of_next h (State.sendFlit_conf ..)
  | .peerRequestSend .., _, h => conf_of_settle h (State.requestSend_conf ..)
  | .zaricRead .., _, h => conf_of_settle h (State.zaricRead_conf ..)
  | .zaricWrite .., _, h => conf_of_settle h (State.zaricWrite_conf ..)
  | .writeback .., _, h => conf_of_settle h (State.zaricWriteback_conf ..)
  | .zaricAtomic .., _, h => conf_of_settle h (State.zaricAtomic_conf ..)
  | .zaricSignal .., _, h => conf_of_settle h (State.zaricSignal_conf ..)
  | .contrib .., _, h => conf_of_settle h (State.zaricContrib_conf ..)
  | .own .., _, h => conf_of_settle h (State.zaricOwn_conf ..)
  | .mgmtChartBegin .., _, h => conf_of_next h (State.mgmtBegin_conf ..)
  | .mgmtChartData .., _, h => conf_of_next h (State.mgmtChartData_conf ..)
  | .mgmtChartCommit .., _, h => conf_of_settle h (State.mgmtCommit_conf ..)
  | .mgmtImageData .., _, h => conf_of_next h (State.mgmtImageData_conf ..)
  | .mgmtImageLoad .., _, h => conf_of_settle h (State.mgmtImageLoad_conf ..)
  | .mgmtStatus .., _, h => conf_of_settle h (State.mgmtStatusIn_conf ..)
  | .share .., _, h => conf_of_next h (State.shareIn_conf ..)
  | .identity .., _, h => conf_of_next h (State.identityIn_conf ..)
  | .issuer .., _, h => conf_of_next h (State.issuerIn_conf ..)
  | .proof .., _, h => conf_of_next h (State.proofIn_conf ..)
  | .keyxRetry .., _, h => conf_of_next h (State.keyxRetry_conf ..)
  | .keyxTimeout .., _, h => conf_of_next h (State.keyxExpired_conf ..)
  | .snpInv .., _, h | .snpShr .., _, h => conf_of_settle h (State.zaricSnoop_conf ..)
  | .comp .., _, h => conf_of_settle h (State.compIn_conf ..)
  | .snpRsp .., _, h | .snpData .., _, h => conf_of_settle h (State.snoopRspIn_conf ..)
  | .mgmtAck .., _, h => conf_of_settle h (State.mgmtAckIn_conf ..)
  | .rddata .., _, h => conf_of_settle h (State.readDataIn_conf ..)
  | .atomicOld .., _, h => conf_of_settle h (State.atomicOldIn_conf ..)
  | .ownData .., _, h => conf_of_settle h (State.ownDataIn_conf ..)
  | .peerRequestTimeout .., _, h => conf_of_settle h (State.requestTimeout_conf ..)
  | .peerTagRelease .., _, h => conf_of_settle h (State.tagRelease_conf ..)
  | .mgmtRetry .., _, h => conf_of_settle h (State.mgmtRetry_conf ..)
  | .translate .., _, h | .read .., _, h | .write .., _, h | .atomic .., _, h
  | .engineDoorbell .., _, h | .tideWait .., _, h | .engineAlloc .., _, h | .engineFree .., _, h =>
    conf_of_settle h (State.engAccept_conf ..)
  | .engineUnknownOp .., _, h => conf_of_settle h (State.engUnknown_conf ..)
  | .engineWriteBeat .., _, h => conf_of_settle h (State.engBeat_conf ..)
  | .memoryReadReturn .., _, h => conf_of_settle h (State.memReturned_conf ..)
  | .memoryWriteAck .., _, h => conf_of_settle h (State.memAcked_conf ..)
  | .memoryPortTimeout .., _, h => conf_of_settle h (State.memExpired_conf ..)
  | .sliceLinkGroupReceive .., _, h => conf_of_settle h ((State.afterLoss_conf ..).trans (State.linkGroup_conf ..))
  | .controlPortInvalidAccess .., _, h => conf_of_next h (State.cpInvalid_conf ..)
  | .controlPortTargetLost .., _, h => conf_of_next h (State.cpLost_conf ..)
  | .tapInstruction .., _, h => conf_of_next h (State.tapDo_conf ..)
  | .shChartBegin .., _, h => conf_of_next h (State.onPath_conf _ _ _ fun _ => State.chartBeginReg_conf ..)
  | .shChartDataWrite .., _, h => conf_of_next h (State.onPath_conf _ _ _ fun _ => State.chartData_conf ..)
  | .shChartCommit .., _, h => conf_of_next h (State.onPath_conf _ _ _ fun _ => State.chartCommit_conf ..)
  | .fwLoad .., _, h => conf_of_next h (State.onPath_conf _ _ _ fun _ => State.fwLoadGo_conf ..)
  | .fwReload .., _, h => conf_of_next h (State.onPath_conf _ _ _ fun _ => State.fwReloadGo_conf ..)
  | .imageVerifyComplete .., _, h =>
    conf_of_settle h ((State.imageTold_conf ..).trans ((State.startTold_conf ..).trans (State.imageVerified_conf ..)))
  | .watchdogKick .., _, h => conf_of_next h (State.onPath_conf _ _ _ fun _ => State.kick_conf ..)
  | .watchdogExpiry .., _, h => conf_of_settle h (State.wdtExpired_conf ..)
  | .shCmdProdWrite .., _, h => conf_of_settle h (State.onPath_conf _ _ _ fun _ => State.cmdProdWrite_conf ..)
  | .hello .., _, h => conf_of_settle h (State.hello_conf ..)
  | .goodbye .., _, h => conf_of_settle h (State.goodbye_conf ..)
  | .nop .., _, h => conf_of_settle h (State.nop_conf ..)
  | .modeChange .., _, h => conf_of_settle h (State.modeChange_conf ..)
  | .unitPrepareAck .., _, h => conf_of_settle h (State.unitAck_conf ..)
  | .unitCommitConfirm .., _, h => conf_of_settle h (State.unitConfirm_conf ..)
  | .modeRollback, _, h => conf_of_settle h (State.modeRevert_conf ..)
  | .unitSelfRevert .., _, h => conf_of_settle h (State.unitAlone_conf ..)
  | .queueSave .., _, h => conf_of_settle h (State.queueSave_conf ..)
  | .chartForward .., _, h => conf_of_settle h (State.chartForward_conf ..)
  | .imageForward .., _, h => conf_of_settle h (State.imageForward_conf ..)
  | .scrub .., _, h => conf_of_settle h (State.scrubCmd_conf ..)
  | .scrubComplete, _, h => conf_of_settle h (State.scrubEnd_conf ..)
  | .measure .., _, h => conf_of_settle h (State.measure_conf ..)
  | .measureAndSeal .., _, h => conf_of_settle h (State.measureAndSeal_conf ..)
  | .measurementComplete .., _, h => conf_of_settle h (State.measured_conf ..)
  | .unseal .., _, h => conf_of_settle h (State.unsealCmd_conf ..)
  | .retire .., _, h => conf_of_settle h (State.retireCmd_conf ..)
  | .allocPoolCreate .., _, h | .allocPoolAdd .., _, h | .allocPoolAttach .., _, h
  | .allocPoolDetach .., _, h => conf_of_settle h (State.ringAct_conf _ _ _ _ _ _ _ fun _ => State.allocPool_conf ..)
  | .partitionRelease .., _, h => conf_of_settle h (State.releaseCmd_conf ..)
  | .telemetry .., _, h => conf_of_settle h (State.telemetryCmd_conf ..)
  | .ageingLoad .., _, h => conf_of_settle h (State.ageingLoad_conf ..)
  | .marginTestScan .., _, h => conf_of_settle h (State.marginScan_conf ..)
  | .marginTestAcceptFallback .., _, h => conf_of_settle h (State.acceptFallback_conf ..)
  | .shEvtConsWrite .., _, h => conf_of_settle h (State.onPath_conf _ _ _ fun _ => State.evtConsWrite_conf ..)
  | .partitionEnable .., _, h => conf_of_next h (State.onPath_conf _ _ _ fun _ => State.partEnable_conf ..)
  | .partitionStop .., _, h => conf_of_settle h (State.onPath_conf _ _ _ fun _ => State.partStop_conf ..)
  | .partitionAbort .., _, h => conf_of_settle h (State.onPath_conf _ _ _ fun _ => State.partAbort_conf ..)
  | .queueEnable .., _, h => conf_of_settle h (State.onPath_conf _ _ _ fun _ => State.queueCfg_conf ..)
  | .queueStop .., _, h => conf_of_settle h (State.onPath_conf _ _ _ fun _ => State.queueStop_conf ..)
  | .queueAbort .., _, h => conf_of_settle h (State.onPath_conf _ _ _ fun _ => State.queueAbort_conf ..)
  | .channelEnable .., _, h => conf_of_next h (State.onPath_conf _ _ _ fun _ => ite_conf (State.chanEnable_conf ..))
  | .channelStop .., _, h => conf_of_settle h (State.onPath_conf _ _ _ fun _ => ite_conf (State.chanStop_conf ..))
  | .channelAbort .., _, h => conf_of_settle h (State.onPath_conf _ _ _ fun _ => ite_conf (State.chanAbort_conf ..))
  | .enginePortEnable .., _, h => conf_of_next h (State.onPath_conf _ _ _ fun _ => State.portEnableOn_conf ..)
  | .enginePortDisable .., _, h => conf_of_settle h (State.onPath_conf _ _ _ fun _ => State.portEnableOff_conf ..)
  | .disableComplete .., _, h => conf_of_next h (State.disabledNow_conf ..)
  | .completionCountWrite .., _, h => conf_of_next h (State.onPath_conf _ _ _ fun _ => State.chanCount_conf ..)
  | .managementDoorbellLo .., _, h => conf_of_next h (State.onPath_conf _ _ _ fun _ => State.mgmtDoorbellLo_conf ..)
  | .managementDoorbellCommit .., _, h => conf_of_next h (State.onPath_conf _ _ _ fun _ => State.mgmtDoorbellHi_conf ..)
  | .descriptorBoundary .., _, h => conf_of_settle h (State.boundary_conf ..)
  | .descriptorFetchReturn .., _, h => conf_of_settle h (State.fetchReturn_conf ..)
  | .copy .., _, h | .fill .., _, h | .compare .., _, h | .reduce .., _, h | .merge .., _, h
  | .hash .., _, h | .gatherSeq .., _, h => conf_of_settle h (State.beginOp_conf ..)
  | .signal .., _, h => conf_of_settle h (State.beginSignal_conf ..)
  | .wait .., _, h => conf_of_settle h (State.beginWait_conf ..)
  | .link .., _, h => conf_of_settle h (State.beginLink_conf ..)
  | .alloc .., _, h => conf_of_settle h (State.beginAlloc_conf ..)
  | .release .., _, h => conf_of_settle h (State.beginRelease_conf ..)
  | .allocatorSlowPath, _, h => conf_of_settle h (State.slowPath_conf ..)
  | .journalRoom, _, h => conf_of_settle h (State.roomFreed_conf ..)
  | .hdJnlConsWrite .., _, h => conf_of_next h (State.onPath_conf _ _ _ fun _ => State.jnlConsWrite_conf ..)
  | .burstGrant .., _, h => conf_of_settle h (State.grantBurst_conf ..)
  | .readBurstReturn .., _, h => conf_of_settle h ((State.modeNote_conf ..).trans (State.burstArrive_conf ..))
  | .descriptorEnd .., _, h => conf_of_settle h (State.endDesc_conf ..)
  | .paceSample .., _, h => conf_of_settle h (State.paceSample_conf ..)
  | .paceTimeout .., _, h => conf_of_settle h (State.paceExpired_conf ..)
  | .tidemarkReached .., _, h => conf_of_settle h (State.tidemark_conf ..)
  | .waitLimitExpiry .., _, h => conf_of_settle h (State.waitLimit_conf ..)
  | .hdTideLoWrite .., _, h => conf_of_next h (State.onPath_conf _ _ _ fun _ => State.tideLoWrite_conf ..)
  | .hdTideHiWrite .., _, h => conf_of_next h (State.onPath_conf _ _ _ fun _ => State.tideHiWrite_conf ..)
  | .contributionPiece .., _, h => conf_of_settle h (State.localPiece_conf ..)
  | .combineFold .., _, h => conf_of_settle h (State.slotFold_conf ..)
  | .combineTimeout .., _, h => conf_of_settle h (State.slotTimeout_conf ..)
  | .walkStart .., _, h => conf_of_settle h (State.walkStart_conf ..)
  | .walkEntryReturn .., _, h => conf_of_settle h (State.walkEntryIn_conf ..)
  | .landingRecordWrite .., _, h => conf_of_settle h (State.writeLanding_conf ..)
  | .enLandConsWrite .., _, h => conf_of_next h (State.onPath_conf _ _ _ fun _ => State.landConsWrite_conf ..)
  | .retry .., _, h | .fail .., _, h => conf_of_settle h (State.onPath_conf _ _ _ fun _ => State.resume_conf ..)
  | .faultTimeout .., _, h => conf_of_settle h (State.faultExpire_conf ..)
  | .invalidateRange .., _, h | .invalidatePartition .., _, h | .invalidateAll .., _, h =>
    conf_of_next h (State.onPath_conf _ _ _ fun _ => State.invGo_conf ..)
  | .invalidationTaken, _, h => conf_of_settle h (State.invTake_conf ..)
  | .invalidationComplete, _, h => conf_of_settle h (State.invalidated_conf ..)
  | .invalidationDeadline .., _, h => conf_of_settle h (State.invDeadline_conf ..)
  | .shIdEndorseBegin .., _, h => conf_of_next h (State.onPath_conf _ _ _ fun _ => State.endorseBegin_conf ..)
  | .shIdEndorseDataWrite .., _, h => conf_of_next h (State.onPath_conf _ _ _ fun _ => State.endorseData_conf ..)
  | .entropyHealthFail, _, h => conf_of_next h (State.entropyFailed_conf ..)
  | .patrolRowRead .., _, h => conf_of_next h (State.patrolRow_conf ..)
  | .rasRecordWrite, _, h => conf_of_settle h (State.rasWrite_conf ..)
  | .hdRasConsWrite .., _, h => conf_of_next h (State.onPath_conf _ _ _ fun _ => State.rasConsWrite_conf ..)
  | .pathMonitorScan .., _, h => conf_of_settle h (State.pathScan_conf ..)
  | .marginRescan .., _, h => conf_of_settle h (State.rescan_conf ..)
  | .msixSend .., _, h => conf_of_next h (State.vectorSend_conf ..)
  | .shIrqStatusClear .., _, h => conf_of_next h (State.onPath_conf _ _ _ fun _ => State.irqClear_conf ..)
  | .shIrqEnableWrite .., _, h => conf_of_next h (State.onPath_conf _ _ _ fun _ => State.irqEnable_conf ..)
  | .hostLinkDown .., _, h => conf_of_next h (State.hostDown_conf ..)
  | .creditReturn .., _, h => conf_of_settle h (State.creditReturn_conf ..)
  | .tokenBucketRefill .., _, h => conf_of_settle h (State.tokenRefill_conf ..)
  | .unknownCommand .., _, h => conf_of_settle h (State.unknownCmd_conf ..)

end Sys2Proof.Machine

/-! Legal configurations (02 R49; 08 R186; 14 R336, R357; 16 R392): every register write, reset and start step keeps them. -/

namespace Sys2Proof.Machine

/-- `Conf.legal`, clause by clause. -/
structure Conf.Legal (c : Conf) : Prop where
  rasRing : ringOk c.rasValid c.rasSize = true
  landings : ∀ l ∈ c.landings, ringOk l.2.2 l.2.1 = true ∧ l.1.toNat % 4096 = 0
  rasBase : c.rasBase.toNat % 4096 = 0
  journal : c.journal.toNat % 4096 = 0
  cmdRing : c.rings.1.toNat % 4096 = 0
  evtRing : c.rings.2.1.toNat % 4096 = 0
  save : c.rings.2.2.toNat % 64 = 0
  fence : c.fence.toNat % 16 = 0
  policy : c.fuses.policy.toNat < 2
  attach : attachOk c.attach = true
  roots : tabWf {} c.roots = true
  hostWins : tabWf {} c.hostWins = true
  packets : tabWf false c.packets = true
  msix : tabWf {} c.msix = true

theorem Conf.legal_iff {c : Conf} : c.legal = true ↔ c.Legal := by
  simp only [Conf.legal, Bool.and_eq_true, List.all_eq_true, beq_iff_eq, decide_eq_true_eq, and_assoc]
  exact ⟨fun ⟨h1, h2, h3, h4, h5, h6, h7, h8, h9, h10, h11, h12, h13, h14⟩ => ⟨h1, h2, h3, h4, h5, h6, h7, h8, h9, h10, h11, h12, h13, h14⟩,
    fun ⟨h1, h2, h3, h4, h5, h6, h7, h8, h9, h10, h11, h12, h13, h14⟩ => ⟨h1, h2, h3, h4, h5, h6, h7, h8, h9, h10, h11, h12, h13, h14⟩⟩

/-- Settles O60: the reset state is one closed value. -/
theorem resetConfigurationIsLegal : Obligations.ResetConfigurationIsLegal := by
  unfold Obligations.ResetConfigurationIsLegal
  decide +kernel

/-- The configuration of a state is legal. -/
def State.Legal (s : State) : Prop := s.conf.Legal

theorem State.Legal.of_conf {s t : State} (h : s.Legal) (e : t.conf = s.conf) : t.Legal := by
  unfold State.Legal; rw [e]; exact h

/-- A base address is as aligned as its register takes it. -/
theorem setAddr_mod (v : BitVec 48) (i k w : Nat) (hk : k ≤ 48) : (setAddr v i k w).toNat % 2 ^ k = 0 := by
  rw [setAddr, BitVec.toNat_ofNat, Nat.mod_mod_of_dvd _ (Nat.pow_dvd_pow 2 hk), roundDown, Nat.mul_mod_left]


/-! ### Parts of the state -/

section
variable {s : State} (h : s.Legal)
include h

theorem State.Legal.withFw (x : FwLoad) : State.Legal { s with fw := x } := h.of_conf rfl

theorem State.Legal.withIdent (x : IdUnit) : State.Legal { s with ident := x } := { h with }

theorem State.Legal.withHold (x : HoldUnit) : State.Legal { s with hold := x } := { h with }

theorem State.Legal.withThermal (x : ThermalUnit) : State.Legal { s with thermal := x } := { h with }

theorem State.Legal.withMgmt {x : MgmtUnit} (hcmd : x.cmdBase.toNat % 4096 = 0) (hevt : x.evtBase.toNat % 4096 = 0)
    (hsave : x.saveBase.toNat % 64 = 0) : State.Legal { s with mgmt := x } := { h with cmdRing := hcmd, evtRing := hevt, save := hsave }

theorem State.Legal.withInv {x : InvUnit} (hfence : x.fence.toNat % 16 = 0) : State.Legal { s with inv := x } := { h with fence := hfence }

theorem State.Legal.withAlloc {x : AllocUnit} (hjnl : x.jnlBase.toNat % 4096 = 0) : State.Legal { s with alloc := x } :=
  { h with journal := hjnl }

theorem State.Legal.withQueues (x : Tab Queue) : State.Legal { s with queues := x } := h.of_conf rfl

theorem State.Legal.withTide {x : TideUnit} (hpackets : tabWf false x.packets = true) : State.Legal { s with tide := x } :=
  { h with packets := hpackets }

theorem State.Legal.withRas {x : RasUnit} (hring : ringOk x.valid x.sizeLog2 = true) (hbase : x.base.toNat % 4096 = 0) :
    State.Legal { s with ras := x } := { h with rasRing := hring, rasBase := hbase }

end

/-! ### Registers of the shore slice -/

/-- Vector registers hold no size and no alignment: a write keeps the configuration legal if taking the vector does. -/
theorem State.Legal.vectorWrite {s : State} (h : s.Legal) (v : BitVec 32) {f : Bool → BitVec 11 → State}
    (hf : ∀ on x, (f on x).Legal) :
    (s.vectorWrite v f).Legal := by
  unfold State.vectorWrite
  split
  · exact h
  · exact hf _ _

theorem State.Legal.ringBase {s : State} (h : s.Legal) (evt : Bool) (i : Nat) (v : BitVec 32) : (s.ringBase evt i v).Legal := by
  unfold State.ringBase
  (repeat' split)
  · exact h
  · exact h.withMgmt h.cmdRing (setAddr_mod _ _ 12 _ (by decide)) h.save
  · exact h.withMgmt (setAddr_mod _ _ 12 _ (by decide)) h.evtRing h.save

theorem State.Legal.writeFw {s : State} (h : s.Legal) (path : Path) (o : Nat) (v : BitVec 32) : (s.writeFw path o v).Legal := by
  unfold State.writeFw
  (repeat' split)
  · exact h.of_conf (State.modCore_conf ..)
  · exact h.of_conf (State.kick_conf ..)
  · exact h
  · exact h.withFw _
  · exact h.withFw _
  · exact h.of_conf (State.loadCtrl_conf ..)
  · exact h.ringBase ..
  · exact h.ringBase ..
  · exact h.of_conf (State.cmdProdWrite_conf ..)
  · exact h.ringBase ..
  · exact h.ringBase ..
  · exact h.of_conf (State.evtConsWrite_conf ..)
  · exact h.vectorWrite _ fun on x => h.withMgmt h.cmdRing h.evtRing h.save
  · exact h.withMgmt h.cmdRing h.evtRing (setAddr_mod _ _ 6 _ (by decide))
  · exact h.withMgmt h.cmdRing h.evtRing (setAddr_mod _ _ 6 _ (by decide))
  · exact h

theorem State.Legal.endorseCommit {s : State} (h : s.Legal) : s.endorseCommit.Legal := by
  unfold State.endorseCommit
  split
  · exact h
  · exact (h.withIdent _).of_conf (State.shIrq_conf ..)

theorem State.Legal.endorseCtrl {s : State} (h : s.Legal) (v : BitVec 32) : (s.endorseCtrl v).Legal := by
  have hcommit : ∀ t : State, t.Legal → (if v.getLsbD 1 then t.endorseCommit else t).Legal := by
    intro t ht
    split
    · exact ht.endorseCommit
    · exact ht
  exact hcommit _ (h.of_conf (State.ite_conf (State.endorseBegin_conf s)))

theorem State.Legal.writeIdent {s : State} (h : s.Legal) (o : Nat) (v : BitVec 32) : (s.writeIdent o v).Legal := by
  unfold State.writeIdent
  split
  · exact h.endorseCtrl v
  · exact h.of_conf (State.endorseData_conf ..)
  · exact h.withIdent _
  · exact h.withIdent _
  · exact h.withIdent _
  · exact h

theorem State.Legal.modMsixEntry {s : State} (h : s.Legal) (k : Nat) (f : MsixEntry → MsixEntry) : (s.modMsixEntry k f).Legal :=
  { h with msix := tabWf_tabSet _ _ h.msix }

theorem State.Legal.writeMsix {s : State} (h : s.Legal) (o : Nat) (v : BitVec 32) : (s.writeMsix o v).Legal := by
  unfold State.writeMsix
  split
  · exact h
  · exact h.modMsixEntry ..

/-! ### Registers of the engine slice -/

theorem State.Legal.setRoot {s : State} (h : s.Legal) (p : Nat) (r : Root) : (s.setRoot p r).Legal :=
  { h with roots := tabWf_tabSet _ _ h.roots }

theorem State.Legal.rootWrite {s : State} (h : s.Legal) (p : Nat) (hi : Bool) (v : BitVec 32) : (s.rootWrite p hi v).Legal := by
  unfold State.rootWrite
  split
  · exact h
  · exact h.setRoot ..

theorem State.Legal.hostWinWrite {s : State} (h : s.Legal) (k reg : Nat) (v : BitVec 32) : (s.hostWinWrite k reg v).Legal := by
  have hset : ∀ w, (s.setHostWin k w).Legal := fun w => { h with hostWins := tabWf_tabSet _ _ h.hostWins }
  unfold State.hostWinWrite
  (repeat' split) <;> first | exact h | exact hset _

/-- A landing ring's write keeps the configuration legal if what it writes is. -/
theorem State.Legal.setLanding {s : State} (h : s.Legal) (p : Nat) {l : Landing} (hring : ringOk l.valid l.sizeLog2 = true)
    (hbase : l.base.toNat % 4096 = 0) : (s.setLanding p l).Legal := by
  refine { h with landings := fun x hx => ?_ }
  obtain ⟨j, hj, rfl⟩ := List.mem_map.mp hx
  simp only [State.setLanding, tabGet_tabSet]
  split
  · exact ⟨hring, hbase⟩
  · exact h.landings _ (List.mem_map.mpr ⟨j, hj, rfl⟩)

/-- A legal configuration's landing ring of a partition. -/
theorem State.Legal.landing {s : State} (h : s.Legal) {p : Nat} (hp : p < 16) :
    ringOk (s.landing p).valid (s.landing p).sizeLog2 = true ∧ (s.landing p).base.toNat % 4096 = 0 :=
  h.landings _ (List.mem_map.mpr ⟨p, List.mem_range.mpr hp, rfl⟩)

/-- The size field of a ring's register, as both ring registers check it. -/
theorem ringOk_checked (v : Nat) {valid : Bool} (h : valid = true → 6 ≤ bits v 4 0 ∧ bits v 4 0 ≤ 16) :
    ringOk valid (BitVec.ofNat 5 (bits v 4 0)) = true := by
  have hlt : bits v 4 0 < 2 ^ 5 := Nat.mod_lt _ (by decide)
  have hsize : (BitVec.ofNat 5 (bits v 4 0)).toNat = bits v 4 0 := by rw [BitVec.toNat_ofNat, Nat.mod_eq_of_lt hlt]
  cases valid with
  | false => rfl
  | true => simpa [ringOk, hsize] using h rfl

theorem State.Legal.landCfgWrite {s : State} (h : s.Legal) {p : Nat} (hp : p < 16) (v : BitVec 32) : (s.landCfgWrite p v).Legal := by
  unfold State.landCfgWrite
  split
  · exact h
  · refine h.setLanding p (ringOk_checked _ fun hv => ?_) (h.landing hp).2
    simp only [Bool.and_eq_true, decide_eq_true_eq] at hv
    exact ⟨hv.1.1.2, hv.1.2⟩

theorem State.Legal.landBase {s : State} (h : s.Legal) {p : Nat} (hp : p < 16) (i : Nat) (v : BitVec 32) : (s.landBase p i v).Legal := by
  unfold State.landBase
  split
  · exact h.setLanding p (h.landing hp).1 (setAddr_mod _ _ 12 _ (by decide))
  · exact h

theorem State.Legal.writeLanding {s : State} (h : s.Legal) {p : Nat} (hp : p < 16) (o : Nat) (v : BitVec 32) :
    (s.writeLanding_ p o v).Legal := by
  unfold State.writeLanding_
  split
  · exact h.landBase hp ..
  · exact h.landBase hp ..
  · exact h.landCfgWrite hp ..
  · exact h.of_conf (State.landConsWrite_conf ..)
  · exact h

theorem State.Legal.writeInv {s : State} (h : s.Legal) (o : Nat) (v : BitVec 32) : (s.writeInv o v).Legal := by
  unfold State.writeInv
  split
  · exact h.withInv h.fence
  · exact h.withInv h.fence
  · exact h.withInv h.fence
  · exact h.of_conf (State.invGo_conf ..)
  · exact h.withInv (setAddr_mod _ _ 4 _ (by decide))
  · exact h.withInv (setAddr_mod _ _ 4 _ (by decide))
  · exact h.vectorWrite _ fun on x => h.withInv h.fence
  · exact h

theorem State.Legal.writeEn {s : State} (h : s.Legal) (o : Nat) (v : BitVec 32) : (s.writeEn o v).Legal := by
  unfold State.writeEn
  split
  · exact h.rootWrite ..
  split
  · exact h.hostWinWrite ..
  split
  · rename_i hr
    simp only [inRange, Bool.and_eq_true, decide_eq_true_eq] at hr
    exact h.writeLanding (by omega) ..
  split
  · exact h.writeInv ..
  split
  · exact h.of_conf (State.resume_conf ..)
  split
  · exact h.of_conf (State.portCtrl_conf ..)
  · exact h

/-! ### Registers of the hold slice -/

/-- What every operation of a list keeps, the whole list keeps. -/
theorem State.Legal.each {α : Type} {f : α → State → State} (hf : ∀ x (t : State), t.Legal → (f x t).Legal) (l : List α)
    {s : State} (h : s.Legal) : (eachOf f l s).Legal := by
  induction l generalizing s with
  | nil => exact h
  | cons x xs ih => exact ih (hf x s h)

theorem State.Legal.tideModeWrite {s : State} (h : s.Legal) (w : Nat) (v : BitVec 32) : (s.tideModeWrite w v).Legal := by
  refine h.each (fun j t ht => ?_) _
  split
  · exact { ht with packets := tabWf_tabSet _ _ ht.packets }
  · exact ht

theorem State.Legal.writeHd {s : State} (h : s.Legal) (o : Nat) (v : BitVec 32) : (s.writeHd o v).Legal := by
  unfold State.writeHd
  (repeat' split)
  · exact h.of_conf (State.partCtrl_conf ..)
  · exact h
  · exact h.tideModeWrite ..
  · exact h.withHold _
  · exact h.withAlloc (setAddr_mod _ _ 12 _ (by decide))
  · exact h.withAlloc (setAddr_mod _ _ 12 _ (by decide))
  · exact h.of_conf (State.jnlConsWrite_conf ..)
  · exact h.vectorWrite _ fun on x => h.withAlloc h.journal
  · exact h

theorem State.Legal.writeHealth {s : State} (h : s.Legal) (o : Nat) (v : BitVec 32) : (s.writeHealth o v).Legal := by
  have hbase : ∀ i, (s.rasBase i v).Legal := by
    intro i
    unfold State.rasBase
    split
    · exact h
    · exact h.withRas h.rasRing (setAddr_mod _ _ 12 _ (by decide))
  unfold State.writeHealth
  split
  · exact h.withThermal _
  · exact hbase 0
  · exact hbase 1
  · refine h.withRas (ringOk_checked _ fun hv => ?_) h.rasBase
    obtain ⟨⟨-, h6⟩, h16⟩ : (_ ∧ 6 ≤ bits v.toNat 4 0) ∧ bits v.toNat 4 0 ≤ 16 := by simpa using hv
    exact ⟨h6, h16⟩
  · exact h.of_conf (State.rasConsWrite_conf ..)
  · exact h.vectorWrite _ fun on x => h.withRas h.rasRing h.rasBase
  · exact h

/-! ### Attached caches -/

theorem tabRising_le {α : Type} {t : Tab α} {lo : Nat} (h : tabRising lo t = true) {e : Nat × α} (he : e ∈ t) : lo ≤ e.1 := by
  induction t generalizing lo with
  | nil => cases he
  | cons x t ih =>
    simp only [tabRising, Bool.and_eq_true, decide_eq_true_eq] at h
    obtain rfl | he := List.mem_cons.mp he
    · exact h.1
    · exact (Nat.le_succ_of_le h.1).trans (ih h.2 he)

/-- A listed entry of a table in canonical form is what its index reads. -/
theorem tabGet_of_mem {α : Type} (d : α) {t : Tab α} {lo : Nat} (h : tabRising lo t = true) {e : Nat × α} (he : e ∈ t) :
    tabGet d t e.1 = e.2 := by
  induction t generalizing lo with
  | nil => cases he
  | cons x t ih =>
    simp only [tabRising, Bool.and_eq_true, decide_eq_true_eq] at h
    obtain rfl | he := List.mem_cons.mp he
    · exact if_pos rfl
    · have hne : x.1 ≠ e.1 := Nat.ne_of_lt (tabRising_le h.2 he)
      exact (if_neg hne).trans (ih h.2 he)

/-- An entry of a table written at one index is the one written or one of another index. -/
theorem mem_tabSet {α : Type} [DecidableEq α] {d v : α} {t : Tab α} (h : tabWf d t = true) {k : Nat} {e : Nat × α}
    (he : e ∈ tabSet d t k v) : e = (k, v) ∨ (e ∈ t ∧ e.1 ≠ k) := by
  have hwf := tabWf_tabSet k v h
  simp only [tabWf, Bool.and_eq_true] at hwf
  have hval : tabGet d (tabSet d t k v) e.1 = e.2 := tabGet_of_mem d hwf.1 he
  by_cases hk : e.1 = k
  · rw [hk, tabGet_tabSet_self] at hval
    exact .inl (Prod.ext hk hval.symm)
  · refine .inr ⟨?_, hk⟩
    unfold tabSet at he
    split at he
    · exact mem_tabErase he
    · exact (mem_tabPut he).resolve_left fun heq => hk (congrArg Prod.fst heq)

theorem attachOk_iff {t : Tab (BitVec 32)} : attachOk t = true ↔ tabWf 0 t = true ∧
    (∀ e ∈ t, 2 ≤ e.1 ∧ e.1 ≤ 7 ∧ bits e.2.toNat 30 12 = 0) ∧
    ∀ e ∈ t, ∀ f ∈ t, e.1 ≠ f.1 → e.2.getLsbD 31 = true → f.2.getLsbD 31 = true → bits e.2.toNat 11 0 ≠ bits f.2.toNat 11 0 := by
  simp only [attachOk, Bool.and_eq_true, List.all_eq_true, decide_eq_true_eq, beq_iff_eq, Bool.or_eq_true, Bool.not_eq_true',
    bne_iff_ne, and_assoc, ← Bool.not_eq_true]
  refine and_congr_right fun _ => and_congr_right fun _ => forall₄_congr fun e _ f _ => ?_
  tauto

/-- Writing one attach register keeps the list of attached caches legal if the word has no reserved bit and, where it is valid, names one
that no other valid one names (14 R336). -/
theorem attachOk_tabSet {t : Tab (BitVec 32)} (h : attachOk t = true) {i : Nat} (h2 : 2 ≤ i) (h7 : i ≤ 7) {w : BitVec 32}
    (hrsv : bits w.toNat 30 12 = 0)
    (hdup : w.getLsbD 31 = true → ∀ e ∈ t, e.1 ≠ i → e.2.getLsbD 31 = true → bits e.2.toNat 11 0 ≠ bits w.toNat 11 0) :
    attachOk (tabSet 0 t i w) = true := by
  rw [attachOk_iff] at h ⊢
  obtain ⟨hwf, hform, hpair⟩ := h
  refine ⟨tabWf_tabSet i w hwf, fun e he => ?_, fun e he f hf hne hve hvf => ?_⟩
  · obtain rfl | ⟨he, -⟩ := mem_tabSet hwf he
    · exact ⟨h2, h7, hrsv⟩
    · exact hform e he
  · obtain rfl | ⟨he, hei⟩ := mem_tabSet hwf he
    · obtain rfl | ⟨hf, hfi⟩ := mem_tabSet hwf hf
      · exact absurd rfl hne
      · exact (hdup hve f hf hfi hvf).symm
    · obtain rfl | ⟨hf, -⟩ := mem_tabSet hwf hf
      · exact hdup hvf e he hei hve
      · exact hpair e he f hf hne hve hvf

/-- The word an attach register takes: an ID and its valid bit. -/
def attachWord (inst : Nat) (valid : Bool) : BitVec 32 := BitVec.ofNat 32 (inst + 2 ^ 31 * b2n valid)

theorem attachWord_toNat {inst : Nat} (h : inst < 2 ^ 12) (valid : Bool) : (attachWord inst valid).toNat = inst + 2 ^ 31 * b2n valid := by
  rw [attachWord, BitVec.toNat_ofNat]
  cases valid <;> simp only [b2n, Bool.false_eq_true, if_true, if_false] <;> omega

theorem attachWord_fields {inst : Nat} (h : inst < 2 ^ 12) (valid : Bool) :
    bits (attachWord inst valid).toNat 30 12 = 0 ∧ bits (attachWord inst valid).toNat 11 0 = inst ∧
      (attachWord inst valid).getLsbD 31 = valid := by
  rw [BitVec.getLsbD, attachWord_toNat h, Nat.testBit_eq_decide_div_mod_eq]
  simp only [bits, Nat.shiftRight_eq_div_pow]
  cases valid <;> simp only [b2n, Bool.false_eq_true, if_true, if_false, decide_eq_true_eq, decide_eq_false_iff_not] <;> omega

/-- A listed attach register is that of a peer cache, and holds what is listed. -/
theorem State.Legal.attach_read {s : State} (h : s.Legal) {e : Nat × BitVec 32} (he : e ∈ s.home.attach) :
    e.1 ∈ [2, 3, 4, 5, 6, 7] ∧ s.cacheOn e.1 = e.2.getLsbD 31 ∧ s.cacheInst e.1 = bits e.2.toNat 11 0 := by
  obtain ⟨hwf, hform, -⟩ := attachOk_iff.mp h.attach
  obtain ⟨h2, h7, -⟩ := hform e he
  simp only [tabWf, Bool.and_eq_true] at hwf
  have hread : s.attach e.1 = e.2 := tabGet_of_mem 0 hwf.1 he
  have hmem : e.1 ∈ [2, 3, 4, 5, 6, 7] := by simp only [List.mem_cons, List.not_mem_nil]; omega
  exact ⟨hmem, by rw [State.cacheOn, if_neg (by omega), hread], by rw [State.cacheInst, hread]⟩

theorem State.Legal.attachReg {s : State} (h : s.Legal) {i : Nat} (h7 : i ≤ 7) (v : BitVec 32) : (s.attachReg i v).Legal := by
  unfold State.attachReg
  split
  · exact h
  rename_i h2
  unfold State.attachWrite
  dsimp only
  (repeat' split)
  · exact h
  · exact h
  obtain ⟨hrsv, hinst, hvalid⟩ := attachWord_fields (inst := bits v.toNat 11 0) (Nat.mod_lt _ (by decide))
    (v.getLsbD 31 && bits v.toNat 11 0 != s.ownId &&
      !([2, 3, 4, 5, 6, 7].any fun j => j != i && s.cacheOn j && s.cacheInst j == bits v.toNat 11 0))
  refine State.Legal.of_conf ?_ (State.forget_conf ..)
  refine { h with attach := attachOk_tabSet h.attach (by omega) h7 hrsv fun hv e he hei hon heq => ?_ }
  obtain ⟨hmem, hcache, hnames⟩ := h.attach_read he
  have hfree := List.any_eq_false.mp ((Bool.not_eq_true' _).mp (Bool.and_eq_true_iff.mp (hvalid.symm.trans hv)).2) e.1 hmem
  exact hfree (by rw [hcache, hon, hnames, heq.trans hinst, bne_iff_ne.mpr hei]; exact beq_self_eq_true _)

/-! ### Every register -/

theorem State.Legal.apCtrl {s : State} (h : s.Legal) (v : BitVec 32) : (s.apCtrl v).Legal := { h with }

theorem State.Legal.ite {p : Prop} [Decidable p] {t u : State} (ht : p → t.Legal) (hu : ¬ p → u.Legal) : (if p then t else u).Legal := by
  split
  · exact ht ‹p›
  · exact hu ‹¬ p›

theorem State.Legal.regWrite {s : State} (h : s.Legal) (path : Path) (a : Nat) (v : BitVec 32) : (s.regWrite path a v).Legal := by
  have hattach : inRange a 0x2D0000 0x20 = true → (s.attachReg ((a - 0x2D0000) / 4) v).Legal := by
    intro hr
    simp only [inRange, Bool.and_eq_true, decide_eq_true_eq] at hr
    exact h.attachReg (by omega) v
  unfold State.regWrite
  refine .ite (fun _ => h.of_conf (State.writeGlobal_conf ..)) fun _ => .ite (fun _ => h.writeFw ..)
    fun _ => .ite (fun _ => h.writeIdent ..) fun _ => .ite (fun _ => h.writeMsix ..) fun _ => .ite (fun _ => h.writeEn ..) fun _ => .ite (fun _ => h.writeHd ..)
    fun _ => .ite (fun _ => h.of_conf (State.writeChan_conf ..)) fun _ => .ite (fun _ => h.of_conf (State.writeQueue_conf ..))
    fun _ => .ite (fun _ => .ite (fun _ => h.of_conf (State.tideLoWrite_conf ..)) fun _ => h.of_conf (State.tideHiWrite_conf ..))
    fun _ => .ite hattach fun _ => .ite (fun _ => h.apCtrl v) fun _ => .ite (fun _ => h.writeHealth ..)
    fun _ => .ite (fun _ => h.of_conf (State.writeClock_conf ..)) fun _ => h

theorem State.Legal.onPath {s : State} (h : s.Legal) (path : Path) (a : Nat) {f : State → State} (hf : (f s).Legal) :
    (s.onPath path a f).Legal := by
  unfold State.onPath
  split
  · exact hf.of_conf (State.written_conf ..)
  · exact h.of_conf (State.unreached_conf ..)

theorem State.Legal.registerWritten {s : State} (h : s.Legal) (path : Path) (a : Nat) (v : BitVec 32) :
    (s.registerWritten path a v).Legal := by
  have hwrite := h.onPath path a (f := fun t => t.regWrite path a v) (h.regWrite path a v)
  unfold State.registerWritten
  dsimp only
  split
  · exact hwrite.of_conf (State.settle_conf _)
  · exact hwrite

/-! ### Reset, start and the release of a partition -/

theorem State.Legal.coldAssert {s : State} (h : s.Legal) (sl : Slice) : (s.coldAssert sl).Legal := by
  have hland : ∀ l ∈ landConf [], ringOk l.2.2 l.2.1 = true ∧ l.1.toNat % 4096 = 0 := by
    intro l hl
    obtain ⟨p, -, rfl⟩ := List.mem_map.mp hl
    exact ⟨rfl, rfl⟩
  cases sl with
  | sh => exact { h with cmdRing := rfl, evtRing := rfl, save := rfl, policy := Nat.zero_lt_two, msix := rfl }
  | en => exact { h with roots := rfl, hostWins := rfl, fence := rfl, landings := hland }
  | hd => exact { h with journal := rfl, rasRing := rfl, rasBase := rfl, attach := rfl, packets := rfl }

theorem State.Legal.fuseRead {s : State} (h : s.Legal) (uds : BitVec 256) (keyHash : BitVec 384) (policy : BitVec 16) :
    (s.fuseRead uds keyHash policy).Legal := by
  have hpolicy : (if policy.toNat < 2 then policy else 0).toNat < 2 := by
    split
    · assumption
    · exact Nat.zero_lt_two
  unfold State.fuseRead
  split
  · refine State.Legal.of_conf (s := { s with fuses := _ }) ?_ (State.startGo_conf ..)
    exact { h with policy := hpolicy }
  · exact h

theorem State.Legal.selfTest {s : State} (h : s.Legal) (f : UnitSet) : (s.selfTest f).Legal := by
  have hfence : ∀ (x : UnitSet) (l : List UnitRef), State.Legal { s with fenced := x, gated := l } := fun _ _ => { h with }
  unfold State.selfTest
  refine .ite (fun _ => h) fun _ => ?_
  have hunits := fun (x : UnitSet) (l : List UnitRef) (p q : Nat → Bool) => (((hfence x l).each
    (f := fun c t => if p c then t.modCore c (fun k => { k with state := .fenced }) else t)
    (fun c t ht => .ite (fun _ => ht.of_conf (State.modCore_conf ..)) fun _ => ht) (List.range 7)).each
    (f := fun c t => if q c then t.modChan c (fun k => { k with state := .fenced }) else t)
    (fun c t ht => .ite (fun _ => ht.of_conf (State.modChan_conf ..)) fun _ => ht) (List.range 64)).each
    (fun u t ht => ht.of_conf (State.fenceRecord_conf u t)) (unitsOf f)
  exact .ite (fun _ => (hunits _ _ _ _).of_conf (State.stopStart_conf ..)) fun _ => (hunits _ _ _ _).of_conf (State.startGo_conf ..)

theorem State.Legal.chartAccept {s : State} (h : s.Legal) (c : Chart) (image : Bytes) : (s.chartAccept c image).Legal := by
  have hchart : ∀ x : ChartUnit, State.Legal { s with chart := x } := fun _ => { h with }
  have hload : (s.loadChart c image).Legal := by
    refine (hchart _).of_conf ((eachOf_conf ?_ _ _).trans ((eachOf_conf ?_ _ _).trans (eachOf_conf ?_ _ _)))
    · exact fun e t => State.setPipe_conf ..
    · exact fun e t => (State.setBurstTear_conf ..).trans (State.setPart_conf ..)
    · exact fun sl t => State.modClock_conf ..
  have hload := hload.of_conf (State.shIrq_conf _ 1)
  unfold State.chartAccept
  dsimp only
  (repeat' split)
  · exact hload.of_conf (State.startGo_conf ..)
  · exact hload.of_conf (State.enter11_conf ..)
  · exact hload

theorem State.Legal.chartCheck {s : State} (h : s.Legal) : s.chartCheck.Legal := by
  unfold State.chartCheck
  split
  · exact h
  dsimp only
  split
  · exact h.of_conf (State.chartReject_conf ..)
  · exact h.chartAccept ..

theorem State.Legal.deriveDevice {s : State} (h : s.Legal) : s.deriveDevice.Legal := by
  unfold State.deriveDevice
  split
  · exact h
  · exact (h.withIdent _).of_conf (State.startGo_conf ..)

theorem State.Legal.releaseScrub {s : State} (h : s.Legal) (p : Nat) : (s.releaseScrub p).Legal := by
  unfold State.releaseScrub
  split
  · exact h
  next e _ =>
    have hslots := fun x l => (h.withTide (x := { s.tide with values := x }) h.packets).each (f := fun n t => t.resetSlot n)
      (fun _ _ ht => ht.of_conf (State.resetSlot_conf ..)) l
    have hvec := fun x l q k => ((hslots x l).withQueues q).each
      (f := fun v t => (t.modMsixEntry v (fun x => { x with mask := true })).setPendingBit v false)
      (fun v t ht => (ht.modMsixEntry v _).of_conf (State.setPendingBit_conf ..)) k
    exact (((hvec _ _ _ _).setLanding p rfl rfl).setRoot p {}).of_conf (State.setHoldUsed_conf ..)

theorem State.Legal.releaseEnd {s : State} (h : s.Legal) : s.releaseEnd.Legal := by
  unfold State.releaseEnd
  split
  · exact h
  split
  · exact h.of_conf (eachOf_conf State.recallLate_conf _ _)
  · rename_i j _
    exact (h.releaseScrub j.part).of_conf (State.respond_conf ..)

/-! ### Every step -/

/-- The commands of `Instr.configures` keep the configuration legal. -/
theorem exec_legal {s t : State} (h : s.Legal) : ∀ {c : Instr}, c.configures = true → exec c s = .next t → t.Legal := by
  have hnext : ∀ {u : State}, u.Legal → (Host.Outcome.next u : Host.Outcome State Fault Refusal) = .next t → t.Legal :=
    fun hu he => Host.Outcome.next.inj he ▸ hu
  have htold : ∀ {u : State}, u.Legal → (u.startTold s).Legal := fun hu => hu.of_conf (State.startTold_conf ..)
  intro c hc
  cases c with
  | porNAssert sl => exact hnext ((h.coldAssert sl).of_conf (State.settle_conf _))
  | fuseRead uds keyHash policy => exact hnext (htold (h.fuseRead ..))
  | selfTestComplete failed => exact hnext (htold (h.selfTest failed))
  | chartCheckComplete => exact hnext ((htold h.chartCheck).of_conf (State.chartTold_conf ..))
  | deviceidDerivation => exact hnext (htold h.deriveDevice)
  | shIdEndorseCommit path => exact hnext (h.onPath path _ (f := fun t => t.endorseCommit) h.endorseCommit)
  | registerWrite path a v => exact hnext (h.registerWritten path a.toNat v)
  | hdApClear path v => exact hnext (h.onPath path _ (f := fun t => t.apCtrl v) (h.apCtrl v))
  | hdWinAttachWrite path i v => exact hnext (h.onPath path _ (f := fun t => t.attachReg i v) (h.attachReg (Nat.le_of_lt_succ i.isLt) v))
  | hdTideModeWrite path w v => exact hnext (h.onPath path _ (f := fun t => t.tideModeWrite w v) (h.tideModeWrite ..))
  | enHostwinWrite path k reg v => exact hnext (h.onPath path _ (f := fun t => t.hostWinWrite k reg v) (h.hostWinWrite ..))
  | enRootWrite path p hi v => exact hnext (h.onPath path _ (f := fun t => t.rootWrite p hi v) (h.rootWrite ..))
  | enLandCfgWrite path p v => exact hnext (h.onPath path _ (f := fun t => t.landCfgWrite p v) (h.landCfgWrite p.isLt v))
  | partitionReleaseComplete => exact hnext (h.releaseEnd.of_conf (State.settle_conf _))
  | _ => cases hc

/-- Settles O59: a root cycle and a command outside `Instr.configures` change no configuration, and each of the others writes it in a
legal way. -/
theorem everyStepKeepsConfigurationLegal : Obligations.EveryStepKeepsConfigurationLegal := by
  unfold Obligations.EveryStepKeepsConfigurationLegal
  intro s t h hstep
  rw [Conf.legal_iff] at h ⊢
  unfold step at hstep
  split at hstep
  next c rest _ =>
    have hrest : State.Legal { s with pending := rest } := h
    cases hc : c.configures with
    | true => exact exec_legal hrest hc hstep
    | false => exact hrest.of_conf (exec_conf hc hstep)
  next _ =>
    have hs : s.Legal := h
    exact hs.of_conf (State.conf_of_next hstep (State.tick_conf s))

end Sys2Proof.Machine

/-! Peer ports (02 R36 to R38; 11 R268 to R280): an operation on one port leaves the others and the rest of the block. -/

namespace Sys2Proof.Machine

/-- A later state differs from an earlier one at most in one peer port, in what has been driven, and in the counts of drawn values. -/
structure State.OnPort (p : Nat) (s t : State) : Prop where
  eq : t = { s with peers := t.peers, out := t.out, rand := t.rand, nextTag := t.nextTag }
  other : ∀ j, j ≠ p → t.peer j = s.peer j

section
variable {p : Nat} {s t u : State}

theorem State.OnPort.refl : s.OnPort p s := ⟨rfl, fun _ _ => rfl⟩

theorem State.OnPort.trans (h : s.OnPort p t) (h' : t.OnPort p u) : s.OnPort p u :=
  ⟨by rw [h'.eq, h.eq], fun j hj => (h'.other j hj).trans (h.other j hj)⟩

/-- What does not speak of the ports, of what has been driven and of drawn values is as it was. -/
theorem State.OnPort.keeps (h : s.OnPort p t) {β : Type} (g : State → β)
    (hg : ∀ (x : State) a b c d, g { x with peers := a, out := b, rand := c, nextTag := d } = g x) : g t = g s := by
  rw [h.eq, hg]

theorem State.onPort_setPeer (s : State) (p : Nat) (v : PeerPort) : s.OnPort p (s.setPeer p v) :=
  ⟨rfl, fun j hj => by rw [State.peer_setPeer, if_neg hj]⟩

theorem State.onPort_modPeer (s : State) (p : Nat) (f : PeerPort → PeerPort) : s.OnPort p (s.modPeer p f) := s.onPort_setPeer p _

theorem State.onPort_drive (s : State) (p : Nat) (o : Out) : s.OnPort p (s.drive o) := ⟨rfl, fun _ _ => rfl⟩

theorem State.onPort_ite {c : Prop} [Decidable c] (ht : c → s.OnPort p t) (hu : ¬ c → s.OnPort p u) : s.OnPort p (if c then t else u) := by
  split
  · exact ht ‹c›
  · exact hu ‹¬ c›

theorem State.onPort_eachOf {α : Type} {f : α → State → State} (h : ∀ x t, State.OnPort p t (f x t)) (l : List α) (s : State) :
    s.OnPort p (eachOf f l s) :=
  eachOf_relates (R := State.OnPort p) (fun _ => .refl) (fun _ _ _ h h' => h.trans h') h l s

end

theorem State.onPort_sendFlit (s : State) (p : Nat) (sl : List Bytes) (nak : Bool) : s.OnPort p (s.sendFlit p sl nak) := by
  unfold State.sendFlit
  refine State.onPort_ite (fun _ => .refl) fun _ => State.onPort_ite (fun _ => ?_) fun _ => ?_
  · exact State.onPort_ite (fun _ => s.onPort_setPeer p _) fun _ => .refl
  · exact (s.onPort_setPeer p _).trans (State.onPort_drive _ p _)

theorem State.onPort_sendFlits (p n : Nat) (sl : List Bytes) (s : State) : s.OnPort p (State.sendFlits p n sl s) := by
  induction n generalizing sl s with
  | zero => exact .refl
  | succ n ih =>
    unfold State.sendFlits
    exact State.onPort_ite (fun _ => .refl) fun _ => (s.onPort_sendFlit p _ _).trans (ih _ _)

theorem State.onPort_sendWaiting (p n : Nat) (ks : List Packet) (stuck : List PktClass) (s : State) :
    s.OnPort p (State.sendWaiting p n ks stuck s) := by
  induction n generalizing ks stuck s with
  | zero => exact .refl
  | succ n ih =>
    cases ks with
    | nil => exact .refl
    | cons k ks =>
      unfold State.sendWaiting
      exact State.onPort_ite (fun _ => ih _ _ _) fun _ =>
        ((s.onPort_modPeer p _).trans (State.onPort_sendFlits p 3 _ _)).trans (ih _ _ _)

theorem State.onPort_flushPort (s : State) (p : Nat) : s.OnPort p (s.flushPort p) := State.onPort_sendWaiting ..

theorem State.onPort_queueOn (s : State) (p : Nat) (k : Packet) : s.OnPort p (s.queueOn p k) :=
  (s.onPort_modPeer p _).trans (State.onPort_flushPort _ p)

theorem State.onPort_keyxSend (s : State) (p : Nat) (tag : BitVec 16) : s.OnPort p (s.keyxSend p tag) := s.onPort_queueOn p _

theorem State.onPort_takeTag (s : State) (p : Nat) : s.OnPort p s.takeTag.2 := ⟨rfl, fun _ _ => rfl⟩

theorem State.onPort_draw (s : State) (p : Nat) : s.OnPort p s.draw.2 := ⟨rfl, fun _ _ => rfl⟩

theorem State.onPort_keyxNext (s : State) (p : Nat) : s.OnPort p (s.keyxNext p) := by
  have hsign : ∀ f : PeerPort → PeerPort, s.OnPort p (s.draw.2.modPeer p f) := fun f => (s.onPort_draw p).trans (State.onPort_modPeer _ p f)
  have htag : ∀ (t : State) (f : PeerPort → PeerPort), s.OnPort p t →
      s.OnPort p ((t.takeTag.2.modPeer p f).keyxSend p t.takeTag.1) := fun t f h =>
    ((h.trans (t.onPort_takeTag p)).trans (State.onPort_modPeer _ p f)).trans (State.onPort_keyxSend _ p _)
  unfold State.keyxNext
  refine State.onPort_ite (fun _ => .refl) fun _ => State.onPort_ite (fun _ => .refl) fun _ => State.onPort_ite (fun _ => .refl) fun _ => ?_
  exact htag _ _ (State.onPort_ite (fun _ => hsign _) fun _ => .refl)

theorem State.onPort_keyxBegin (s : State) (p : Nat) : s.OnPort p (s.keyxBegin p) := by
  have hkeys : ∀ (t : State) (f : PeerPort → PeerPort), t.OnPort p ((t.draw.2.draw.2.modPeer p f).keyxNext p) := fun t f =>
    (((t.onPort_draw p).trans (State.onPort_draw _ p)).trans (State.onPort_modPeer _ p f)).trans (State.onPort_keyxNext _ p)
  unfold State.keyxBegin
  exact ((s.onPort_setPeer p _).trans (State.onPort_drive _ p _)).trans (State.onPort_ite (fun _ => .refl) fun _ => hkeys _ _)

theorem State.onPort_peerRise (p : Nat) (s : State) : s.OnPort p (State.peerRise p s) :=
  State.onPort_ite (fun _ => s.onPort_keyxBegin p) fun _ => .refl

/-- Raising ports says nothing of the start. -/
theorem State.raisePorts_start (s : State) : s.raisePorts.start = s.start := by
  unfold State.raisePorts
  refine (eachOf_keeps State.start (fun p t => ?_) _ _).trans (eachOf_keeps State.start (fun n t => ?_) _ _)
  · split
    · exact (State.onPort_peerRise p t).keeps State.start fun _ _ _ _ _ => rfl
    · rfl
  · unfold State.hostRise
    split <;> rfl

end Sys2Proof.Machine

/-! Releases of reset (03 R72, R73; 05 R97). -/

namespace Sys2Proof.Machine

theorem next_congr {x u : State} (h : x = u) : (Host.Outcome.next x : Host.Outcome State Fault Refusal) = .next u := congrArg _ h

theorem next_settle_congr {x u : State} (h : x = u) : (Host.Outcome.next x.settle : Host.Outcome State Fault Refusal) = .next u.settle :=
  next_congr (congrArg State.settle h)

/-- A start that reports nothing new is written and no more. -/
theorem State.setStart_quiet {s : State} {st : StartState} (hready : st.ready = true → s.start.ready = true)
    (hstop : st.stopped = true → s.start.stopped = true) (hwait : st.waiting = true → s.start.waiting = true) :
    s.setStart st = { s with start := st } := by
  unfold State.setStart
  refine if_neg ?_
  cases h1 : st.ready <;> cases h2 : st.stopped <;> cases h3 : st.waiting <;> simp_all

theorem State.setStart_start (s : State) (st : StartState) : (s.setStart st).start = st := by
  unfold State.setStart
  dsimp only
  split
  · exact State.shIrq_start _ _
  · rfl

theorem State.startTold_quiet {s old : State} (hready : s.start.ready = true → old.start.ready = true)
    (hstop : s.start.stopped = true → old.start.stopped = true) : s.startTold old = s := by
  unfold State.startTold
  refine if_neg ?_
  cases h1 : s.start.ready <;> cases h2 : s.start.stopped <;> simp_all

theorem State.clock_modClock (s : State) (sl k : Slice) (f : ClockState → ClockState) :
    (s.modClock sl f).clock k = if k = sl then f (s.clock sl) else s.clock k := s.clock_setClock sl k _

theorem State.clock_modClock_self (s : State) (sl : Slice) (f : ClockState → ClockState) : (s.modClock sl f).clock sl = f (s.clock sl) := by
  rw [State.clock_modClock, if_pos rfl]

theorem State.clock_modClock_other (s : State) {sl k : Slice} (f : ClockState → ClockState) (h : k ≠ sl) :
    (s.modClock sl f).clock k = s.clock k := by rw [State.clock_modClock, if_neg h]

theorem State.warmReset_eq_true {s : State} : s.warmReset = true ↔ ∃ sl, (s.clock sl).wrstN = true := by
  simp only [State.warmReset, List.any_cons, List.any_nil, Bool.or_false, Bool.or_eq_true]
  constructor
  · rintro (h | h | h) <;> exact ⟨_, h⟩
  · rintro ⟨sl, h⟩; cases sl <;> simp [h]

theorem State.linksUp_eq_true {s : State} : s.linksUp = true ↔ ∀ l, (s.link l).up = true := by
  simp only [State.linksUp, List.all_cons, List.all_nil, Bool.and_true, Bool.and_eq_true]
  exact ⟨fun ⟨ha, hb, hc⟩ l => by cases l <;> assumption, fun h => ⟨h _, h _, h _⟩⟩

/-- The clock block at the release of cold reset: its dividers start (03 R73), and the exit count of a warning that has fallen. -/
def ClockState.released (k : ClockState) : ClockState :=
  ClockState.align { k with porN := true, exitCounting := k.ebbSupply && !k.warnPin }

/-- The clock block at the release of warm reset. -/
def ClockState.unheld (k : ClockState) : ClockState :=
  ClockState.align { k with wrstN := false, exitCounting := k.ebbSupply && !k.warnPin }

theorem State.coldRelease_of_held {s : State} {sl : Slice} (h : (s.clock sl).porN = false) :
    let t := s.modClock sl ClockState.released
    s.coldRelease sl = { t with start := if s.start.stopped then s.start
      else { step := if (t.clock .sh).porN && (t.clock .en).porN && (t.clock .hd).porN then 2 else 1 } } := by
  intro t
  have hall : [Slice.sh, .en, .hd].all (fun k => (t.clock k).porN) = ((t.clock .sh).porN && (t.clock .en).porN && (t.clock .hd).porN) := by
    simp only [List.all_cons, List.all_nil, Bool.and_true, Bool.and_assoc]
  unfold State.coldRelease
  rw [if_neg (by simp [h]), ← hall]
  show (if s.start.stopped then t else t.setStart _) = _
  split
  · rfl
  · exact State.setStart_quiet (by simp) (by simp) (by simp)

/-- The release of warm reset where other slices are held goes no further. -/
theorem State.warmGo_of_others_held {s : State} {sl : Slice} (h : (s.clock sl).wrstN = true) (hother : ∃ k, k ≠ sl ∧ (s.clock k).wrstN = true) :
    s.warmGo sl = s.modClock sl ClockState.unheld := by
  obtain ⟨k, hk, hw⟩ := hother
  have hheld : (s.modClock sl ClockState.unheld).warmReset = true :=
    State.warmReset_eq_true.mpr ⟨k, by rw [State.clock_modClock_other _ _ hk]; exact hw⟩
  have hrel : s.warmRelease sl = s.modClock sl ClockState.unheld := by
    unfold State.warmRelease
    rw [h]
    exact if_pos hheld
  unfold State.warmGo
  dsimp only
  rw [hrel, State.startAt, hheld]
  simp

theorem State.warmRelease_of_last {s : State} {sl : Slice} (h : (s.clock sl).wrstN = true) (hlast : ∀ k, k ≠ sl → (s.clock k).wrstN = false) :
    (s.modClock sl ClockState.unheld).warmReset = false ∧
    s.warmRelease sl = (s.modClock sl ClockState.unheld).setStart
      { s.start with step := if s.linksUp then 11 else 3, waiting := s.linksUp } := by
  have hfree : (s.modClock sl ClockState.unheld).warmReset = false := by
    refine Bool.eq_false_iff.mpr fun hw => ?_
    obtain ⟨k, hk⟩ := State.warmReset_eq_true.mp hw
    rw [State.clock_modClock] at hk
    split at hk
    · cases hk
    · rw [hlast k ‹_›] at hk; cases hk
  refine ⟨hfree, ?_⟩
  unfold State.warmRelease
  rw [h]
  exact if_neg (fun hw => Bool.false_ne_true (hfree.symm.trans hw))

/-- Settles O5: what each release does to the slice's clock block and to the start, case by case. -/
theorem releasesOfResetBeginTheStart : Obligations.ReleasesOfResetBeginTheStart := by
  unfold Obligations.ReleasesOfResetBeginTheStart
  refine ⟨fun s sl h => ?_, fun s sl h => ?_, fun s sl h hstop => ⟨fun hother => ?_, fun hlast hdown => ?_, fun hlast hup => ?_⟩⟩
  · exact next_congr (if_pos h)
  · have hclock : ∀ k, (s.coldRelease sl).clock k = (s.modClock sl ClockState.released).clock k := by
      intro k; rw [State.coldRelease_of_held h]; rfl
    have hself := (hclock sl).trans (s.clock_modClock_self sl _)
    refine ⟨s.coldRelease sl, rfl, ?_, ?_, ?_, ?_, ?_, ?_, ?_, ?_, fun k hk => ?_, ?_, ?_⟩
    · rw [hself]; rfl
    · rw [hself]; rfl
    · rw [hself]; rfl
    · rw [hself]; rfl
    · rw [hself]; rfl
    · rw [hself]; rfl
    · rw [hself]; rfl
    · rw [hself]; rfl
    · rw [hclock, State.clock_modClock_other _ _ hk]
    · rw [hclock, hclock, hclock, State.coldRelease_of_held h]
    · rw [State.coldRelease_of_held h]; rfl
  · refine ⟨s.modClock sl ClockState.unheld, ?_, ?_, ?_, ?_, rfl⟩
    · refine next_settle_congr ?_
      rw [State.warmGo_of_others_held h hother]
      exact State.startTold_quiet id id
    · rw [State.clock_modClock_self]; rfl
    · rw [State.clock_modClock_self]; rfl
    · rw [State.clock_modClock_self]; rfl
  · have hlinks : s.linksUp = false := by
      refine Bool.eq_false_iff.mpr fun hu => ?_
      obtain ⟨l, hl⟩ := hdown
      rw [State.linksUp_eq_true.mp hu l] at hl; cases hl
    obtain ⟨-, hrel⟩ := State.warmRelease_of_last h hlast
    rw [hlinks, State.setStart_quiet (s := s.modClock sl ClockState.unheld) (by exact id) (by exact id) (by simp)] at hrel
    have hgo : (s.warmGo sl).startTold s = { s.modClock sl ClockState.unheld with start := { s.start with step := 3, waiting := false } } := by
      have ht : s.warmGo sl = s.warmRelease sl := by
        unfold State.warmGo
        dsimp only
        rw [hrel, State.startAt]
        simp
      rw [ht, hrel]
      exact State.startTold_quiet id id
    refine ⟨_, next_settle_congr hgo, ?_, rfl, rfl⟩
    exact congrArg ClockState.wrstN (s.clock_modClock_self sl ClockState.unheld)
  · obtain ⟨hfree, hrel⟩ := State.warmRelease_of_last h hlast
    rw [State.linksUp_eq_true.mpr hup] at hrel
    have hstart : (s.warmRelease sl).start = { s.start with step := 11, waiting := true } := by rw [hrel, State.setStart_start]; rfl
    have hat : (s.warmRelease sl).startAt 11 = true := by
      have hclear : (s.warmRelease sl).warmReset = false := by
        rw [hrel, ← hfree]; unfold State.warmReset State.clock; rw [State.setStart_clocks]
      simp only [State.startAt, hstart, hclear, hstop]; rfl
    have hgo : s.warmGo sl = (s.warmRelease sl).enter11.raisePorts := by
      unfold State.warmGo; dsimp only; rw [h, hat]; rfl
    have hst : (s.warmGo sl).start = { s.start with step := 11, waiting := true, failure := 0 } := by
      rw [hgo, State.raisePorts_start, State.enter11, State.startGo, State.setStart_start]
      have hnote : (s.warmRelease sl).noteImage.start = (s.warmRelease sl).start := by
        unfold State.noteImage; split
        · rw [State.record_start]
        · rfl
      show { (s.warmRelease sl).noteImage.start with step := 11, waiting := true, failure := 0 } = _
      rw [hnote, hstart]
    refine ⟨(s.warmGo sl).startTold s, rfl, ?_, ?_⟩
    · rw [State.startTold_quiet (by rw [hst]; exact id) (by rw [hst]; exact id), hst]
    · exact (State.startTold_conf ..).trans (State.warmGo_conf ..)

end Sys2Proof.Machine

/-! Bring-up of a slice link (02 R45, R46, R56): a replay that was in hand is forgotten. -/

namespace Sys2Proof.Machine

/-- A cold start at step 3 whose SL-A is down with a damaged group not yet replayed. -/
def damagedBeforeBringUp : State := { start := { step := 3 }, links := [(0, { failed := true })] }

/-- Refutes O6: SLICE_LINK_BRING_UP also clears the record of a damaged group (`failed`, `badReplays`), which the statement's clause for
a link that is not the last leaves as it was; at `damagedBeforeBringUp` the two differ in SL-A's `failed`. -/
theorem not_coldStartStepsAdvance : ¬ Obligations.ColdStartStepsAdvance := by
  unfold Obligations.ColdStartStepsAdvance
  intro h
  obtain ⟨-, -, hbring, -⟩ := h damagedBeforeBringUp rfl rfl rfl
  have hstate := Host.Outcome.next.inj (hbring rfl .slA .sh .hd rfl rfl ⟨.slB, by decide, rfl⟩)
  have hfailed : false = true := congrArg (fun t : State => (t.link .slA).failed) hstate
  cases hfailed

end Sys2Proof.Machine

/-! SETTLED: what a host port answers on the spot (02 R30 to R33; 14 R340). -/

namespace Sys2Proof.Machine

theorem sat32_eq (v : BitVec 32) : sat32 v = if v = 0xFFFFFFFF then v else v + 1 := by
  have hv : v.toNat < 2 ^ 32 := v.isLt
  unfold sat32
  split
  · next h => subst h; decide
  · next h =>
    have hne : v.toNat ≠ 0xFFFFFFFF := fun hc => h (BitVec.eq_of_toNat_eq hc)
    refine BitVec.eq_of_toNat_eq ?_
    rw [BitVec.toNat_ofNat, BitVec.toNat_add, show (1 : BitVec 32).toNat = 1 from rfl]
    omega

theorem State.host_modHost (s : State) (k j : Nat) (f : HostPort → HostPort) :
    (s.modHost k f).host j = if j = k then f (s.host k) else s.host j := State.host_setHost ..

@[simp] theorem State.drive_host (s : State) (o : Out) (k : Nat) : (s.drive o).host k = s.host k := rfl

theorem addressed_eq_false {s : State} {a : Nat} (h : a % 4 ≠ 0 ∨ mapped a = false) : s.addressed a = false := by
  unfold State.addressed
  rcases h with h | h <;> simp [h]

theorem State.bar0Invalid_of_bad {s : State} {n a size : Nat} (hr : (s.host n).readyOut = true)
    (hb : size ≠ 4 ∨ a % 4 ≠ 0 ∨ mapped a = false) : s.bar0Invalid n a size = s.drive (.cplUr n) := by
  unfold State.bar0Invalid
  rcases hb with hs | ha
  · simp [hr, hs]
  · simp [hr, addressed_eq_false ha]

theorem ofNat_append {m n : Nat} (hi : BitVec m) (lo : BitVec n) :
    BitVec.ofNat (m + n) (lo.toNat + hi.toNat * 2 ^ n) = hi ++ lo := by
  have hl : (hi ++ lo).toNat = lo.toNat + hi.toNat * 2 ^ n := by
    rw [BitVec.toNat_append, ← Nat.shiftLeft_add_eq_or_of_lt lo.isLt, Nat.shiftLeft_eq, Nat.add_comm]
  rw [← hl, BitVec.ofNat_toNat, BitVec.setWidth_eq]

/-- A write of BAR0's high half keeps the low one (02 R32). -/
theorem HostPort.configWrite_bar0Hi (h : HostPort) (v : BitVec 32) :
    h.configWrite (roundDown (0x14 : BitVec 12).toNat 4) v = { h with bar0 := v ++ h.bar0.truncate 32 } := by
  have hw : BitVec.ofNat 64 (h.bar0.toNat % 2 ^ 32 + v.toNat * 2 ^ 32) = v ++ h.bar0.truncate 32 := by
    rw [← ofNat_append, BitVec.truncate_eq_setWidth, BitVec.toNat_setWidth]
  exact congrArg (fun x => { h with bar0 := x }) hw

theorem State.configRequest_write {s : State} {n : Nat} {reg : BitVec 12} {v : BitVec 32} (hr : (s.host n).readyOut = true) :
    s.configRequest n true reg v = (s.modHost n (fun h => h.configWrite (roundDown reg.toNat 4) v)).drive (.cplOk n) := by
  simp [State.configRequest, hr]

/-- The register at 0 holds the chart's IDs (02 R34). -/
theorem State.configRequest_readIds {s : State} {n : Nat} (hr : (s.host n).readyOut = true) :
    s.configRequest n false 0 0 =
      s.drive (.cplData n ((s.theChart.ports.deviceId ++ s.theChart.ports.vendorId).zeroExtend 64)) := by
  have hv : s.configValue n (roundDown (0 : BitVec 12).toNat 4) =
      (s.theChart.ports.deviceId ++ s.theChart.ports.vendorId, s) := by
    rw [← ofNat_append]; rfl
  simp only [State.configRequest, hr, hv, Bool.not_true, Bool.false_eq_true, if_false]

theorem State.hostCome_open {s : State} {n : Nat} {m : HostMsg} (hr : (s.host n).readyOut = true)
    (hs : s.warmStart = false) (hw : s.warmReset = false) : s.hostCome n m = s.hostTake n m := by
  simp [State.hostCome, hr, hs, hw]

theorem State.hostCome_held {s : State} {n : Nat} {m : HostMsg} (hr : (s.host n).readyOut = true)
    (h : s.warmStart = true ∨ s.warmReset = true) :
    s.hostCome n m = { s with home := { s.home with hostHeld := s.home.hostHeld ++ [(n, m)] } } := by
  rcases h with h | h <;> simp [State.hostCome, hr, h]

/-- Settles O15: each request goes to the one operation of the port that answers it. -/
theorem hostRequestsAnsweredOnTheSpot : Obligations.HostRequestsAnsweredOnTheSpot := by
  intro s n hr
  refine ⟨fun w a size hb => congrArg Host.Outcome.next (State.bar0Invalid_of_bad hr hb), ?_, ?_, ?_, ?_, ?_, ?_, ?_, fun _ => rfl⟩
  · exact congrArg Host.Outcome.next (if_pos hr)
  · exact fun _ _ => congrArg Host.Outcome.next (if_pos hr)
  · intro off size hb
    have hno : (!(s.host n).readyOut || (size == 8 && off.toNat % 4096 == 0)) = false := by
      rcases hb with hb | hb <;> simp [hr, hb]
    refine congrArg Host.Outcome.next ?_
    unfold State.bar2Write
    rw [hno, sat32_eq]
    rfl
  · intro v
    refine ⟨_, congrArg Host.Outcome.next (State.configRequest_write hr), ?_, ?_, rfl, rfl⟩
    · rw [State.drive_host, State.host_modHost, if_pos rfl, HostPort.configWrite_bar0Hi]
    · exact fun j hj => (State.drive_host ..).trans ((State.host_modHost ..).trans (if_neg hj))
  · exact congrArg Host.Outcome.next (State.configRequest_readIds hr)
  · exact fun a hs hw => congrArg Host.Outcome.next (State.hostCome_open hr hs hw)
  · exact fun a h => congrArg Host.Outcome.next (State.hostCome_held hr h)

end Sys2Proof.Machine

/-! SETTLED: register writes on their paths (14 R336, R349, R357; 16 R383; 17 R412, R418). -/

namespace Sys2Proof.Machine

theorem State.onPath_reached {s : State} {path : Path} {a : Nat} (h : s.reach path a = true) (f : State → State) :
    s.onPath path a f = (f s).written path := if_pos h

theorem State.onPath_unreached {s : State} {path : Path} {a : Nat} (h : s.reach path a = false) (f : State → State) :
    s.onPath path a f = s.unreached path a := if_neg (by simp [h])

/-! ### Interrupts -/

theorem State.shIrqSet_quiet {s : State} {status enable : BitVec 10} {valid : Bool} {vector : BitVec 11}
    (h : valid = true → status &&& enable ≠ 0 → s.irq.status &&& s.irq.enable ≠ 0 ∧ s.irq.vecValid = true) :
    s.shIrqSet status enable valid vector =
      { s with irq := { s.irq with status := status, enable := enable, vecValid := valid, vector := vector } } := by
  unfold State.shIrqSet
  refine if_neg fun hc => ?_
  simp only [Bool.and_eq_true, Bool.not_eq_true', bne_iff_ne, Bool.and_eq_false_iff] at hc
  obtain ⟨⟨hwas, hnow⟩, hvalid⟩ := hc
  obtain ⟨hst, hv⟩ := h hvalid hnow
  rcases hwas with hz | hz
  · exact hst (by simpa using hz)
  · exact absurd hv (by simp [hz])

/-- Fewer bits of status under the same enable: the AND cannot newly leave zero (17 R418). -/
theorem State.irqClear_eq (s : State) (v : BitVec 32) :
    s.irqClear v = { s with irq := { s.irq with status := s.irq.status &&& ~~~(v.truncate 10) } } := by
  refine State.shIrqSet_quiet fun hv hne => ⟨fun hz => hne ?_, hv⟩
  rw [BitVec.and_assoc, BitVec.and_comm (~~~_), ← BitVec.and_assoc, hz]
  exact BitVec.zero_and

theorem State.raiseVector_irq (s : State) (v : Nat) :
    (s.raiseVector v).irq = { s.irq with pba := (s.raiseVector v).irq.pba } := by
  unfold State.raiseVector
  split
  · split <;> rfl
  · rfl

theorem State.shIrqSet_irq (s : State) (status enable : BitVec 10) (valid : Bool) (vector : BitVec 11) :
    (s.shIrqSet status enable valid vector).irq =
      { s.irq with status := status, enable := enable, vecValid := valid, vector := vector,
                   pba := (s.shIrqSet status enable valid vector).irq.pba } := by
  unfold State.shIrqSet
  dsimp only
  split
  · exact State.raiseVector_irq ..
  · rfl

/-! ### Attachment -/

/-- The attach word of an ID that is neither this one nor attached elsewhere is valid where asked (14 R336). -/
theorem State.attachReg_of_free {s : State} {i : Nat} {v : BitVec 32} (h2 : 2 ≤ i) (hd : s.allPartsDisabled = true)
    (hf : ∀ j ∈ [2, 3, 4, 5, 6, 7], j ≠ i → s.cacheOn j = true → s.cacheInst j ≠ bits v.toNat 11 0) (ho : bits v.toNat 11 0 ≠ s.ownId) :
    s.attachReg i v = if attachWord (bits v.toNat 11 0) (v.getLsbD 31) = s.attach i then s
      else (s.setAttach i (attachWord (bits v.toNat 11 0) (v.getLsbD 31))).forget i := by
  have hdup : ([2, 3, 4, 5, 6, 7].any fun j => j != i && s.cacheOn j && s.cacheInst j == bits v.toNat 11 0) = false := by
    simp only [List.any_eq_false, Bool.and_eq_true, bne_iff_ne, beq_iff_eq, not_and]
    exact fun j hj ⟨hne, hon⟩ => hf j hj hne hon
  unfold State.attachReg State.attachWrite attachWord
  simp only [hd, hdup, Nat.not_lt.mpr h2, Bool.not_true, Bool.or_false, decide_false, Bool.false_eq_true, if_false,
    Bool.not_false, Bool.and_true, (bne_iff_ne (a := bits v.toNat 11 0) (b := s.ownId)).mpr ho]

theorem State.attachReg_of_taken {s : State} {i : Nat} {v : BitVec 32} (h2 : 2 ≤ i) (hd : s.allPartsDisabled = true)
    (hf : bits v.toNat 11 0 = s.ownId ∨
      ∃ j, j ∈ [2, 3, 4, 5, 6, 7] ∧ j ≠ i ∧ s.cacheOn j = true ∧ s.cacheInst j = bits v.toNat 11 0) :
    s.attachReg i v = if BitVec.ofNat 32 (bits v.toNat 11 0) = s.attach i then s
      else (s.setAttach i (BitVec.ofNat 32 (bits v.toNat 11 0))).forget i := by
  have hno : (v.getLsbD 31 && bits v.toNat 11 0 != s.ownId &&
      !([2, 3, 4, 5, 6, 7].any fun j => j != i && s.cacheOn j && s.cacheInst j == bits v.toNat 11 0)) = false := by
    rcases hf with ho | ⟨j, hj, hne, hon, hinst⟩
    · simp [ho]
    · have : ([2, 3, 4, 5, 6, 7].any fun j => j != i && s.cacheOn j && s.cacheInst j == bits v.toNat 11 0) = true :=
        List.any_eq_true.mpr ⟨j, hj, by simp [hne, hon, hinst]⟩
      simp [this]
  unfold State.attachReg State.attachWrite
  dsimp only
  rw [hno, if_neg (by omega), if_neg (by simp [hd]; omega)]
  rfl

theorem State.attachReg_kept {s : State} {i : Nat} {v : BitVec 32} (h : i < 2 ∨ s.allPartsDisabled = false) : s.attachReg i v = s := by
  unfold State.attachReg State.attachWrite
  rcases h with h | h
  · exact if_pos h
  · simp [h]

/-- A cache forgotten holds no line, and an entry with no holder stays only for a grant in progress (14 R335). -/
theorem State.forget_filter {s : State} {i : Nat} (hi : i < 8) {e : FilterEntry} (he : e ∈ (s.forget i).home.filter) :
    e.mask.getLsbD i = false ∧ (e.mask ≠ 0 ∨ s.wayKept e.line = true) := by
  obtain ⟨hmem, hkept⟩ := List.mem_filter.mp he
  obtain ⟨e', -, rfl⟩ := List.mem_map.mp hmem
  refine ⟨?_, by simpa [State.wayKept, State.modFilter] using hkept⟩
  have hbit : (BitVec.ofNat 8 (2 ^ i)).getLsbD i = true := by
    simp only [BitVec.getLsbD_ofNat, hi, Nat.testBit_two_pow_self, decide_true, Bool.and_self]
  exact (BitVec.getLsbD_and ..).trans (by rw [BitVec.getLsbD_not, hbit]; simp)

/-! ### Registers of the hold -/

theorem State.writeHd_patrolCfg (s : State) (v : BitVec 32) :
    s.writeHd 0x1C v = { s with hold := { s.hold with patrolOn := v.getLsbD 31, interval := v.truncate 16 } } := rfl

def State.withJnlBase (s : State) (x : BitVec 48) : State := { s with alloc := { s.alloc with jnlBase := x } }

theorem State.writeHd_jnlBaseLo (s : State) (v : BitVec 32) :
    s.writeHd 0x200 v = s.withJnlBase (setAddr s.alloc.jnlBase 0 12 v.toNat) := by
  unfold State.writeHd
  rfl

theorem setAddr_low (x : BitVec 48) (v : BitVec 32) :
    (setAddr x 0 12 v.toNat).toNat = x.toNat / 2 ^ 32 * 2 ^ 32 + v.toNat / 4096 * 4096 := by
  have hx := x.isLt
  have hv := v.isLt
  simp only [setAddr, setHalf, roundDown, if_true, BitVec.toNat_ofNat]
  omega

theorem State.regWrite_hd (s : State) (path : Path) {a : Nat} (v : BitVec 32) (h : inRange a 0x200000 0x10000 = true) :
    s.regWrite path a v = s.writeHd (a - 0x200000) v := by
  obtain ⟨h1, h2⟩ : 0x200000 ≤ a ∧ a < 0x210000 := by simpa [inRange] using h
  have hno (x n : Nat) (hx : x + n ≤ 0x200000) : ¬ inRange a x n = true := by
    simp only [inRange, Bool.and_eq_true, decide_eq_true_eq]; omega
  unfold State.regWrite
  rw [if_neg (by omega), if_neg (hno _ _ (by decide)), if_neg (hno _ _ (by decide)), if_neg (hno _ _ (by decide)),
    if_neg (hno _ _ (by decide)), if_pos h]

theorem State.registerWritten_quiet {s : State} {path : Path} {a : Nat} {v : BitVec 32} (hr : s.reach path a = true)
    (ha : actionReg a = false) : s.registerWritten path a v = (s.regWrite path a v).written path := by
  unfold State.registerWritten
  rw [State.onPath_reached hr, ha]
  exact if_neg Bool.false_ne_true

/-! ### Paths that reach nothing -/

theorem State.unreached_eq (s : State) (path : Path) (a : Nat) : s.unreached path a = { s with out := (s.unreached path a).out } := by
  unfold State.unreached
  repeat' split
  all_goals rfl

theorem State.written_eq (s : State) (path : Path) : s.written path = { s with out := (s.written path).out } := by
  unfold State.written
  split <;> rfl

/-- Settles O55: each write is the one operation its register stands for, on a path that reaches it. -/
theorem registerWritesTakeEffect : Obligations.RegisterWritesTakeEffect := by
  intro s p v takes
  refine ⟨fun h => ?_, fun h => ?_, fun h hv => ?_, fun i h => ⟨fun hk => ?_, fun h2 hd hf ho => ?_, fun h2 hd hf => ?_,
    fun e he => State.forget_filter i.isLt he⟩, fun h => ?_, fun h => ?_, fun h => ?_, fun h => ?_, fun a h => ?_, fun a h ha => ?_,
    fun h => ?_, fun h => ?_, fun h => ?_, fun a => ?_⟩
  · rw [← State.irqClear_eq]
    exact congrArg Host.Outcome.next (State.onPath_reached h _)
  · refine ⟨s.shIrqSet s.irq.status (v.truncate 10) s.irq.vecValid s.irq.vector,
      congrArg Host.Outcome.next (State.onPath_reached h _), ?_, ?_, ?_, ?_, ?_, fun hoff => ?_⟩
    · rw [State.shIrqSet_irq]
    · rw [State.shIrqSet_irq]
    · rw [State.shIrqSet_irq]
    · exact State.shIrqSet_conf ..
    · rw [State.shIrqSet_eq]
    · exact State.shIrqSet_quiet fun hv => absurd hv (by simp [hoff])
  · exact congrArg Host.Outcome.next ((State.onPath_reached h _).trans (congrArg (State.written · p) (if_pos hv)))
  · exact congrArg Host.Outcome.next ((State.onPath_reached h _).trans (congrArg (State.written · p) (State.attachReg_kept hk)))
  · exact congrArg Host.Outcome.next ((State.onPath_reached h _).trans (congrArg (State.written · p) (State.attachReg_of_free h2 hd hf ho)))
  · exact congrArg Host.Outcome.next ((State.onPath_reached h _).trans (congrArg (State.written · p) (State.attachReg_of_taken h2 hd hf)))
  · exact congrArg Host.Outcome.next (State.onPath_reached h _)
  · exact congrArg Host.Outcome.next (State.registerWritten_quiet (a := 0) h rfl)
  · exact congrArg Host.Outcome.next ((State.registerWritten_quiet (a := 0x20001C) h rfl).trans
      (congrArg (State.written · p) (State.regWrite_hd s p v rfl)))
  · exact ⟨_, congrArg Host.Outcome.next ((State.registerWritten_quiet (a := 0x200200) h rfl).trans
      (congrArg (State.written · p) ((State.regWrite_hd s p v rfl).trans (State.writeHd_jnlBaseLo s v)))), rfl, setAddr_low ..⟩
  · refine congrArg Host.Outcome.next ?_
    unfold State.registerWritten
    rw [State.onPath_reached h]
  · refine congrArg Host.Outcome.next ?_
    unfold State.registerWritten
    rw [State.onPath_unreached h, ha]
    exact if_neg Bool.false_ne_true
  · exact congrArg Host.Outcome.next (State.onPath_unreached h _)
  · exact congrArg Host.Outcome.next (State.onPath_unreached h _)
  · exact congrArg Host.Outcome.next (State.onPath_unreached h _)
  · rw [State.unreached_eq, State.written_eq]
    exact ⟨rfl, rfl, rfl, rfl, rfl⟩

end Sys2Proof.Machine

/-! SETTLED: control port errors, MSI-X messages, credits and stray M2S requests (02 R28, R38, R47; 14 R340, R342; 17 R420). -/

namespace Sys2Proof.Machine

/-! ### One record more -/

theorem State.errLog_nextSeq (s : State) (r : ErrRec) : (s.errLog r).ras.nextSeq = s.ras.nextSeq := by
  unfold State.errLog
  split
  · rw [State.shIrq_ras]
  · rfl

theorem State.rasLose_nextSeq (s : State) : s.rasLose.ras.nextSeq = s.ras.nextSeq := by
  unfold State.rasLose
  rw [State.shIrq_ras]

theorem State.rasBuffer_nextSeq (s : State) (r : ErrRec) : (s.rasBuffer r).ras.nextSeq = s.ras.nextSeq := by
  unfold State.rasBuffer
  split
  · rfl
  · split <;> rw [State.rasLose_nextSeq]

/-- A record that can cross takes one sequence number (16 R393). -/
theorem State.record_nextSeq {s : State} {r : ErrRec} (h : s.ctrlLost r.slice = false) :
    (s.record r).ras.nextSeq = s.ras.nextSeq + 1 := by
  rcases s.record_cases r with ⟨hc, -⟩ | ⟨-, he⟩
  · exact absurd hc (by simp [h])
  · rw [he, State.rasBuffer_nextSeq, State.errLog_nextSeq]

/-! ### The control port -/

theorem State.cpInvalid_of_bad {s : State} {a : Nat} (hp : (s.clock .sh).porN = true) (h : mapped a = false ∨ a % 4 ≠ 0) :
    s.cpInvalid a = s.drive (.cpRsp 0 true) := by
  unfold State.cpInvalid
  rw [addressed_eq_false h.symm, hp]
  rfl

theorem State.cpLost_of_cut {s : State} {a : Nat} (hp : (s.clock .sh).porN = true) (ha : s.addressed a = true)
    (h : s.sliceAnswers (sliceOfAddr a) = false ∨ s.ctrlLost .sh = true ∨ s.ctrlLost (sliceOfAddr a) = true) :
    s.cpLost a = s.drive (.cpRsp 0 true) := by
  unfold State.cpLost
  rw [hp, ha]
  exact if_pos (by rcases h with h | h | h <;> simp [h])

/-! ### Messages and credits -/

theorem State.vectorSend_of_pending {s : State} {v n : Nat} (hp : s.pendingBit v = true) (hr : s.readyHost = some n)
    (hm : (s.msixEntry v).mask = false) (hf : (s.host n).funcMask = false) :
    s.vectorSend v = (s.setPendingBit v false).drive (.msix n v (s.msixEntry v).addr (s.msixEntry v).data) := by
  simp [State.vectorSend, hp, hr, hm, hf]

theorem State.flushPort_of_idle {s : State} {p : Nat} (h : (s.peer p).waiting = []) : s.flushPort p = s := by
  unfold State.flushPort
  rw [h]
  rfl

theorem State.peer_modPeer (s : State) (k j : Nat) (f : PeerPort → PeerPort) :
    (s.modPeer k f).peer j = if j = k then f (s.peer k) else s.peer j := State.peer_setPeer ..

theorem State.link_modLink (s : State) (k j : Link) (f : LinkState → LinkState) :
    (s.modLink k f).link j = if j = k then f (s.link k) else s.link j := State.link_setLink ..

theorem creditCounts_getElem? {w : BitVec 16} {k : Nat} (h : k < 4) :
    (creditCounts w)[k]? = some (min 8 (bits w.toNat (4 * k + 3) (4 * k))) := by
  simp [creditCounts, h]

/-- Each class of a credit word adds its count, taken as at most 8 (02 R38). -/
theorem getD_addCounts {l : List Nat} {w : BitVec 16} {k : Nat} (hl : k < l.length) (h4 : k < 4) :
    (List.zipWith (· + ·) l (creditCounts w)).getD k 0 = l.getD k 0 + min 8 (bits w.toNat (4 * k + 3) (4 * k)) := by
  simp only [List.getD_eq_getElem?_getD, List.getElem?_zipWith, creditCounts_getElem? h4, List.getElem?_eq_getElem hl, Option.getD_some]

theorem creditErr_toNat (v : BitVec 32) (n : Nat) : (if n = 0 then v else sat32 v n).toNat = min (v.toNat + n) 0xFFFFFFFF := by
  have hv := v.isLt
  split
  · next h => subst h; omega
  · rw [sat32, BitVec.toNat_ofNat]; omega

/-! ### Stray requests of a host -/

theorem State.hostOn_open {s : State} {n : Nat} (h : s.hostOn n = true) :
    (s.host n).readyOut = true ∧ s.warmStart = false ∧ s.warmReset = false := by
  simp only [State.hostOn, Bool.and_eq_true, Bool.not_eq_true'] at h
  obtain ⟨⟨hr, hs⟩, hw⟩ := h
  exact ⟨hr, by simp [State.warmStart, hs], hw⟩

theorem State.hostCome_of_on {s : State} {n : Nat} {m : HostMsg} (h : s.hostOn n = true) : s.hostCome n m = s.hostTake n m := by
  obtain ⟨hr, hs, hw⟩ := State.hostOn_open h
  exact State.hostCome_open hr hs hw

theorem State.hostTake_conflict {s : State} {n : Nat} {addr : BitVec 48} (h : s.linkFault .slA = none) :
    s.hostTake n (.conflict addr) = s.biConflict n addr := by
  simp only [State.hostTake, h, Option.isSome_none, Bool.false_eq_true, if_false]

theorem State.hostTake_unknown {s : State} {n addr tag : Nat} {rd : Bool} (h : s.linkFault .slA = none) :
    s.hostTake n (.unknown rd addr tag) = s.unknownM2s n rd addr tag := by
  simp only [State.hostTake, h, Option.isSome_none, Bool.false_and, Bool.false_eq_true, if_false]

/-- The record of a stray M2S request (14 R340). -/
def State.strayRecord (s : State) (addr : Nat) : ErrRec :=
  s.errAt (s.errRec 3 .malformed .hd 0x0A 0) (s.localPa (roundDown addr 64))

theorem State.unknownM2s_of_window {s : State} {n addr tag : Nat} {rd : Bool} (h : s.hostOn n = true)
    (hw : (s.windowAt addr).isSome = true) : s.unknownM2s n rd addr tag =
      State.drive (if rd then (s.record (s.strayRecord addr)).drive (.memData n tag [] true) else s.record (s.strayRecord addr))
        (.memCmp n tag .cmp) := by
  unfold State.unknownM2s
  rw [h, hw]
  cases rd <;> rfl

theorem State.purpose_of_wbBusy {s : State} {line : Nat} (h : s.wbBusy line = false) (a : Access) (ha : a ∈ s.accesses)
    {n tag : Nat} : a.purpose ≠ .homeWb n tag line := by
  intro hp
  have := List.any_eq_false.mp h a ha
  rw [hp] at this
  exact this (beq_self_eq_true line)

theorem State.biConflict_of_free {s : State} {n : Nat} {addr : BitVec 48} (h : s.hostOn n = true)
    (hb : s.wbBusy (roundDown addr.toNat 64) = false) :
    s.biConflict n addr = State.drive { s with home := { s.home with conflict := sat32 s.home.conflict } }
      (.biConflictAck n (BitVec.ofNat 48 (roundDown addr.toNat 64))) := by
  unfold State.biConflict
  rw [h]
  refine (if_neg (by decide)).trans (if_neg fun hany => ?_)
  obtain ⟨a, ha, hm⟩ := List.any_eq_true.mp hany
  split at hm
  · next k tag l hp =>
    obtain ⟨-, rfl⟩ : k = n ∧ l = roundDown addr.toNat 64 := by simpa using hm
    exact State.purpose_of_wbBusy hb a ha hp
  · exact Bool.false_ne_true hm

/-- Settles O17: each command is one operation of its port, and each operation has one outcome under the clause's conditions. -/
theorem portErrorsMessagesAndCredits : Obligations.PortErrorsMessagesAndCredits := by
  intro s
  refine ⟨fun hp w a => ⟨fun h => ?_, fun ha h => ?_⟩, fun v n hp hr hm hf => ?_, fun n => ?_, fun l sl hu hl he => ?_,
    fun p w hw => ?_, fun n rd a tag hon hwin hl hc => ?_, fun n a hon hl hb => ?_⟩
  · exact congrArg Host.Outcome.next (State.cpInvalid_of_bad hp h)
  · exact congrArg Host.Outcome.next (State.cpLost_of_cut hp ha h)
  · refine ⟨_, congrArg Host.Outcome.next (State.vectorSend_of_pending hp hr hm hf), ?_, fun w hw => ?_, rfl, rfl⟩
    · exact (State.pendingBit_setPendingBit ..).trans (if_pos rfl)
    · exact (State.pendingBit_setPendingBit ..).trans (if_neg hw)
  · exact ⟨_, rfl, (State.host_modHost ..).trans (if_pos rfl), fun j hj => (State.host_modHost ..).trans (if_neg hj), rfl⟩
  · refine ⟨_, next_settle_congr (if_pos ?_), (State.link_modLink ..).trans (if_pos rfl),
      fun j hj => (State.link_modLink ..).trans (if_neg hj), rfl⟩
    simp [hu, hl, he]
  · have hidle : ((s.takeCredits p w).peer p).waiting = [] := by
      rw [State.takeCredits, State.peer_modPeer, if_pos rfl]
      exact hw
    refine ⟨_, next_settle_congr (State.flushPort_of_idle hidle), fun k hk h4 => ?_, ?_,
      fun j hj => (State.peer_modPeer ..).trans (if_neg hj), rfl⟩
    · rw [State.takeCredits, State.peer_modPeer, if_pos rfl]
      exact getD_addCounts hk h4
    · rw [State.takeCredits, State.peer_modPeer, if_pos rfl]
      exact creditErr_toNat ..
  · have hnext : exec (.unknownM2sRequest n rd a tag) s = .next (s.unknownM2s n rd a.toNat tag) :=
      congrArg Host.Outcome.next ((State.hostCome_of_on hon).trans (State.hostTake_unknown hl))
    rw [State.unknownM2s_of_window hon hwin] at hnext
    refine ⟨_, hnext, ?_⟩
    have hseq := State.record_nextSeq (s := s) (r := s.strayRecord a.toNat) hc
    have hconf := State.record_conf s (s.strayRecord a.toNat)
    have hhome := State.record_home s (s.strayRecord a.toNat)
    have hacc := State.record_accesses s (s.strayRecord a.toNat)
    have htide := State.record_tide s (s.strayRecord a.toNat)
    generalize s.record (s.strayRecord a.toNat) = t at hseq hconf hhome hacc htide
    cases rd
    · exact ⟨hseq, fun h => absurd h (by decide), List.mem_cons_self .., hhome, hacc, htide, hconf⟩
    · exact ⟨hseq, fun _ => List.mem_cons_of_mem _ (List.mem_cons_self ..), List.mem_cons_self .., hhome, hacc, htide, hconf⟩
  · exact congrArg Host.Outcome.next
      ((State.hostCome_of_on hon).trans ((State.hostTake_conflict hl).trans (State.biConflict_of_free hon hb)))

end Sys2Proof.Machine

/-! SETTLED: an engine request is checked as it is taken (02 R39 to R41; 06 R143). -/

namespace Sys2Proof.Machine

/-! ### Taking a request -/

/-- A request as it is taken, before any beat. -/
def State.newReq (s : State) (port : Nat) (op : EngineOp) (rq : EngineReq) : EngReq :=
  { port := port, op := op, rq := rq, part := s.streamPart rq.stream.toNat, order := s.nextOrder, beats := [], enables := [], nBeats := 0,
    started := false, parts := [], waiting := false }

/-- The state that has taken `q` and holds the early beats `l`. -/
def State.withReq (s : State) (q : EngReq) (l : List EarlyBeat) : State :=
  { s with nextOrder := s.nextOrder + 1, engReqs := s.engReqs ++ [q], beats := l }

/-- The request is not one of the list. -/
def EngReq.Apart (port : Nat) (tag : BitVec 8) (l : List EngReq) : Prop := ∀ x ∈ l, ¬(x.port = port ∧ x.rq.tag = tag)

theorem State.engReq_eq_none {s : State} {port : Nat} {tag : BitVec 8} (h : s.engReq port tag = none) : EngReq.Apart port tag s.engReqs := by
  intro x hx
  simpa using List.find?_eq_none.mp h x hx

theorem EngReq.Apart.modEng {s : State} {q r : EngReq} {l : List EarlyBeat} (h : EngReq.Apart r.port r.rq.tag s.engReqs)
    (hq : q.port = r.port ∧ q.rq.tag = r.rq.tag) (f : EngReq → EngReq) : (s.withReq q l).modEng r f = s.withReq (f q) l := by
  have hold : s.engReqs.map (fun x => if x.port = r.port ∧ x.rq.tag = r.rq.tag then f x else x) = s.engReqs :=
    (List.map_congr_left fun x hx => if_neg (h x hx)).trans (List.map_id' _)
  unfold State.modEng State.withReq
  dsimp only
  rw [List.map_append, hold, List.map_singleton, if_pos hq]

theorem EngReq.Apart.engReq {s : State} {q : EngReq} {l : List EarlyBeat} (h : EngReq.Apart q.port q.rq.tag s.engReqs) :
    (s.withReq q l).engReq q.port q.rq.tag = some q := by
  have hold : s.engReqs.find? (fun x => x.port == q.port && x.rq.tag == q.rq.tag) = none :=
    List.find?_eq_none.mpr fun x hx => by simpa using h x hx
  unfold State.engReq State.withReq
  dsimp only
  rw [List.find?_append, hold]
  simp

theorem EngReq.addBeats_keeps (l : List EarlyBeat) (q : EngReq) :
    (l.foldl EngReq.addBeat q).port = q.port ∧ (l.foldl EngReq.addBeat q).rq = q.rq ∧ (l.foldl EngReq.addBeat q).op = q.op ∧
      (l.foldl EngReq.addBeat q).parts = q.parts := by
  induction l generalizing q with
  | nil => exact ⟨rfl, rfl, rfl, rfl⟩
  | cons b l ih => exact ih (q.addBeat b)

/-- The beats that came early for a port and tag. -/
def State.early (s : State) (port : Nat) (tag : BitVec 8) : List EarlyBeat := s.beats.filter (fun b => b.port == port && b.tag == tag)

/-- The early beats a request takes. -/
def State.earlyFor (s : State) (r : EngReq) : List EarlyBeat := (s.early r.port r.rq.tag).take (beatsNeeded r.op r.rq.len.toNat)

/-- The early beats that still wait after it. -/
def State.lateFor (s : State) (r : EngReq) : List EarlyBeat :=
  s.beats.filter (fun b => !(b.port == r.port && b.tag == r.rq.tag)) ++ (s.early r.port r.rq.tag).drop (s.earlyFor r).length

/-- The request with the beats that came early for it. -/
def State.takenReq (s : State) (port : Nat) (op : EngineOp) (rq : EngineReq) : EngReq :=
  (s.earlyFor (s.newReq port op rq)).foldl EngReq.addBeat (s.newReq port op rq)

/-- The state that has taken a request with its early beats. -/
def State.taken (s : State) (port : Nat) (op : EngineOp) (rq : EngineReq) : State :=
  s.withReq (s.takenReq port op rq) (s.lateFor (s.newReq port op rq))

theorem State.takenReq_keeps (s : State) (port : Nat) (op : EngineOp) (rq : EngineReq) :
    (s.takenReq port op rq).port = port ∧ (s.takenReq port op rq).rq = rq ∧ (s.takenReq port op rq).op = op ∧
      (s.takenReq port op rq).parts = [] :=
  EngReq.addBeats_keeps ..

theorem State.engReq_taken {s : State} {port : Nat} {op : EngineOp} {rq : EngineReq} (h : s.engReq port rq.tag = none) :
    (s.taken port op rq).engReq port rq.tag = some (s.takenReq port op rq) := by
  obtain ⟨hport, hrq, -, -⟩ := s.takenReq_keeps port op rq
  have := EngReq.Apart.engReq (q := s.takenReq port op rq) (l := s.lateFor (s.newReq port op rq))
    (by rw [hport, hrq]; exact State.engReq_eq_none h)
  rwa [hport, hrq] at this

theorem State.takeEarly_withReq {s : State} {port : Nat} {op : EngineOp} {rq : EngineReq} (h : s.engReq port rq.tag = none) :
    State.takeEarly (s.withReq (s.newReq port op rq) s.beats) (s.newReq port op rq) = s.taken port op rq :=
  (rfl : _ = State.modEng (s.withReq (s.newReq port op rq) (s.lateFor (s.newReq port op rq))) (s.newReq port op rq)
    (fun x => (s.earlyFor (s.newReq port op rq)).foldl EngReq.addBeat x)).trans
    (EngReq.Apart.modEng (State.engReq_eq_none h) ⟨rfl, rfl⟩ _)

/-- The fields of a request lie in the ranges of 02 R40. -/
def State.formBad (s : State) (op : EngineOp) (rq : EngineReq) : Prop :=
  rq.len = 0 ∨ 256 < rq.len.toNat ∨ 4 < rq.scope.toNat ∨ ((op == .alloc || op == .free) = true ∧ s.feature 8 = false)

/-- An ALLOC or a FREE names no address, and has its own length (02 R41). -/
def allocFieldsBad (op : EngineOp) (rq : EngineReq) : Prop :=
  (op == .alloc || op == .free) = true ∧ (rq.va ≠ 0 ∨ rq.len.toNat ≠ if op = .alloc then 16 else 8)

/-- The status of the first check that a request fails, none where it passes (02 R40). -/
inductive State.Refuses (s : State) (port : Nat) (op : EngineOp) (rq : EngineReq) : Status → Prop
  | portOff (h : s.portOn port = false) : s.Refuses port op rq .aborted
  | form (h : s.portOn port = true) (hf : s.formBad op rq) : s.Refuses port op rq .malformed
  | stream (h : s.portOn port = true) (hf : ¬ s.formBad op rq) (hu : s.streamUse rq.stream.toNat = false) : s.Refuses port op rq .permission
  | part (h : s.portOn port = true) (hf : ¬ s.formBad op rq) (hu : s.streamUse rq.stream.toNat = true)
      (hp : s.partOn (s.streamPart rq.stream.toNat) = false) : s.Refuses port op rq .aborted
  | alloc (h : s.portOn port = true) (hf : ¬ s.formBad op rq) (hu : s.streamUse rq.stream.toNat = true)
      (hp : s.partOn (s.streamPart rq.stream.toNat) = true) (ha : allocFieldsBad op rq) : s.Refuses port op rq .malformed

section
variable {s : State} {port : Nat} {op : EngineOp} {rq : EngineReq}

/-- The state that has taken the request goes through the checks in order. -/
theorem State.engAccept_eq (hr : s.engineReady = true) (hn : s.engReq port rq.tag = none) :
    s.engAccept port op rq =
      if !s.portOn port then (s.taken port op rq).engDone (s.takenReq port op rq) .aborted 0 0
      else if rq.len = 0 ∨ 256 < rq.len.toNat ∨ 4 < rq.scope.toNat ∨ ((op == .alloc || op == .free) = true ∧ s.feature 8 = false) then
        (s.taken port op rq).engDone (s.takenReq port op rq) .malformed 0 0
      else if !s.streamUse rq.stream.toNat then (s.taken port op rq).engDone (s.takenReq port op rq) .permission 0 0
      else if !s.partOn (s.streamPart rq.stream.toNat) then (s.taken port op rq).engDone (s.takenReq port op rq) .aborted 0 0
      else if (op == .alloc || op == .free) = true ∧ (rq.va ≠ 0 ∨ rq.len.toNat ≠ if op = .alloc then 16 else 8) then
        (s.taken port op rq).engDone (s.takenReq port op rq) .malformed 0 0
      else (s.taken port op rq).enginePump := by
  have hearly : State.takeEarly { s with nextOrder := s.nextOrder + 1, engReqs := s.engReqs ++ [s.newReq port op rq] } (s.newReq port op rq) =
      s.taken port op rq := State.takeEarly_withReq hn
  have hreq := State.engReq_taken (op := op) hn
  unfold State.engAccept
  rw [hr, hn]
  refine (if_neg (by decide)).trans ?_
  dsimp only
  unfold State.newReq at hearly
  rw [hearly, hreq]
  rfl

theorem State.engAccept_refused {st : Status} (hr : s.engineReady = true) (hn : s.engReq port rq.tag = none)
    (h : s.Refuses port op rq st) : s.engAccept port op rq = (s.taken port op rq).engDone (s.takenReq port op rq) st 0 0 := by
  refine (State.engAccept_eq hr hn).trans ?_
  cases h with
  | portOff h => exact if_pos (by simp [h])
  | form h hf => exact (if_neg (by simp [h])).trans (if_pos hf)
  | stream h hf hu => exact (if_neg (by simp [h])).trans ((if_neg hf).trans (if_pos (by simp [hu])))
  | part h hf hu hp => exact (if_neg (by simp [h])).trans ((if_neg hf).trans ((if_neg (by simp [hu])).trans (if_pos (by simp [hp]))))
  | alloc h hf hu hp ha =>
    exact (if_neg (by simp [h])).trans ((if_neg hf).trans ((if_neg (by simp [hu])).trans ((if_neg (by simp [hp])).trans (if_pos ha))))

/-- A request that passes every check goes to the port's work. -/
theorem State.engAccept_passed (hr : s.engineReady = true) (hn : s.engReq port rq.tag = none) (h : s.portOn port = true)
    (hf : ¬ s.formBad op rq) (hu : s.streamUse rq.stream.toNat = true) (hp : s.partOn (s.streamPart rq.stream.toNat) = true)
    (ha : ¬ allocFieldsBad op rq) : s.engAccept port op rq = (s.taken port op rq).enginePump := by
  exact (State.engAccept_eq hr hn).trans ((if_neg (by simp [h])).trans ((if_neg hf).trans ((if_neg (by simp [hu])).trans
    ((if_neg (by simp [hp])).trans (if_neg ha)))))

/-! ### Its end -/

/-- What the end of a request that has taken no hold bytes leaves. -/
theorem State.engDone_taken {st : Status} (hn : s.engReq port rq.tag = none) :
    (s.taken port op rq).engDone (s.takenReq port op rq) st 0 0 =
      { (s.taken port op rq).holdGive (quotaOf (some (s.takenReq port op rq).part)) 0 with
        engReqs := s.engReqs
        owedBeats := if beatsNeeded op rq.len.toNat - (s.takenReq port op rq).nBeats = 0 then s.owedBeats
          else s.owedBeats ++ [(port, rq.tag, beatsNeeded op rq.len.toNat - (s.takenReq port op rq).nBeats)]
        out := .engineRsp port rq.tag st 0 0 :: s.out } := by
  obtain ⟨hport, hrq, hop, hparts⟩ := s.takenReq_keeps port op rq
  have hold : (s.engReqs ++ [s.takenReq port op rq]).filter (fun x => !(x.port == port && x.rq.tag == rq.tag)) = s.engReqs := by
    rw [List.filter_append, List.filter_eq_self.mpr fun x hx => by
      simpa [← not_and_or] using State.engReq_eq_none hn x hx]
    simp [hport, hrq]
  unfold State.engDone
  rw [hport, hrq, hop, hparts]
  exact congrArg (fun l : List EngReq => State.drive { (s.taken port op rq).holdGive (quotaOf (some (s.takenReq port op rq).part)) 0 with
    engReqs := l
    owedBeats := if beatsNeeded op rq.len.toNat - (s.takenReq port op rq).nBeats = 0 then s.owedBeats
      else s.owedBeats ++ [(port, rq.tag, beatsNeeded op rq.len.toNat - (s.takenReq port op rq).nBeats)] }
    (.engineRsp port rq.tag st 0 0)) hold

theorem State.takenReq_of_no_early (h : s.early port rq.tag = []) : s.takenReq port op rq = s.newReq port op rq := by
  unfold State.takenReq State.earlyFor
  rw [show s.early (s.newReq port op rq).port (s.newReq port op rq).rq.tag = [] from h, List.take_nil]
  rfl

theorem State.early_eq_nil {tag : BitVec 8} (h : ∀ b, b ∈ s.beats → b.port ≠ port ∨ b.tag ≠ tag) : s.early port tag = [] :=
  List.filter_eq_nil_iff.mpr fun b hb => by
    rcases h b hb with h | h <;> simp [h]

end

theorem State.engUnknown_refused {s : State} {port : Nat} {op : BitVec 4} {rq : EngineReq} (hr : s.engineReady = true)
    (hn : s.engReq port rq.tag = none) (ho : op.toNat = 0 ∨ 8 < op.toNat) :
    s.engUnknown port op rq = s.drive (.engineRsp port rq.tag (if s.portOn port then .malformed else .aborted) 0 0) := by
  unfold State.engUnknown
  refine if_neg ?_
  rcases ho with ho | ho
  · simp [hr, hn, ho]
  · simp [hr, hn]; omega

/-- Every operation is taken by one function of its request. -/
theorem exec_engine {s : State} {e : Fin 8} {rq : EngineReq} {c : Instr} {op : EngineOp}
    (h : (c, op) ∈ [(Instr.translate e rq, EngineOp.translate), (.read e rq, .read), (.write e rq, .write), (.atomic e rq, .atomic),
      (.engineDoorbell e rq, .doorbell), (.tideWait e rq, .tideWait), (.engineAlloc e rq, .alloc), (.engineFree e rq, .free)]) :
    exec c s = .next (s.engAccept e op rq).settle := by
  simp only [List.mem_cons, Prod.mk.injEq, List.not_mem_nil, or_false] at h
  rcases h with ⟨rfl, rfl⟩ | ⟨rfl, rfl⟩ | ⟨rfl, rfl⟩ | ⟨rfl, rfl⟩ | ⟨rfl, rfl⟩ | ⟨rfl, rfl⟩ | ⟨rfl, rfl⟩ | ⟨rfl, rfl⟩ <;> rfl

/-- Settles O31: the clause's conditions name the first check that fails, and each failing check ends the request alike. -/
theorem engineRequestsAreCheckedInOrder : Obligations.EngineRequestsAreCheckedInOrder := by
  intro s e rq hr hn
  refine ⟨fun op ho => next_settle_congr (State.engUnknown_refused hr hn ho), fun c op hc hb => ?_⟩
  have hreq := State.takenReq_of_no_early (op := op) (State.early_eq_nil hb)
  intro alloc_ ends form
  have hends (st : Status) (h : s.Refuses e op rq st) : ends st := by
    refine ⟨_, (exec_engine hc).trans (next_settle_congr (State.engAccept_refused hr hn h)), ?_⟩
    rw [State.engDone_taken hn, hreq]
    exact ⟨rfl, rfl, rfl, rfl, rfl, rfl, rfl, rfl⟩
  exact ⟨fun h => hends _ (.portOff h), fun h hf => hends _ (.form h hf), fun h hf hu => hends _ (.stream h hf hu),
    fun h hf hu hp => hends _ (.part h hf hu hp), fun h hf hu hp ha hx => hends _ (.alloc h hf hu hp ⟨ha, hx⟩)⟩

end Sys2Proof.Machine

/-! SETTLED: an engine request that passes its checks is performed (02 R40, R41; 06 R133, R148, R151; 13 R319). -/

namespace Sys2Proof.Machine

/-! ### One request alone -/

/-- The state in which `q` is the one request outstanding and no early beat waits. -/
def State.alone (s : State) (q : EngReq) : State := { s with engReqs := [q], nextOrder := s.nextOrder + 1, beats := [] }

theorem State.modEng_alone (s : State) (q : EngReq) (f : EngReq → EngReq) : (s.alone q).modEng q f = s.alone (f q) := by
  unfold State.modEng State.alone
  simp only [List.map_cons, List.map_nil, and_self, if_true]

theorem State.modEng_holdTake (s : State) (k n : Nat) (q : EngReq) (f : EngReq → EngReq) :
    (s.holdTake k n).modEng q f = (s.modEng q f).holdTake k n := rfl

theorem State.taken_of_idle {s : State} {port : Nat} {op : EngineOp} {rq : EngineReq} (h : s.engReqs = [])
    (hl : s.lateFor (s.newReq port op rq) = []) : s.taken port op rq = s.alone (s.takenReq port op rq) := by
  unfold State.taken State.withReq State.alone
  rw [h, hl]
  rfl

/-- With no request outstanding an engine port is at its boundary (05 R117): it is held for a mode change at once, or not at all. -/
theorem State.modeHeld_alone {s : State} {q : EngReq} {e : Fin 8} (h : s.engReqs = []) (hf : s.modeHeld (.enginePort e) = false) :
    (s.alone q).modeHeld (.enginePort e) = false := by
  unfold State.modeHeld at hf ⊢
  rw [show (s.alone q).mgmt = s.mgmt from rfl]
  split at hf
  · next m hm =>
    have hready : s.unitReady m (.enginePort e) = true := by simp [State.unitReady, h]
    rw [hready, Bool.or_true] at hf
    cases hp : m.phase <;> rw [hp] at hf
    · rw [(Bool.and_true _).symm.trans hf, Bool.false_and]
    · exact hf
  · rfl

/-- What the statement takes for granted of the state and the request (02 R40). -/
structure State.Admits (s : State) (port : Nat) (rq : EngineReq) : Prop where
  ready : s.engineReady = true
  idle : s.engReqs = []
  on : s.portOn port = true
  len : rq.len ≠ 0
  max : rq.len.toNat ≤ 256
  scope : rq.scope.toNat ≤ 4
  use : s.streamUse rq.stream.toNat = true
  part : s.partOn (s.streamPart rq.stream.toNat) = true
  free : ∀ h : port < 8, s.modeHeld (.enginePort ⟨port, h⟩) = false
  links : ∀ l : Link, s.linkFault l = none

section
variable {s : State} {port : Nat} {op : EngineOp} {rq : EngineReq}

theorem State.Admits.formOk (h : s.Admits port rq) (ha : (op == .alloc || op == .free) = true → s.feature 8 = true) : ¬ s.formBad op rq := by
  rintro (h0 | h0 | h0 | ⟨h0, h1⟩)
  · exact h.len h0
  · exact absurd h.max (by omega)
  · exact absurd h.scope (by omega)
  · exact absurd (ha h0) (by simp [h1])

/-- A request alone, its beats there, starts at once. -/
theorem State.Admits.enginePump (h : s.Admits port rq) {q : EngReq} (hport : q.port = port) (hrq : q.rq = rq) (hs : q.started = false)
    (hn : beatsNeeded q.op rq.len.toNat ≤ q.nBeats) : (s.alone q).enginePump = (s.alone q).engStart q := by
  subst hport hrq
  have hself : (s.alone q).engReq q.port q.rq.tag = some q := by simp [State.engReq, State.alone]
  have hheld : (s.alone q).engHeld q = false := by
    have hb : [q].filter (fun e => e.before q) = [] := by simp [EngReq.before]
    unfold State.engHeld
    rw [show (s.alone q).engReqs = [q] from rfl, hb]
    simp
  have hwarm : (s.alone q).warmReset = false := by
    have := h.ready
    simp only [State.engineReady, Bool.and_eq_true, Bool.not_eq_true'] at this
    exact this.2
  have hmode : (s.alone q).portHeld q = false := by
    have hoff : (if hp : q.port < 8 then (s.alone q).modeHeld (.enginePort ⟨q.port, hp⟩) else false) = false := by
      split
      · next hp => exact State.modeHeld_alone h.idle (h.free hp)
      · rfl
    unfold State.portHeld
    rw [hoff, Bool.and_false]
  change State.engTry q (s.alone q) = _
  unfold State.engTry
  rw [hself]
  refine if_neg ?_
  rw [hs, hheld, hwarm, hmode]
  simpa using hn

/-- A request with its fields in range and its beats there is performed. -/
theorem State.Admits.engAccept (h : s.Admits port rq) (ha : (op == .alloc || op == .free) = true → s.feature 8 = true)
    (hf : ¬ allocFieldsBad op rq) (hl : s.lateFor (s.newReq port op rq) = []) {q : EngReq} (hq : s.takenReq port op rq = q)
    (hn : beatsNeeded op rq.len.toNat ≤ q.nBeats) (hs : q.started = false) :
    s.engAccept port op rq = (s.alone q).engStart q := by
  subst hq
  obtain ⟨hport, hrq, hop, -⟩ := s.takenReq_keeps port op rq
  have hnone : s.engReq port rq.tag = none := by rw [State.engReq, h.idle]; rfl
  rw [State.engAccept_passed h.ready hnone h.on (h.formOk ha) h.use h.part hf, State.taken_of_idle h.idle hl]
  exact h.enginePump hport hrq hs (by rw [hop]; exact hn)

theorem allocFields_of_other (h : (op == .alloc || op == .free) = false) : ¬ allocFieldsBad op rq := fun hx => absurd hx.1 (by simp [h])

/-- An operation without beats, with none waiting. -/
theorem State.Admits.engAccept_plain (h : s.Admits port rq) (hb : s.beats = []) (ho : (op == .alloc || op == .free) = false)
    (hn : beatsNeeded op rq.len.toNat = 0) :
    s.engAccept port op rq = (s.alone (s.newReq port op rq)).engStart (s.newReq port op rq) := by
  have hearly : s.early port rq.tag = [] := by rw [State.early, hb]; rfl
  have hlate : s.lateFor (s.newReq port op rq) = [] := by
    unfold State.lateFor
    rw [show s.early (s.newReq port op rq).port (s.newReq port op rq).rq.tag = [] from hearly, hb, List.drop_nil]
    rfl
  exact h.engAccept (fun hx => absurd hx (by simp [ho])) (allocFields_of_other ho) hlate (State.takenReq_of_no_early hearly)
    (by rw [hn]; exact Nat.zero_le _) rfl

/-- An operation of one beat, which came early. -/
theorem State.Admits.engAccept_beat (h : s.Admits port rq) {b : EarlyBeat} (hb : s.beats = [b]) (hp : b.port = port) (ht : b.tag = rq.tag)
    (ha : (op == .alloc || op == .free) = true → s.feature 8 = true) (hf : ¬ allocFieldsBad op rq) (hn : beatsNeeded op rq.len.toNat = 1) :
    s.engAccept port op rq =
      (s.alone ((s.newReq port op rq).addBeat b)).engStart ((s.newReq port op rq).addBeat b) := by
  have hearly : s.early port rq.tag = [b] := by rw [State.early, hb]; simp [hp, ht]
  have hfor : s.earlyFor (s.newReq port op rq) = [b] := by
    unfold State.earlyFor
    rw [show s.early (s.newReq port op rq).port (s.newReq port op rq).rq.tag = [b] from hearly,
      show beatsNeeded (s.newReq port op rq).op (s.newReq port op rq).rq.len.toNat = 1 from hn]
    rfl
  have hlate : s.lateFor (s.newReq port op rq) = [] := by
    unfold State.lateFor
    rw [show s.early (s.newReq port op rq).port (s.newReq port op rq).rq.tag = [b] from hearly, hfor, hb]
    simp [State.newReq, hp, ht]
  have hreq : s.takenReq port op rq = (s.newReq port op rq).addBeat b := by
    unfold State.takenReq
    rw [hfor]
    rfl
  exact h.engAccept ha hf hlate hreq (Nat.le_of_eq hn) rfl

end

/-! ### Performing it -/

theorem State.engWay_of_links {s : State} (h : ∀ l : Link, s.linkFault l = none) (op : EngineOp) : s.engWay op = none := by
  cases op <;> simp [State.engWay, h]

/-- The request has been started. -/
def EngReq.begun (q : EngReq) : EngReq := { q with started := true }

/-- The request waits on a tide counter. -/
def EngReq.awaits (q : EngReq) : EngReq := { q with started := true, waiting := true }

theorem State.modEng_begun (s : State) (q : EngReq) : (s.alone q).modEng q (fun x => { x with started := true }) = s.alone q.begun :=
  State.modEng_alone ..

theorem State.modEng_awaits (s : State) (q : EngReq) :
    (s.alone q).modEng q (fun x => { x with started := true, waiting := true }) = s.alone q.awaits :=
  State.modEng_alone ..

section
variable {s : State} {q : EngReq}

theorem State.engStart_translate (hl : ∀ l : Link, s.linkFault l = none) (h : q.op = .translate) : (s.alone q).engStart q =
    (s.alone q.begun).launchVa (mkAccess q.agent (.xlate q.port q.rq.tag.toNat) .read (some q.part) 0 1)
      (q.rq.va.setWidth 64) := by
  unfold State.engStart
  rw [State.engWay_of_links (s := s.alone q) hl, h, State.modEng_begun]

theorem State.engStart_read (hl : ∀ l : Link, s.linkFault l = none) (h : q.op = .read) :
    (s.alone q).engStart q = (s.alone q).engAccess q .read none := by
  unfold State.engStart
  rw [State.engWay_of_links (s := s.alone q) hl, h]

theorem State.engStart_write (hl : ∀ l : Link, s.linkFault l = none) (h : q.op = .write) :
    (s.alone q).engStart q = (s.alone q).engAccess q .write none := by
  unfold State.engStart
  rw [State.engWay_of_links (s := s.alone q) hl, h]

theorem State.engStart_atomic (hl : ∀ l : Link, s.linkFault l = none) (h : q.op = .atomic) (hb : atomicBeatOk q = true) :
    (s.alone q).engStart q = (s.alone q).engAccess q .atomic (some
      { subop := BitVec.ofNat 8 (byteAt q.beats 16), size := byteAt q.beats 17,
        operand := BitVec.ofNat 64 (fld q.beats 0 8), swap := BitVec.ofNat 64 (fld q.beats 8 8) }) := by
  unfold State.engStart
  rw [State.engWay_of_links (s := s.alone q) hl, h, hb]
  rfl

theorem State.engStart_doorbell (hl : ∀ l : Link, s.linkFault l = none) (h : q.op = .doorbell) {st : Status} {t : State}
    (hd : (s.alone q).engineDoorbell q.rq.va q.part (BitVec.ofNat 64 (fld q.beats 0 8)) = (st, t)) :
    (s.alone q).engStart q = t.engDone q st 0 0 := by
  unfold State.engStart
  rw [State.engWay_of_links (s := s.alone q) hl, h]
  dsimp only
  rw [hd]

theorem State.engStart_tideReached (hl : ∀ l : Link, s.linkFault l = none) (h : q.op = .tideWait)
    (hr : s.tideInRange (fld q.beats 0 2) (some q.part) = true)
    (ht : s.tideReached (fld q.beats 0 2) (BitVec.ofNat 64 (fld q.beats 8 8)) = true) :
    (s.alone q).engStart q = (s.alone q).engDone q .ok 0 0 := by
  unfold State.engStart
  rw [State.engWay_of_links (s := s.alone q) hl, h]
  exact (if_neg (by rw [show (s.alone q).tideInRange (fld q.beats 0 2) (some q.part) = true from hr]; decide)).trans (if_pos ht)

theorem State.engStart_tideWaits (hl : ∀ l : Link, s.linkFault l = none) (h : q.op = .tideWait)
    (hr : s.tideInRange (fld q.beats 0 2) (some q.part) = true)
    (ht : s.tideReached (fld q.beats 0 2) (BitVec.ofNat 64 (fld q.beats 8 8)) = false) :
    (s.alone q).engStart q = s.alone q.awaits := by
  unfold State.engStart
  rw [State.engWay_of_links (s := s.alone q) hl, h]
  refine (if_neg (by rw [show (s.alone q).tideInRange (fld q.beats 0 2) (some q.part) = true from hr]; decide)).trans
    ((if_neg ?_).trans (State.modEng_awaits ..))
  rw [show (s.alone q).tideReached (fld q.beats 0 2) (BitVec.ofNat 64 (fld q.beats 8 8)) = false from ht]
  exact Bool.false_ne_true

theorem State.engStart_alloc (hl : ∀ l : Link, s.linkFault l = none) (h : q.op = .alloc) (hb : allocBeatOk q = true) :
    (s.alone q).engStart q = (s.alone q.begun).allocNew (.engine q.port q.rq.tag) q.part (fld q.beats 0 8)
      (BitVec.ofNat 8 (byteAt q.beats 8)) := by
  unfold State.engStart
  rw [State.engWay_of_links (s := s.alone q) hl, h, hb, State.modEng_begun]
  exact if_neg Bool.false_ne_true

theorem State.engStart_free (hl : ∀ l : Link, s.linkFault l = none) (h : q.op = .free) (hb : allocBeatOk q = true) :
    (s.alone q).engStart q = (s.alone q.begun).launchVa
      (recordRead q.agent (.engine q.port q.rq.tag) 1 (some q.part) (fld q.beats 0 8)) (BitVec.ofNat 64 (fld q.beats 0 8)) := by
  unfold State.engStart
  rw [State.engWay_of_links (s := s.alone q) hl, h, hb, State.modEng_begun]
  exact if_neg Bool.false_ne_true

end

theorem engCut_whole {va len : Nat} (h : len ≤ 2 ^ 21 - va % 2 ^ 21) : engCut va len = [(0, len)] := by
  unfold engCut
  rw [Nat.min_eq_left h]
  exact if_pos rfl

theorem engCut_split {va len : Nat} (h : 2 ^ 21 - va % 2 ^ 21 < len) :
    engCut va len = [(0, 2 ^ 21 - va % 2 ^ 21), (2 ^ 21 - va % 2 ^ 21, len - (2 ^ 21 - va % 2 ^ 21))] := by
  unfold engCut
  rw [Nat.min_eq_right (Nat.le_of_lt h)]
  exact if_neg (Nat.ne_of_lt h)

/-- One part of a READ, a WRITE or an ATOMIC. -/
def EngReq.piece (r : EngReq) (kind : AccKind) (op : Option AtomicOp) (x : Nat × Nat) : Access :=
  { mkAccess r.agent (.engine r.port r.rq.tag.toNat x.1) kind (some r.part) 0 x.2 with
    data := if kind = .write then cut r.beats x.1 x.2 else [],
    be := if kind = .write then (r.enables.drop x.1).take x.2 else [],
    poison := if kind = .write then r.marks x.1 x.2 else [], op := op, sem := r.rq.sem, scope := r.rq.scope }

section
variable {s : State} {q : EngReq} {kind : AccKind} {op : Option AtomicOp}

theorem State.engAccess_full (h : s.holdFree q.part q.holdBytes = false) : (s.alone q).engAccess q kind op = s.alone q :=
  if_pos (by rw [show (s.alone q).holdFree (quotaOf (some q.part)) q.holdBytes = false from h]; rfl)

theorem State.engAccess_free (h : s.holdFree q.part q.holdBytes = true) {l : List (Nat × Nat)}
    (hl : engCut q.rq.va.toNat q.rq.len.toNat = l) : (s.alone q).engAccess q kind op =
      eachOf (fun x t => t.launchVa (q.piece kind op x) (BitVec.ofNat 64 (q.rq.va.toNat + x.1))) l
        ((s.alone { q with started := true, parts := l.map (fun x => (x.1, none)) }).holdTake q.part q.holdBytes) := by
  subst hl
  have hmod := State.modEng_alone s q (fun x =>
    { x with started := true, parts := (engCut q.rq.va.toNat q.rq.len.toNat).map (fun x => (x.1, none)) })
  unfold State.engAccess
  refine (if_neg ?_).trans ?_
  · rw [show (s.alone q).holdFree (quotaOf (some q.part)) q.holdBytes = true from h]
    exact Bool.false_ne_true
  · dsimp only
    rw [State.modEng_holdTake, hmod]
    rfl

theorem State.engAccess_whole (h : s.holdFree q.part q.holdBytes = true) (hl : q.rq.len.toNat ≤ 2 ^ 21 - q.rq.va.toNat % 2 ^ 21) :
    (s.alone q).engAccess q kind op =
      ((s.alone { q with started := true, parts := [(0, none)] }).holdTake q.part q.holdBytes).launchVa (q.piece kind op (0, q.rq.len.toNat))
        (q.rq.va.setWidth 64) :=
  (State.engAccess_free h (engCut_whole hl)).trans
    (congrArg (State.launchVa _ _) (BitVec.ofNat_toNat 64 q.rq.va))

theorem State.engAccess_split (h : s.holdFree q.part q.holdBytes = true) (hl : 2 ^ 21 - q.rq.va.toNat % 2 ^ 21 < q.rq.len.toNat) :
    let n := 2 ^ 21 - q.rq.va.toNat % 2 ^ 21
    (s.alone q).engAccess q kind op =
      ((((s.alone { q with started := true, parts := [(0, none), (n, none)] }).holdTake q.part q.holdBytes).launchVa (q.piece kind op (0, n))
        (q.rq.va.setWidth 64)).launchVa (q.piece kind op (n, q.rq.len.toNat - n)) (BitVec.ofNat 64 (q.rq.va.toNat + n))) :=
  (State.engAccess_free h (engCut_split hl)).trans
    (congrArg (fun v => State.launchVa (State.launchVa _ _ v) _ _) (BitVec.ofNat_toNat 64 q.rq.va))

/-- A legal ATOMIC is aligned to its 4 or 8 bytes (14 R347): it lies in one window of hold quota and in one 2 MiB. -/
theorem atomicBeat_fits (h : atomicBeatOk q = true) :
    q.holdBytes = 256 ∧ q.rq.len.toNat ≤ 2 ^ 21 - q.rq.va.toNat % 2 ^ 21 := by
  simp only [atomicBeatOk, atomicOk, Bool.and_eq_true, Bool.or_eq_true, beq_iff_eq, decide_eq_true_eq] at h
  obtain ⟨⟨⟨⟨⟨-, hsize⟩, hlen⟩, hal⟩, -⟩, -⟩ := h
  rw [← hlen] at hsize hal
  unfold EngReq.holdBytes
  rcases hsize with hz | hz <;> rw [hz] at hal ⊢ <;> omega

end

/-- The end of a request that is alone and has taken no hold bytes. -/
theorem State.engDone_alone {s : State} {q : EngReq} {st : Status} {pa : BitVec 60} {attr : BitVec 8} (h : s.engReqs = [q]) :
    (s.engDone q st pa attr).engReqs = [] ∧ (s.engDone q st pa attr).out = .engineRsp q.port q.rq.tag st pa attr :: s.out ∧
      (s.engDone q st pa attr).beats = s.beats ∧ (s.engDone q st pa attr).conf = s.conf ∧ (s.engDone q st pa attr).tide = s.tide ∧
      (s.engDone q st pa attr).queues = s.queues := by
  refine ⟨?_, rfl, rfl, rfl, rfl, rfl⟩
  change s.engReqs.filter _ = []
  rw [h]
  simp

theorem State.engineDoorbell_taken {s : State} {va : BitVec 57} {p k : Nat} {v : BitVec 64} (hk : k < 4096) (hva : va.toNat = 4096 * k)
    (h : s.doorbellCheck k v (doorbellOk k v) (some p) = 0) : s.engineDoorbell va p v = (.ok, s.ringUp k v) := by
  have hq : va.toNat / 4096 = k := by omega
  have hform : (doorbellOk k v && va.toNat % 4096 == 0 && decide (k < 4096)) = doorbellOk k v := by
    rw [show va.toNat % 4096 = 0 by omega]
    simp [hk]
  unfold State.engineDoorbell
  dsimp only
  rw [hq, hform, h]
  rfl

theorem leNat_take_mod (d : Bytes) (m n : Nat) : leNat (d.take (m + n)) % 256 ^ m = leNat (d.take m) := by
  induction m generalizing d with
  | zero => simp [leNat, Nat.mod_one]
  | succ m ih =>
    cases d with
    | nil => simp [leNat]
    | cons b d =>
      have hb := b.isLt
      rw [show m + 1 + n = (m + n) + 1 by omega, List.take_succ_cons, List.take_succ_cons, leNat, leNat, ← ih d, Nat.pow_succ',
        Nat.mod_mul, Nat.add_mul_mod_self_left, Nat.mod_eq_of_lt hb, Nat.add_mul_div_left _ _ (by decide), Nat.div_eq_of_lt hb, Nat.zero_add]

theorem truncate_field (d : Bytes) : (BitVec.ofNat 64 (fld d 0 8)).truncate 32 = BitVec.ofNat 32 (fld d 0 4) := by
  have h : fld d 0 8 % 2 ^ 32 = fld d 0 4 := leNat_take_mod d 4 4
  refine BitVec.eq_of_toNat_eq ?_
  rw [BitVec.truncate_eq_setWidth, BitVec.toNat_setWidth, BitVec.toNat_ofNat, BitVec.toNat_ofNat, ← h]
  omega

/-- What a descriptor or a request that a free belongs to is told of its error. -/
def State.freeRefused (t : State) (who : AllocAsker) (st : Status) : State :=
  match who with
  | .channel c => t.endEarly c st
  | .engine p tag => t.engEnd p tag st 0 0
  | _ => t

section
variable {t : State} {a : Access} {res : AccResult} {who : AllocAsker} {n : Nat}

theorem State.tell_freeRecord (hp : a.purpose = .freeRecord who n) (hs : res.status ≠ .sealed) : t.tell a res = t.freeBack a who n res := by
  unfold State.tell
  rw [if_neg fun h => hs h.1, hp]

theorem State.freeBack_error (h : res.status ≠ .ok) : t.freeBack a who n res = t.freeRefused who res.status := by
  unfold State.freeBack
  dsimp only
  rw [if_pos h]
  rfl

theorem State.freeBack_poison (h : res.status = .ok) (hb : res.bad = true) : t.freeBack a who n res = t.freeRefused who .checkFail := by
  unfold State.freeBack
  dsimp only
  rw [if_neg (not_not_intro h), if_pos hb]
  rfl

theorem State.freeBack_part (h : res.status = .ok) (hb : res.bad = false) (hl : (a.data ++ res.data).length < 64) :
    t.freeBack a who n res = t.recordRest a (a.data ++ res.data) := by
  unfold State.freeBack
  dsimp only
  rw [if_neg (not_not_intro h), if_neg (by simp [hb]), if_pos hl]

theorem State.freeBack_whole (h : res.status = .ok) (hb : res.bad = false) (hl : 64 ≤ (a.data ++ res.data).length) {v : BitVec 64}
    (hv : a.va = some v) : t.freeBack a who n res = Sum.elim (t.freeRefused who) id
      (t.freeNew who (if a.mc then none else a.part) (a.data ++ res.data) (v - BitVec.ofNat 64 a.data.length) n) := by
  unfold State.freeBack
  dsimp only
  rw [if_neg (not_not_intro h), if_neg (by simp [hb]), if_neg (Nat.not_lt.mpr hl), hv, Option.getD_some]
  cases t.freeNew who (if a.mc then none else a.part) (a.data ++ res.data) (v - BitVec.ofNat 64 a.data.length) n <;> rfl

end

theorem State.recordRest_translated {t : State} {a : Access} {d : Bytes} {v : BitVec 64} (hv : a.va = some v) :
    t.recordRest a d = t.launchVa
      { mkAccess a.agent a.purpose .read a.part (a.pa + BitVec.ofNat 60 d.length) (64 - d.length) with data := d, mc := a.mc }
      (v + BitVec.ofNat 64 d.length) := by
  unfold State.recordRest
  rw [hv]

/-- Settles O32: a request taken alone is performed by the operation its row of 02 R40 names; a free goes on from its record. -/
theorem engineRequestsArePerformed : Obligations.EngineRequestsArePerformed := by
  intro s e rq hready hidle hon hlen hmax hscope huse hpart hfree hlinks part r ag hold with_
  have hadm : s.Admits e rq := ⟨hready, hidle, hon, hlen, hmax, hscope, huse, hpart, fun _ => hfree, hlinks⟩
  have plain (op : EngineOp) (c : Instr) (hb : s.beats = []) (ho : (op == .alloc || op == .free) = false)
      (hn : beatsNeeded op rq.len.toNat = 0) (hc : exec c s = .next (s.engAccept e op rq).settle) {u : State}
      (hu : (s.alone (r op)).engStart (r op) = u) : exec c s = .next u.settle :=
    hc.trans (next_settle_congr ((hadm.engAccept_plain hb ho hn).trans hu))
  refine ⟨fun hb => ?_, fun hb hh => ⟨fun hn => ?_, fun hn => ?_⟩, fun hb hh => ?_, fun b hb hp ht => ?_, ?_⟩
  · refine plain .translate _ hb rfl rfl rfl ((State.engStart_translate hlinks rfl).trans ?_)
    rfl
  · exact plain .read _ hb rfl rfl rfl ((State.engStart_read hlinks rfl).trans (State.engAccess_whole hh hn))
  · exact plain .read _ hb rfl rfl rfl ((State.engStart_read hlinks rfl).trans (State.engAccess_split hh hn))
  · exact plain .read _ hb rfl rfl rfl ((State.engStart_read hlinks rfl).trans (State.engAccess_full hh))
  · have beat (op : EngineOp) (c : Instr) (ha : (op == .alloc || op == .free) = true → s.feature 8 = true) (hf : ¬ allocFieldsBad op rq)
        (hn : beatsNeeded op rq.len.toNat = 1) (hc : exec c s = .next (s.engAccept e op rq).settle) {u : State}
        (hu : (s.alone ((r op).addBeat b)).engStart ((r op).addBeat b) = u) : exec c s = .next u.settle :=
      hc.trans (next_settle_congr ((hadm.engAccept_beat hb hp ht ha hf hn).trans hu))
    have other (op : EngineOp) (c : Instr) (ho : (op == .alloc || op == .free) = false) (hn : beatsNeeded op rq.len.toNat = 1)
        (hc : exec c s = .next (s.engAccept e op rq).settle) {u : State}
        (hu : (s.alone ((r op).addBeat b)).engStart ((r op).addBeat b) = u) : exec c s = .next u.settle :=
      beat op c (fun hx => absurd hx (by simp [ho])) (allocFields_of_other ho) hn hc hu
    refine ⟨fun hin hone hh => ?_, fun hok hh => ?_, fun k hk hva hcheck => ?_, fun hin => ⟨fun hlt => ?_, fun hge => ?_⟩,
      fun hfe hva hl hok => ?_, fun hfe hva hl hok => ?_⟩
    · have hpos : rq.len.toNat ≠ 0 := fun hz => hlen (BitVec.eq_of_toNat_eq hz)
      refine other .write _ rfl (show (rq.len.toNat + 127) / 128 = 1 by omega) rfl
        ((State.engStart_write hlinks rfl).trans ((State.engAccess_whole hh ?_).trans ?_))
      · exact (by omega : rq.len.toNat ≤ 2 ^ 21 - rq.va.toNat % 2 ^ 21)
      · rfl
    · obtain ⟨hbytes, hfits⟩ := atomicBeat_fits hok
      refine other .atomic _ rfl rfl rfl ((State.engStart_atomic hlinks rfl hok).trans
        ((State.engAccess_whole (by rw [hbytes]; exact hh) hfits).trans ?_))
      rw [hbytes]
      rfl
    · have hring := State.engineDoorbell_taken (s := s.alone ((r .doorbell).addBeat b)) hk hva hcheck
      refine ⟨_, other .doorbell _ rfl rfl rfl (State.engStart_doorbell hlinks rfl hring), ?_⟩
      obtain ⟨hreqs, hout, hbeats, hconf, htide, hqueues⟩ :=
        State.engDone_alone (s := (s.alone ((r .doorbell).addBeat b)).ringUp k (BitVec.ofNat 64 (fld (padTo b.data 128) 0 8)))
          (q := (r .doorbell).addBeat b) (st := .ok) (pa := 0) (attr := 0) rfl
      refine ⟨?_, fun j hj => ?_, hout, hreqs, hbeats, hconf, htide⟩
      · rw [State.queue, hqueues]
        refine (State.queue_setQueue ..).trans ((if_pos rfl).trans ?_)
        exact congrArg (fun x => { s.queue k with prod := x }) (truncate_field _)
      · rw [State.queue, hqueues]
        exact (State.queue_setQueue ..).trans (if_neg hj)
    · refine ⟨_, other .tideWait _ rfl rfl rfl (State.engStart_tideReached hlinks rfl hin (decide_eq_true hlt)), ?_⟩
      obtain ⟨hreqs, hout, -, hconf, htide, -⟩ :=
        State.engDone_alone (s := s.alone ((r .tideWait).addBeat b)) (q := (r .tideWait).addBeat b) (st := .ok) (pa := 0) (attr := 0) rfl
      exact ⟨hout, hreqs, htide, hconf⟩
    · exact other .tideWait _ rfl rfl rfl (State.engStart_tideWaits hlinks rfl hin (decide_eq_false (Nat.not_lt.mpr hge)))
    · exact beat .alloc _ (fun _ => hfe) (fun hx => hx.2.elim (· hva) (· (by rw [hl]; rfl))) rfl rfl (State.engStart_alloc hlinks rfl hok)
    · exact beat .free _ (fun _ => hfe) (fun hx => hx.2.elim (· hva) (· (by rw [hl]; rfl))) rfl rfl (State.engStart_free hlinks rfl hok)
  · intro t a res who n hpu hs refused d
    rw [State.tell_freeRecord hpu hs]
    refine ⟨State.freeBack_error, State.freeBack_poison, fun hok hb v hv => ⟨fun hl => ?_, fun hl x hx => ?_⟩⟩
    · exact (State.freeBack_part hok hb hl).trans (State.recordRest_translated hv)
    · rw [State.freeBack_whole hok hb hl hv, hx]
      cases x <;> rfl

end Sys2Proof.Machine

/-! SETTLED: write beats, answers of the memory ports, engine port control and token buckets (02 R39, R44; 06 R143; 16 R404). -/

namespace Sys2Proof.Machine

/-! ### Write beats (02 R39) -/

theorem State.engBeat_early {s : State} {b : EarlyBeat} (hr : s.engineReady = true) (ho : s.owedBeats = [])
    (hn : s.engReq b.port b.tag = none) : s.engBeat b = { s with beats := s.beats ++ [b] } := by
  unfold State.engBeat
  rw [hr, ho, hn]
  rfl

theorem State.engBeat_owed {s : State} {b : EarlyBeat} {n : Nat} {rest : List (Nat × BitVec 8 × Nat)} (hr : s.engineReady = true)
    (ho : s.owedBeats = (b.port, b.tag, n) :: rest) :
    s.engBeat b = { s with owedBeats := if n ≤ 1 then rest else (b.port, b.tag, n - 1) :: rest } := by
  have htake : takeOwed b.port b.tag ((b.port, b.tag, n) :: rest) = some (if n ≤ 1 then rest else (b.port, b.tag, n - 1) :: rest) :=
    if_pos ⟨rfl, rfl⟩
  unfold State.engBeat
  rw [hr, ho, htake]
  rfl

/-! ### The end of an access at a memory port (02 R44) -/

/-- The record of an access that CTL does not hold back is written (16 R392). -/
theorem State.recordFor_unheld {s : State} {ag : Agent} {r : ErrRec}
    (h : ∀ c, ag = .channel c → (s.core (3 + c / 16)).state ≠ .watchdog) : s.recordFor ag r = s.record r := by
  unfold State.recordFor
  split
  · next c => exact if_neg (h c rfl)
  · rfl

/-- The record of an error at a memory port. -/
def State.memErr (s : State) (m : Nat) (st : Status) (a : Access) : ErrRec :=
  { s.errAt (s.errRec 3 st .hd 2 m) (BitVec.ofNat 60 (roundDown a.pa.toNat 64)) with part := BitVec.ofNat 8 (a.part.getD 0xFF) }

theorem State.memRecord_eq {s : State} {m : Nat} {st : Status} {a : Access} (hp : a.purpose ≠ .ras)
    (h : ∀ c, a.agent = .channel c → (s.core (3 + c / 16)).state ≠ .watchdog) : s.memRecord m st a = s.record (s.memErr m st a) := by
  unfold State.memRecord
  rw [if_neg hp, State.recordFor_unheld h]
  rfl

theorem State.acc_id {s : State} {id : Nat} {a : Access} (h : s.acc id = some a) : a.id = id := by
  simpa using List.find?_some h

theorem State.modHoldUsed_eq (s : State) (k : Nat) (f : Nat → Nat) : s.modHoldUsed k f = { s with hold := (s.modHoldUsed k f).hold } := rfl

/-- `u` is `s` with access `a` ended as `res`, and `recs` records more. -/
structure State.EndsAt (s : State) (a : Access) (res : AccResult) (recs : BitVec 32) (u : State) : Prop where
  accesses : u.accesses = s.accesses.filter (fun y => y.id != a.id)
  ended : u.ended = s.ended ++ [(a, res)]
  mems : u.mems = s.mems
  seq : s.ctrlLost .hd = false → u.ras.nextSeq = s.ras.nextSeq + recs
  conf : u.conf = s.conf
  tide : u.tide = s.tide

section
variable {s : State} {a : Access}

theorem State.endsAt_finish (h : s.acc a.id = some a) (res : AccResult) : s.EndsAt a res 0 (s.finish a.id res) := by
  obtain ⟨x, e⟩ : ∃ x, s.finish a.id res =
      { s with hold := x, accesses := s.accesses.filter (fun y => y.id != a.id), ended := s.ended ++ [(a, res)] } := by
    unfold State.finish
    rw [h]
    dsimp only
    split
    · next q _ => exact ⟨(s.modHoldUsed q (· - 256)).hold, by rw [State.modHoldUsed_eq]; rfl⟩
    · exact ⟨s.hold, rfl⟩
  refine ⟨?_, ?_, ?_, fun _ => ?_, State.finish_conf .., ?_⟩
  all_goals rw [e]
  exact (BitVec.add_zero _).symm

theorem State.endsAt_fail (h : s.acc a.id = some a) (st : Status) : s.EndsAt a { status := st, data := [], poison := [] } 0 (s.fail a.id st) :=
  State.endsAt_finish h _

theorem State.endsAt_lose (h : s.acc a.id = some a) (st : Status) (w : AckFrom) :
    s.EndsAt a { status := st, data := [], poison := [] } 0 (s.lose a.id st w) := by
  unfold State.lose
  dsimp only
  split
  · obtain ⟨h1, h2, h3, h4, h5, h6⟩ :=
      State.endsAt_fail (s := { s with inv := { s.inv with unacked := s.inv.unacked ++ [(a.id, w)] } }) h st
    exact ⟨h1, h2, h3, h4, h5, h6⟩
  · exact State.endsAt_fail h st

/-- An error at a memory port is recorded, and then ends the access. -/
theorem State.EndsAt.ofRecord {m : Nat} {st : Status} {res : AccResult} {u : State} (hp : a.purpose ≠ .ras)
    (h : ∀ c, a.agent = .channel c → (s.core (3 + c / 16)).state ≠ .watchdog) (he : (s.memRecord m st a).EndsAt a res 0 u) :
    s.EndsAt a res 1 u := by
  rw [State.memRecord_eq hp h] at he
  obtain ⟨h1, h2, h3, h4, h5, h6⟩ := he
  refine ⟨h1.trans (by rw [State.record_accesses]), h2.trans (by rw [State.record_ended]), h3.trans (State.record_mems ..), fun hc => ?_,
    h5.trans (State.record_conf ..), h6.trans (State.record_tide ..)⟩
  have hsame : (s.record (s.memErr m st a)).ctrlLost .hd = false := by
    rw [State.ctrlLost, State.clock, State.record_kept (r := s.memErr m st a) hc]
    exact hc
  rw [h4 hsame, State.record_nextSeq (r := s.memErr m st a) hc]
  exact BitVec.add_zero _

theorem State.memRecord_acc {m : Nat} {st : Status} (hp : a.purpose ≠ .ras)
    (h : ∀ c, a.agent = .channel c → (s.core (3 + c / 16)).state ≠ .watchdog) (id : Nat) : (s.memRecord m st a).acc id = s.acc id := by
  rw [State.memRecord_eq hp h, State.acc, State.record_accesses]
  rfl

theorem State.notePoisons_clean {origin unit_ index inst : Nat} {persistent : Bool} {marks : List Bool} (h : ∀ b ∈ marks, b = false) :
    s.notePoisons origin unit_ index a inst persistent marks = s := by
  have hnone (x : Nat × Bool) (hx : x ∈ (List.range marks.length).zip marks) (t : State) :
      State.notePoison origin unit_ index a inst persistent x t = t :=
    if_neg (by rw [h x.2 (List.of_mem_zip hx).2]; exact Bool.false_ne_true)
  have hall (l : List (Nat × Bool)) (hl : ∀ x ∈ l, ∀ t, State.notePoison origin unit_ index a inst persistent x t = t) (t : State) :
      eachOf (State.notePoison origin unit_ index a inst persistent) l t = t := by
    induction l generalizing t with
    | nil => rfl
    | cons x l ih =>
      rw [eachOf, hl x (List.mem_cons_self ..)]
      exact ih (fun y hy => hl y (List.mem_cons_of_mem _ hy)) t
  exact hall _ hnone s

end

theorem bitList_zero (n : Nat) : ∀ b ∈ bitList n 0, b = false := by
  induction n with
  | zero => exact fun _ h => absurd h (List.not_mem_nil)
  | succ n ih =>
    intro b hb
    rcases List.mem_cons.mp hb with rfl | hb
    · rfl
    · exact ih b hb

theorem State.mem_modMem (s : State) (k j : Nat) (f : MemPort → MemPort) :
    (s.modMem k f).mem j = if j = k then f (s.mem k) else s.mem j := State.mem_setMem ..

section
variable {s : State} {m : Nat} {tag : BitVec 10} {x : MemTag} {a : Access}

/-- A read's lines end its access OK. -/
theorem State.memReturned_ok (hx : s.memTag m tag = some x) (ha : s.acc x.access = some a) (hw : x.write = false) (data : Bytes) :
    s.memReturned m tag data 0 false = (s.dropTag m tag).finish a.id
      { status := .ok, data := ownBytes a (padTo data (64 * x.lines)), poison := (bitList 8 0).take x.lines } := by
  unfold State.memReturned
  rw [hx]
  dsimp only
  rw [show (s.dropTag m tag).acc x.access = some a from ha, hw]
  exact congrArg (fun t : State => t.finish a.id _) (State.notePoisons_clean fun b hb => bitList_zero 8 b (List.mem_of_mem_take hb))

theorem State.memReturned_error (hx : s.memTag m tag = some x) (ha : s.acc x.access = some a) (hw : x.write = false) (data : Bytes)
    (bad : BitVec 8) : s.memReturned m tag data bad true = ((s.dropTag m tag).memRecord m .busError a).fail a.id .busError := by
  unfold State.memReturned
  rw [hx]
  dsimp only
  rw [show (s.dropTag m tag).acc x.access = some a from ha, hw]
  rfl

theorem State.memAcked_ok (hx : s.memTag m tag = some x) (ha : s.acc x.access = some a) (hw : x.write = true) :
    s.memAcked m tag false = (s.dropTag m tag).finish a.id { status := .ok, data := [], poison := [] } := by
  unfold State.memAcked
  rw [hx]
  dsimp only
  rw [show (s.dropTag m tag).acc x.access = some a from ha, hw]
  rfl

theorem State.memAcked_error (hx : s.memTag m tag = some x) (ha : s.acc x.access = some a) (hw : x.write = true) :
    s.memAcked m tag true = ((s.dropTag m tag).memRecord m .busError a).fail a.id .busError := by
  unfold State.memAcked
  rw [hx]
  dsimp only
  rw [show (s.dropTag m tag).acc x.access = some a from ha, hw]
  rfl

/-- The tag of a request that was not answered in time stays dead. -/
def State.killTag (s : State) (m : Nat) (tag : BitVec 10) : State :=
  (s.dropTag m tag).modMem m (fun p => { p with dead := p.dead ++ [(tag, true)] })

theorem State.memExpired_eq (hx : s.memTag m tag = some x) (ha : s.acc x.access = some a) :
    s.memExpired m tag = ((s.killTag m tag).memRecord m .timeout a).lose a.id .timeout (.mem m tag) := by
  unfold State.memExpired
  rw [hx]
  dsimp only
  rw [show ((s.dropTag m tag).modMem m (fun p => { p with dead := p.dead ++ [(tag, true)] })).acc x.access = some a from ha]
  rfl

theorem State.mem_dropTag (s : State) (m : Nat) (tag : BitVec 10) (j : Nat) :
    (s.dropTag m tag).mem j = if j = m then { s.mem m with out := (s.mem m).out.filter (fun t => t.tag != tag) } else s.mem j :=
  State.mem_modMem ..

theorem State.mem_killTag (s : State) (m : Nat) (tag : BitVec 10) (j : Nat) :
    (s.killTag m tag).mem j = if j = m then
      { s.mem m with out := (s.mem m).out.filter (fun t => t.tag != tag), dead := (s.mem m).dead ++ [(tag, true)] } else s.mem j := by
  unfold State.killTag
  rw [State.mem_modMem]
  split
  · rw [State.mem_dropTag, if_pos rfl]
  · next h => rw [State.mem_dropTag, if_neg h]

theorem State.mem_acked (s : State) (w : AckFrom) (j : Nat) : (s.acked w).mem j = s.mem j := rfl

theorem State.lateAnswer_dead {counted : Bool} (hd : (s.mem m).dead.find? (fun e => e.1 == tag) = some (tag, counted)) :
    s.lateAnswer m tag = State.acked (s.modMem m (fun p => { p with
      dead := p.dead.filter (fun e => e.1 != tag), late := if counted then sat32 p.late else p.late })) (.mem m tag) := by
  unfold State.lateAnswer
  rw [hd]

theorem State.memReturned_late (hx : s.memTag m tag = none) (data : Bytes) (bad : BitVec 8) (err : Bool) :
    s.memReturned m tag data bad err = s.lateAnswer m tag := by
  unfold State.memReturned
  rw [hx]

theorem State.memAcked_late (hx : s.memTag m tag = none) (err : Bool) : s.memAcked m tag err = s.lateAnswer m tag := by
  unfold State.memAcked
  rw [hx]

end

/-! ### Engine port control (06 R143) -/

/-- Aborting the requests of a list takes out those with the port and tag of one of them. -/
theorem State.eachOf_abortReq_engReqs (l : List EngReq) (s : State) :
    (eachOf (fun r (t : State) => t.abortReq r) l s).engReqs =
      s.engReqs.filter (fun x => l.all (fun r => !(x.port == r.port && x.rq.tag == r.rq.tag))) := by
  induction l generalizing s with
  | nil => exact (List.filter_eq_self.mpr fun _ _ => rfl).symm
  | cons r l ih =>
    refine (ih (s.abortReq r)).trans ?_
    change (s.engReqs.filter fun x => !(x.port == r.port && x.rq.tag == r.rq.tag)).filter _ = _
    rw [List.filter_filter]
    exact List.filter_congr fun x _ => by rw [List.all_cons, Bool.and_comm]

/-- Each of them is answered ABORTED. -/
theorem State.eachOf_abortReq_out {l : List EngReq} {s : State} {q : EngReq}
    (h : q ∈ l ∨ .engineRsp q.port q.rq.tag .aborted 0 0 ∈ s.out) :
    .engineRsp q.port q.rq.tag .aborted 0 0 ∈ (eachOf (fun r (t : State) => t.abortReq r) l s).out := by
  induction l generalizing s with
  | nil => exact h.resolve_left List.not_mem_nil
  | cons r l ih =>
    refine ih (s := s.abortReq r) ?_
    rcases h with h | h
    · rcases List.mem_cons.mp h with rfl | h
      · exact .inr (List.mem_cons_self ..)
      · exact .inl h
    · exact .inr (List.mem_cons_of_mem _ h)

theorem portRequests_gone (l : List EngReq) (e : Nat) :
    l.filter (fun x => (l.filter (fun r => r.port == e)).all (fun r => !(x.port == r.port && x.rq.tag == r.rq.tag))) =
      l.filter (fun r => r.port != e) := by
  refine List.filter_congr fun x hx => ?_
  rw [Bool.eq_iff_iff, List.all_eq_true, bne_iff_ne]
  constructor
  · intro h hp
    simpa using h x (List.mem_filter.mpr ⟨hx, beq_iff_eq.mpr hp⟩)
  · intro h r hr
    have hne : x.port ≠ r.port := fun hc => h (hc.trans (by simpa using (List.mem_filter.mp hr).2))
    simp [hne]

section
variable {s : State} {e : Nat}

/-- The port is enabled by the chart and not fenced off. -/
def State.portFree (s : State) (e : Nat) : Prop := s.theChart.ports.engineEnable.getLsbD e = true ∧ s.fenced.engine.getLsbD e = false

theorem State.portEnableOn_free (h : s.portFree e) : s.portEnableOn e = s.setPortOn e true := if_pos (by rw [h.1, h.2]; rfl)

theorem State.portEnableOff_free (h : s.portFree e) :
    s.portEnableOff e = eachOf (fun r t => t.abortReq r) (s.engReqs.filter (fun r => r.port == e)) (s.setPortOn e false) :=
  if_pos (by rw [h.1, h.2]; rfl)

end

/-! ### Token buckets (16 R404) -/

/-- A bucket with what one cc brings it. -/
def State.refilled (s : State) (k : Nat) : StackState :=
  { s.stackState k with
    tokens := min (1024 * (s.stackSec k).bucket) ((s.stackState k).tokens + (s.stackSec k).share * 8 * 1024 / (256 * s.stackCount)) }

theorem State.tokenRefill_throttled {s : State} {k : Nat} (ht : (s.stackState k).throttled = true)
    (hp : s.theChart.thermal.useThrottleReq = false) :
    ∃ cc, s.tokenRefill k = State.setStackState { s with thermal := { s.thermal with cc := cc } } k (s.refilled k) := by
  refine ⟨if s.tokenWaiter k && (List.range k).all (fun u => !s.tokenWaiter u) then s.thermal.cc + 1 else s.thermal.cc, ?_⟩
  unfold State.tokenRefill
  refine (if_neg (by rw [ht, hp]; decide)).trans ?_
  dsimp only
  split <;> rfl

/-- Settles O33: each command is one operation, and its clause's conditions pick the one way it goes. -/
theorem beatsMemoryAnswersAndPortControl : Obligations.BeatsMemoryAnswersAndPortControl := by
  intro s
  refine ⟨fun hr e tag data hi lo => ⟨fun ho hn => ?_, fun n rest ho => ?_⟩, fun m tag x a hx ha hras hdog => ?_,
    fun m tag counted data bad err hx hd => ?_, fun e hreach hen hfen => ⟨?_, ?_⟩, fun k ht hp => ?_⟩
  · exact next_settle_congr (State.engBeat_early hr ho hn)
  · exact next_settle_congr (State.engBeat_owed hr ho)
  · intro ends
    have hid : x.access = a.id := (State.acc_id ha).symm
    have hacc : s.acc a.id = some a := hid ▸ ha
    have hdone {c : Instr} {recs : BitVec 32} {p : AccResult → Prop} {u : State} {res : AccResult} (hc : exec c s = .next u.settle)
        (hp : p res) (hu : (s.dropTag m tag).EndsAt a res recs u) : ends c recs (s.mem m).dead p := by
      refine ⟨u, res, hc, hp, hu.accesses, hu.ended, ?_, fun j hj => ?_, hu.seq, hu.conf, hu.tide⟩
      · rw [State.mem, hu.mems]
        exact (State.mem_dropTag ..).trans (if_pos rfl)
      · rw [State.mem, hu.mems]
        exact (State.mem_dropTag ..).trans (if_neg hj)
    have herr (c : Instr) (hc : exec c s = .next (((s.dropTag m tag).memRecord m .busError a).fail a.id .busError).settle) :
        ends c 1 (s.mem m).dead (fun res => res = { status := .busError, data := [], poison := [] }) :=
      hdone hc rfl (.ofRecord (s := s.dropTag m tag) (m := m) (st := .busError) hras hdog
        (State.endsAt_fail ((State.memRecord_acc (s := s.dropTag m tag) hras hdog a.id).trans hacc) _))
    refine ⟨fun hw data => ?_, fun hw data bad => herr _ (next_settle_congr (State.memReturned_error hx ha hw data bad)), fun hw => ?_,
      fun hw => herr _ (next_settle_congr (State.memAcked_error hx ha hw)), ?_⟩
    · refine hdone (next_settle_congr (State.memReturned_ok hx ha hw data)) ⟨rfl, rfl, fun b hb => ?_⟩
        (State.endsAt_finish (s := s.dropTag m tag) hacc _)
      exact bitList_zero 8 b (List.mem_of_mem_take hb)
    · exact hdone (next_settle_congr (State.memAcked_ok hx ha hw)) rfl (State.endsAt_finish (s := s.dropTag m tag) hacc _)
    · have hlost := (State.memRecord_acc (s := s.killTag m tag) (m := m) (st := .timeout) hras hdog a.id).trans hacc
      have hu := State.EndsAt.ofRecord (s := s.killTag m tag) hras hdog (State.endsAt_lose hlost .timeout (.mem m tag))
      refine ⟨_, _, next_settle_congr (State.memExpired_eq hx ha), rfl, hu.accesses, hu.ended, ?_, fun j hj => ?_, hu.seq, hu.conf, hu.tide⟩
      · rw [State.mem, hu.mems]
        exact (State.mem_killTag ..).trans (if_pos rfl)
      · rw [State.mem, hu.mems]
        exact (State.mem_killTag ..).trans (if_neg hj)
  · exact ⟨_, next_settle_congr ((State.memReturned_late hx data bad err).trans (State.lateAnswer_dead hd)),
      next_settle_congr ((State.memAcked_late hx err).trans (State.lateAnswer_dead hd)),
      (State.mem_acked ..).trans ((State.mem_modMem ..).trans (if_pos rfl)),
      fun j hj => (State.mem_acked ..).trans ((State.mem_modMem ..).trans (if_neg hj)), rfl, rfl⟩
  · refine ⟨_, congrArg Host.Outcome.next ((State.onPath_reached hreach _).trans
      (congrArg (State.written · .cp) (State.portEnableOn_free ⟨hen, hfen⟩))), ?_, fun j hj => ?_, rfl⟩
    · exact (State.portOn_setPortOn s e.val e.val true).trans (if_pos rfl)
    · exact (State.portOn_setPortOn s e.val j true).trans (if_neg hj)
  · have hkeep {α : Type} (g : State → α) (h : ∀ (r : EngReq) (t : State), g (t.abortReq r) = g t) :=
      eachOf_keeps g h (s.engReqs.filter (fun r => r.port == e.val)) (s.setPortOn e false)
    have hport := hkeep State.portEnable fun _ _ => rfl
    refine ⟨_, next_settle_congr ((State.onPath_reached hreach _).trans
      (congrArg (State.written · .cp) (State.portEnableOff_free ⟨hen, hfen⟩))), ?_, fun j hj => ?_, ?_, fun q hq hqe => ?_, ?_, ?_⟩
    · exact (congrArg (fun t => tabGet false t e.val) hport).trans ((State.portOn_setPortOn ..).trans (if_pos rfl))
    · exact (congrArg (fun t => tabGet false t j) hport).trans ((State.portOn_setPortOn ..).trans (if_neg hj))
    · exact (State.eachOf_abortReq_engReqs ..).trans (portRequests_gone ..)
    · rw [← hqe]
      exact List.mem_cons_of_mem _ (State.eachOf_abortReq_out (.inl (List.mem_filter.mpr ⟨hq, beq_self_eq_true _⟩)))
    · exact hkeep State.conf fun r t => State.abortReq_conf t r
    · exact hkeep State.tide fun _ _ => rfl
  · obtain ⟨cc, hcc⟩ := State.tokenRefill_throttled ht hp
    exact ⟨_, next_settle_congr hcc, (State.stackState_setStackState ..).trans (if_pos rfl),
      fun j hj => (State.stackState_setStackState ..).trans (if_neg hj), rfl, rfl⟩

end Sys2Proof.Machine

/-! What the loss of a port, a link or a clock leaves: clocks, links, host ports and the configuration (02 R30, R46, R58; 14 R343). -/

namespace Sys2Proof.Machine

/-! ### The interrupt's status bits -/

theorem State.shIrq_status (s : State) (i : Nat) : (s.shIrq i).irq.status = s.irq.status ||| BitVec.ofNat 10 (2 ^ i) := by
  unfold State.shIrq
  rw [State.shIrqSet_irq]

theorem State.shIrq_bit (s : State) {i : Nat} (h : i < 10) : (s.shIrq i).irq.status.getLsbD i = true := by
  have hbit : (BitVec.ofNat 10 (2 ^ i)).getLsbD i = true := by
    simp only [BitVec.getLsbD_ofNat, h, Nat.testBit_two_pow_self, decide_true, Bool.and_self]
  rw [State.shIrq_status, BitVec.getLsbD_or, hbit, Bool.or_true]

theorem State.shIrq_bit_kept {s : State} {i j : Nat} (h : s.irq.status.getLsbD j = true) : (s.shIrq i).irq.status.getLsbD j = true := by
  rw [State.shIrq_status, BitVec.getLsbD_or, h, Bool.true_or]

/-! ### Operations beside clocks and ports -/

/-- `t` is `s` but for what is neither a clock, a slice link, a host port, an interrupt register, an error record, a tide counter, a queue
nor configuration; a snoop filter that holds no line holds none after it. -/
structure State.Beside (s t : State) : Prop where
  clocks : t.clocks = s.clocks
  links : t.links = s.links
  hosts : t.hosts = s.hosts
  irq : t.irq = s.irq
  ras : t.ras = s.ras
  tide : t.tide = s.tide
  queues : t.queues = s.queues
  conf : t.conf = s.conf
  filter : s.home.filter = [] → t.home.filter = []

section
variable {s t u : State}

theorem State.Beside.refl : s.Beside s := ⟨rfl, rfl, rfl, rfl, rfl, rfl, rfl, rfl, id⟩

theorem State.Beside.trans (h : s.Beside t) (h' : t.Beside u) : s.Beside u :=
  ⟨h'.clocks.trans h.clocks, h'.links.trans h.links, h'.hosts.trans h.hosts, h'.irq.trans h.irq, h'.ras.trans h.ras,
    h'.tide.trans h.tide, h'.queues.trans h.queues, h'.conf.trans h.conf, fun hf => h'.filter (h.filter hf)⟩

theorem State.Beside.each {α : Type} {f : α → State → State} (h : ∀ x t, State.Beside t (f x t)) (l : List α) (s : State) :
    s.Beside (eachOf f l s) :=
  eachOf_relates (fun _ => .refl) (fun _ _ _ h h' => h.trans h') h l s

theorem State.Beside.clock (h : s.Beside t) (sl : Slice) : t.clock sl = s.clock sl := by rw [State.clock, h.clocks]; rfl

theorem State.Beside.link (h : s.Beside t) (l : Link) : t.link l = s.link l := by rw [State.link, h.links]; rfl

theorem State.Beside.host (h : s.Beside t) (n : Nat) : t.host n = s.host n := by rw [State.host, h.hosts]; rfl

theorem State.Beside.linkFault (h : s.Beside t) (l : Link) : t.linkFault l = s.linkFault l := by
  have hend : t.endLost l = s.endLost l := funext fun sl => by rw [State.endLost, h.clock]; rfl
  rw [State.linkFault, hend, h.link]
  rfl

theorem State.Beside.ofOnPort {p : Nat} (h : s.OnPort p t) : s.Beside t := by
  rw [h.eq]
  exact ⟨rfl, rfl, rfl, rfl, rfl, rfl, rfl, rfl, id⟩

end

theorem State.beside_drive (s : State) (o : Out) : s.Beside (s.drive o) := ⟨rfl, rfl, rfl, rfl, rfl, rfl, rfl, rfl, id⟩

/-- An operation on the parts that no clause of a loss speaks of. -/
theorem State.beside_parts (s : State) {tr : List Tracker} {ac : List Access} {en : List (Access × AccResult)} {cu : BitVec 32}
    {un : List (Nat × AckFrom)} {us : Tab Nat} {jobs : List AllocJob} {eg : List EngReq} {ow : List (Nat × BitVec 8 × Nat)} :
    s.Beside { s with
      tracker := tr, accesses := ac, ended := en, unreach := cu, inv := { s.inv with unacked := un }, hold := { s.hold with used := us },
      alloc := { s.alloc with jobs := jobs }, engReqs := eg, owedBeats := ow } :=
  ⟨rfl, rfl, rfl, rfl, rfl, rfl, rfl, rfl, id⟩

theorem State.beside_trim (s : State) : s.Beside s.trim :=
  ⟨rfl, rfl, rfl, rfl, rfl, rfl, rfl, rfl, fun h => by
    change s.home.filter.filter _ = []
    rw [h]
    rfl⟩

theorem State.modHoldUsed_frame (s : State) (k : Nat) (f : Nat → Nat) :
    ∃ x, s.modHoldUsed k f = { s with hold := { s.hold with used := x } } := ⟨_, rfl⟩

/-- The end of an access writes the quota, the accesses and those that have ended. -/
theorem State.finish_frame (s : State) (id : Nat) (r : AccResult) :
    ∃ x ac en, s.finish id r = { s with hold := { s.hold with used := x }, accesses := ac, ended := en } ∧ ∀ a ∈ ac, a ∈ s.accesses ∧ a.id ≠ id := by
  unfold State.finish
  split
  · next a _ =>
    have hac : ∀ y ∈ s.accesses.filter (fun y => y.id != id), y ∈ s.accesses ∧ y.id ≠ id := fun y hy => by simpa using hy
    dsimp only
    split
    · next q _ =>
      obtain ⟨x, hx⟩ := s.modHoldUsed_frame q (· - 256)
      rw [hx]
      exact ⟨x, _, _, rfl, hac⟩
    · exact ⟨s.hold.used, _, _, rfl, hac⟩
  · next h =>
    exact ⟨s.hold.used, s.accesses, s.ended, rfl, fun a ha => ⟨ha, fun hc => by simpa [hc] using List.find?_eq_none.mp h a ha⟩⟩

theorem State.beside_fail (s : State) (id : Nat) (st : Status) : s.Beside (s.fail id st) := by
  obtain ⟨x, ac, en, h, -⟩ := s.finish_frame id { status := st, data := [], poison := [] }
  rw [State.fail, h]
  exact s.beside_parts

theorem State.beside_lose (s : State) (id : Nat) (st : Status) (w : AckFrom) : s.Beside (s.lose id st w) := by
  unfold State.lose
  dsimp only
  split
  · exact s.beside_parts.trans (State.beside_fail _ _ _)
  · exact State.beside_fail _ _ _

theorem State.beside_failWhere (s : State) (p : Access → Bool) (st : Status) : s.Beside (s.failWhere p st) :=
  s.beside_parts.trans (State.Beside.each (fun (a : Access) t => t.beside_lose a.id st .never) _ _)

theorem State.beside_doeGone (s : State) (n : Nat) : s.Beside (s.doeGone n) := by
  unfold State.doeGone
  split
  · exact ⟨rfl, rfl, rfl, rfl, rfl, rfl, rfl, rfl, id⟩
  · exact .refl

theorem State.beside_dropHost (s : State) (n : Nat) : s.Beside (s.dropHost n) := by
  unfold State.dropHost
  refine State.Beside.trans ?_ (State.beside_trim _)
  exact ⟨rfl, rfl, rfl, rfl, rfl, rfl, rfl, rfl, id⟩

theorem State.beside_sendPacket (s : State) (k : Packet) : s.Beside (s.sendPacket k) := by
  unfold State.sendPacket
  split
  · exact .ofOnPort (s.onPort_queueOn _ k)
  · exact .refl

theorem State.beside_tracker (s : State) (l : List Tracker) : s.Beside { s with tracker := l } := s.beside_parts

theorem State.beside_countUnreach (s : State) (st : Status) : s.Beside (s.countUnreach st) := by
  unfold State.countUnreach
  split
  · exact s.beside_parts
  · exact .refl

theorem State.beside_rerouteWaiting (s : State) (p : Nat) : s.Beside (s.rerouteWaiting p) := by
  unfold State.rerouteWaiting
  refine (State.Beside.ofOnPort (s.onPort_modPeer p _)).trans (State.Beside.each (fun k t => ?_) _ _)
  split
  · exact (t.beside_tracker _).trans (.ofOnPort (State.onPort_queueOn _ _ k))
  · split
    · exact .refl
    · split
      · exact ((t.beside_tracker _).trans (State.beside_fail _ _ _)).trans (State.beside_countUnreach _ _)
      · exact .refl

theorem State.beside_hostCut (s : State) (n tag : Nat) (rd : Bool) : s.Beside (s.hostCut n tag rd) := by
  unfold State.hostCut
  split
  · exact (s.beside_drive _).trans (State.beside_drive _ _)
  · exact s.beside_drive _

theorem State.beside_wbFree (s : State) (n : Nat) : s.Beside (s.wbFree n) := ⟨rfl, rfl, rfl, rfl, rfl, rfl, rfl, rfl, id⟩

theorem State.beside_ackConflicts (s : State) (n line : Nat) : s.Beside (s.ackConflicts n line) := by
  unfold State.ackConflicts
  refine State.Beside.trans ?_ (State.Beside.each (fun c t => t.beside_drive _) _ _)
  exact ⟨rfl, rfl, rfl, rfl, rfl, rfl, rfl, rfl, id⟩

theorem State.beside_cutAnswer (st : Status) (x : HomeTxn) (s : State) : s.Beside (State.cutAnswer st x s) := by
  unfold State.cutAnswer
  split
  · exact s.beside_hostCut _ _ _
  · exact ((s.beside_wbFree _).trans (State.beside_hostCut _ _ _ _)).trans (State.beside_ackConflicts _ _ _)
  · exact s.beside_sendPacket _
  · exact s.beside_sendPacket _
  · exact .refl

/-- A write-back on its way to memory is answered when SL-A leaves service. -/
def State.cutWriteback (a : Access) (t : State) : State :=
  match a.purpose with
  | .homeWb n tag line => if n < 2 then State.ackConflicts ((t.wbFree n).hostCut n tag false) n line else t
  | _ => t

/-- Nobody is told of its end any more. -/
def Access.wbCut (a : Access) : Access :=
  match a.purpose with
  | .homeWb _ _ line => { a with purpose := .homeWb 2 0 line }
  | _ => a

/-- Every requester across SL-A has been answered. -/
def State.cutTold (s : State) (st : Status) : State :=
  let t := eachOf (State.cutAnswer st) (s.home.txns.filter HomeTxn.outside) s
  eachOf State.cutWriteback t.accesses t

/-- What hosts and peers had asked of the home agent has gone. -/
def State.cutOff (s : State) : State :=
  State.trim { s with
    accesses := s.accesses.map Access.wbCut
    home := { s.home with txns := s.home.txns.filterMap (fun t => if t.outside then t.cut else some t) } }

theorem State.cutHome_eq (s : State) (st : Status) : s.cutHome st = (s.cutTold st).cutOff := rfl

theorem State.beside_cutWriteback (a : Access) (s : State) : s.Beside (State.cutWriteback a s) := by
  unfold State.cutWriteback
  split
  · split
    · exact ((s.beside_wbFree _).trans (State.beside_hostCut _ _ _ _)).trans (State.beside_ackConflicts _ _ _)
    · exact .refl
  · exact .refl

theorem State.beside_cutHome (s : State) (st : Status) : s.Beside (s.cutHome st) := by
  have htold : s.Beside (s.cutTold st) :=
    (State.Beside.each (State.beside_cutAnswer st) _ s).trans (State.Beside.each State.beside_cutWriteback _ _)
  have hoff (t : State) : t.Beside t.cutOff :=
    State.Beside.trans (t := { t with
      accesses := t.accesses.map Access.wbCut
      home := { t.home with txns := t.home.txns.filterMap (fun t => if t.outside then t.cut else some t) } })
      ⟨rfl, rfl, rfl, rfl, rfl, rfl, rfl, rfl, id⟩ (State.beside_trim _)
  rw [State.cutHome_eq]
  exact htold.trans (hoff _)

theorem State.beside_engDone (s : State) (r : EngReq) (st : Status) (pa : BitVec 60) (attr : BitVec 8) : s.Beside (s.engDone r st pa attr) :=
  ⟨rfl, rfl, rfl, rfl, rfl, rfl, rfl, rfl, id⟩

theorem State.beside_cutReq (s : State) (st : Status) (r : EngReq) : s.Beside (s.cutReq st r) :=
  State.Beside.trans s.beside_parts (State.beside_engDone _ _ _ _ _)

theorem State.beside_endEngines (s : State) : s.Beside s.endEngines := by
  refine State.Beside.each (fun r t => ?_) _ s
  split
  · exact t.beside_cutReq _ _
  · exact .refl

/-! ### Accesses left -/

/-- An access that outlives the failing of some was none of them. -/
theorem State.mem_lose {s : State} {id : Nat} {st : Status} {w : AckFrom} {a : Access} (h : a ∈ (s.lose id st w).accesses) :
    a ∈ s.accesses ∧ a.id ≠ id := by
  unfold State.lose at h
  dsimp only at h
  split at h
  all_goals
    obtain ⟨x, ac, en, he, hac⟩ := State.finish_frame _ id { status := st, data := [], poison := [] }
    rw [State.fail, he] at h
    exact hac a h

theorem State.mem_eachOf_lose {st : Status} {w : AckFrom} {l : List Access} {s : State} {a : Access}
    (h : a ∈ (eachOf (fun (x : Access) t => t.lose x.id st w) l s).accesses) : a ∈ s.accesses ∧ ∀ x ∈ l, a.id ≠ x.id := by
  induction l generalizing s with
  | nil => exact ⟨h, fun x hx => absurd hx List.not_mem_nil⟩
  | cons x l ih =>
    obtain ⟨hmem, hne⟩ := ih h
    obtain ⟨hmem, hx⟩ := State.mem_lose hmem
    exact ⟨hmem, fun y hy => (List.mem_cons.mp hy).elim (· ▸ hx) (hne y)⟩

theorem State.mem_failWhere {s : State} {p : Access → Bool} {st : Status} {a : Access} (h : a ∈ (s.failWhere p st).accesses) :
    a ∈ s.accesses ∧ p a = false := by
  obtain ⟨hmem, hne⟩ := State.mem_eachOf_lose h
  refine ⟨hmem, ?_⟩
  by_contra hp
  exact hne a (List.mem_filter.mpr ⟨hmem, by simpa using hp⟩) rfl

/-- No access needs the link, but for one whose owner has gone. -/
def State.Freed (l : Link) (s : State) : Prop := ∀ a, a ∈ s.accesses → needsLink l a = false ∨ a.purpose = .none

theorem State.Freed.ofAccesses {l : Link} {s t : State} (h : s.Freed l) (he : t.accesses = s.accesses) : t.Freed l := by
  unfold State.Freed
  rw [he]
  exact h

theorem needsLink_wbCut (l : Link) (a : Access) : needsLink l a.wbCut = needsLink l a := by
  unfold Access.wbCut
  split
  · next n tag line hp =>
    cases l <;> simp only [needsLink, hp]
    cases a.agent <;> rfl
  · rfl

theorem purpose_wbCut {a : Access} (h : a.purpose = .none) : a.wbCut.purpose = .none := by
  unfold Access.wbCut
  rw [h]
  exact h

theorem State.cutTold_accesses (s : State) (st : Status) : (s.cutTold st).accesses = s.accesses := by
  have hcut (t : State) (n tag : Nat) (rd : Bool) : (t.hostCut n tag rd).accesses = t.accesses := by
    unfold State.hostCut
    split <;> rfl
  have hack (t : State) (n line : Nat) : (t.ackConflicts n line).accesses = t.accesses := by
    refine (eachOf_keeps (f := fun (c : Nat × BitVec 48) u => State.drive u (.biConflictAck c.1 c.2)) State.accesses (fun c u => ?_) _ _).trans rfl
    rfl
  have hsend (t : State) (k : Packet) : (t.sendPacket k).accesses = t.accesses := by
    unfold State.sendPacket
    split
    · exact (t.onPort_queueOn _ k).keeps State.accesses fun _ _ _ _ _ => rfl
    · rfl
  refine (eachOf_keeps State.accesses (fun a t => ?_) _ _).trans (eachOf_keeps State.accesses (fun x t => ?_) _ _)
  · unfold State.cutWriteback
    split
    · split
      · exact (hack ..).trans (hcut ..)
      · rfl
    · rfl
  · unfold State.cutAnswer
    split
    · exact hcut ..
    · exact (hack ..).trans (hcut ..)
    · exact hsend ..
    · exact hsend ..
    · rfl

theorem State.Freed.cutHome {l : Link} {s : State} (h : s.Freed l) (st : Status) : (s.cutHome st).Freed l := by
  intro a ha
  obtain ⟨b, hb, rfl⟩ : ∃ b ∈ (s.cutTold st).accesses, b.wbCut = a := List.mem_map.mp ha
  rw [State.cutTold_accesses] at hb
  rw [needsLink_wbCut]
  exact (h b hb).imp id purpose_wbCut

theorem State.Freed.cutReq {l : Link} {s : State} (h : s.Freed l) (st : Status) (r : EngReq) : (s.cutReq st r).Freed l := by
  intro a ha
  obtain ⟨b, hb, rfl⟩ := List.mem_map.mp ha
  split
  · exact .inr rfl
  · exact h b (List.mem_filter.mp hb).1

theorem State.Freed.endEngines {l : Link} {s : State} (h : s.Freed l) : s.endEngines.Freed l := by
  have hall (rs : List EngReq) (t : State) (ht : t.Freed l) : (eachOf (fun (r : EngReq) (t : State) =>
      match t.engReq r.port r.rq.tag, t.engWay r.op with
      | some r, some st => t.cutReq st r
      | _, _ => t) rs t).Freed l := by
    induction rs generalizing t with
    | nil => exact ht
    | cons r rs ih =>
      refine ih _ ?_
      dsimp only
      split
      · exact ht.cutReq _ _
      · exact ht
  exact hall s.engReqs s h

end Sys2Proof.Machine

/-! A round that ends: its record may also come of the answer to a write of its result (12 R299; DESIGN CHOICE, log 103). -/

namespace Sys2Proof.Machine

/-! ### Tables -/

section
variable {α : Type}

/-- Entries put at two indices: which comes first does not matter. -/
theorem tabPut_comm (t : Tab α) {i j : Nat} (v w : α) (h : i ≠ j) : tabPut (tabPut t i v) j w = tabPut (tabPut t j w) i v := by
  induction t with
  | nil => grind [tabPut]
  | cons e t ih => grind [tabPut]

theorem tabPut_put (t : Tab α) (i : Nat) (v w : α) : tabPut (tabPut t i v) i w = tabPut t i w := by
  induction t with
  | nil => grind [tabPut]
  | cons e t ih => grind [tabPut]

end

/-! ### Records speak neither of slots nor of what has ended -/

/-- The state with other combine registers and other ended accesses. -/
def State.over (s : State) (c : CmbUnit) (e : List (Access × AccResult)) : State := { s with cmb := c, ended := e }

section
variable (s : State) (c : CmbUnit) (e : List (Access × AccResult))

theorem State.raiseVector_over (v : Nat) : (s.over c e).raiseVector v = (s.raiseVector v).over c e := by
  unfold State.raiseVector
  rw [show (s.over c e).readyHost = s.readyHost from rfl]
  split
  · next n _ =>
    rw [show (s.over c e).msixEntry v = s.msixEntry v from rfl, show (s.over c e).host n = s.host n from rfl]
    split <;> rfl
  · rfl

theorem State.shIrqSet_over (status enable : BitVec 10) (valid : Bool) (vector : BitVec 11) :
    (s.over c e).shIrqSet status enable valid vector = (s.shIrqSet status enable valid vector).over c e := by
  unfold State.shIrqSet
  rw [show (s.over c e).irq = s.irq from rfl]
  dsimp only
  split
  · exact State.raiseVector_over { s with irq := _ } c e vector.toNat
  · rfl

theorem State.shIrq_over (i : Nat) : (s.over c e).shIrq i = (s.shIrq i).over c e := s.shIrqSet_over c e _ _ _ _

theorem State.errLog_over (r : ErrRec) : (s.over c e).errLog r = (s.errLog r).over c e := by
  unfold State.errLog
  split
  · exact State.shIrq_over { s with ras := _ } c e 3
  · rfl

theorem State.rasLose_over : (s.over c e).rasLose = s.rasLose.over c e := State.shIrq_over { s with ras := _ } c e 7

theorem State.rasBuffer_over (r : ErrRec) : (s.over c e).rasBuffer r = (s.rasBuffer r).over c e := by
  unfold State.rasBuffer
  rw [show (s.over c e).ras = s.ras from rfl]
  split
  · rfl
  · split
    · exact State.rasLose_over { s with ras := _ } c e
    · exact State.rasLose_over s c e

theorem State.eventLost_over (sl : Slice) (i : Nat) : (s.over c e).eventLost sl i = (s.eventLost sl i).over c e := by
  unfold State.eventLost
  rw [show (s.over c e).clock sl = s.clock sl from rfl]
  dsimp only
  split
  · rfl
  · exact State.shIrq_over (s.setClock sl _) c e 5

theorem State.record_over (r : ErrRec) : (s.over c e).record r = (s.record r).over c e := by
  unfold State.record
  rw [show (s.over c e).ctrlLost r.slice = s.ctrlLost r.slice from rfl]
  split
  · exact s.eventLost_over c e _ 0
  · have hlog := State.errLog_over { s with ras := { s.ras with nextSeq := s.ras.nextSeq + 1 } } c e { r with seq := s.ras.nextSeq }
    exact (congrArg (State.rasBuffer · { r with seq := s.ras.nextSeq }) hlog).trans (State.rasBuffer_over _ c e _)

end

/-! ### A round that ends in error -/

/-- A slot whose round has ended in error. -/
def Slot.ended (st : Status) (k : Slot) : Slot :=
  { k with
    parked := [], acc := [], reserved := 0, served := [], refused := [], accepted := [], results := 0, state := .failed, status := st }

/-- The slots with the round of one of them ended in error. -/
def slotsEnded (st : Status) (n : Nat) (t : Tab Slot) : Tab Slot := tabPut t n ((tabGet {} t n).ended st)

/-- The accesses with the writes of a slot's result on their own. -/
def resultsOrphaned (n : Nat) (l : List Access) : List Access :=
  l.map (fun (a : Access) => if a.purpose = Purpose.resultWrite n then { a with purpose := Purpose.none } else a)

/-- The combine registers with the round of a slot ended in error. -/
def CmbUnit.roundEnded (c : CmbUnit) (st : Status) (n p : Nat) : CmbUnit :=
  { c with slots := slotsEnded st n c.slots, failed := sat32 c.failed, endStatus := st, endPart := BitVec.ofNat 4 p, endSlot := BitVec.ofNat 12 n }

/-- The record of a round that ended in error. -/
def State.roundRecord (s : State) (st : Status) (n : Nat) : ErrRec :=
  { s.errRec 3 st .hd 9 n with
    part := BitVec.ofNat 8 (s.slotPart n), detail0 := BitVec.ofNat 64 (n + (s.slot n).round.toNat * 2 ^ 16) }

theorem State.setSlot_busy {s : State} {n : Nat} {v : Slot} (h : v.state ≠ .free_) :
    s.setSlot n v = s.over { s.cmb with slots := tabPut s.cmb.slots n v } s.ended := by
  have hv : v ≠ {} := fun hc => h (by rw [hc])
  unfold State.setSlot tabSet
  rw [if_neg hv]
  rfl

theorem State.slotRecord_eq (s : State) (n : Nat) (st : Status) : s.slotRecord n st =
    (s.record (s.roundRecord st n)).over
      { s.cmb with failed := sat32 s.cmb.failed, endStatus := st, endPart := BitVec.ofNat 4 (s.slotPart n), endSlot := BitVec.ofNat 12 n }
      s.ended := by
  have hcmb := State.record_cmb s (s.roundRecord st n)
  have hended := State.record_ended s (s.roundRecord st n)
  rw [← hended, ← hcmb]
  rfl

/-- A slot that gives back what its round holds. -/
def Slot.emptied (k : Slot) : Slot :=
  { k with parked := [], acc := [], reserved := 0, served := [], refused := [], accepted := [], results := 0 }

theorem State.slotFree_busy {s : State} {n : Nat} (h : (s.slot n).state ≠ .free_) : s.slotFree n =
    (s.holdGive (s.slotPart n) ((s.slot n).reserved + 256 * (s.slot n).parked.length)).over
      { s.cmb with slots := tabPut s.cmb.slots n (s.slot n).emptied } s.ended :=
  State.setSlot_busy (v := (s.slot n).emptied) h

/-- The state with the writes of a slot's result on their own. -/
def State.resultsLone (s : State) (n : Nat) : State := { s with accesses := resultsOrphaned n s.accesses }

/-- A slot whose round has failed. -/
def Slot.failedWith (st : Status) (k : Slot) : Slot := { k with state := .failed, status := st }

theorem State.slotFree_failed {s : State} {n : Nat} {st : Status} (h : (s.slot n).state ≠ .free_) :
    (s.slotFree n).modSlot n (Slot.failedWith st) =
      (s.holdGive (s.slotPart n) ((s.slot n).reserved + 256 * (s.slot n).parked.length)).over
        { s.cmb with slots := slotsEnded st n s.cmb.slots } s.ended := by
  have hslot : ((s.holdGive (s.slotPart n) ((s.slot n).reserved + 256 * (s.slot n).parked.length)).over
      { s.cmb with slots := tabPut s.cmb.slots n (s.slot n).emptied } s.ended).slot n = (s.slot n).emptied :=
    (tabGet_tabPut ..).trans (if_pos rfl)
  rw [State.slotFree_busy h, State.modSlot, hslot, State.setSlot_busy (fun hc => SlotState.noConfusion hc)]
  change (s.holdGive _ _).over { s.cmb with slots := tabPut (tabPut s.cmb.slots n _) n _ } s.ended = _
  rw [tabPut_put]
  rfl

theorem State.slotFail_def (s : State) (n : Nat) (st : Status) :
    s.slotFail n st = (((s.resultsLone n).slotRecord n st).slotFree n).modSlot n (Slot.failedWith st) := rfl

theorem State.slotPart_of_chart {s t : State} (h : t.chart = s.chart) (n : Nat) : t.slotPart n = s.slotPart n := by
  unfold State.slotPart State.slotOwner State.theChart
  rw [h]

/-- A round that holds something ends in error: its record, the quota given back, and the slot. -/
theorem State.slotFail_eq {s : State} {n : Nat} {st : Status} (h : (s.slot n).state ≠ .free_) :
    s.slotFail n st =
      (((s.resultsLone n).record (s.roundRecord st n)).holdGive (s.slotPart n) ((s.slot n).reserved + 256 * (s.slot n).parked.length)).over
        (s.cmb.roundEnded st n (s.slotPart n)) s.ended := by
  have hchart := State.record_chart (s.resultsLone n) (s.roundRecord st n)
  have hpart (c : CmbUnit) (e : List (Access × AccResult)) :
      (((s.resultsLone n).record (s.roundRecord st n)).over c e).slotPart n = s.slotPart n := State.slotPart_of_chart hchart n
  rw [State.slotFail_def, State.slotRecord_eq, show (s.resultsLone n).roundRecord st n = s.roundRecord st n from rfl,
    State.slotFree_failed (by exact h), hpart]
  rfl

/-- With other combine registers, in which the slot holds the same, the round ends alike. -/
theorem State.slotFail_over {s : State} {n : Nat} {st : Status} {t : Tab Slot} {e : List (Access × AccResult)} {v : SlotState}
    (h : (s.slot n).state ≠ .free_) (hv : v ≠ .free_) (ht : tabGet {} t n = { s.slot n with state := v }) :
    (s.over { s.cmb with slots := t } e).slotFail n st =
      (s.slotFail n st).over { (s.slotFail n st).cmb with slots := slotsEnded st n t } e := by
  have hslot : (s.over { s.cmb with slots := t } e).slot n = { s.slot n with state := v } := ht
  have hrec := State.record_over (s.resultsLone n) { s.cmb with slots := t } e (s.roundRecord st n)
  have hround : (s.over { s.cmb with slots := t } e).roundRecord st n = s.roundRecord st n := by
    unfold State.roundRecord
    rw [hslot]
    rfl
  rw [State.slotFail_eq (s := s) h, State.slotFail_eq (by rw [hslot]; exact hv), hround, hslot,
    show (s.over { s.cmb with slots := t } e).resultsLone n = (s.resultsLone n).over { s.cmb with slots := t } e from rfl, hrec]
  rfl

/-! ### Marked slots -/

/-- A slot that waits for the writes of its result. -/
def Slot.awaited (k : Slot) : Slot := { k with state := .writing }

/-- The slots with one of them awaiting its result. -/
def slotsAwaited (n : Nat) (t : Tab Slot) : Tab Slot := tabPut t n (tabGet {} t n).awaited

/-- The open slots of a list, each once. -/
def openSlots : List Nat → Tab Slot → List Nat
  | [], _ => []
  | n :: l, t => if (tabGet {} t n).state = .open_ then n :: openSlots l (slotsAwaited n t) else openSlots l t

/-- The slots with the open ones of a list awaiting their results. -/
def openAwaited : List Nat → Tab Slot → Tab Slot
  | [], t => t
  | n :: l, t => if (tabGet {} t n).state = .open_ then openAwaited l (slotsAwaited n t) else openAwaited l t

theorem slotsEnded_awaited (st : Status) (n : Nat) (t : Tab Slot) : slotsEnded st n (slotsAwaited n t) = slotsEnded st n t := by
  unfold slotsEnded slotsAwaited
  rw [tabPut_put, tabGet_tabPut, if_pos rfl]
  rfl

theorem slotsEnded_comm {st : Status} {n m : Nat} (h : m ≠ n) (t : Tab Slot) :
    slotsAwaited m (slotsEnded st n t) = slotsEnded st n (slotsAwaited m t) := by
  unfold slotsEnded slotsAwaited
  rw [tabGet_tabPut, if_neg h, tabGet_tabPut, if_neg (Ne.symm h), tabPut_comm _ _ _ (Ne.symm h)]

/-- An end of one slot's round and the marks of open slots: which comes first does not matter, where that slot is not open. -/
theorem openAwaited_ended {st : Status} {n : Nat} (l : List Nat) (t : Tab Slot) (h : (tabGet {} t n).state = .writing) :
    openAwaited l (slotsEnded st n t) = slotsEnded st n (openAwaited l t) ∧ openSlots l (slotsEnded st n t) = openSlots l t ∧
      tabGet {} (openAwaited l t) n = tabGet {} t n := by
  induction l generalizing t with
  | nil => exact ⟨rfl, rfl, rfl⟩
  | cons m l ih =>
    by_cases hm : m = n
    · subst hm
      have hended : (tabGet {} (slotsEnded st m t) m).state ≠ .open_ := by
        rw [slotsEnded, tabGet_tabPut, if_pos rfl]
        exact fun hc => SlotState.noConfusion hc
      have hno : (tabGet {} t m).state ≠ .open_ := fun hc => SlotState.noConfusion (h.symm.trans hc)
      simp only [openAwaited, openSlots, if_neg hended, if_neg hno]
      exact ih t h
    · have hsame : tabGet {} (slotsEnded st n t) m = tabGet {} t m := (tabGet_tabPut ..).trans (if_neg hm)
      have hkept : tabGet {} (slotsAwaited m t) n = tabGet {} t n := (tabGet_tabPut ..).trans (if_neg (Ne.symm hm))
      simp only [openAwaited, openSlots, hsame]
      split
      · rw [slotsEnded_comm hm]
        obtain ⟨h1, h2, h3⟩ := ih (slotsAwaited m t) (hkept ▸ h)
        exact ⟨h1, by rw [h2], h3.trans hkept⟩
      · exact ih t h

/-! ### The answer that ends a round -/

/-- The write of a result, and an answer to it. -/
def resultAnswer (st : Status) (n : Nat) : Access × AccResult :=
  (mkAccess .block (.resultWrite n) .write none 0 0, { status := st, data := [], poison := [] })

theorem State.tell_resultAnswer {s : State} {st : Status} {n : Nat} (h : (s.slot n).state = .writing) (hok : st ≠ .ok)
    (hs : st ≠ .sealed) : s.tell (resultAnswer st n).1 (resultAnswer st n).2 = s.slotFail n st := by
  unfold State.tell
  rw [if_neg fun hc => hs hc.1]
  change s.resultBack n st = _
  unfold State.resultBack
  dsimp only
  rw [if_neg (not_not_intro h), if_pos hok]

theorem State.slotFail_accesses_length {s : State} {n : Nat} {st : Status} (h : (s.slot n).state ≠ .free_) :
    (s.slotFail n st).accesses.length = s.accesses.length := by
  have hacc := State.record_accesses (s.resultsLone n) (s.roundRecord st n)
  rw [State.slotFail_eq h]
  change ((s.resultsLone n).record (s.roundRecord st n)).accesses.length = _
  rw [hacc]
  exact List.length_map _

theorem State.settleFor_cons (k : Nat) (s : State) (c : CmbUnit) (x : Access × AccResult) (e : List (Access × AccResult)) :
    State.settleFor (k + 1) (s.over c (x :: e)) = State.settleFor k ((s.over c e).tell x.1 x.2) := rfl

/-- Where one access more has ended, its owner is told first. -/
theorem State.settle_cons {s t : State} {c : CmbUnit} {x : Access × AccResult} {e : List (Access × AccResult)}
    (ht : (s.over c e).tell x.1 x.2 = t) (he : t.ended = e) (ha : t.accesses.length = s.accesses.length) :
    (s.over c (x :: e)).settle = t.settle := by
  unfold State.settle
  rw [he, ha, show (s.over c (x :: e)).accesses.length + (s.over c (x :: e)).ended.length + 64 =
    s.accesses.length + e.length + 64 + 1 from Nat.add_right_comm _ 1 64, State.settleFor_cons, ht]

/-- Ending the open rounds of a list in error, or being told of as many results that ended in error. -/
theorem State.settle_rounds {st : Status} (hok : st ≠ .ok) (hs : st ≠ .sealed) (l : List Nat) (s : State) :
    (s.over { s.cmb with slots := openAwaited l s.cmb.slots } ((openSlots l s.cmb.slots).map (resultAnswer st) ++ s.ended)).settle =
      (eachOf (fun n (t : State) => if [SlotState.open_].contains (t.slot n).state then t.slotFail n st else t) l s).settle := by
  induction l generalizing s with
  | nil => rfl
  | cons n l ih =>
    rw [eachOf]
    by_cases ho : (s.slot n).state = .open_
    · have hfree : (s.slot n).state ≠ .free_ := fun hc => SlotState.noConfusion (ho.symm.trans hc)
      have hopen : (tabGet {} s.cmb.slots n).state = .open_ := ho
      have hmark : tabGet {} (slotsAwaited n s.cmb.slots) n = (s.slot n).awaited := (tabGet_tabPut ..).trans (if_pos rfl)
      obtain ⟨hawait, hslots, hkept⟩ := openAwaited_ended (st := st) l (slotsAwaited n s.cmb.slots) (by rw [hmark]; rfl)
      have hslots' : (s.slotFail n st).cmb.slots = slotsEnded st n (slotsAwaited n s.cmb.slots) := by
        rw [State.slotFail_eq hfree, slotsEnded_awaited]
        rfl
      have hended : (s.slotFail n st).ended = s.ended := by
        rw [State.slotFail_eq hfree]
        rfl
      rw [if_pos (by rw [ho]; decide), ← ih (s.slotFail n st), hslots', hawait, hslots, hended]
      simp only [openAwaited, openSlots, if_pos hopen, List.map_cons, List.cons_append]
      refine State.settle_cons ?_ rfl ?_
      · have hwrite : ((s.over { s.cmb with slots := openAwaited l (slotsAwaited n s.cmb.slots) }
            ((openSlots l (slotsAwaited n s.cmb.slots)).map (resultAnswer st) ++ s.ended)).slot n) = (s.slot n).awaited :=
          hkept.trans hmark
        refine (State.tell_resultAnswer (congrArg Slot.state hwrite) hok hs).trans ?_
        exact State.slotFail_over hfree (v := .writing) (fun hc => SlotState.noConfusion hc) (hkept.trans hmark)
      · exact State.slotFail_accesses_length hfree
    · have hno : ¬ (tabGet {} s.cmb.slots n).state = .open_ := ho
      rw [if_neg (by simpa using ho), ← ih s]
      simp only [openAwaited, openSlots, if_neg hno]

/-- A state whose settling is that of the one in which open rounds have ended, and which differs from the one before only in its combine
registers and in what has ended. -/
theorem State.endRounds_settle {st : Status} (hok : st ≠ .ok) (hs : st ≠ .sealed) (s : State) :
    ∃ c e, (s.over c e).settle = (s.endRounds st [.open_]).settle :=
  ⟨_, _, State.settle_rounds hok hs (s.cmb.slots.map (·.1)) s⟩

end Sys2Proof.Machine

/-! The mark of a lost crossing and the records of its slice (02 R58; 03 R66, R68). -/

namespace Sys2Proof.Machine

/-! ### Clocks through records -/

/-- `t` is `s` after records of a slice: other slices' clock blocks and the configuration are the same, the slice's crossings in and out of
service too, and interrupt status bits stay set. -/
structure State.Recorded (sl : Slice) (s t : State) : Prop where
  other : ∀ k, k ≠ sl → t.clock k = s.clock k
  dead : (t.clock sl).dead = (s.clock sl).dead
  lost : (t.clock sl).lost = (s.clock sl).lost
  conf : t.conf = s.conf
  bits : ∀ i, s.irq.status.getLsbD i = true → t.irq.status.getLsbD i = true

section
variable {sl : Slice} {s t u : State}

theorem State.Recorded.refl : s.Recorded sl s := ⟨fun _ _ => rfl, rfl, rfl, rfl, fun _ => id⟩

theorem State.Recorded.trans (h : s.Recorded sl t) (h' : t.Recorded sl u) : s.Recorded sl u :=
  ⟨fun k hk => (h'.other k hk).trans (h.other k hk), h'.dead.trans h.dead, h'.lost.trans h.lost, h'.conf.trans h.conf,
    fun i hi => h'.bits i (h.bits i hi)⟩

theorem State.Beside.recorded (h : s.Beside t) : s.Recorded sl t :=
  ⟨fun k _ => h.clock k, by rw [h.clock], by rw [h.clock], h.conf, fun _ hi => by rw [h.irq]; exact hi⟩

theorem State.recorded_shIrq (s : State) (i : Nat) : s.Recorded sl (s.shIrq i) := by
  have hclock (k : Slice) : (s.shIrq i).clock k = s.clock k := by rw [State.clock, State.shIrq_clocks]; rfl
  exact ⟨fun k _ => hclock k, by rw [hclock], by rw [hclock], State.shIrq_conf .., fun j hj => State.shIrq_bit_kept hj⟩

theorem State.recorded_eventLost (s : State) (sl : Slice) (i : Nat) : s.Recorded sl (s.eventLost sl i) := by
  have hset (v : ClockState) (hd : v.dead = (s.clock sl).dead) (hl : v.lost = (s.clock sl).lost) : s.Recorded sl (s.setClock sl v) :=
    ⟨fun k hk => by rw [State.clock_setClock, if_neg hk], by rw [State.clock_setClock, if_pos rfl, hd],
      by rw [State.clock_setClock, if_pos rfl, hl], State.setClock_conf .., fun _ => id⟩
  unfold State.eventLost
  dsimp only
  split
  · exact hset _ rfl rfl
  · exact State.Recorded.trans (hset _ (by rfl) (by rfl)) (State.recorded_shIrq _ 5)

theorem State.errLog_bits {s : State} {r : ErrRec} {i : Nat} (h : s.irq.status.getLsbD i = true) :
    (s.errLog r).irq.status.getLsbD i = true := by
  unfold State.errLog
  split
  · exact State.shIrq_bit_kept h
  · exact h

theorem State.rasBuffer_bits {s : State} {r : ErrRec} {i : Nat} (h : s.irq.status.getLsbD i = true) :
    (s.rasBuffer r).irq.status.getLsbD i = true := by
  unfold State.rasBuffer
  split
  · exact h
  · split <;> exact State.shIrq_bit_kept h

theorem State.recorded_record (s : State) (r : ErrRec) : s.Recorded r.slice (s.record r) := by
  rcases s.record_cases r with ⟨-, e⟩ | ⟨hc, e⟩
  · rw [e]
    exact s.recorded_eventLost r.slice 0
  · have hclock (k : Slice) : (s.record r).clock k = s.clock k := by rw [State.clock, State.record_kept hc]; rfl
    refine ⟨fun k _ => hclock k, by rw [hclock], by rw [hclock], State.record_conf .., fun i hi => ?_⟩
    rw [e]
    exact State.rasBuffer_bits (State.errLog_bits hi)

theorem State.beside_modSlot (s : State) (n : Nat) (f : Slot → Slot) : s.Beside (s.modSlot n f) :=
  ⟨rfl, rfl, rfl, rfl, rfl, rfl, rfl, rfl, id⟩

theorem State.beside_slotFree (s : State) (n : Nat) : s.Beside (s.slotFree n) := ⟨rfl, rfl, rfl, rfl, rfl, rfl, rfl, rfl, id⟩

theorem State.beside_over (s : State) (c : CmbUnit) (e : List (Access × AccResult)) : s.Beside (s.over c e) :=
  ⟨rfl, rfl, rfl, rfl, rfl, rfl, rfl, rfl, id⟩

/-- A round that ends in error leaves one record of the hold slice. -/
theorem State.recorded_slotFail (s : State) (n : Nat) (st : Status) : s.Recorded .hd (s.slotFail n st) := by
  have hlone : s.Beside (s.resultsLone n) := s.beside_parts
  have htail (t : State) : t.Beside ((t.slotFree n).modSlot n (Slot.failedWith st)) := (t.beside_slotFree n).trans (State.beside_modSlot _ _ _)
  rw [State.slotFail_def, State.slotRecord_eq]
  exact ((hlone.recorded.trans (State.recorded_record _ ((s.resultsLone n).roundRecord st n))).trans (State.beside_over _ _ _).recorded).trans
    (htail _).recorded

theorem State.recorded_endRounds (st : Status) (ks : List SlotState) (s : State) : s.Recorded .hd (s.endRounds st ks) := by
  refine eachOf_relates (R := State.Recorded .hd) (fun _ => .refl) (fun _ _ _ h h' => h.trans h') (fun n t => ?_) _ s
  split
  · exact t.recorded_slotFail n st
  · exact .refl

end

/-! ### The crossing -/

/-- The unit and its number that the record of a lost crossing names. -/
def lossUnit : CrossAt → Nat × Nat
  | .host n => (3, n)
  | .peer p => (4, p)
  | .link l => (5, linkIx l)
  | .inner => (5, 8)

/-- The record of a lost crossing. -/
def State.lossRecord (s : State) (sl : Slice) (k : Nat) : ErrRec :=
  { s.errRec 4 .clockLost sl (lossUnit (crossAt sl k)).1 (lossUnit (crossAt sl k)).2 with detail0 := BitVec.ofNat 64 (statusCode .clockLost) }

/-- The crossing that has lost its clock is noted: a record, its bits, and the event. -/
def State.lossNoted (s : State) (sl : Slice) (k : Nat) : State :=
  State.shIrq (State.modClock (s.record (s.lossRecord sl k)) sl
    (fun c => { c with dead := c.dead ||| BitVec.ofNat 9 (2 ^ k), lost := c.lost ||| BitVec.ofNat 9 (2 ^ k) })) 4

/-- What a lost crossing ends at once. -/
def State.lossEnds (z : State) : CrossAt → State
  | .host n => (((z.modHost n (fun h => { h with readyOut := false })).doeGone n).failWhere (onHost n) .clockLost).shIrq 6
  | .peer p =>
    let s := (z.modPeer p (fun x => { x with readyOut := false, state := .clockLost, keyx := {} })).rerouteWaiting p
    (s.failWhere (s.onPeer p) .clockLost).shIrq 6
  | .link l => (z.failWhere (needsLink l) .clockLost).shIrq 6
  | .inner => z

theorem State.loseClock_eq {s : State} {sl : Slice} {k : Nat} (hp : (s.clock sl).porN = true) (hd : (s.clock sl).dead.getLsbD k = false)
    (hi : crossAt sl k = .inner → (s.clock sl).fbNow = true) : s.loseClock sl k = (s.lossNoted sl k).lossEnds (crossAt sl k) := by
  unfold State.loseClock
  refine (if_neg ?_).trans ?_
  · rw [hp, hd]
    cases hc : crossAt sl k <;> simp_all
  · unfold State.lossNoted State.lossRecord
    cases crossAt sl k <;> rfl

theorem crossAt_link (sl : Slice) (k : Fin 9) (l : Link) : crossAt sl k = .link l ↔ sl ∈ linkEnds l ∧ linkBit l sl = k.val := by
  revert k
  cases sl <;> cases l <;> decide

theorem getLsbD_or_two_pow (x : BitVec 9) (i : Nat) (k : Fin 9) :
    (x ||| BitVec.ofNat 9 (2 ^ k.val)).getLsbD i = (x.getLsbD i || decide (k.val = i)) := by
  rw [BitVec.getLsbD_or, BitVec.getLsbD_ofNat, Nat.testBit_two_pow]
  by_cases h : k.val = i
  · have := k.isLt
    simp [h, show i < 9 by omega]
  · simp [h]

/-! ### What the loss of a crossing leaves -/

/-- The crossing is marked lost; other crossings, other slices' clock blocks and the configuration are as before, and the event is raised. -/
structure State.LossMarked (s : State) (sl : Slice) (k : Nat) (u : State) : Prop where
  dead : (u.clock sl).dead = (s.clock sl).dead ||| BitVec.ofNat 9 (2 ^ k)
  lost : (u.clock sl).lost = (s.clock sl).lost ||| BitVec.ofNat 9 (2 ^ k)
  other : ∀ j, j ≠ sl → u.clock j = s.clock j
  conf : u.conf = s.conf
  bit : u.irq.status.getLsbD 4 = true

theorem State.shIrq_clock (s : State) (i : Nat) (sl : Slice) : (s.shIrq i).clock sl = s.clock sl := by
  rw [State.clock, State.shIrq_clocks]
  rfl

theorem State.lossMarked_noted (s : State) (sl : Slice) (k : Nat) : s.LossMarked sl k (s.lossNoted sl k) := by
  have hrec : s.Recorded sl (s.record (s.lossRecord sl k)) := s.recorded_record (s.lossRecord sl k)
  refine ⟨?_, ?_, fun j hj => ?_, ?_, State.shIrq_bit _ (by decide)⟩
  · rw [State.lossNoted, State.shIrq_clock, clock_modClock_self]
    exact congrArg (· ||| _) hrec.dead
  · rw [State.lossNoted, State.shIrq_clock, clock_modClock_self]
    exact congrArg (· ||| _) hrec.lost
  · rw [State.lossNoted, State.shIrq_clock, clock_modClock_other _ _ hj]
    exact hrec.other j hj
  · rw [State.lossNoted, State.shIrq_conf]
    exact (State.modClock_conf ..).trans hrec.conf

section
variable {s t u : State} {sl : Slice} {k : Fin 9}

theorem State.LossMarked.recorded (h : s.LossMarked sl k.val t) {j : Slice} (hj : t.Recorded j u) (hu : ∀ i, u.clock i = t.clock i) :
    s.LossMarked sl k.val u :=
  ⟨by rw [hu, h.dead], by rw [hu, h.lost], fun i hi => by rw [hu, h.other i hi], hj.conf.trans h.conf, hj.bits 4 h.bit⟩

theorem State.LossMarked.beside (h : s.LossMarked sl k.val t) (hb : t.Beside u) : s.LossMarked sl k.val u :=
  h.recorded (j := sl) hb.recorded hb.clock

theorem State.LossMarked.shIrq (h : s.LossMarked sl k.val t) (i : Nat) : s.LossMarked sl k.val (t.shIrq i) :=
  h.recorded (t.recorded_shIrq (sl := sl) i) (t.shIrq_clock i)

/-- The slice may have logged more. -/
theorem State.LossMarked.more (h : s.LossMarked sl k.val t) (hr : t.Recorded sl u) : s.LossMarked sl k.val u :=
  ⟨hr.dead.trans h.dead, hr.lost.trans h.lost, fun i hi => (hr.other i hi).trans (h.other i hi), hr.conf.trans h.conf, hr.bits 4 h.bit⟩

theorem State.LossMarked.endLost (h : s.LossMarked sl k.val u) {l : Link} (hk : crossAt sl k.val ≠ .link l) {e : Slice} (he : e ∈ linkEnds l) :
    u.endLost l e = s.endLost l e := by
  unfold State.endLost
  by_cases hsl : e = sl
  · subst hsl
    have hbit : k.val ≠ linkBit l e := fun hc => hk ((crossAt_link e k l).mpr ⟨he, hc.symm⟩)
    rw [h.dead, getLsbD_or_two_pow, decide_eq_false hbit, Bool.or_false]
  · rw [h.other e hsl]

theorem State.linkFault_congr {l : Link} (he : ∀ e ∈ linkEnds l, u.endLost l e = s.endLost l e) (hl : u.link l = s.link l) :
    u.linkFault l = s.linkFault l := by
  have hany : (linkEnds l).any (u.endLost l) = (linkEnds l).any (s.endLost l) := by
    rw [Bool.eq_iff_iff, List.any_eq_true, List.any_eq_true]
    exact exists_congr fun e => and_congr_right fun hmem => by rw [he e hmem]
  rw [State.linkFault, hany, hl]
  rfl

theorem State.LossMarked.linkFault (h : s.LossMarked sl k.val u) {l : Link} (hk : crossAt sl k.val ≠ .link l) (hl : u.link l = s.link l) :
    u.linkFault l = s.linkFault l :=
  State.linkFault_congr (fun _ he => h.endLost hk he) hl

theorem State.LossMarked.linkFault_lost (h : s.LossMarked sl k.val u) {l : Link} (hk : crossAt sl k.val = .link l) :
    u.linkFault l = some .clockLost := by
  obtain ⟨hmem, hbit⟩ := (crossAt_link sl k l).mp hk
  refine if_pos (List.any_eq_true.mpr ⟨sl, hmem, ?_⟩)
  rw [State.endLost, h.dead, hbit, getLsbD_or_two_pow, decide_eq_true rfl, Bool.or_true]

theorem State.LossMarked.storeLost (h : s.LossMarked sl k.val u) (hk : crossAt sl k.val ≠ .inner) : u.storeLost = s.storeLost := by
  unfold State.storeLost
  by_cases hsl : sl = .hd
  · subst hsl
    have hbit : k.val ≠ 2 := fun hc => hk (by rw [hc]; rfl)
    rw [h.dead, getLsbD_or_two_pow, decide_eq_false hbit, Bool.or_false]
  · rw [h.other .hd (Ne.symm hsl)]

theorem State.LossMarked.storeLost_other (h : s.LossMarked sl k.val u) (hsl : sl ≠ .hd) : u.storeLost = s.storeLost := by
  unfold State.storeLost
  rw [h.other .hd (Ne.symm hsl)]

/-- Nothing more ends where no link has newly left service, nor the hold's store. -/
theorem State.afterLoss_same (hl : ∀ l, u.linkFault l = s.linkFault l) (hs : u.storeLost = s.storeLost) : u.afterLoss s = u := by
  have hno (x : Option Status) : (x.isSome && x.isNone) = false := by cases x <;> rfl
  unfold State.afterLoss
  simp only [hl, hno, Bool.or_self, Bool.false_eq_true, if_false]
  cases s.linkFault .slA <;> simp only [hs, Bool.and_not_self, Bool.false_eq_true, if_false]

end

end Sys2Proof.Machine

/-! What a crossing that has lost its clock ends at once (02 R58; 03 R66, R68; 14 R343). -/

namespace Sys2Proof.Machine

/-! ### Ports where accesses fail -/

theorem State.lose_peers (s : State) (id : Nat) (st : Status) (w : AckFrom) : (s.lose id st w).peers = s.peers := by
  unfold State.lose
  dsimp only
  split
  all_goals
    obtain ⟨x, ac, en, he, -⟩ := State.finish_frame _ id { status := st, data := [], poison := [] }
    rw [State.fail, he]

theorem State.failWhere_peers (s : State) (p : Access → Bool) (st : Status) : (s.failWhere p st).peers = s.peers :=
  eachOf_keeps State.peers (fun (a : Access) t => t.lose_peers a.id st .never) _ _

theorem State.fail_peers (s : State) (id : Nat) (st : Status) : (s.fail id st).peers = s.peers := by
  obtain ⟨x, ac, en, he, -⟩ := s.finish_frame id { status := st, data := [], poison := [] }
  rw [State.fail, he]

theorem State.portFor_up {s : State} {k : Packet} {q : Nat} (h : s.portFor k = .inr q) : (s.peer q).state = .up := by
  unfold State.portFor at h
  dsimp only at h
  split at h
  · next u hu =>
    obtain rfl : u = q := Sum.inr.inj h
    simpa using (List.mem_filter.mp (List.mem_of_getElem? hu)).2
  · split at h <;> exact absurd h Sum.inl_ne_inr

theorem State.countUnreach_peers (s : State) (st : Status) : (s.countUnreach st).peers = s.peers := by
  unfold State.countUnreach
  split <;> rfl

/-- One packet that had not left a port goes by another, or its request ends. -/
def State.reroute (p : Nat) (k : Packet) (t : State) : State :=
  match t.portFor k with
  | .inr q => t.moveTo p q k
  | .inl st =>
    if k.cls ≠ .req then t
    else match t.tracker.find? (fun e => e.tag == k.tag && e.port == p && !e.ended) with
      | some e => State.countUnreach (State.fail { t with tracker := t.tracker.filter (fun x => x.tag != e.tag) } e.access st) st
      | none => t

theorem State.rerouteWaiting_eq (s : State) (p : Nat) :
    s.rerouteWaiting p = eachOf (State.reroute p) (s.peer p).waiting (s.modPeer p (fun x => { x with waiting := [] })) := rfl

/-- A packet never goes back to a port out of service. -/
theorem State.reroute_lost {p : Nat} {k : Packet} {t : State} (h : (t.peer p).state ≠ .up) : (t.reroute p k).peer p = t.peer p := by
  unfold State.reroute
  split
  · next q hq =>
    have hne : p ≠ q := fun hc => h (hc ▸ State.portFor_up hq)
    exact (State.onPort_queueOn _ q k).other p hne
  · next st _ =>
    split
    · rfl
    · split
      · exact congrArg (tabGet {} · p) ((State.countUnreach_peers _ st).trans (State.fail_peers _ _ _))
      · rfl

theorem State.rerouteWaiting_lost {s : State} {p : Nat} (hs : (s.peer p).state ≠ .up) :
    (s.rerouteWaiting p).peer p = { s.peer p with waiting := [] } := by
  have hmod : (s.modPeer p (fun x => { x with waiting := [] })).peer p = { s.peer p with waiting := [] } :=
    (s.peer_modPeer p p _).trans (if_pos rfl)
  have hall (ks : List Packet) (t : State) (ht : (t.peer p).state ≠ .up) : (eachOf (State.reroute p) ks t).peer p = t.peer p := by
    induction ks generalizing t with
    | nil => rfl
    | cons k ks ih => exact (ih _ (by rw [State.reroute_lost ht]; exact ht)).trans (State.reroute_lost ht)
  rw [State.rerouteWaiting_eq, hall _ _ (by rw [hmod]; exact hs), hmod]

theorem State.rerouteWaiting_none {s : State} {p : Nat} (h : (s.peer p).waiting = []) :
    s.rerouteWaiting p = s.modPeer p (fun x => { x with waiting := [] }) := by
  unfold State.rerouteWaiting
  rw [h]
  rfl

/-! ### What a lost crossing ends -/

section
variable {s z : State} {sl : Slice} {k : Fin 9}

theorem State.LossMarked.lossEnds (h : s.LossMarked sl k.val z) (hf : z.home.filter = []) (c : CrossAt) :
    s.LossMarked sl k.val (z.lossEnds c) ∧ (z.lossEnds c).home.filter = [] ∧ (z.lossEnds c).links = z.links := by
  have hend {t u : State} (h : s.LossMarked sl k.val t) (hf : t.home.filter = []) (hl : t.links = z.links) (hb : t.Beside u) :
      s.LossMarked sl k.val (u.shIrq 6) ∧ (u.shIrq 6).home.filter = [] ∧ (u.shIrq 6).links = z.links :=
    ⟨(h.beside hb).shIrq 6, by rw [State.shIrq_home]; exact hb.filter hf, by rw [State.shIrq_links, hb.links, hl]⟩
  cases c with
  | host n =>
    have hm : s.LossMarked sl k.val (z.modHost n (fun h => { h with readyOut := false })) := ⟨h.dead, h.lost, h.other, h.conf, h.bit⟩
    exact hend hm hf rfl ((State.beside_doeGone _ n).trans (State.beside_failWhere _ _ _))
  | peer p =>
    exact hend h hf rfl (((State.Beside.ofOnPort (z.onPort_modPeer p _)).trans (State.beside_rerouteWaiting _ p)).trans (State.beside_failWhere _ _ _))
  | link l => exact hend h hf rfl (State.beside_failWhere _ _ _)
  | inner => exact ⟨h, hf, rfl⟩

theorem State.lossEnds_host (z : State) (n : Nat) :
    ((z.lossEnds (.host n)).host n).readyOut = false ∧ ∀ j, j ≠ n → (z.lossEnds (.host n)).host j = z.host j := by
  have hend : ((z.modHost n (fun h => { h with readyOut := false })).Beside _) :=
    (State.beside_doeGone _ n).trans (State.beside_failWhere _ (onHost n) .clockLost)
  have hhost (j : Nat) : (z.lossEnds (.host n)).host j = (z.modHost n (fun h => { h with readyOut := false })).host j := by
    rw [← hend.host j]
    exact congrArg (tabGet {} · j) (State.shIrq_hosts _ 6)
  refine ⟨?_, fun j hj => ?_⟩
  · rw [hhost, State.host_modHost, if_pos rfl]
  · rw [hhost, State.host_modHost, if_neg hj]

theorem State.lossEnds_peer (z : State) (p : Nat) :
    (z.lossEnds (.peer p)).hosts = z.hosts ∧ ((z.lossEnds (.peer p)).peer p).readyOut = false ∧
      ((z.lossEnds (.peer p)).peer p).state = .clockLost ∧
      ((z.peer p).waiting = [] → ∀ j, j ≠ p → (z.lossEnds (.peer p)).peer j = z.peer j) := by
  have hmod (j : Nat) := z.peer_modPeer p j (fun x => { x with readyOut := false, state := .clockLost, keyx := {} })
  have hpeer (t : State) (q : Access → Bool) (j : Nat) : ((t.failWhere q .clockLost).shIrq 6).peer j = t.peer j := by
    rw [State.peer, State.shIrq_peers, State.failWhere_peers]
    rfl
  have hself := hmod p
  rw [if_pos rfl] at hself
  have hlost := State.rerouteWaiting_lost (s := z.modPeer p (fun x => { x with readyOut := false, state := .clockLost, keyx := {} })) (p := p)
    (by rw [hself]; exact fun hc => PeerState.noConfusion hc)
  rw [hself] at hlost
  refine ⟨?_, ?_, ?_, fun hw j hj => ?_⟩
  · refine (State.shIrq_hosts _ 6).trans ?_
    exact ((State.beside_rerouteWaiting _ p).trans (State.beside_failWhere _ _ _)).hosts.trans (State.Beside.ofOnPort (z.onPort_modPeer p _)).hosts
  · exact (congrArg PeerPort.readyOut ((hpeer _ _ p).trans hlost)).trans rfl
  · exact (congrArg PeerPort.state ((hpeer _ _ p).trans hlost)).trans rfl
  · refine (hpeer _ _ j).trans ?_
    rw [State.rerouteWaiting_none (by rw [hself]; exact hw), State.peer_modPeer, if_neg hj, hmod, if_neg hj]

theorem State.lossEnds_link (z : State) (l : Link) : (z.lossEnds (.link l)).hosts = z.hosts ∧ (z.lossEnds (.link l)).Freed l := by
  refine ⟨(State.shIrq_hosts _ 6).trans (State.beside_failWhere _ _ _).hosts, ?_⟩
  refine State.Freed.ofAccesses (s := z.failWhere (needsLink l) .clockLost) (fun a ha => .inl (State.mem_failWhere ha).2) ?_
  exact State.shIrq_accesses _ 6

end

/-! ### Holders -/

theorem eachOf_id {α : Type} {f : α → State → State} {s : State} (h : ∀ x, f x s = s) (l : List α) : eachOf f l s = s := by
  induction l with
  | nil => rfl
  | cons x l ih => rw [eachOf, h, ih]

theorem State.loseHolder_none {s : State} (h : s.home.filter = []) (i : Nat) : s.loseHolder i = s := by
  unfold State.loseHolder
  rw [h]
  rfl

theorem State.losePaths_none {s : State} (h : s.home.filter = []) : s.losePaths = s := by
  have hno (i : Nat) : s.pathLost i = false := by rw [State.pathLost, h, List.any_nil, Bool.and_false]
  refine eachOf_id (fun i => ?_) _
  rw [hno]
  exact if_neg Bool.false_ne_true

/-- A host port that has left service with its clock drops what its host had. -/
def State.holderGone (was : Nat → Bool) (n : Nat) (t : State) : State :=
  if was n && !(t.host n).readyOut then
    State.loseHolder (State.dropHost { t with cacheTags := t.cacheTags.filter (fun x => x.port != n) } n) n
  else t

theorem State.clockLost_eq (s : State) (sl : Slice) (k : Nat) :
    s.clockLost sl k = (eachOf (State.holderGone fun n => (s.host n).readyOut) [0, 1] (s.loseClock sl k)).losePaths := rfl

theorem State.beside_holderGone {was : Nat → Bool} {n : Nat} {t : State} (h : t.home.filter = []) : t.Beside (t.holderGone was n) := by
  unfold State.holderGone
  split
  · have hdrop : t.Beside (State.dropHost { t with cacheTags := t.cacheTags.filter (fun x => x.port != n) } n) :=
      State.Beside.trans (t := { t with cacheTags := t.cacheTags.filter (fun x => x.port != n) })
        ⟨rfl, rfl, rfl, rfl, rfl, rfl, rfl, rfl, id⟩ (State.beside_dropHost _ n)
    rw [State.loseHolder_none (hdrop.filter h)]
    exact hdrop
  · exact .refl

theorem State.beside_clockLost {s : State} {sl : Slice} {k : Nat} (h : (s.loseClock sl k).home.filter = []) :
    (s.loseClock sl k).Beside (s.clockLost sl k) := by
  have hall (l : List Nat) (t : State) (ht : t.home.filter = []) : t.Beside (eachOf (State.holderGone fun n => (s.host n).readyOut) l t) := by
    induction l generalizing t with
    | nil => exact .refl
    | cons n l ih => exact (State.beside_holderGone ht).trans (ih _ ((State.beside_holderGone ht).filter ht))
  have hgone := hall [0, 1] _ h
  rw [State.clockLost_eq, State.losePaths_none (hgone.filter h)]
  exact hgone

/-- No host port left service: no holder is lost. -/
theorem State.clockLost_hosts {s : State} {sl : Slice} {k : Nat} (h : (s.loseClock sl k).home.filter = [])
    (hh : (s.loseClock sl k).hosts = s.hosts) : s.clockLost sl k = s.loseClock sl k := by
  have hid : eachOf (State.holderGone fun n => (s.host n).readyOut) [0, 1] (s.loseClock sl k) = s.loseClock sl k := by
    refine eachOf_id (fun n => ?_) _
    unfold State.holderGone
    simp only [State.host, hh, Bool.and_not_self]
    exact if_neg Bool.false_ne_true
  rw [State.clockLost_eq, hid, State.losePaths_none h]

end Sys2Proof.Machine

/-! SETTLED: O12, a clock lost at a crossing: the state that settles (02 R46, R58; 03 R66, R68). -/

namespace Sys2Proof.Machine

/-! ### The settled loss -/

/-- What a lost link ends, up to the rounds' results that go on by themselves: ports, links, clocks and the configuration stay, and no access
comes to need the link. -/
theorem State.afterLoss_link {s t : State} {l : Link} (hstore : t.storeLost = s.storeLost) (hfree : t.Freed l)
    (hst : ∀ st, s.linkFault .slA = none → t.linkFault .slA = some st → st = .clockLost) :
    ∃ u, t.Beside u ∧ u.Freed l ∧ u.settle = (t.afterLoss s).settle := by
  obtain ⟨v, hv, hb, hfree⟩ : ∃ v, (if ((t.linkFault .slA).isSome && (s.linkFault .slA).isNone || (t.linkFault .slB).isSome && (s.linkFault .slB).isNone) = true
      then t.endEngines else t) = v ∧ t.Beside v ∧ v.Freed l := by
    split
    · exact ⟨_, rfl, t.beside_endEngines, hfree.endEngines⟩
    · exact ⟨_, rfl, .refl, hfree⟩
  have hstage {x : State} (hx : x.storeLost = s.storeLost) :
      (if (x.storeLost && !s.storeLost) = true then (x.failWhere (fun a => a.agent != .block) .clockLost).endRounds .clockLost [.open_, .writing] else x) = x := by
    rw [hx, Bool.and_not_self]
    exact if_neg Bool.false_ne_true
  have hkeep {x : State} {sl : Slice} (hx : t.Recorded sl x) : x.storeLost = s.storeLost := by
    rw [← hstore, State.storeLost, State.storeLost]
    by_cases hsl : Slice.hd = sl
    · rw [hsl, hx.dead]
    · rw [hx.other _ hsl]
  unfold State.afterLoss
  dsimp only
  rw [hv]
  cases hold : s.linkFault .slA with
  | some st => exact ⟨v, hb, hfree, congrArg State.settle (hstage (hkeep hb.recorded (sl := .hd))).symm⟩
  | none =>
    cases hnew : v.linkFault .slA with
    | none => exact ⟨v, hb, hfree, congrArg State.settle (hstage (hkeep hb.recorded (sl := .hd))).symm⟩
    | some st =>
      obtain rfl : st = .clockLost := hst st hold (by rw [← hb.linkFault]; exact hnew)
      have hcut : t.Beside (v.cutHome .clockLost) := hb.trans (v.beside_cutHome _)
      obtain ⟨c, e, hce⟩ := State.endRounds_settle (st := .clockLost) (fun hc => Status.noConfusion hc) (fun hc => Status.noConfusion hc)
        (v.cutHome .clockLost)
      refine ⟨(v.cutHome .clockLost).over c e, hcut.trans (State.beside_over _ c e), (hfree.cutHome _).ofAccesses rfl, hce.trans ?_⟩
      exact congrArg State.settle (hstage (hkeep (hcut.recorded.trans (State.recorded_endRounds _ _ _)))).symm

/-- What the loss of an inner crossing ends beyond: nothing, or what needs the hold, with records of its slice. -/
theorem State.afterLoss_inner {s t : State} (hl : ∀ l, t.linkFault l = s.linkFault l) :
    t.afterLoss s = t ∨ t.storeLost ≠ s.storeLost ∧ t.Recorded .hd (t.afterLoss s) := by
  by_cases hs : t.storeLost = s.storeLost
  · exact .inl (State.afterLoss_same hl hs)
  · refine .inr ⟨hs, ?_⟩
    have hno (x : Option Status) : (x.isSome && x.isNone) = false := by cases x <;> rfl
    unfold State.afterLoss
    simp only [hl, hno, Bool.or_self, Bool.false_eq_true, if_false]
    have htail : t.Recorded .hd (if (t.storeLost && !s.storeLost) = true then
        (t.failWhere (fun a => a.agent != .block) .clockLost).endRounds .clockLost [.open_, .writing] else t) := by
      split
      · exact (State.beside_failWhere _ _ _).recorded.trans (State.recorded_endRounds _ _ _)
      · exact .refl
    cases s.linkFault .slA <;> exact htail

section
variable {s : State} {sl : Slice} {k : Fin 9}

/-- The state in which a crossing has lost its clock and what needed it has ended at once. -/
theorem State.loseClock_marked (hp : (s.clock sl).porN = true) (hd : (s.clock sl).dead.getLsbD k = false)
    (hi : crossAt sl k = .inner → (s.clock sl).fbNow = true) (hf : s.home.filter = []) :
    s.loseClock sl k = (s.lossNoted sl k).lossEnds (crossAt sl k) ∧ s.LossMarked sl k.val (s.clockLost sl k) ∧
      (s.clockLost sl k).links = s.links ∧ (s.loseClock sl k).Beside (s.clockLost sl k) ∧ (s.loseClock sl k).home.filter = [] := by
  have hz : (s.lossNoted sl k).home.filter = [] := by
    rw [State.lossNoted, State.shIrq_home]
    exact (congrArg HomeUnit.filter (State.record_home _ _)).trans hf
  have hlinks : (s.lossNoted sl k).links = s.links := by
    rw [State.lossNoted, State.shIrq_links]
    exact State.record_links _ _
  have heq := State.loseClock_eq hp hd hi
  obtain ⟨hm, hfil, hlk⟩ := (s.lossMarked_noted sl k).lossEnds hz (crossAt sl k)
  rw [← heq] at hm hfil hlk
  have hb := State.beside_clockLost hfil
  exact ⟨heq, hm.beside hb, by rw [hb.links, hlk, hlinks], hb, hfil⟩

theorem State.lossNoted_peers (s : State) (sl : Slice) (k : Nat) : (s.lossNoted sl k).peers = s.peers := by
  rw [State.lossNoted, State.shIrq_peers]
  exact State.record_peers _ _

theorem State.lossNoted_hosts (s : State) (sl : Slice) (k : Nat) : (s.lossNoted sl k).hosts = s.hosts := by
  rw [State.lossNoted, State.shIrq_hosts]
  exact State.record_hosts _ _

end

/-- Settles O12: the crossing is noted with a record, ends what needed it, and no holder is lost; what a link ends beyond that settles to
the same as its state before the rounds' results. -/
theorem clockLossMarksCrossing : Obligations.ClockLossMarksCrossing := by
  unfold Obligations.ClockLossMarksCrossing
  intro s sl k hp hd hi hf
  obtain ⟨heq, hm, hlinks, hb, hfil⟩ := State.loseClock_marked hp hd hi hf
  have hlink (l : Link) : (s.clockLost sl k).link l = s.link l := by rw [State.link, hlinks]; rfl
  have hexec : exec (.clockLost sl k) s = .next ((s.clockLost sl k).afterLoss s).settle := rfl
  cases hc : crossAt sl k with
  | inner =>
    have hfault (l : Link) : (s.clockLost sl k).linkFault l = s.linkFault l := hm.linkFault (by rw [hc]; exact fun h => CrossAt.noConfusion h) (hlink l)
    obtain ⟨hdead, hlost, hother, hconf, hbit⟩ : s.LossMarked sl k.val ((s.clockLost sl k).afterLoss s) := by
      rcases State.afterLoss_inner hfault with he | ⟨hstore, hr⟩
      · rw [he]
        exact hm
      · obtain rfl : sl = .hd := by
          by_contra hsl
          exact hstore (hm.storeLost_other hsl)
        exact hm.more hr
    exact ⟨_, hexec, hdead, hlost, hother, hconf, hbit, fun _ h => CrossAt.noConfusion h, fun _ h => CrossAt.noConfusion h,
      fun _ h => CrossAt.noConfusion h⟩
  | host n =>
    have hsame : (s.clockLost sl k).afterLoss s = s.clockLost sl k :=
      State.afterLoss_same (fun l => hm.linkFault (by rw [hc]; exact fun h => CrossAt.noConfusion h) (hlink l))
        (hm.storeLost (by rw [hc]; exact fun h => CrossAt.noConfusion h))
    rw [hsame] at hexec
    obtain ⟨hready, hhosts⟩ := (s.lossNoted sl k).lossEnds_host n
    rw [hc] at heq
    rw [← heq, ← hb.host] at hready
    refine ⟨_, hexec, hm.dead, hm.lost, hm.other, hm.conf, hm.bit, ?_, fun _ h => CrossAt.noConfusion h, fun _ h => CrossAt.noConfusion h⟩
    intro m hnm
    obtain rfl : n = m := CrossAt.host.inj hnm
    refine ⟨hready, fun j hj => ?_⟩
    rw [hb.host, heq, hhosts j hj, State.host, State.lossNoted_hosts]
    rfl
  | peer p =>
    rw [hc] at heq
    obtain ⟨hhosts, hready, hstate, hothers⟩ := (s.lossNoted sl k).lossEnds_peer p
    have ht : s.clockLost sl k = s.loseClock sl k := State.clockLost_hosts hfil (by rw [heq, hhosts, State.lossNoted_hosts])
    have hsame : (s.clockLost sl k).afterLoss s = s.clockLost sl k :=
      State.afterLoss_same (fun l => hm.linkFault (by rw [hc]; exact fun h => CrossAt.noConfusion h) (hlink l))
        (hm.storeLost (by rw [hc]; exact fun h => CrossAt.noConfusion h))
    have hpeer (j : Nat) : (s.lossNoted sl k).peer j = s.peer j := by rw [State.peer, State.lossNoted_peers]; rfl
    rw [hsame] at hexec
    refine ⟨_, hexec, hm.dead, hm.lost, hm.other, hm.conf, hm.bit, fun _ h => CrossAt.noConfusion h, ?_, fun _ h => CrossAt.noConfusion h⟩
    intro q hpq
    obtain rfl : p = q := CrossAt.peer.inj hpq
    rw [ht, heq]
    exact ⟨hready, hstate, fun hw j hj => (hothers (by rw [hpeer]; exact hw) j hj).trans (hpeer j)⟩
  | link l =>
    rw [hc] at heq
    obtain ⟨hhosts, hfree⟩ := (s.lossNoted sl k).lossEnds_link l
    have ht : s.clockLost sl k = s.loseClock sl k := State.clockLost_hosts hfil (by rw [heq, hhosts, State.lossNoted_hosts])
    rw [← heq, ← ht] at hfree
    have hst (st : Status) (hold : s.linkFault .slA = none) (hnew : (s.clockLost sl k).linkFault .slA = some st) : st = .clockLost := by
      by_cases hl : l = .slA
      · subst hl
        rw [hm.linkFault_lost hc] at hnew
        exact (Option.some.inj hnew).symm
      · rw [hm.linkFault (l := .slA) (by rw [hc]; exact fun h => hl (CrossAt.link.inj h)) (hlink _), hold] at hnew
        cases hnew
    have hstore := hm.storeLost (by rw [hc]; exact fun h => CrossAt.noConfusion h)
    obtain ⟨u, hu, hfree, hsettle⟩ := State.afterLoss_link hstore hfree hst
    obtain ⟨hdead, hlost, hother, hconf, hbit⟩ := hm.beside hu
    refine ⟨u, hexec.trans (congrArg _ hsettle.symm), hdead, hlost, hother, hconf, hbit, fun _ h => CrossAt.noConfusion h,
      fun _ h => CrossAt.noConfusion h, ?_⟩
    intro l' hl
    obtain rfl : l = l' := CrossAt.link.inj hl
    exact ⟨(hu.linkFault l).trans (hm.linkFault_lost hc), fun l' => (hu.link l').trans (hlink l'), hfree⟩

end Sys2Proof.Machine

/-! SETTLED: O14, the events of a host link (02 R28, R30, R34; 14 R343, R354). -/

namespace Sys2Proof.Machine

/-! ### Lines of a lost holder -/

/-- `t` is `s` after lines of a lost holder: ports, links, their tags, the configuration, tide counters, queues and the write-back buffer are
as before, interrupt status bits stay set, no access waits on a host port that waited on none, and clock blocks are as before while the
hold slice's records cross. -/
structure State.HolderLost (s t : State) : Prop where
  hosts : t.hosts = s.hosts
  cacheTags : t.cacheTags = s.cacheTags
  conf : t.conf = s.conf
  tide : t.tide = s.tide
  queues : t.queues = s.queues
  wbBuf : t.home.wbBuf = s.home.wbBuf
  bits : ∀ i, s.irq.status.getLsbD i = true → t.irq.status.getLsbD i = true
  waits : ∀ n, (∀ a ∈ s.accesses, onHost n a = false) → ∀ a ∈ t.accesses, onHost n a = false
  clocks : s.ctrlLost .hd = false → t.clocks = s.clocks

section
variable {s t u : State}

theorem State.HolderLost.refl : s.HolderLost s := ⟨rfl, rfl, rfl, rfl, rfl, rfl, fun _ => id, fun _ => id, fun _ => rfl⟩

theorem State.ctrlLost_clocks (h : t.clocks = s.clocks) (sl : Slice) : t.ctrlLost sl = s.ctrlLost sl := by
  unfold State.ctrlLost State.clock
  rw [h]

theorem State.HolderLost.trans (h : s.HolderLost t) (h' : t.HolderLost u) : s.HolderLost u :=
  ⟨h'.hosts.trans h.hosts, h'.cacheTags.trans h.cacheTags, h'.conf.trans h.conf, h'.tide.trans h.tide, h'.queues.trans h.queues,
    h'.wbBuf.trans h.wbBuf, fun i hi => h'.bits i (h.bits i hi), fun n hn => h'.waits n (h.waits n hn),
    fun hc => (h'.clocks ((State.ctrlLost_clocks (h.clocks hc) .hd).trans hc)).trans (h.clocks hc)⟩

theorem State.holderLost_record (s : State) {r : ErrRec} (hr : r.slice = .hd) : s.HolderLost (s.record r) := by
  refine ⟨State.record_hosts .., State.record_cacheTags .., State.record_conf .., State.record_tide .., State.record_queues .., by rw [State.record_home],
    (s.recorded_record r).bits, fun n hn => by rw [State.record_accesses]; exact hn, fun hc => ?_⟩
  rw [State.record_kept (by rw [hr]; exact hc)]

/-- What changes in the home agent and the tracker, but not in the write-back buffer. -/
theorem State.holderLost_home (s : State) {x : HomeUnit} {tr : List Tracker} (h : x.wbBuf = s.home.wbBuf)
    (hc : State.conf { s with home := x, tracker := tr } = s.conf) : s.HolderLost { s with home := x, tracker := tr } :=
  ⟨rfl, rfl, hc, rfl, rfl, h, fun _ => id, fun _ => id, fun _ => rfl⟩

/-- What is counted and noted. -/
theorem State.holderLost_notes (s : State) {x : HoldUnit} {r : RasUnit} {f : Nat}
    (hc : State.conf { s with hold := x, ras := r, fresh := f } = s.conf) : s.HolderLost { s with hold := x, ras := r, fresh := f } :=
  ⟨rfl, rfl, hc, rfl, rfl, rfl, fun _ => id, fun _ => id, fun _ => rfl⟩

theorem State.holderLost_unhold (s : State) (line i : Nat) : s.HolderLost (s.unhold line i) := s.holderLost_home rfl rfl

theorem State.holderLost_modTxn (s : State) (id : Nat) (f : HomeTxn → HomeTxn) : s.HolderLost (s.modTxn id f) := s.holderLost_home rfl rfl

theorem State.holderLost_snooped (s : State) (t : HomeTxn) (line i : Nat) :
    s.HolderLost ((s.snoopAnswered t line i false).endSnoopTag t.id i) :=
  ((s.holderLost_modTxn t.id _).trans (State.holderLost_unhold _ line i)).trans (State.holderLost_home _ rfl rfl)

/-- A write of the home agent waits on no host port. -/
theorem State.holderLost_homeMem (s : State) (pu : Purpose) (part : Option Nat) (addr : Nat) (data : Bytes) (be : List Bool) (bad : Bool) :
    s.HolderLost (s.homeMem pu part .write addr data be bad) := by
  refine ⟨rfl, rfl, rfl, rfl, rfl, rfl, fun _ => id, fun n hn a ha => ?_, fun _ => rfl⟩
  rcases List.mem_append.mp ha with h | h
  · exact hn a h
  · rw [List.mem_singleton.mp h]
    rfl

theorem State.holderLost_poisonLine (s : State) (pa : BitVec 60) (p : Option Nat) (inst : Nat) :
    s.HolderLost (s.poisonLine 5 0x0A 0 pa p inst .block true) := by
  have hrec (t : State) (line now : BitVec 64) (k : Option Nat) (sealed : Bool) :
      t.HolderLost (State.poisonLine.rec' 5 0x0A 0 p inst .block true t line now k sealed) :=
    State.HolderLost.trans (t := { t with fresh := t.fresh + 1, ras := { t.ras with
      recent := ((line, now) :: t.ras.recent.filter (fun e => e.1 != line)).take 16 } }) (t.holderLost_notes rfl) (State.holderLost_record _ rfl)
  have hin : s.HolderLost { s with hold := { s.hold with poisonIn := sat32 s.hold.poisonIn } } := s.holderLost_notes rfl
  have hone : ((5 : Nat) == 1) = false := rfl
  have htwo : ((5 : Nat) == 2) = false := rfl
  have hne : ¬ (5 : Nat) = 2 := by decide
  unfold State.poisonLine
  simp only [if_neg hne, hone, htwo, Bool.or_self, Bool.and_false, Bool.false_eq_true, if_false]
  split
  · split
    · exact s.holderLost_notes rfl
    · exact hin.trans (hrec _ _ _ _ _)
  · exact hin.trans (hrec _ _ _ _ _)

/-- A holder is lost for a line: the filter and the transaction that waits for its answer. -/
def State.lineDropped (s : State) (line i : Nat) : Option HomeTxn → State
  | some t => (s.snoopAnswered t line i false).endSnoopTag t.id i
  | none => s.unhold line i

/-- A line lost with its exclusive holder is counted, and a transaction that waits for the holder waits for its write. -/
def State.lineCounted (s : State) : Option HomeTxn → State
  | some t => State.modTxn { s with home := { s.home with lost := sat32 s.home.lost } } t.id (fun t => { t with wbs := t.wbs + 1 })
  | none => { s with home := { s.home with lost := sat32 s.home.lost } }

/-- What an exclusive holder had of a line is written poisoned. -/
def State.lineWritten (s : State) (line : Nat) (t : Option HomeTxn) : State :=
  (s.homeMem ((t.map (fun t => Purpose.home t.id)).getD (.homeWb 2 0 line)) (s.linePartition line) .write line
    ((List.range 64).map (fun k => Config.poisonByte (BitVec.ofNat 64 (line + k)))) (List.replicate 64 true) true)

theorem State.loseLine_eq (s : State) (line i : Nat) : s.loseLine line i =
    if (s.exclusive line == some i) = true then
      let u := ((s.lineDropped line i (s.snooper line i)).lineCounted (s.snooper line i)).lineWritten line (s.snooper line i)
      u.poisonLine 5 0x0A 0 (u.localPa line) (u.linePartition line) (if i < 2 then s.ownId else s.cacheInst i) .block true
    else (s.lineDropped line i (s.snooper line i)).record
      { (s.lineDropped line i (s.snooper line i)).errAt ((s.lineDropped line i (s.snooper line i)).errRec 3 .timeout .hd 0x0A 0)
          ((s.lineDropped line i (s.snooper line i)).localPa line) with
        inst := BitVec.ofNat 16 (if i < 2 then s.ownId else s.cacheInst i)
        part := BitVec.ofNat 8 (((s.lineDropped line i (s.snooper line i)).linePartition line).getD 0xFF) } := by
  unfold State.loseLine
  cases s.snooper line i <;> rfl

theorem State.holderLost_lineDropped (s : State) (line i : Nat) (t : Option HomeTxn) : s.HolderLost (s.lineDropped line i t) := by
  cases t with
  | none => exact s.holderLost_unhold line i
  | some t => exact s.holderLost_snooped t line i

theorem State.holderLost_lineCounted (s : State) (t : Option HomeTxn) : s.HolderLost (s.lineCounted t) := by
  cases t <;> exact s.holderLost_home rfl rfl

theorem State.holderLost_loseLine (s : State) (line i : Nat) : s.HolderLost (s.loseLine line i) := by
  have hdrop := s.holderLost_lineDropped line i (s.snooper line i)
  rw [State.loseLine_eq]
  split
  · exact ((hdrop.trans (State.holderLost_lineCounted _ _)).trans (State.holderLost_homeMem _ _ _ _ _ _ _)).trans (State.holderLost_poisonLine _ _ _ _)
  · exact hdrop.trans (State.holderLost_record _ rfl)

theorem State.holderLost_loseHolder (s : State) (i : Nat) : s.HolderLost (s.loseHolder i) :=
  eachOf_relates (fun _ => .refl) (fun _ _ _ h h' => h.trans h') (fun (e : FilterEntry) t => t.holderLost_loseLine e.line.toNat i) _ s

end

/-! ### The port's error -/

theorem State.fail_keeps (s : State) (id : Nat) (st : Status) {β : Type} (g : State → β)
    (hg : ∀ (x : State) us ac en, g { x with hold := { x.hold with used := us }, accesses := ac, ended := en } = g x) : g (s.fail id st) = g s := by
  obtain ⟨us, ac, en, he, -⟩ := s.finish_frame id { status := st, data := [], poison := [] }
  rw [State.fail, he, hg]

/-- What speaks of nothing that the end of an access writes. -/
theorem State.failWhere_keeps (s : State) (p : Access → Bool) (st : Status) {β : Type} (g : State → β)
    (hfail : ∀ (x : State) us ac en, g { x with hold := { x.hold with used := us }, accesses := ac, ended := en } = g x)
    (hack : ∀ (x : State) un, g { x with inv := { x.inv with unacked := un } } = g x)
    (htrack : ∀ (x : State) tr, g { x with tracker := tr } = g x) : g (s.failWhere p st) = g s := by
  refine (eachOf_keeps (f := fun (a : Access) t => t.lose a.id st .never) g (fun a t => ?_) _ _).trans (htrack s _)
  unfold State.lose
  dsimp only
  split
  · exact (State.fail_keeps _ _ _ g hfail).trans (hack _ _)
  · exact State.fail_keeps _ _ _ g hfail

theorem onHost_orphan (n k : Nat) (a : Access) : onHost k (orphan n a) = onHost k a := by
  unfold orphan
  split
  · split <;> rfl
  · split <;> rfl
  · rfl

/-- A host port in error is at its reset registers. -/
def State.hostQuit (s : State) (n : Nat) : State := (s.setHost n { linkUp := (s.host n).linkUp, needFall := true }).doeGone n

/-- The record of a host port's error. -/
def State.hostErrRec (s : State) (n : Nat) : ErrRec := { s.errRec 4 .busError .sh 3 n with detail0 := BitVec.ofNat 64 (statusCode .busError) }

/-- A record tells of it, and the port's tags are gone. -/
def State.hostReset (s : State) (n : Nat) : State :=
  let t := (s.hostQuit n).record ((s.hostQuit n).hostErrRec n)
  { t with cacheTags := t.cacheTags.filter (fun x => x.port != n) }

/-- What it carried has ended and what it asked for is forgotten. -/
def State.hostEnded (s : State) (n : Nat) : State := ((s.hostReset n).failWhere (onHost n) .busError).dropHost n

theorem State.hostErr_eq {s : State} {n : Nat} (h : (s.host n).readyOut = true) :
    s.hostErr n = ((s.hostEnded n).loseHolder n).shIrq 6 := by
  refine if_neg ?_
  rw [h]
  exact Bool.false_ne_true

section
variable (s : State) (n : Nat)

theorem State.hostQuit_eq : ∃ d, s.hostQuit n =
    { s.setHost n { linkUp := (s.host n).linkUp, needFall := true } with ident := { s.ident with doeReady := d } } := by
  unfold State.hostQuit State.doeGone
  split
  · exact ⟨_, rfl⟩
  · exact ⟨s.ident.doeReady, rfl⟩

theorem State.hostReset_hosts : (s.hostReset n).hosts = tabSet {} s.hosts n { linkUp := (s.host n).linkUp, needFall := true } := by
  refine (State.record_hosts _ _).trans ?_
  obtain ⟨d, hd⟩ := s.hostQuit_eq n
  rw [hd]
  rfl

theorem State.hostReset_kept : (s.hostReset n).conf = s.conf ∧ (s.hostReset n).tide = s.tide ∧ (s.hostReset n).queues = s.queues ∧
    (s.hostReset n).home = s.home := by
  obtain ⟨d, hd⟩ := s.hostQuit_eq n
  refine ⟨(State.record_conf _ _).trans ?_, (State.record_tide _ _).trans ?_, (State.record_queues _ _).trans ?_, (State.record_home _ _).trans ?_⟩
  all_goals
    rw [hd]
    rfl

/-- With the shore slice's record crossing, one record is written and no clock block changes. -/
theorem State.hostReset_record (h : s.ctrlLost .sh = false) :
    (s.hostReset n).ras.nextSeq = s.ras.nextSeq + 1 ∧ (s.hostReset n).clocks = s.clocks := by
  obtain ⟨d, hd⟩ := s.hostQuit_eq n
  have hclocks : (s.hostQuit n).clocks = s.clocks := by rw [hd]; rfl
  have hras : (s.hostQuit n).ras = s.ras := by rw [hd]; rfl
  have hsh : (s.hostQuit n).ctrlLost ((s.hostQuit n).hostErrRec n).slice = false := (State.ctrlLost_clocks hclocks .sh).trans h
  refine ⟨(State.record_nextSeq hsh).trans (by rw [hras]), ?_⟩
  exact (State.record_kept hsh).trans hclocks

theorem State.hostReset_cacheTags : ∀ c ∈ (s.hostReset n).cacheTags, c.port ≠ n := fun c hc => by
  simpa using (List.mem_filter.mp hc).2

theorem State.hostEnded_beside : (s.hostReset n).Beside (s.hostEnded n) :=
  (State.beside_failWhere _ _ _).trans (State.beside_dropHost _ n)

theorem State.hostEnded_cacheTags : (s.hostEnded n).cacheTags = (s.hostReset n).cacheTags :=
  (State.failWhere_keeps (s.hostReset n) (onHost n) .busError State.cacheTags (fun _ _ _ _ => rfl) (fun _ _ => rfl) (fun _ _ => rfl) :)

theorem State.hostEnded_waits : ∀ a ∈ (s.hostEnded n).accesses, onHost n a = false := by
  intro a ha
  obtain ⟨b, hb, rfl⟩ := List.mem_map.mp ha
  rw [onHost_orphan]
  exact (State.mem_failWhere hb).2

theorem State.hostEnded_wbBuf : (s.hostEnded n).home.wbBuf.getD n 0 = 0 := by
  have hset : (s.hostEnded n).home.wbBuf = (((s.hostReset n).failWhere (onHost n) .busError).home.wbBuf).set n 0 := rfl
  rw [hset, List.getD_eq_getElem?_getD, List.getElem?_set_self']
  cases ((s.hostReset n).failWhere (onHost n) .busError).home.wbBuf[n]? <;> rfl

theorem State.hostEnded_filter : ∀ e ∈ (s.hostEnded n).home.filter, e ∈ s.home.filter := by
  intro e he
  have hmem : e ∈ ((s.hostReset n).failWhere (onHost n) .busError).home.filter := (List.mem_filter.mp he).1
  rwa [State.failWhere_keeps (s.hostReset n) (onHost n) .busError State.home (fun _ _ _ _ => rfl) (fun _ _ => rfl) (fun _ _ => rfl),
    (s.hostReset_kept n).2.2.2] at hmem

end

theorem State.loseHolder_unheld {s : State} {i : Nat} (h : ∀ e ∈ s.home.filter, e.mask.getLsbD i = false) : s.loseHolder i = s := by
  have hnil : s.home.filter.filter (fun e => e.mask.getLsbD i) = [] := List.filter_eq_nil_iff.mpr fun e he => by rw [h e he]; exact Bool.false_ne_true
  unfold State.loseHolder
  rw [hnil]
  rfl

/-! ### The port's rise -/

/-- The level of hn_link_up has risen. -/
def State.hostLinked (s : State) (n : Nat) : State := s.modHost n (fun h => { h with linkUp := true })

theorem State.hostUp_eq (s : State) (n : Nat) : s.hostUp n = if s.portsOpen then State.hostRise n (s.hostLinked n) else s.hostLinked n := rfl

theorem State.hostMayRise_linked (s : State) (n : Nat) : (s.hostLinked n).hostMayRise n =
    (!(s.host n).needFall && !(s.host n).readyOut && s.charted && s.theChart.ports.hostEnable.getLsbD n && !s.fenced.host.getLsbD n &&
      !(s.clock .sh).dead.getLsbD n) := by
  have hhost : (s.hostLinked n).host n = { s.host n with linkUp := true } := (s.host_modHost n n _).trans (if_pos rfl)
  rw [State.hostMayRise, hhost, Bool.true_and]
  rfl

theorem State.hostUp_rises {s : State} {n : Nat} (hopen : s.portsOpen = true) (hr : (s.host n).readyOut = false) (hf : (s.host n).needFall = false)
    (hc : s.charted = true) (he : s.theChart.ports.hostEnable.getLsbD n = true) (hfen : s.fenced.host.getLsbD n = false)
    (hd : (s.clock .sh).dead.getLsbD n = false) :
    s.hostUp n = (((s.hostLinked n).modHost n (fun h => { h with readyOut := true, rxCredits := 64 })).drive (.hostCredit n 64)).drive
      (.hostRwd n 128) := by
  have hmay : (s.hostLinked n).hostMayRise n = true := by rw [State.hostMayRise_linked, hr, hf, hc, he, hfen, hd]; rfl
  rw [State.hostUp_eq, if_pos hopen]
  exact if_pos hmay

theorem State.hostUp_stays {s : State} {n : Nat} (h : s.portsOpen = false ∨ (s.host n).readyOut = true ∨ (s.host n).needFall = true ∨
    s.charted = false ∨ s.theChart.ports.hostEnable.getLsbD n = false ∨ s.fenced.host.getLsbD n = true ∨ (s.clock .sh).dead.getLsbD n = true) :
    s.hostUp n = s.hostLinked n := by
  rw [State.hostUp_eq]
  rcases h with hclosed | h
  · rw [hclosed]
    exact if_neg Bool.false_ne_true
  · have hmay : (s.hostLinked n).hostMayRise n = false := by
      rw [State.hostMayRise_linked]
      rcases h with h | h | h | h | h | h <;> simp [h]
    have hrise : State.hostRise n (s.hostLinked n) = s.hostLinked n := if_neg (by rw [hmay]; exact Bool.false_ne_true)
    rw [hrise]
    exact ite_self _

/-! ### The events -/

/-- What an error of a host port in service leaves, before waiting work goes on. -/
theorem State.hostErr_leaves {s : State} {n : Nat} (h : (s.host n).readyOut = true) :
    (s.hostErr n).host n = { linkUp := (s.host n).linkUp, needFall := true } ∧ (∀ j, j ≠ n → (s.hostErr n).host j = s.host j) ∧
      (∀ c, c ∈ (s.hostErr n).cacheTags → c.port ≠ n) ∧ (∀ a, a ∈ (s.hostErr n).accesses → onHost n a = false) ∧
      (s.hostErr n).home.wbBuf.getD n 0 = 0 ∧ (s.hostErr n).irq.status.getLsbD 6 = true ∧
      (s.ctrlLost .sh = false → (∀ e, e ∈ s.home.filter → e.mask.getLsbD n = false) → (s.hostErr n).ras.nextSeq = s.ras.nextSeq + 1) ∧
      (s.ctrlLost .sh = false → s.ctrlLost .hd = false → (s.hostErr n).clocks = s.clocks) ∧
      (s.hostErr n).conf = s.conf ∧ (s.hostErr n).tide = s.tide ∧ (s.hostErr n).queues = s.queues := by
  have hb := s.hostEnded_beside n
  have hl := (s.hostEnded n).holderLost_loseHolder n
  obtain ⟨hconf, htide, hqueues, -⟩ := s.hostReset_kept n
  have hhosts : (s.hostErr n).hosts = tabSet {} s.hosts n { linkUp := (s.host n).linkUp, needFall := true } := by
    rw [State.hostErr_eq h, State.shIrq_hosts, hl.hosts, hb.hosts, State.hostReset_hosts]
  have hhost (j : Nat) : (s.hostErr n).host j = if j = n then { linkUp := (s.host n).linkUp, needFall := true } else s.host j := by
    rw [State.host, hhosts]
    exact tabGet_tabSet ..
  refine ⟨(hhost n).trans (if_pos rfl), fun j hj => (hhost j).trans (if_neg hj), ?_, ?_, ?_, ?_, fun hsh hun => ?_, fun hsh hhd => ?_, ?_, ?_, ?_⟩
  · rw [State.hostErr_eq h, State.shIrq_cacheTags, hl.cacheTags, State.hostEnded_cacheTags]
    exact s.hostReset_cacheTags n
  · rw [State.hostErr_eq h, State.shIrq_accesses]
    exact hl.waits n (s.hostEnded_waits n)
  · rw [State.hostErr_eq h, State.shIrq_home, hl.wbBuf]
    exact s.hostEnded_wbBuf n
  · rw [State.hostErr_eq h]
    exact State.shIrq_bit _ (by decide)
  · rw [State.hostErr_eq h, State.shIrq_ras, State.loseHolder_unheld fun e he => hun e (s.hostEnded_filter n e he), hb.ras]
    exact (s.hostReset_record n hsh).1
  · have hclocks := hb.clocks.trans (s.hostReset_record n hsh).2
    rw [State.hostErr_eq h, State.shIrq_clocks, hl.clocks ((State.ctrlLost_clocks hclocks .hd).trans hhd), hclocks]
  · rw [State.hostErr_eq h, State.shIrq_conf, hl.conf, hb.conf, hconf]
  · rw [State.hostErr_eq h, State.shIrq_tide, hl.tide, hb.tide, htide]
  · rw [State.hostErr_eq h, State.shIrq_queues, hl.queues, hb.queues, hqueues]

/-- Settles O14: a fall and a rise write the port's level, an error leaves the reset port and what `hostErr_leaves` states. -/
theorem hostLinkEventsMoveThePort : Obligations.HostLinkEventsMoveThePort := by
  unfold Obligations.HostLinkEventsMoveThePort
  intro s n
  have hmod (f : HostPort → HostPort) : (s.modHost n f).host n = f (s.host n) := (s.host_modHost n n f).trans (if_pos rfl)
  have hother (f : HostPort → HostPort) (j : Nat) (hj : j ≠ n.val) : (s.modHost n f).host j = s.host j := (s.host_modHost n j f).trans (if_neg hj)
  refine ⟨⟨s.hostDown n, rfl, hmod _, hother _, rfl⟩, fun hopen hr hf hc he hfen hd => ?_, fun h => ?_, fun hr => ?_, fun hr => ?_⟩
  · refine ⟨s.hostUp n, rfl, ?_, fun j hj => ?_, ?_, ?_⟩
    all_goals rw [State.hostUp_rises hopen hr hf hc he hfen hd]
    · rw [State.drive_host, State.drive_host, State.host_modHost, if_pos rfl, State.hostLinked, hmod]
    · rw [State.drive_host, State.drive_host, State.host_modHost, if_neg hj, State.hostLinked, hother _ j hj]
    · rfl
    · rfl
  · refine ⟨s.hostUp n, rfl, ?_, fun j hj => ?_, ?_⟩
    all_goals rw [State.hostUp_stays h]
    · exact hmod _
    · exact hother _ j hj
    · rfl
  · have hsame : s.hostErr n = s := if_pos (by rw [hr]; rfl)
    exact congrArg (fun t => Host.Outcome.next (State.settle t)) hsame
  · exact ⟨s.hostErr n, rfl, State.hostErr_leaves hr⟩

end Sys2Proof.Machine

/-! SETTLED: O27, the events of a peer link, its flits and their replay (02 R25, R36 to R38; 11 R279, R280). -/

namespace Sys2Proof.Machine

/-! ### What sending leaves of a port -/

/-- What neither sending nor the key exchange's own steps write. -/
def PeerPort.service (x : PeerPort) : Bool × Bool × PeerState × Option LinkKey × Option LinkKey × Nat :=
  (x.linkUp, x.readyOut, x.state, x.txKey, x.rxKey, x.rxNext)

/-- `t` is `s` after sending on a port: its service, keys and receive sequence are as before, and what was driven stands. -/
structure State.Sends (p : Nat) (s t : State) : Prop where
  port : (t.peer p).service = (s.peer p).service
  out : ∀ o ∈ s.out, o ∈ t.out

section
variable {p : Nat} {s t u : State}

theorem State.Sends.refl : s.Sends p s := ⟨rfl, fun _ => id⟩

theorem State.Sends.trans (h : s.Sends p t) (h' : t.Sends p u) : s.Sends p u :=
  ⟨h'.port.trans h.port, fun o ho => h'.out o (h.out o ho)⟩

theorem State.Sends.ite {c : Prop} [Decidable c] (ht : s.Sends p t) (hu : s.Sends p u) : s.Sends p (if c then t else u) := by
  split
  · exact ht
  · exact hu

theorem State.sends_setPeer {v : PeerPort} (h : v.service = (s.peer p).service) : s.Sends p (s.setPeer p v) :=
  ⟨by rw [State.peer_setPeer, if_pos rfl, h], fun _ => id⟩

theorem State.sends_modPeer {f : PeerPort → PeerPort} (h : (f (s.peer p)).service = (s.peer p).service) : s.Sends p (s.modPeer p f) :=
  State.sends_setPeer h

theorem State.sends_drive (s : State) (p : Nat) (o : Out) : s.Sends p (s.drive o) := ⟨rfl, fun _ => List.mem_cons_of_mem _⟩

end

theorem State.sends_sendFlit (s : State) (p : Nat) (sl : List Bytes) (nak : Bool) : s.Sends p (s.sendFlit p sl nak) := by
  unfold State.sendFlit
  refine .ite .refl (.ite (.ite (State.sends_setPeer ?_) .refl) ((State.sends_setPeer ?_).trans (State.sends_drive _ p _)))
  · rfl
  · rfl

theorem State.sends_sendFlits (p n : Nat) (sl : List Bytes) (s : State) : s.Sends p (State.sendFlits p n sl s) := by
  induction n generalizing sl s with
  | zero => exact .refl
  | succ n ih =>
    unfold State.sendFlits
    exact .ite .refl ((s.sends_sendFlit p _ _).trans (ih _ _))

theorem State.sends_sendWaiting (p n : Nat) (ks : List Packet) (stuck : List PktClass) (s : State) :
    s.Sends p (State.sendWaiting p n ks stuck s) := by
  induction n generalizing ks stuck s with
  | zero => exact .refl
  | succ n ih =>
    cases ks with
    | nil => exact .refl
    | cons k ks =>
      unfold State.sendWaiting
      exact .ite (ih _ _ _) (((State.sends_modPeer rfl).trans (State.sends_sendFlits p 3 _ _)).trans (ih _ _ _))

theorem State.sends_queueOn (s : State) (p : Nat) (k : Packet) : s.Sends p (s.queueOn p k) :=
  State.Sends.trans (t := s.modPeer p (fun x => { x with waiting := x.waiting ++ [k] })) (State.sends_modPeer rfl) (State.sends_sendWaiting p _ _ _ _)

theorem State.sends_keyxNext (s : State) (p : Nat) : s.Sends p (s.keyxNext p) := by
  have hsign (f : PeerPort → PeerPort) (hf : ∀ x, (f x).service = x.service) : s.Sends p (s.draw.2.modPeer p f) :=
    State.Sends.trans (t := s.draw.2) ⟨rfl, fun _ => id⟩ (State.sends_modPeer (hf _))
  have htag (t : State) (f : PeerPort → PeerPort) (hf : ∀ x, (f x).service = x.service) (h : s.Sends p t) :
      s.Sends p ((t.takeTag.2.modPeer p f).keyxSend p t.takeTag.1) :=
    (h.trans (State.Sends.trans (t := t.takeTag.2) ⟨rfl, fun _ => id⟩ (State.sends_modPeer (hf _)))).trans (State.sends_queueOn _ p _)
  unfold State.keyxNext
  refine .ite .refl (.ite .refl (.ite .refl ?_))
  exact htag _ _ (fun _ => rfl) (.ite (hsign _ fun _ => rfl) .refl)

/-- A port whose key setup begins is in service KEYING, without keys, and has granted its credits. -/
theorem State.keyxBegin_port (s : State) (p : Nat) :
    ((s.keyxBegin p).peer p).service = ((s.peer p).linkUp, true, .keying, none, none, 0) ∧ .peerGrant p peerDepths ∈ (s.keyxBegin p).out := by
  have hkeys (t : State) (f : PeerPort → PeerPort) (hf : ∀ x, (f x).service = x.service) : t.Sends p ((t.draw.2.draw.2.modPeer p f).keyxNext p) :=
    State.Sends.trans (t := t.draw.2.draw.2.modPeer p f)
      (State.Sends.trans (t := t.draw.2.draw.2) ⟨rfl, fun _ => id⟩ (State.sends_modPeer (hf _))) (State.sends_keyxNext _ p)
  have hall : ∃ t : State, (t.peer p).service = ((s.peer p).linkUp, true, .keying, none, none, 0) ∧ .peerGrant p peerDepths ∈ t.out ∧
      t.Sends p (s.keyxBegin p) := by
    unfold State.keyxBegin
    refine ⟨_, ?_, ?_, .ite .refl (hkeys _ _ fun _ => rfl)⟩
    · exact congrArg PeerPort.service ((State.peer_setPeer s p p _).trans (if_pos rfl))
    · exact List.mem_cons_self
  obtain ⟨t, hport, hout, hs⟩ := hall
  exact ⟨hs.port.trans hport, hs.out _ hout⟩

/-! ### The link's level -/

theorem State.peerUp_rises {s : State} {p : Nat} (hl : (s.peer p).linkUp = false) (hopen : s.portsOpen = true) (hr : (s.peer p).readyOut = false)
    (hc : s.charted = true) (he : s.theChart.ports.peerEnable.getLsbD p = true) (hf : s.fenced.peer.getLsbD p = false)
    (hd : (s.clock .sh).dead.getLsbD (2 + p) = false) : s.peerUp p = (s.modPeer p (fun x => { x with linkUp := true })).keyxBegin p := by
  have hpeer : (s.modPeer p (fun x => { x with linkUp := true })).peer p = { s.peer p with linkUp := true } := (s.peer_modPeer p p _).trans (if_pos rfl)
  have hmay : (s.modPeer p (fun x => { x with linkUp := true })).peerMayRise p = true := by
    have hkept : (s.modPeer p (fun x => { x with linkUp := true })).peerMayRise p =
        (((s.modPeer p (fun x => { x with linkUp := true })).peer p).linkUp && !((s.modPeer p (fun x => { x with linkUp := true })).peer p).readyOut &&
          s.charted && s.theChart.ports.peerEnable.getLsbD p && !s.fenced.peer.getLsbD p && !(s.clock .sh).dead.getLsbD (2 + p)) := rfl
    rw [hkept, hpeer, hr, hc, he, hf, hd]
    rfl
  unfold State.peerUp
  rw [if_neg (by rw [hl]; exact Bool.false_ne_true)]
  exact (if_pos hopen).trans (if_pos hmay)

theorem State.peerUp_closed {s : State} {p : Nat} (hl : (s.peer p).linkUp = false) (hopen : s.portsOpen = false) :
    s.peerUp p = s.modPeer p (fun x => { x with linkUp := true }) := by
  have hclosed : (s.modPeer p (fun x => { x with linkUp := true })).portsOpen = false := hopen
  unfold State.peerUp
  rw [if_neg (by rw [hl]; exact Bool.false_ne_true)]
  dsimp only
  rw [hclosed]
  exact if_neg Bool.false_ne_true

/-- A port whose link has fallen; FAILED and CLOCK_LOST stay. -/
def PeerPort.fallen (x : PeerPort) : PeerPort :=
  { x with
    linkUp := false, readyOut := false, txKey := none, rxKey := none, keyx := {}, replayBuf := [], slots := [], owed := none,
    state := if x.state = .failed ∨ x.state = .clockLost then x.state else .down }

theorem State.rerouteWaiting_idle {s : State} {p : Nat} (h : (s.peer p).waiting = []) (j : Nat) :
    (s.rerouteWaiting p).peer j = s.peer j := by
  rw [State.rerouteWaiting_none h, State.peer_modPeer]
  split
  · next hj =>
    rw [hj, ← h]
  · rfl

/-- With nothing waiting the fall writes the port alone, and the event where it was UP. -/
theorem State.peerDown_idle {s : State} {p : Nat} (hl : (s.peer p).linkUp = true) (hw : (s.peer p).waiting = []) :
    s.OnPort p ((s.setPeer p (s.peer p).fallen).rerouteWaiting p) ∧
      (∀ j, ((s.setPeer p (s.peer p).fallen).rerouteWaiting p).peer j = if j = p then (s.peer p).fallen else s.peer j) ∧
      s.peerDown p = if (s.peer p).state = .up then ((s.setPeer p (s.peer p).fallen).rerouteWaiting p).shIrq 6
        else (s.setPeer p (s.peer p).fallen).rerouteWaiting p := by
  have hself : (s.setPeer p (s.peer p).fallen).peer p = (s.peer p).fallen := (s.peer_setPeer p p _).trans (if_pos rfl)
  have hidle : ((s.setPeer p (s.peer p).fallen).peer p).waiting = [] := by rw [hself]; exact hw
  refine ⟨?_, fun j => ?_, ?_⟩
  · rw [State.rerouteWaiting_none hidle]
    exact (s.onPort_setPeer p _).trans (State.onPort_modPeer _ p _)
  · rw [State.rerouteWaiting_idle hidle, State.peer_setPeer]
  · exact if_neg (by rw [hl]; exact Bool.false_ne_true)

theorem PeerPort.fallen_eq (x : PeerPort) : x.fallen = { x with
    linkUp := false, readyOut := false, txKey := none, rxKey := none, keyx := {}, replayBuf := [], slots := [], owed := none,
    state := if x.state = .failed then .failed else if x.state = .clockLost then .clockLost else .down } := by
  unfold PeerPort.fallen
  cases x.state <;> rfl

theorem State.peerDown_port {s : State} {p : Nat} (hl : (s.peer p).linkUp = true) (hw : (s.peer p).waiting = []) :
    (∀ j, (s.peerDown p).peer j = if j = p then (s.peer p).fallen else s.peer j) ∧ (s.peerDown p).tracker = s.tracker ∧
      (s.peerDown p).accesses = s.accesses ∧ (s.peerDown p).conf = s.conf ∧ (s.peerDown p).home.filter = s.home.filter ∧
      ((s.peer p).state = .up → (s.peerDown p).irq.status.getLsbD 6 = true) := by
  obtain ⟨hon, hpeer, he⟩ := State.peerDown_idle hl hw
  generalize (s.setPeer p (s.peer p).fallen).rerouteWaiting p = t at hon hpeer he
  have hkeep {β : Type} (g : State → β) (hirq : g (t.shIrq 6) = g t) : g (s.peerDown p) = g t := by
    rw [he]
    split
    · exact hirq
    · rfl
  refine ⟨fun j => (hkeep (fun x => x.peer j) ?_).trans (hpeer j), (hkeep State.tracker (State.shIrq_tracker _ _)).trans ?_,
    (hkeep State.accesses (State.shIrq_accesses _ _)).trans ?_, (hkeep State.conf (State.shIrq_conf ..)).trans ?_,
    (hkeep (fun x => x.home.filter) (congrArg HomeUnit.filter (State.shIrq_home _ _))).trans ?_, fun hup => ?_⟩
  · rw [State.peer, State.shIrq_peers]
    rfl
  · exact hon.keeps State.tracker fun _ _ _ _ _ => rfl
  · exact hon.keeps State.accesses fun _ _ _ _ _ => rfl
  · exact hon.keeps State.conf fun _ _ _ _ _ => rfl
  · exact hon.keeps (fun x => x.home.filter) fun _ _ _ _ _ => rfl
  · rw [he, if_pos hup]
    exact State.shIrq_bit _ (by decide)

/-! ### Arriving flits -/

/-- A whole request of one slot that passes every check of a port with keys. -/
structure State.Takes (s : State) (p : Nat) (h : Bytes) (k : Packet) : Prop where
  keyed : (s.peer p).rxKey ≠ none
  packet : packetOf [h] = k
  crc : crc32c (h.take 28) = fld h 28 4
  head : headOk h k = true
  here : k.dst.toNat = s.ownId
  seeded : s.inSeed = false
  start : s.warmStart = false
  reset : s.warmReset = false
  room : 1 ≤ (s.peer p).room.getD 0 0
  req : k.cls = .req
  mgmt : k.opcode ≠ 0x08
  keyx : k.opcode ≠ 0x09

/-- The receive buffer takes a packet of one slot. -/
def PeerPort.taken (x : PeerPort) (k : Packet) : PeerPort := { x.fill .req 1 with inbox := x.inbox ++ [k] }

theorem State.packetIn_taken {s : State} {p : Nat} {h : Bytes} {k : Packet} (ht : s.Takes p h k) :
    s.packetIn p [h] = s.modPeer p (fun x => x.taken k) := by
  have hop (n : Nat) (hn : n < 64) (hne : k.opcode ≠ BitVec.ofNat 6 n) : (k.opcode.toNat == n) = false :=
    beq_eq_false_iff_ne.mpr fun hc => hne (BitVec.eq_of_toNat_eq (by rw [hc, BitVec.toNat_ofNat, Nat.mod_eq_of_lt (by simpa using hn)]))
  have hkeyed : (s.peer p).rxKey.isNone = false := Option.isNone_eq_false_iff.mpr (Option.isSome_iff_ne_none.mpr ht.keyed)
  unfold State.packetIn
  simp only [ht.packet, List.headD_cons, hkeyed, Bool.false_and, Bool.false_eq_true, if_false, ht.crc, ne_eq, not_true_eq_false, ht.head, Bool.not_true,
    ht.here, ht.seeded, hop 0x08 (by decide) ht.mgmt, hop 0x09 (by decide) ht.keyx, Bool.or_self, ht.req, List.length_singleton]
  rfl

theorem State.packetCome_taken {s : State} {p : Nat} {h : Bytes} {k : Packet} (ht : s.Takes p h k) :
    s.packetCome p [h] = s.modPeer p (fun x => x.taken k) := by
  have hcls : (headOf h).cls = .req := by
    rw [← ht.req, ← ht.packet]
    rfl
  have hroom : ¬ (s.peer p).room.getD (clsCode .req) 0 < 1 := Nat.not_lt.mpr ht.room
  unfold State.packetCome State.holdsPackets
  simp only [List.headD_cons, hcls, List.length_singleton, if_neg hroom, ht.start, ht.reset, Bool.or_self, Bool.false_and, Bool.false_eq_true, if_false]
  exact State.packetIn_taken ht

theorem State.slotsIn_pad {s : State} {p : Nat} {b : Bytes} (rest : List Bytes) (hs : (s.peer p).slots = []) (hb : allZero b = true) :
    State.slotsIn p (b :: rest) s = s := by
  unfold State.slotsIn
  rw [hs]
  exact if_pos hb

/-- What a port takes depends on its receive key and room only. -/
theorem State.Takes.modPeer {s : State} {p : Nat} {h : Bytes} {k : Packet} (ht : s.Takes p h k) {f : PeerPort → PeerPort}
    (hkey : (f (s.peer p)).rxKey = (s.peer p).rxKey) (hroom : (f (s.peer p)).room = (s.peer p).room) : (s.modPeer p f).Takes p h k := by
  have hself : (s.modPeer p f).peer p = f (s.peer p) := (s.peer_modPeer p p f).trans (if_pos rfl)
  exact ⟨by rw [hself, hkey]; exact ht.keyed, ht.packet, ht.crc, ht.head, ht.here, ht.seeded, ht.start, ht.reset,
    by rw [hself, hroom]; exact ht.room, ht.req, ht.mgmt, ht.keyx⟩

/-- The port after the one packet of a flit. -/
def State.tookOne (s : State) (p : Nat) (k : Packet) : State :=
  (s.modPeer p (fun x => { x with slots := [] })).modPeer p (fun x => x.taken k)

theorem State.peer_tookOne (s : State) (p : Nat) (k : Packet) : (s.tookOne p k).peer p = { (s.peer p).taken k with slots := [] } := by
  rw [State.tookOne, State.peer_modPeer, if_pos rfl, State.peer_modPeer, if_pos rfl]
  rfl

theorem State.slotsIn_single {s : State} {p : Nat} {h : Bytes} {k : Packet} (hs : (s.peer p).slots = []) (hh : allZero h = false)
    (hn : slotCount (headOf h) = 1) (ht : s.Takes p h k) : State.slotsIn p (h :: List.replicate 6 (zeros 32)) s = s.tookOne p k := by
  have hzero : allZero (zeros 32) = true := rfl
  have hnone : ¬ (([] : List Bytes).isEmpty && allZero h) = true := by rw [hh]; exact Bool.false_ne_true
  have hwhole : slotCount (headOf (([] ++ [h] : List Bytes).headD [])) ≤ ([] ++ [h] : List Bytes).length := le_of_eq hn
  unfold State.slotsIn
  rw [hs]
  refine (if_neg hnone).trans ((if_pos hwhole).trans ?_)
  refine (congrArg _ (State.packetCome_taken (ht.modPeer (f := fun x => { x with slots := [] }) rfl rfl))).trans ?_
  exact State.slotsIn_pad _ (congrArg PeerPort.slots (s.peer_tookOne p k)) hzero

/-- An ack of none of the flits outstanding takes none. -/
theorem State.peerAck_none {s : State} {p last : Nat} (h : ∀ e ∈ (s.peer p).replayBuf, 2 ^ 62 ≤ (last + 2 ^ 63 - e.1) % 2 ^ 63) :
    s.peerAck p last = s :=
  if_pos (congrArg List.length (List.filter_eq_self.mpr fun e he => decide_eq_true (h e he)))

/-- A flit in sequence that opens with one whole request and pads: the request is taken. -/
theorem State.flitIn_taken {s : State} {p : Nat} {f body h : Bytes} {k : Packet} (hl : (s.peer p).linkUp = true) (hr : (s.peer p).readyOut = true)
    (hf : f.length = 256) (hseq : fld f 224 8 = (s.peer p).rxNext) (hopen : openFlit (s.peer p) f = some body) (hbuf : (s.peer p).replayBuf = [])
    (hack : bit (fld f 232 8) 63 = false) (hs : (s.peer p).slots = []) (hslots : slotsOf 7 body = h :: List.replicate 6 (zeros 32))
    (hh : allZero h = false) (hn : slotCount (headOf h) = 1) (ht : s.Takes p h k) :
    s.flitIn p f = (s.modPeer p (fun x => { x with rxNext := x.rxNext + 1, rxDiscard := false })).tookOne p k := by
  have hself : (s.modPeer p (fun x => { x with rxNext := x.rxNext + 1, rxDiscard := false })).peer p =
      { s.peer p with rxNext := (s.peer p).rxNext + 1, rxDiscard := false } := (s.peer_modPeer p p _).trans (if_pos rfl)
  have hsl : State.slotsIn p (slotsOf 7 body) (s.modPeer p (fun x => { x with rxNext := x.rxNext + 1, rxDiscard := false })) =
      (s.modPeer p (fun x => { x with rxNext := x.rxNext + 1, rxDiscard := false })).tookOne p k := by
    rw [hslots]
    exact State.slotsIn_single (by rw [hself]; exact hs) hh hn (ht.modPeer rfl rfl)
  unfold State.flitIn
  simp only [hl, hr, hf, hseq, hopen, hack, hsl, Bool.not_true, bne_self_eq_false, Bool.or_self, Bool.false_eq_true, if_false, ne_eq, not_true_eq_false]
  have hempty : ((State.tookOne (s.modPeer p (fun x => { x with rxNext := x.rxNext + 1, rxDiscard := false })) p k).peer p).replayBuf = [] := by
    rw [State.peer_tookOne, hself]
    exact hbuf
  exact State.peerAck_none fun e he => by rw [hempty] at he; exact absurd he List.not_mem_nil

/-- A flit out of sequence is not accepted. -/
theorem State.flitIn_bad {s : State} {p : Nat} {f : Bytes} (hl : (s.peer p).linkUp = true) (hr : (s.peer p).readyOut = true)
    (hf : f.length = 256) (hseq : fld f 224 8 ≠ (s.peer p).rxNext) : s.flitIn p f = s.flitBad p false := by
  unfold State.flitIn
  simp only [hl, hr, hf, Bool.not_true, bne_self_eq_false, Bool.or_self, Bool.false_eq_true, if_false, ne_eq, hseq, not_false_eq_true, if_true]

/-! ### Flits without slots -/

theorem State.sendFlit_idle {s : State} {p : Nat} (h : (s.peer p).readyOut = false) (sl : List Bytes) (nak : Bool) : s.sendFlit p sl nak = s := by
  unfold State.sendFlit
  exact if_pos (by rw [h]; rfl)

theorem State.sendFlit_owed {s : State} {p : Nat} (h : (s.peer p).readyOut = true) (hb : 512 ≤ (s.peer p).replayBuf.length) (nak : Bool) :
    s.sendFlit p [] nak = s.setPeer p { s.peer p with owed := some (nak || (s.peer p).owed == some true) } := by
  unfold State.sendFlit
  exact (if_neg (by rw [h]; exact Bool.false_ne_true)).trans ((if_pos hb).trans (if_pos rfl))

theorem State.sendFlit_room {s : State} {p : Nat} (h : (s.peer p).readyOut = true) (hb : (s.peer p).replayBuf.length < 512) (sl : List Bytes)
    (nak : Bool) : s.sendFlit p sl nak = (s.setPeer p { s.peer p with
      txSeq := (s.peer p).txSeq + 1,
      replayBuf := (s.peer p).replayBuf ++ [((s.peer p).txSeq, sealFlit (s.peer p) sl nak)] }).drive (.peerFlit p (sealFlit (s.peer p) sl nak)) := by
  unfold State.sendFlit
  exact (if_neg (by rw [h]; exact Bool.false_ne_true)).trans (if_neg (Nat.not_le.mpr hb))

theorem State.peer_sendFlit_room {s : State} {p : Nat} (h : (s.peer p).readyOut = true) (hb : (s.peer p).replayBuf.length < 512)
    (sl : List Bytes) (nak : Bool) : (s.sendFlit p sl nak).peer p = { s.peer p with
      txSeq := (s.peer p).txSeq + 1, replayBuf := (s.peer p).replayBuf ++ [((s.peer p).txSeq, sealFlit (s.peer p) sl nak)] } := by
  rw [State.sendFlit_room h hb]
  exact (State.peer_setPeer ..).trans (if_pos rfl)

theorem padTo_nil (n : Nat) : padTo [] n = zeros n := by rw [padTo, List.take_nil, List.nil_append, List.length_nil, Nat.sub_zero]

/-- A flit without slots and keys holds its sequence and ack alone. -/
theorem sealFlit_clear {x : PeerPort} (h : x.txKey = none) :
    sealFlit x [] false = zeros 224 ++ leBytes 8 x.txSeq ++ leBytes 8 x.ackNow ++ zeros 16 := by
  have hseal : sealFlit x [] false = padTo ([] : List Bytes).flatten 224 ++ (leBytes 8 x.txSeq ++ leBytes 8 (x.ackNow + 2 ^ 63 * b2n false)) ++ zeros 16 := by
    unfold sealFlit
    rw [h]
  have hack : x.ackNow + 2 ^ 63 * b2n false = x.ackNow := by rw [show b2n false = 0 from rfl, Nat.mul_zero, Nat.add_zero]
  rw [hseal, hack, List.flatten_nil, padTo_nil, ← List.append_assoc (zeros 224)]

/-! ### Replays -/

/-- The flits of the replay buffer go out again. -/
theorem State.eachOf_flits (p : Nat) (l : List (Nat × Bytes)) (s : State) :
    eachOf (fun e t => State.drive t (.peerFlit p e.2)) l s = { s with out := (l.map (fun e => Out.peerFlit p e.2)).reverse ++ s.out } := by
  induction l generalizing s with
  | nil => rfl
  | cons e l ih => rw [eachOf, ih, List.map_cons, List.reverse_cons, List.append_assoc]; rfl

/-- The next attempt of a port's replay. -/
def PeerPort.replayed (x : PeerPort) (q : Nat) : PeerPort :=
  { x with badReplay := if x.badReplay ≠ 0 ∧ x.lastReplayAck = q then x.badReplay + 1 else 1, lastReplayAck := q }

theorem State.replay_again {s : State} {p q : Nat} {b : Bytes} {rest : List (Nat × Bytes)} (h : (s.peer p).readyOut = true)
    (hb : (s.peer p).replayBuf = (q, b) :: rest) (hless : (s.peer p).badReplay = 0 ∨ (s.peer p).lastReplayAck ≠ q ∨ (s.peer p).badReplay < 8) :
    s.replay p = { s.setPeer p ((s.peer p).replayed q) with out := (((q, b) :: rest).map (fun e => Out.peerFlit p e.2)).reverse ++ s.out } := by
  have hagain : ((s.peer p).badReplay != 0 && (s.peer p).lastReplayAck == q) = decide ((s.peer p).badReplay ≠ 0 ∧ (s.peer p).lastReplayAck = q) := by
    simp [bne, Bool.beq_eq_decide_eq]
  have hfew : ((s.peer p).badReplay != 0 && (s.peer p).lastReplayAck == q && decide (8 ≤ (s.peer p).badReplay)) = false := by
    rcases hless with h0 | hne | hlt
    · simp [h0]
    · simp [hne]
    · simp [Nat.not_le.mpr hlt]
  have hready : (!(s.peer p).readyOut) = false := by rw [h]; rfl
  unfold State.replay
  simp only [hb, hready, hfew, Bool.false_eq_true, if_false]
  rw [State.eachOf_flits, hagain]
  simp only [PeerPort.replayed, hb, decide_eq_true_eq]
  rfl

theorem State.replay_fails {s : State} {p q : Nat} {b : Bytes} {rest : List (Nat × Bytes)} (h : (s.peer p).readyOut = true)
    (hb : (s.peer p).replayBuf = (q, b) :: rest) (hq : (s.peer p).lastReplayAck = q) (hbad : 8 ≤ (s.peer p).badReplay) :
    s.replay p = s.peerFail p .timeout := by
  have hready : (!(s.peer p).readyOut) = false := by rw [h]; rfl
  have hagain : ((s.peer p).badReplay != 0 && (s.peer p).lastReplayAck == q && decide (8 ≤ (s.peer p).badReplay)) = true := by
    have hne : (s.peer p).badReplay ≠ 0 := by omega
    simp [hq, hbad, hne]
  unfold State.replay
  simp only [hb, hready, hagain, Bool.false_eq_true, if_false, if_true]

theorem State.replay_idle {s : State} {p : Nat} (h : (s.peer p).readyOut = false) : s.replay p = s := by
  unfold State.replay
  dsimp only
  split
  · rfl
  · exact if_pos (by rw [h]; rfl)

/-- What a port's failure leaves where nothing waits on it. -/
theorem State.peerFail_idle {s : State} {p : Nat} (hw : (s.peer p).waiting = []) (st : Status) :
    ((s.peerFail p st).peer p).state = .failed ∧ ((s.peerFail p st).peer p).readyOut = false ∧ (s.peerFail p st).irq.status.getLsbD 6 = true ∧
      (s.ctrlLost .sh = false → (s.peerFail p st).ras.nextSeq = s.ras.nextSeq + 1) ∧ (∀ j, j ≠ p → (s.peerFail p st).peer j = s.peer j) ∧
      (s.peerFail p st).conf = s.conf ∧ (s.home.filter = [] → (s.peerFail p st).home.filter = []) := by
  obtain ⟨r, hr, he⟩ : ∃ r : ErrRec, r.slice = .sh ∧ s.peerFail p st =
      ((State.record (s.modPeer p (fun x => { x with state := .failed, readyOut := false, keyx := {} })) r).rerouteWaiting p).shIrq 6 :=
    ⟨_, rfl, rfl⟩
  have hmod (j : Nat) := s.peer_modPeer p j (fun x => { x with state := .failed, readyOut := false, keyx := {} })
  have hrec (j : Nat) : (State.record (s.modPeer p (fun x => { x with state := .failed, readyOut := false, keyx := {} })) r).peer j =
      if j = p then { s.peer p with state := .failed, readyOut := false, keyx := {} } else s.peer j := by
    rw [← hmod j, State.peer, State.record_peers]
    rfl
  have hpeer (j : Nat) : (s.peerFail p st).peer j = if j = p then { s.peer p with state := .failed, readyOut := false, keyx := {} } else s.peer j := by
    have hidle := State.rerouteWaiting_idle (s := State.record (s.modPeer p (fun x => { x with state := .failed, readyOut := false, keyx := {} })) r)
      (p := p) (by rw [hrec, if_pos rfl]; exact hw) j
    rw [he, State.peer, State.shIrq_peers, ← hrec j, ← hidle]
    rfl
  have hb := State.beside_rerouteWaiting (State.record (s.modPeer p (fun x => { x with state := .failed, readyOut := false, keyx := {} })) r) p
  have hself := (hpeer p).trans (if_pos rfl)
  refine ⟨by rw [hself], by rw [hself], by rw [he]; exact State.shIrq_bit _ (by decide), fun hc => ?_, fun j hj => (hpeer j).trans (if_neg hj), ?_, fun hf => ?_⟩
  · rw [he, State.shIrq_ras, hb.ras]
    exact State.record_nextSeq (by rw [hr]; exact hc)
  · rw [he, State.shIrq_conf, hb.conf]
    exact State.record_conf _ _
  · rw [he, State.shIrq_home]
    exact hb.filter ((congrArg HomeUnit.filter (State.record_home _ _)).trans hf)

/-! ### The events -/

/-- The credits that come with a flit. -/
def PeerPort.credited (x : PeerPort) (w : BitVec 16) : PeerPort :=
  { x with
    credits := List.zipWith (· + ·) x.credits (creditCounts w)
    creditErr := if creditExcess w = 0 then x.creditErr else sat32 x.creditErr (creditExcess w) }

/-- They write the port alone where nothing waits for them. -/
theorem State.creditReturn_idle {s : State} {p : Fin 4} (hw : (s.peer p).waiting = []) (w : BitVec 16) :
    s.creditReturn (.peer p w) = s.modPeer p (fun x => x.credited w) := by
  refine State.flushPort_of_idle ?_
  rw [State.takeCredits, State.peer_modPeer, if_pos rfl]
  exact hw

/-- A flit that is not accepted is answered with one NAK, at once or once there is room. -/
theorem State.flitBad_port {s : State} {p : Nat} (hr : (s.peer p).readyOut = true) :
    s.OnPort p (s.flitBad p false) ∧ ((s.flitBad p false).peer p).rxNext = (s.peer p).rxNext ∧
      ((s.flitBad p false).peer p).inbox = (s.peer p).inbox ∧ ((s.flitBad p false).peer p).rxDiscard = true ∧
      ((s.peer p).rxDiscard = false → 512 ≤ (s.peer p).replayBuf.length → ((s.flitBad p false).peer p).owed = some true) ∧
      ((s.flitBad p false).peer p).txSeq =
        (if (s.peer p).rxDiscard = true ∨ 512 ≤ (s.peer p).replayBuf.length then (s.peer p).txSeq else (s.peer p).txSeq + 1) := by
  by_cases hd : (s.peer p).rxDiscard = true
  · have hsame : s.flitBad p false = s := if_pos (by rw [hd]; rfl)
    rw [hsame]
    exact ⟨.refl, rfl, rfl, hd, fun hc => absurd (hd.symm.trans hc) (by decide), (if_pos (.inl hd)).symm⟩
  · have hself := (s.peer_modPeer p p (fun x => { x with rxDiscard := true })).trans (if_pos rfl)
    have hbad : s.flitBad p false = (s.modPeer p (fun x => { x with rxDiscard := true })).sendFlit p [] true :=
      if_neg (by simpa using hd)
    have hport : s.OnPort p (s.flitBad p false) := by
      rw [hbad]
      exact (s.onPort_modPeer p _).trans (State.onPort_sendFlit _ p _ _)
    by_cases hb : 512 ≤ (s.peer p).replayBuf.length
    · have hpeer : (s.flitBad p false).peer p = { s.peer p with rxDiscard := true, owed := some true } := by
        rw [hbad, State.sendFlit_owed (by rw [hself]; exact hr) (by rw [hself]; exact hb), State.peer_setPeer, if_pos rfl, hself]
        rfl
      refine ⟨hport, ?_⟩
      rw [hpeer]
      exact ⟨rfl, rfl, rfl, fun _ _ => rfl, (if_pos (.inr hb)).symm⟩
    · have hpeer : ∃ f, (s.flitBad p false).peer p = { s.peer p with
          rxDiscard := true, txSeq := (s.peer p).txSeq + 1, replayBuf := (s.peer p).replayBuf ++ [((s.peer p).txSeq, f)] } := by
        rw [hbad, State.peer_sendFlit_room (by rw [hself]; exact hr) (by rw [hself]; exact Nat.not_le.mp hb), hself]
        exact ⟨_, rfl⟩
      obtain ⟨f, hpeer⟩ := hpeer
      refine ⟨hport, ?_⟩
      rw [hpeer]
      exact ⟨rfl, rfl, rfl, fun _ hc => absurd hc hb, (if_neg (not_or.mpr ⟨hd, hb⟩)).symm⟩

theorem State.modPeer_out (s : State) (p : Nat) (f : PeerPort → PeerPort) : (s.modPeer p f).out = s.out := rfl

/-- A port after a flit with one request, and the credits that came with it. -/
def PeerPort.tookFlit (x : PeerPort) (w : BitVec 16) (k : Packet) : PeerPort :=
  { x with
    credits := List.zipWith (· + ·) x.credits (creditCounts w)
    creditErr := if creditExcess w = 0 then x.creditErr else sat32 x.creditErr (creditExcess w)
    rxNext := x.rxNext + 1
    rxDiscard := false
    slots := []
    room := x.room.set (clsCode .req) (x.room.getD (clsCode .req) 0 - 1)
    inbox := x.inbox ++ [k] }

theorem State.flitReceive_taken {s : State} {p : Fin 4} {f body h : Bytes} {k : Packet} (w : BitVec 16) (hw : (s.peer p).waiting = [])
    (hl : (s.peer p).linkUp = true) (hr : (s.peer p).readyOut = true) (hf : f.length = 256) (hseq : fld f 224 8 = (s.peer p).rxNext)
    (hopen : openFlit (s.peer p) f = some body) (hbuf : (s.peer p).replayBuf = []) (hack : bit (fld f 232 8) 63 = false)
    (hs : (s.peer p).slots = []) (hslots : slotsOf 7 body = h :: List.replicate 6 (zeros 32)) (hh : allZero h = false)
    (hn : slotCount (headOf h) = 1) (ht : s.Takes p h k) :
    s.OnPort p ((s.creditReturn (.peer p w)).flitIn p f) ∧
      ((s.creditReturn (.peer p w)).flitIn p f).peer p = (s.peer p).tookFlit w k ∧ ((s.creditReturn (.peer p w)).flitIn p f).out = s.out := by
  have hcred : (s.modPeer p (fun x => x.credited w)).peer p = (s.peer p).credited w := (s.peer_modPeer p p _).trans (if_pos rfl)
  have hin := State.flitIn_taken (s := s.modPeer p (fun x => x.credited w)) (p := p) (by rw [hcred]; exact hl) (by rw [hcred]; exact hr) hf
    (by rw [hcred]; exact hseq) (by rw [hcred]; exact hopen) (by rw [hcred]; exact hbuf) hack (by rw [hcred]; exact hs) hslots hh hn
    (ht.modPeer rfl rfl)
  rw [State.creditReturn_idle hw, hin]
  refine ⟨(((s.onPort_modPeer p _).trans (State.onPort_modPeer _ p _)).trans (State.onPort_modPeer _ p _)).trans (State.onPort_modPeer _ p _), ?_, ?_⟩
  · rw [State.peer_tookOne, State.peer_modPeer, if_pos rfl, hcred]
    rfl
  · rw [State.tookOne, State.modPeer_out, State.modPeer_out, State.modPeer_out, State.modPeer_out]

/-- Settles O27: each event by its lemma above; a snoop filter without lines has no paths to lose. -/
theorem peerLinkEventsAndReplay : Obligations.PeerLinkEventsAndReplay := by
  unfold Obligations.PeerLinkEventsAndReplay
  intro s p
  have hmod (f : PeerPort → PeerPort) : (s.modPeer p f).peer p = f (s.peer p) := (s.peer_modPeer p p f).trans (if_pos rfl)
  have hother (f : PeerPort → PeerPort) (j : Nat) (hj : j ≠ p.val) : (s.modPeer p f).peer j = s.peer j := (s.peer_modPeer p j f).trans (if_neg hj)
  have hconf (t : State) (h : s.OnPort p t) : t.conf = s.conf := h.keeps State.conf fun _ _ _ _ _ => rfl
  have hfil (t : State) (h : s.OnPort p t) : t.home.filter = s.home.filter := h.keeps (fun x => x.home.filter) fun _ _ _ _ _ => rfl
  refine ⟨fun hl hopen hr hc he hf hd => ?_, fun hl hopen => ?_, fun hf hw => ⟨fun hl => ?_, ?_, ?_, fun hr => ?_, ?_, ?_, ?_⟩, fun hr => ?_,
    fun hr hb => ?_, fun hr hb => ?_⟩
  · have hon := (s.onPort_modPeer p (fun x => { x with linkUp := true })).trans (State.onPort_keyxBegin _ p)
    obtain ⟨hport, hout⟩ := State.keyxBegin_port (s.modPeer p (fun x => { x with linkUp := true })) p
    rw [hmod] at hport
    simp only [PeerPort.service, Prod.mk.injEq] at hport
    obtain ⟨hup, hready, hstate, htx, hrx, hnext⟩ := hport
    refine ⟨s.peerUp p, rfl, ?_⟩
    rw [State.peerUp_rises hl hopen hr hc he hf hd]
    exact ⟨hup, hready, hstate, htx, hrx, hnext, hout, hon.other, hconf _ hon⟩
  · exact ⟨s.peerUp p, rfl, by rw [State.peerUp_closed hl hopen, hmod], fun j hj => by rw [State.peerUp_closed hl hopen, hother _ j hj],
      by rw [State.peerUp_closed hl hopen]; rfl⟩
  · obtain ⟨hpeer, htracker, haccesses, hcf, hfilter, hbit⟩ := State.peerDown_port hl hw
    refine ⟨s.peerDown p, next_settle_congr (State.losePaths_none (hfilter.trans hf)), ?_, fun j hj => (hpeer j).trans (if_neg hj), hbit,
      htracker, haccesses, hcf⟩
    rw [hpeer, if_pos rfl, PeerPort.fallen_eq]
  · intro f body h k hl hr hlen hseq hopen hbuf hack hs hkey hslots hh hn hk hcrc hhead hdst hseed hstart hreset hroom hreq hm hx
    obtain ⟨hon, hport, hout⟩ := State.flitReceive_taken (s := s) (p := p) 0 hw hl hr hlen hseq hopen hbuf hack hs hslots hh hn
      ⟨hkey, hk, hcrc, hhead, hdst, hseed, hstart, hreset, hroom, hreq, hm, hx⟩
    refine ⟨(s.creditReturn (.peer p 0)).flitIn p f, next_settle_congr (State.losePaths_none ((hfil _ hon).trans hf)), ?_, ?_, ?_, hon.other, hout,
      hconf _ hon⟩
    all_goals rw [hport, PeerPort.tookFlit]
  · intro f hl hr hlen hseq
    have hcred := hmod (fun x => x.credited 0)
    obtain ⟨hon, hnext, hinbox, hdisc, howed, htx⟩ := State.flitBad_port (s := s.modPeer p (fun x => x.credited 0)) (p := p) (by rw [hcred]; exact hr)
    have hin : (s.creditReturn (.peer p 0)).flitIn p f = (s.modPeer p (fun x => x.credited 0)).flitBad p false := by
      rw [State.creditReturn_idle hw]
      exact State.flitIn_bad (by rw [hcred]; exact hl) (by rw [hcred]; exact hr) hlen (by rw [hcred]; exact hseq)
    rw [← hin] at hon hnext hinbox hdisc howed htx
    rw [hcred] at hnext hinbox howed htx
    have hall := (s.onPort_modPeer p _).trans hon
    exact ⟨_, next_settle_congr (State.losePaths_none ((hfil _ hall).trans hf)), hnext, hinbox, hdisc, howed, htx, hall.other,
      hall.keeps State.accesses fun _ _ _ _ _ => rfl, hconf _ hall⟩
  · exact next_settle_congr ((congrArg State.losePaths (State.replay_idle hr)).trans (State.losePaths_none hf))
  · intro hr q b rest hbuf hless
    have hself : (s.setPeer p ((s.peer p).replayed q)).peer p = (s.peer p).replayed q := (s.peer_setPeer p p _).trans (if_pos rfl)
    refine ⟨s.replay p, next_settle_congr (State.losePaths_none ?_), ?_, ?_, ?_, fun j hj => ?_, ?_⟩
    all_goals rw [State.replay_again hr hbuf hless]
    · exact hf
    · exact (congrArg PeerPort.replayBuf hself).trans rfl
    · exact (congrArg PeerPort.badReplay hself).trans rfl
    · exact (s.peer_setPeer p j _).trans (if_neg hj)
    · rfl
  · intro hr last q b rest hbuf hnone hless
    have hself : (s.setPeer p ((s.peer p).replayed q)).peer p = (s.peer p).replayed q := (s.peer_setPeer p p _).trans (if_pos rfl)
    have hnak : s.peerNakIn p last.toNat = s.replay p := congrArg (State.replay · p) (State.peerAck_none hnone)
    refine ⟨s.peerNakIn p last.toNat, next_settle_congr (State.losePaths_none ?_), ?_, ?_, fun j hj => ?_, ?_⟩
    all_goals rw [hnak, State.replay_again hr hbuf hless]
    · exact hf
    · exact (congrArg PeerPort.replayBuf hself).trans rfl
    · exact (s.peer_setPeer p j _).trans (if_neg hj)
    · rfl
  · intro hr q b rest hbuf hq hbad
    obtain ⟨hstate, hready, hbit, hseq, hothers, hcf, hfilter⟩ := State.peerFail_idle hw .timeout
    refine ⟨s.peerFail p .timeout, next_settle_congr ?_, hstate, hready, hbit, hseq, hothers, hcf⟩
    rw [State.replay_fails hr hbuf hq hbad, State.losePaths_none (hfilter hf)]
  · exact next_congr (State.sendFlit_idle hr [] false)
  · refine ⟨s.sendFlit p [] false, rfl, ?_⟩
    rw [State.sendFlit_owed hr hb]
    exact ⟨(s.peer_setPeer p p _).trans (if_pos rfl), fun j hj => (s.peer_setPeer p j _).trans (if_neg hj), rfl⟩
  · refine ⟨s.sendFlit p [] false, sealFlit (s.peer p) [] false, rfl, ?_, State.peer_sendFlit_room hr hb _ _, sealFlit_clear,
      (s.onPort_sendFlit p _ _).other, ?_⟩
    all_goals
      rw [State.sendFlit_room hr hb]
      rfl

end Sys2Proof.Machine

/-! SETTLED: O25, requests of peers at their destination (11 R281, R282; 14 R341, R351, R352). -/

namespace Sys2Proof.Machine

/-! ### A packet leaves the receive buffer -/

/-- Credits go back a word at a time. -/
theorem State.eachOf_credits (p : Nat) (f : Nat → BitVec 16) (l : List Nat) (s : State) :
    eachOf (fun i (t : State) => t.drive (.peerCredit p (f i))) l s = { s with out := (l.map (fun i => Out.peerCredit p (f i))).reverse ++ s.out } := by
  induction l generalizing s with
  | nil => rfl
  | cons i l ih => rw [eachOf, ih, List.map_cons, List.reverse_cons, List.append_assoc]; rfl

section
variable (s : State) (p : Nat) (k : Packet)

/-- The port without a packet in its receive buffer. -/
def PeerPort.unboxed (x : PeerPort) (k : Packet) : PeerPort := { x.empty k.cls (packetSlots k).length with inbox := x.inbox.erase k }

/-- A packet's freed slots, as the credit words that go back for them. -/
def creditWords (p : Nat) (k : Packet) : List Out :=
  ((List.range (((packetSlots k).length + 7) / 8)).map (fun i => Out.peerCredit p
    (BitVec.ofNat 16 (min 8 ((packetSlots k).length - 8 * i) * 2 ^ (4 * clsCode k.cls))))).reverse

theorem State.unbox_eq : s.unbox p k =
    { s.modPeer p (fun x => x.unboxed k) with out := (if (s.peer p).readyOut then creditWords p k else []) ++ s.out } := by
  have hready : ((s.modPeer p (fun x => x.unboxed k)).peer p).readyOut = (s.peer p).readyOut := by
    rw [State.peer_modPeer, if_pos rfl]
    rfl
  have hgive : s.unbox p k = (s.modPeer p (fun x => x.unboxed k)).giveCredits p k.cls (packetSlots k).length := rfl
  rw [hgive, State.giveCredits, hready]
  split
  · exact State.eachOf_credits p _ _ _
  · rfl

theorem State.onPort_unbox : s.OnPort p (s.unbox p k) := by
  rw [State.unbox_eq]
  exact ⟨rfl, fun j hj => (s.peer_modPeer p j (fun x => x.unboxed k)).trans (if_neg hj)⟩

theorem State.peer_unbox : (s.unbox p k).peer p = (s.peer p).unboxed k := by
  rw [State.unbox_eq]
  exact (s.peer_modPeer p p (fun x => x.unboxed k)).trans (if_pos rfl)

end

/-! ### Serving -/

section
variable {s : State} {p : Nat} {k : Packet} {f : Packet → Bool} {go : Packet → State → State}

theorem State.OnPort.linkFault {t : State} (h : s.OnPort p t) (l : Link) : t.linkFault l = s.linkFault l :=
  (State.Beside.ofOnPort h).linkFault l

/-- The oldest request of its kind that need not wait is taken. -/
theorem State.serve_takes (hw : s.warmStart = false) (hr : s.warmReset = false) (hfull : s.homeFull k = false)
    (hk : (s.peer p).inbox.find? f = some k) : s.serve p f go = (match s.linkFault .slA with
      | none => go k (s.unbox p k)
      | some st => if k.cls = .req then (s.unbox p k).refusePacket k st else s.unbox p k) := by
  have hfind : (s.peer p).inbox.find? (fun x => f x && !s.homeFull x) = some k := by
    obtain ⟨hfk, as, bs, hsplit, hbefore⟩ := List.find?_eq_some_iff_append.mp hk
    refine List.find?_eq_some_iff_append.mpr ⟨by rw [hfk, hfull]; rfl, as, bs, hsplit, fun a ha => ?_⟩
    have := hbefore a ha
    simp_all
  have hserving : s.serving = true := by rw [State.serving, hw, hr]; rfl
  have hholds : s.holdsPackets p = false := by rw [State.holdsPackets, hw, hr]; rfl
  unfold State.serve State.takePacket
  rw [hserving, hholds, hfind, ← (s.onPort_unbox p k).linkFault .slA]
  rfl

/-- While every request of its kind waits for a transaction none is taken. -/
theorem State.serve_waits (hw : s.warmStart = false) (hr : s.warmReset = false)
    (h : ∀ x ∈ (s.peer p).inbox, f x = true → s.homeFull x = true) : s.serve p f go = s := by
  have hfind : (s.peer p).inbox.find? (fun x => f x && !s.homeFull x) = none := by
    refine List.find?_eq_none.mpr fun x hx hc => ?_
    obtain ⟨hfx, hfull⟩ := Bool.and_eq_true_iff.mp hc
    rw [h x hx hfx] at hfull
    exact Bool.noConfusion hfull
  have hserving : s.serving = true := by rw [State.serving, hw, hr]; rfl
  have hholds : s.holdsPackets p = false := by rw [State.holdsPackets, hw, hr]; rfl
  unfold State.serve State.takePacket
  rw [hserving, hholds, hfind]
  rfl

theorem State.serve_open (hw : s.warmStart = false) (hr : s.warmReset = false) (hl : s.linkFault .slA = none) (hfull : s.homeFull k = false)
    (hk : (s.peer p).inbox.find? f = some k) : s.serve p f go = go k (s.unbox p k) := by
  rw [State.serve_takes hw hr hfull hk, hl]

theorem State.serve_cut {st : Status} (hw : s.warmStart = false) (hr : s.warmReset = false) (hl : s.linkFault .slA = some st)
    (hfull : s.homeFull k = false) (hk : (s.peer p).inbox.find? f = some k) :
    s.serve p f go = if k.cls = .req then (s.unbox p k).refusePacket k st else s.unbox p k := by
  rw [State.serve_takes hw hr hfull hk, hl]

end

/-! ### What each request starts -/

theorem BitVec.toNat_beq_ofNat {w n : Nat} (x : BitVec w) (h : n < 2 ^ w) : (x.toNat == n) = (x == BitVec.ofNat w n) := by
  rw [Bool.eq_iff_iff, beq_iff_eq, beq_iff_eq, ← BitVec.toNat_inj, BitVec.toNat_ofNat, Nat.mod_eq_of_lt h]

section
variable {s t : State} {p : Nat}

/-- An answer names its sender alone of the state. -/
theorem State.OnPort.answer (h : s.OnPort p t) (cls : PktClass) (op : Nat) (dst : BitVec 12) (tag : BitVec 16) (st : Status) (sub : Nat)
    (b : Bytes) (poison : Nat) : t.answer cls op dst tag st sub b poison = s.answer cls op dst tag st sub b poison :=
  h.keeps (fun x => x.answer cls op dst tag st sub b poison) fun _ _ _ _ _ => rfl

theorem State.OnPort.localPa (h : s.OnPort p t) (a : Nat) : t.localPa a = s.localPa a := h.keeps (fun x => x.localPa a) fun _ _ _ _ _ => rfl

/-- An answer that is sent writes one port. -/
theorem State.sendPacket_onPort (s : State) (k : Packet) : ∃ q, s.OnPort q (s.sendPacket k) := by
  unfold State.sendPacket
  split
  · next q _ => exact ⟨q, s.onPort_queueOn q k⟩
  · exact ⟨0, .refl⟩

theorem State.sendPacket_keeps (s : State) (k : Packet) {β : Type} (g : State → β)
    (hg : ∀ (x : State) a b c d, g { x with peers := a, out := b, rand := c, nextTag := d } = g x) : g (s.sendPacket k) = g s := by
  obtain ⟨q, h⟩ := s.sendPacket_onPort k
  exact h.keeps g hg

end

/-- A poisoned write-back is counted, and changes nothing of the home agent, accesses, counters or the configuration. -/
theorem State.peerPoison_bad (s : State) (p line inst : Nat) :
    (s.peerPoison p line inst true).hold.poisonIn = sat32 s.hold.poisonIn ∧ (s.peerPoison p line inst true).home = s.home ∧
      (s.peerPoison p line inst true).accesses = s.accesses ∧ (s.peerPoison p line inst true).tide = s.tide := by
  have hone : ((3 : Nat) == 1) = false := rfl
  have htwo : ((3 : Nat) == 2) = false := rfl
  have hne : ¬ (3 : Nat) = 2 := by decide
  have hpoison : s.peerPoison p line inst true =
      s.poisonLine 3 4 p (s.localPa line) (s.linePartition line) inst (.peer inst) false := if_pos rfl
  have hrec (t : State) (ln now : BitVec 64) (k : Option Nat) (sealed : Bool) :
      (State.poisonLine.rec' 3 4 p (s.linePartition line) inst (.peer inst) false t ln now k sealed).hold = t.hold ∧
        (State.poisonLine.rec' 3 4 p (s.linePartition line) inst (.peer inst) false t ln now k sealed).home = t.home ∧
        (State.poisonLine.rec' 3 4 p (s.linePartition line) inst (.peer inst) false t ln now k sealed).accesses = t.accesses ∧
        (State.poisonLine.rec' 3 4 p (s.linePartition line) inst (.peer inst) false t ln now k sealed).tide = t.tide :=
    ⟨State.record_hold _ _, State.record_home _ _, State.record_accesses _ _, State.record_tide _ _⟩
  rw [hpoison]
  unfold State.poisonLine
  simp only [if_neg hne, hone, htwo, Bool.or_self, Bool.and_false, Bool.false_eq_true, if_false]
  split
  · split
    · exact ⟨rfl, rfl, rfl, rfl⟩
    · obtain ⟨hhold, hhome, haccesses, htide⟩ := hrec _ _ _ _ _
      exact ⟨congrArg HoldUnit.poisonIn hhold, hhome, haccesses, htide⟩
  · obtain ⟨hhold, hhome, haccesses, htide⟩ := hrec _ _ _ _ _
    exact ⟨congrArg HoldUnit.poisonIn hhold, hhome, haccesses, htide⟩

/-- A snoop of a line the near-atomic buffer holds takes the line out of it. -/
theorem State.nearSnoop_held {s : State} {k : Packet} {l : NearLine}
    (h : s.nearAt (BitVec.ofNat 60 (k.src.toNat * 2 ^ 48 + k.addr.toNat / 64 * 64)) = some l) :
    (s.nearSnoop k).home.near = s.home.near.filter (fun x => x.line != BitVec.ofNat 60 (k.src.toNat * 2 ^ 48 + k.addr.toNat / 64 * 64)) ∧
      (s.nearSnoop k).tide = s.tide ∧ (s.nearSnoop k).accesses = s.accesses := by
  have hline : roundDown k.addr.toNat 64 = k.addr.toNat / 64 * 64 := rfl
  unfold State.nearSnoop
  dsimp only
  rw [hline, h]
  refine ⟨(State.sendPacket_keeps _ _ (fun x => x.home.near) fun _ _ _ _ _ => rfl).trans ?_,
    (State.sendPacket_keeps _ _ State.tide fun _ _ _ _ _ => rfl).trans ?_, (State.sendPacket_keeps _ _ State.accesses fun _ _ _ _ _ => rfl).trans ?_⟩
  all_goals split <;> rfl

theorem State.nearSnoop_none {s : State} {k : Packet} (h : s.nearAt (BitVec.ofNat 60 (k.src.toNat * 2 ^ 48 + k.addr.toNat / 64 * 64)) = none) :
    s.nearSnoop k = s.sendPacket (s.answer .rsp 0x19 k.src k.tag .ok 0 [] 0) := by
  have hline : roundDown k.addr.toNat 64 = k.addr.toNat / 64 * 64 := rfl
  unfold State.nearSnoop
  dsimp only
  rw [hline, h]

/-! ### Each request -/

theorem State.openTxn_hold (s : State) (line : Nat) (r : HomeReq) : (s.openTxn line r).hold = s.hold := rfl

theorem State.openTxn_accesses (s : State) (line : Nat) (r : HomeReq) : (s.openTxn line r).accesses = s.accesses := rfl

theorem State.openTxn_tide (s : State) (line : Nat) (r : HomeReq) : (s.openTxn line r).tide = s.tide := rfl

theorem State.openTxn_home {s t : State} (h : t.home = s.home) (line : Nat) (r : HomeReq) : (t.openTxn line r).home = (s.openTxn line r).home := by
  unfold State.openTxn
  rw [h]

section
variable {s : State} {p : Nat} {k : Packet}

/-- Requests are taken, SL-A is in order, and the packet is the oldest that answers to a test and need not wait. -/
structure State.Serves (s : State) (p : Nat) (k : Packet) (f : Packet → Bool) : Prop where
  start : s.warmStart = false
  reset : s.warmReset = false
  link : s.linkFault .slA = none
  free : s.homeFull k = false
  oldest : (s.peer p).inbox.find? f = some k

theorem State.Serves.serve {f : Packet → Bool} (h : s.Serves p k f) (go : Packet → State → State) : s.serve p f go = go k (s.unbox p k) :=
  State.serve_open h.start h.reset h.link h.free h.oldest

theorem State.zaricRead_serves (h : s.Serves p k (fun x => x.opcode == 0x01)) :
    s.zaricRead p = (s.unbox p k).launch (peerAccess p k .read (s.unbox p k) k.aux.toNat) := h.serve _

/-- The access of an unpoisoned write. -/
def peerWrite (s : State) (p : Nat) (k : Packet) : Access :=
  { peerAccess p k .write s k.payload.length with
    data := k.payload, be := if k.hasBe then k.be else List.replicate k.payload.length true, poison := packetMarks k }

theorem State.zaricWrite_serves (h : s.Serves p k (fun x => x.opcode == 0x02 && x.subop == 0)) (hclean : ∀ b ∈ packetMarks k, b = false) :
    s.zaricWrite p = (s.unbox p k).launch (peerWrite (s.unbox p k) p k) :=
  (h.serve _).trans (congrArg (State.launch · _) (State.notePoisons_clean hclean))

theorem State.zaricWriteback_serves (h : s.Serves p k (fun x => x.opcode == 0x02 && x.subop == 1)) :
    s.zaricWriteback p = ((s.unbox p k).peerPoison p (k.addr.toNat / 64 * 64) k.src.toNat (k.poison != 0)).openTxn (k.addr.toNat / 64 * 64)
      (.peerWb k.tag k.src k.payload (k.poison != 0)) := h.serve _

/-- A poisoned write-back is counted, and joins its line's order marked. -/
theorem State.zaricWriteback_bad (h : s.Serves p k (fun x => x.opcode == 0x02 && x.subop == 1)) (hbad : k.poison ≠ 0) :
    (s.zaricWriteback p).hold.poisonIn = sat32 s.hold.poisonIn ∧
      (s.zaricWriteback p).home = ((s.unbox p k).openTxn (k.addr.toNat / 64 * 64) (.peerWb k.tag k.src k.payload true)).home ∧
      (s.zaricWriteback p).accesses = s.accesses ∧ (s.zaricWriteback p).conf = s.conf ∧ (s.zaricWriteback p).tide = s.tide := by
  have hon := s.onPort_unbox p k
  have hmark : (k.poison != 0) = true := bne_iff_ne.mpr hbad
  obtain ⟨hcount, hhome, haccesses, htide⟩ := State.peerPoison_bad (s.unbox p k) p (k.addr.toNat / 64 * 64) k.src.toNat
  refine ⟨?_, ?_, ?_, State.zaricWriteback_conf s p, ?_⟩
  all_goals rw [State.zaricWriteback_serves h, hmark]
  · rw [State.openTxn_hold, hcount]
    exact congrArg sat32 (hon.keeps (fun x => x.hold.poisonIn) fun _ _ _ _ _ => rfl)
  · exact State.openTxn_home hhome _ _
  · rw [State.openTxn_accesses, haccesses]
    exact hon.keeps State.accesses fun _ _ _ _ _ => rfl
  · rw [State.openTxn_tide, htide]
    exact hon.keeps State.tide fun _ _ _ _ _ => rfl

theorem State.zaricWriteback_good (h : s.Serves p k (fun x => x.opcode == 0x02 && x.subop == 1)) (hgood : k.poison = 0) :
    s.zaricWriteback p = (s.unbox p k).openTxn (k.addr.toNat / 64 * 64) (.peerWb k.tag k.src k.payload false) := by
  have hmark : (k.poison != 0) = false := by rw [hgood]; rfl
  rw [State.zaricWriteback_serves h, hmark]
  rfl

theorem State.zaricOwn_serves (h : s.Serves p k (fun x => x.opcode == 0x06)) :
    s.zaricOwn p = (s.unbox p k).openTxn (k.addr.toNat / 64 * 64) (.peerOwn p k.tag k.src) := h.serve _

/-- The access of an atomic. -/
def peerAtomic (s : State) (p : Nat) (k : Packet) (size : Nat) : Access :=
  { peerAccess p k .atomic s size with
    op := some { subop := k.subop, size := size, operand := BitVec.ofNat 64 (fld k.payload 0 8), swap := BitVec.ofNat 64 (fld k.payload 8 8) } }

theorem atomicForm_legal {k : Packet} {size : Nat} (hsize : size = 4 ∨ size = 8) (haux : k.aux.toNat = size) (hlo : 1 ≤ k.subop.toNat)
    (hhi : k.subop.toNat ≤ 0x0B) (halign : k.addr.toNat % size = 0) (hcas : k.length = 16 ↔ k.subop = 0x0A) :
    (atomicOk k.subop.toNat size && k.aux.toNat == size && k.addr.toNat % size == 0 && (k.length == 16) == (k.subop == 0x0A)) = true := by
  have hiff : (k.length == 16) = (k.subop == 0x0A) := by rw [Bool.eq_iff_iff, beq_iff_eq, beq_iff_eq]; exact hcas
  have hok : atomicOk k.subop.toNat size = true := by
    simp only [atomicOk, hlo, hhi, decide_true, Bool.true_and, Bool.or_eq_true, beq_iff_eq]
    exact hsize
  rw [hok, haux, halign, hiff]
  simp only [beq_self_eq_true, Bool.and_self]

theorem State.zaricAtomic_serves (h : s.Serves p k (fun x => x.opcode == 0x03)) {size : Nat} (hsize : size = 4 ∨ size = 8)
    (haux : k.aux.toNat = size) (hlo : 1 ≤ k.subop.toNat) (hhi : k.subop.toNat ≤ 0x0B) (halign : k.addr.toNat % size = 0)
    (hcas : k.length = 16 ↔ k.subop = 0x0A) : s.zaricAtomic p = (s.unbox p k).launch (peerAtomic (s.unbox p k) p k size) := by
  have hbits : bits k.aux.toNat 3 0 = size := by
    rw [haux]
    rcases hsize with h | h <;> rw [h] <;> rfl
  refine (h.serve _).trans ?_
  rw [hbits]
  exact if_neg (by rw [atomicForm_legal hsize haux hlo hhi halign hcas]; exact Bool.false_ne_true)

/-- What a signal adds, and the answer. -/
theorem State.zaricSignal_serves (h : s.Serves p k (fun x => x.opcode == 0x04)) : s.zaricSignal p =
    let t := (s.unbox p k).tideAdd k.tide.toNat (if k.mc then none else some k.part.toNat) (fld k.payload 0 8)
    t.2.refusePacket k (if t.1 then .ok else .permission) := h.serve _

theorem State.unbox_inRange (n : Nat) (q : Option Nat) : (s.unbox p k).tideInRange n q = s.tideInRange n q :=
  (s.onPort_unbox p k).keeps (fun x => x.tideInRange n q) fun _ _ _ _ _ => rfl

theorem State.zaricSignal_adds (h : s.Serves p k (fun x => x.opcode == 0x04))
    (hin : s.tideInRange k.tide.toNat (if k.mc then none else some k.part.toNat) = true) : s.zaricSignal p =
      ((s.unbox p k).modTideVal k.tide.toNat (fun v => v + BitVec.ofNat 64 (fld k.payload 0 8))).sendPacket (s.answer .rsp 0x18 k.src k.tag .ok 0 [] 0) := by
  have hadd : (s.unbox p k).tideAdd k.tide.toNat (if k.mc then none else some k.part.toNat) (fld k.payload 0 8) =
      (true, (s.unbox p k).modTideVal k.tide.toNat (fun v => v + BitVec.ofNat 64 (fld k.payload 0 8))) :=
    if_pos ((State.unbox_inRange _ _).trans hin)
  rw [State.zaricSignal_serves h, hadd]
  exact congrArg (State.sendPacket _) ((s.onPort_unbox p k).answer ..)

theorem State.zaricSignal_refused (h : s.Serves p k (fun x => x.opcode == 0x04))
    (hout : s.tideInRange k.tide.toNat (if k.mc then none else some k.part.toNat) = false) : (s.zaricSignal p).tide.values = s.tide.values := by
  have hadd : (s.unbox p k).tideAdd k.tide.toNat (if k.mc then none else some k.part.toNat) (fld k.payload 0 8) =
      (false, (s.unbox p k).tideRefuse) := if_neg (by rw [State.unbox_inRange, hout]; exact Bool.false_ne_true)
  rw [State.zaricSignal_serves h, hadd]
  refine (State.sendPacket_keeps _ _ (fun x => x.tide.values) fun _ _ _ _ _ => rfl).trans ?_
  exact (s.onPort_unbox p k).keeps (fun x => x.tide.values) fun _ _ _ _ _ => rfl

theorem State.zaricSnoop_serves {op : Nat} (h : s.Serves p k (fun x => x.opcode.toNat == op)) :
    s.zaricSnoop p op = (s.unbox p k).nearSnoop k := h.serve _

end

/-- Settles O25: the oldest request that need not wait is taken by `serve_takes`, and each kind starts what it asks for. -/
theorem peerRequestsAreServed : Obligations.PeerRequestsAreServed := by
  unfold Obligations.PeerRequestsAreServed
  intro s p k hw hr s1 oldest starts
  have hon : s.OnPort p s1 := s.onPort_unbox p k
  have hop {n : Nat} (hn : n < 64) (h : oldest n none) :
      s.homeFull k = false ∧ (s.peer p).inbox.find? (fun x => x.opcode == BitVec.ofNat 6 n) = some k := by
    simpa only [oldest, Option.elim_none, Bool.and_true, BitVec.toNat_beq_ofNat (w := 6) _ hn] using h
  have hraw {n : Nat} (h : oldest n none) : s.homeFull k = false ∧ (s.peer p).inbox.find? (fun x => x.opcode.toNat == n) = some k := by
    simpa only [oldest, Option.elim_none, Bool.and_true] using h
  have hsub {n m : Nat} (hn : n < 64) (hm : m < 256) (h : oldest n (some m)) :
      s.homeFull k = false ∧ (s.peer p).inbox.find? (fun x => x.opcode == BitVec.ofNat 6 n && x.subop == BitVec.ofNat 8 m) = some k := by
    simpa only [oldest, Option.elim_some, BitVec.toNat_beq_ofNat (w := 6) _ hn, BitVec.toNat_beq_ofNat (w := 8) _ hm] using h
  have hnear (line : BitVec 60) : s1.nearAt line = s.nearAt line := hon.keeps (fun x => x.nearAt line) fun _ _ _ _ _ => rfl
  have hsnoop {t : State} (ht : t = s1.nearSnoop k) {l : NearLine}
      (hl : s.nearAt (BitVec.ofNat 60 (k.src.toNat * 2 ^ 48 + k.addr.toNat / 64 * 64)) = some l) :
      ∃ u : State, (Host.Outcome.next t.settle : Host.Outcome State Fault Refusal) = .next u.settle ∧
        u.home.near = s.home.near.filter (fun x => x.line != BitVec.ofNat 60 (k.src.toNat * 2 ^ 48 + k.addr.toNat / 64 * 64)) ∧
        u.conf = s.conf ∧ u.tide = s.tide ∧ u.accesses = s.accesses := by
    obtain ⟨hbuf, htide, haccesses⟩ := State.nearSnoop_held ((hnear _).trans hl)
    refine ⟨t, rfl, ?_⟩
    rw [ht, hbuf, htide, haccesses, State.nearSnoop_conf]
    exact ⟨hon.keeps (fun x => x.home.near.filter _) fun _ _ _ _ _ => rfl, hon.keeps State.conf fun _ _ _ _ _ => rfl,
      hon.keeps State.tide fun _ _ _ _ _ => rfl, hon.keeps State.accesses fun _ _ _ _ _ => rfl⟩
  have hpa (a : Nat) : s1.localPa a = s.localPa a := hon.localPa a
  refine ⟨⟨?_, ?_, hon.other, fun h => ?_, fun h => ?_⟩, fun st hl hreq => ?_, fun st hl hreq => ?_, fun h => ?_, fun h => ?_, fun hl => ?_⟩
  · exact congrArg PeerPort.inbox (s.peer_unbox p k)
  · exact congrArg PeerPort.room (s.peer_unbox p k)
  · have hout : s1.out = (if (s.peer p).readyOut then creditWords p k else []) ++ s.out := congrArg State.out (s.unbox_eq p k)
    rw [hout, h]
    rfl
  · have hout : s1.out = (if (s.peer p).readyOut then creditWords p k else []) ++ s.out := congrArg State.out (s.unbox_eq p k)
    rw [hout, h]
    rfl
  · have hcut {f : Packet → Bool} {go : Packet → State → State}
        (h : s.homeFull k = false ∧ (s.peer p).inbox.find? f = some k) : s.serve p f go = s1.refusePacket k st :=
      (State.serve_cut hw hr hl h.1 h.2).trans (if_pos hreq)
    exact ⟨fun h => next_settle_congr (hcut (hop (by decide) h)), fun h => next_settle_congr (hcut (hsub (by decide) (by decide) h)),
      fun h => next_settle_congr (hcut (hsub (by decide) (by decide) h)), fun h => next_settle_congr (hcut (hop (by decide) h)),
      fun h => next_settle_congr (hcut (hop (by decide) h)), fun h => next_settle_congr (hcut (hop (by decide) h)),
      fun h => next_settle_congr (hcut (hop (by decide) h))⟩
  · have hcut {n : Nat} {go : Packet → State → State} (h : oldest n none) : s.serve p (fun x => x.opcode.toNat == n) go = s1 :=
      (State.serve_cut hw hr hl (hraw h).1 (hraw h).2).trans (if_neg hreq)
    exact ⟨fun h => next_settle_congr (hcut h), fun h => next_settle_congr (hcut h)⟩
  · exact next_settle_congr (State.serve_waits hw hr fun x hx hf => h x hx (eq_of_beq hf))
  · exact next_settle_congr (State.serve_waits hw hr fun x hx hf =>
      h x hx (eq_of_beq (Bool.and_eq_true_iff.mp hf).1) (eq_of_beq (Bool.and_eq_true_iff.mp hf).2))
  · have hserve {f : Packet → Bool} (h : s.homeFull k = false ∧ (s.peer p).inbox.find? f = some k) : s.Serves p k f := ⟨hw, hr, hl, h.1, h.2⟩
    refine ⟨fun h => ?_, fun h hclean => ?_, fun h hbad => ?_, fun h hgood => ?_, fun h => ?_, fun h size hsize haux hlo hhi halign hcas => ?_,
      fun h hin => ?_, fun h hout => ?_, fun h hnone => ?_, fun h hnone => ?_, fun h l hheld => ?_, fun h l hheld => ?_⟩
    · exact ⟨s.zaricRead p, { peerAccess p k .read s1 k.aux.toNat with id := s1.nextId }, rfl, State.zaricRead_serves (hserve (hop (by decide) h)),
        rfl, rfl, rfl, rfl, rfl, rfl, hpa _, rfl, rfl, rfl, rfl, rfl⟩
    · exact ⟨s.zaricWrite p, { peerWrite s1 p k with id := s1.nextId }, rfl,
        State.zaricWrite_serves (hserve (hsub (by decide) (by decide) h)) hclean, rfl, rfl, rfl, rfl, rfl, rfl, hpa _, rfl, rfl,
        rfl, rfl, rfl, rfl⟩
    · exact ⟨s.zaricWriteback p, rfl, State.zaricWriteback_bad (hserve (hsub (by decide) (by decide) h)) hbad⟩
    · exact next_settle_congr (State.zaricWriteback_good (hserve (hsub (by decide) (by decide) h)) hgood)
    · exact next_settle_congr (State.zaricOwn_serves (hserve (hop (by decide) h)))
    · exact ⟨s.zaricAtomic p, { peerAtomic s1 p k size with id := s1.nextId }, rfl,
        State.zaricAtomic_serves (hserve (hop (by decide) h)) hsize haux hlo hhi halign hcas, rfl, rfl, rfl, rfl, rfl, rfl, hpa _,
        rfl, rfl, rfl, rfl, rfl⟩
    · exact next_settle_congr (State.zaricSignal_adds (hserve (hop (by decide) h)) hin)
    · exact ⟨s.zaricSignal p, rfl, State.zaricSignal_refused (hserve (hop (by decide) h)) hout, State.zaricSignal_conf s p⟩
    · refine next_settle_congr ((State.zaricSnoop_serves (hserve (hraw h))).trans ((State.nearSnoop_none ((hnear _).trans hnone)).trans ?_))
      rw [hon.answer]
    · refine next_settle_congr ((State.zaricSnoop_serves (hserve (hraw h))).trans ((State.nearSnoop_none ((hnear _).trans hnone)).trans ?_))
      rw [hon.answer]
    · exact hsnoop (State.zaricSnoop_serves (hserve (hraw h))) hheld
    · exact hsnoop (State.zaricSnoop_serves (hserve (hraw h))) hheld

end Sys2Proof.Machine

/-! What follows a command by itself sends no interrupt of SH_IRQ_STATUS where only a lost record can raise one (16 R393; 17 R418): the
state such a statement speaks of. -/

namespace Sys2Proof.Machine

/-- A message of vector 5. -/
def Out.isVector5 : Out → Bool
  | .msix _ v _ _ => v == 5
  | _ => false

/-- The CORE-CTRL crossing of a slice is out of service. -/
def ctrlDead (clocks : Tab ClockState) (sl : Slice) : Bool := (tabGet ({} : ClockState) clocks (sliceIx sl)).dead.getLsbD 8

/-- Vector 5 is raised by bit 7 of SH_IRQ_STATUS alone: it is that register's vector, of which only bit 7 is enabled, no chart is in force,
and no other vector is valid. Records of the shore and the hold slice stay in their crossings. -/
def armedBy (clocks : Tab ClockState) (enable : BitVec 10) (valid : Bool) (vector : BitVec 11) (rasVec : Bool) (chart : Option Chart)
    (mgmtVec invVec jnlVec : Bool) : Bool :=
  ctrlDead clocks .sh && ctrlDead clocks .hd && enable == 0x80 && valid && vector == 5 && !rasVec && chart.isNone && !mgmtVec && !invVec && !jnlVec

/-- The record being written and the messages of vector 5 sent, where only bit 7 can raise it. -/
def hushOf (armed : Bool) (writing : Option ErrRec) (sent : List Out) : Option (Option ErrRec × List Out) :=
  if armed then some (writing, sent) else none

def State.armed (s : State) : Bool :=
  armedBy s.clocks s.irq.enable s.irq.vecValid s.irq.vector s.ras.vecValid s.chart.chart s.mgmt.vecValid s.inv.vecValid s.alloc.jnlVecOn

def State.hush (s : State) : Option (Option ErrRec × List Out) :=
  hushOf s.armed s.ras.writing (s.out.filter Out.isVector5)

@[simp] theorem State.hush_mk (a_pending) (a_clocks) (a_links) (a_gated) (a_fuses) (a_start) (a_fenced) (a_chart) (a_tearBurst)
    (a_tapUnlock) (a_tap) (a_tapData) (a_cores) (a_fw) (a_mgmt) (a_relay) (a_irq) (a_hosts) (a_cacheTags) (a_nextCache) (a_peers)
    (a_tracker) (a_nextTag) (a_unreach) (a_portEnable) (a_engReqs) (a_beats) (a_owedBeats) (a_nextOrder) (a_mems) (a_accesses) (a_ended)
    (a_nextId) (a_trans) (a_landings) (a_stalls) (a_stale) (a_inv) (a_parts) (a_releases) (a_queues) (a_dbCheck) (a_dbState) (a_dbLast)
    (a_alloc) (a_chans) (a_arbR) (a_arbW) (a_sluice) (a_cmb) (a_tide) (a_latches) (a_home) (a_ident) (a_ras) (a_hold) (a_health) (a_thermal)
    (a_out) (a_fresh) (a_rand) : State.hush (State.mk a_pending a_clocks a_links a_gated a_fuses a_start a_fenced a_chart a_tearBurst
    a_tapUnlock a_tap a_tapData a_cores a_fw a_mgmt a_relay a_irq a_hosts a_cacheTags a_nextCache a_peers a_tracker a_nextTag a_unreach
    a_portEnable a_engReqs a_beats a_owedBeats a_nextOrder a_mems a_accesses a_ended a_nextId a_trans a_landings a_stalls a_stale a_inv
    a_parts a_releases a_queues a_dbCheck a_dbState a_dbLast a_alloc a_chans a_arbR a_arbW a_sluice a_cmb a_tide a_latches a_home a_ident
    a_ras a_hold a_health a_thermal a_out a_fresh a_rand) = hushOf (armedBy a_clocks a_irq.enable a_irq.vecValid a_irq.vector a_ras.vecValid
    a_chart.chart a_mgmt.vecValid a_inv.vecValid a_alloc.jnlVecOn) a_ras.writing (a_out.filter Out.isVector5) := (rfl)

@[simp] theorem State.hush_eta (s : State) :
    hushOf (armedBy s.clocks s.irq.enable s.irq.vecValid s.irq.vector s.ras.vecValid s.chart.chart s.mgmt.vecValid s.inv.vecValid s.alloc.jnlVecOn)
      s.ras.writing (s.out.filter Out.isVector5) = s.hush := (rfl)

/-! ### Leaves -/

section
variable {s t : State}

theorem State.hush_unarmed (h : s.armed = false) : s.hush = none := by
  unfold State.hush hushOf
  rw [h]
  exact if_neg Bool.false_ne_true

theorem State.hush_armed (h : s.armed = true) : s.hush = some (s.ras.writing, s.out.filter Out.isVector5) := by
  unfold State.hush hushOf
  rw [h]
  exact if_pos rfl

/-- Where nothing is armed before and after there is nothing to keep. -/
theorem State.hush_of_unarmed (ha : t.armed = s.armed) (h : s.armed = true → t.hush = s.hush) : t.hush = s.hush := by
  cases hs : s.armed with
  | true => exact h hs
  | false => rw [State.hush_unarmed hs, State.hush_unarmed (ha.trans hs)]

theorem State.armed_parts (h : s.armed = true) : s.ctrlLost .sh = true ∧ s.ctrlLost .hd = true ∧ s.irq.enable = 0x80 ∧ s.irq.vecValid = true ∧
    s.irq.vector = 5 ∧ s.ras.vecValid = false ∧ s.chart.chart = none ∧ s.mgmt.vecValid = false ∧ s.inv.vecValid = false ∧ s.alloc.jnlVecOn = false := by
  simp only [State.armed, armedBy, Bool.and_eq_true, beq_iff_eq, Bool.not_eq_true', Option.isNone_iff_eq_none, and_assoc] at h
  exact h

end

theorem State.drive_armed (s : State) (o : Out) : (s.drive o).armed = s.armed := rfl

theorem State.drive_hush_of_vector (s : State) {o : Out} (h : o.isVector5 = false) : (s.drive o).hush = s.hush := by
  have hout : (s.drive o).out.filter Out.isVector5 = s.out.filter Out.isVector5 := List.filter_cons_of_neg (by rw [h]; exact Bool.false_ne_true)
  unfold State.hush
  rw [hout]
  rfl

/-- What is driven is no message. -/
@[simp] theorem State.drive_hush (s : State) (o : Out) (h : ∀ n v a d, o ≠ .msix n v a d) : (s.drive o).hush = s.hush := by
  refine s.drive_hush_of_vector ?_
  cases o with
  | msix n v a d => exact absurd rfl (h n v a d)
  | _ => rfl

@[simp] theorem State.setPendingBit_hush (s : State) (v : Nat) (b : Bool) : (s.setPendingBit v b).hush = s.hush := rfl

theorem State.raiseVector_armed (s : State) (v : Nat) : (s.raiseVector v).armed = s.armed := by
  unfold State.raiseVector
  split
  · split <;> rfl
  · rfl

/-- Another vector's message is none of vector 5. -/
theorem State.raiseVector_hush (s : State) {v : Nat} (h : s.armed = true → v ≠ 5) : (s.raiseVector v).hush = s.hush := by
  refine State.hush_of_unarmed (s.raiseVector_armed v) fun ha => ?_
  unfold State.raiseVector
  split
  · split
    · rfl
    · exact State.drive_hush_of_vector _ (beq_eq_false_iff_ne.mpr (h ha))
  · rfl

theorem State.shIrq_armed (s : State) (i : Nat) : (s.shIrq i).armed = s.armed := by
  unfold State.shIrq State.shIrqSet
  dsimp only
  split
  · exact State.raiseVector_armed _ _
  · rfl

/-- An event of another bit than 7 raises nothing while only bit 7 is enabled. -/
theorem State.shIrq_hush (s : State) {i : Nat} (h : i ≠ 7) : (s.shIrq i).hush = s.hush := by
  refine State.hush_of_unarmed (s.shIrq_armed i) fun ha => ?_
  obtain ⟨-, -, henable, -⟩ := State.armed_parts ha
  have hbit : (BitVec.ofNat 10 (2 ^ i)).getLsbD 7 = false := by
    rw [BitVec.getLsbD_ofNat, Nat.testBit_two_pow_of_ne h]
    rfl
  have hsame : (s.irq.status ||| BitVec.ofNat 10 (2 ^ i)) &&& s.irq.enable = s.irq.status &&& s.irq.enable := by
    rw [henable]
    refine BitVec.eq_of_getLsbD_eq fun j hj => ?_
    rw [BitVec.getLsbD_and, BitVec.getLsbD_and, BitVec.getLsbD_or]
    by_cases hj7 : j = 7
    · rw [hj7, hbit, Bool.or_false]
    · have hoff : (0x80 : BitVec 10).getLsbD j = false := by
        have := hj
        interval_cases j <;> first | rfl | exact absurd rfl hj7
      rw [hoff, Bool.and_false, Bool.and_false]
  have hquiet (b v : Bool) : ¬ (!(b && v) && b && v) = true := by cases b <;> cases v <;> decide
  have hraise : s.shIrq i = { s with irq := { s.irq with status := s.irq.status ||| BitVec.ofNat 10 (2 ^ i) } } := by
    unfold State.shIrq State.shIrqSet
    dsimp only
    rw [hsame]
    exact if_neg (hquiet _ _)
  rw [hraise]
  rfl

theorem State.setClock_armed (s : State) (sl : Slice) {v : ClockState} (h : v.dead = (s.clock sl).dead) : (s.setClock sl v).armed = s.armed := by
  have hdead (k : Slice) : ctrlDead (s.setClock sl v).clocks k = ctrlDead s.clocks k := by
    have hk : ((s.setClock sl v).clock k).dead = (s.clock k).dead := by
      rw [State.clock_setClock]
      split
      · next hkl => rw [h, hkl]
      · rfl
    exact congrArg (·.getLsbD 8) hk
  unfold State.armed armedBy
  rw [hdead, hdead]
  rfl

@[simp] theorem State.setClock_hush (s : State) (sl : Slice) {v : ClockState} (h : v.dead = (s.clock sl).dead) : (s.setClock sl v).hush = s.hush := by
  unfold State.hush
  rw [State.setClock_armed s sl h]
  rfl

@[simp] theorem State.eventLost_hush (s : State) (sl : Slice) (i : Nat) : (s.eventLost sl i).hush = s.hush := by
  unfold State.eventLost
  dsimp only
  split
  · exact State.setClock_hush s sl rfl
  · exact (State.shIrq_hush _ (by decide)).trans (State.setClock_hush s sl rfl)

theorem State.eventLost_armed (s : State) (sl : Slice) (i : Nat) : (s.eventLost sl i).armed = s.armed := by
  unfold State.eventLost
  dsimp only
  split
  · exact State.setClock_armed s sl rfl
  · exact (State.shIrq_armed _ _).trans (State.setClock_armed s sl rfl)

theorem State.rasLose_armed (s : State) : s.rasLose.armed = s.armed := (State.shIrq_armed _ _).trans rfl

theorem State.rasBuffer_armed (s : State) (r : ErrRec) : (s.rasBuffer r).armed = s.armed := by
  unfold State.rasBuffer
  split
  · rfl
  · split
    · exact (State.rasLose_armed _).trans rfl
    · exact s.rasLose_armed

theorem State.errLog_armed (s : State) (r : ErrRec) : (s.errLog r).armed = s.armed := by
  unfold State.errLog
  split
  · exact (State.shIrq_armed _ _).trans rfl
  · rfl

theorem State.record_armed (s : State) (r : ErrRec) : (s.record r).armed = s.armed := by
  rcases s.record_cases r with ⟨-, e⟩ | ⟨-, e⟩
  · rw [e]
    exact s.eventLost_armed _ _
  · rw [e, State.rasBuffer_armed, State.errLog_armed]
    rfl

/-- A record of the shore or the hold slice stays in its crossing. -/
theorem State.record_hush (s : State) {r : ErrRec} (h : r.slice ≠ .en) : (s.record r).hush = s.hush := by
  refine State.hush_of_unarmed (s.record_armed r) fun ha => ?_
  obtain ⟨hsh, hhd, -⟩ := State.armed_parts ha
  have hlost : s.ctrlLost r.slice = true := by
    cases hs : r.slice with
    | sh => exact hsh
    | en => exact absurd hs h
    | hd => exact hhd
  rcases s.record_cases r with ⟨-, e⟩ | ⟨hc, -⟩
  · rw [e]
    exact s.eventLost_hush _ _
  · rw [hlost] at hc
    exact Bool.noConfusion hc

end Sys2Proof.Machine

/-! Every operation of what follows a command keeps the quiet: it records nothing of the engine slice and raises no vector 5. The end of a
record's write alone is left out. -/

namespace Sys2Proof.Machine

/-! ### Accesses, translation and stalls -/

@[simp] theorem State.setLanding_hush (s : State) (k : Nat) (v : Landing) : (s.setLanding k v).hush = s.hush := (rfl)

@[simp] theorem State.modLanding_hush (s : State) (k : Nat) (f : Landing → Landing) : (s.modLanding k f).hush = s.hush := (rfl)

@[simp] theorem State.landLose_hush (s : State) (p : Nat) : (State.landLose s p).hush = s.hush := (rfl)

@[simp] theorem State.landQueue_hush (s : State) (r : LandRec) : (State.landQueue s r).hush = s.hush := by simp [State.landQueue]

@[simp] theorem State.sealedFault_hush (s : State) (a : Access) : (State.sealedFault s a).hush = s.hush := by
  unfold State.sealedFault
  (repeat' split) <;> simp

@[simp] theorem State.modEng_hush (s : State) (r : EngReq) (f : EngReq → EngReq) : (State.modEng s r f).hush = s.hush := (rfl)

@[simp] theorem eachOf_hush {α : Type} {f : α → State → State} (h : ∀ x t, (f x t).hush = t.hush) (l : List α) (s : State) :
    (eachOf f l s).hush = s.hush := by
  induction l generalizing s with
  | nil => rfl
  | cons x xs ih => rw [eachOf, ih, h]

@[simp] theorem State.modHoldUsed_hush (s : State) (k : Nat) (f : Nat → Nat) : (State.modHoldUsed s k f).hush = s.hush := (rfl)

@[simp] theorem State.holdGive_hush (s : State) (q : Nat) (n : Nat) : (State.holdGive s q n).hush = s.hush := (rfl)

@[simp] theorem State.engDone_hush (s : State) (r : EngReq) (st : Status) (pa : BitVec 60) (attr : BitVec 8) :
    (State.engDone s r st pa attr).hush = s.hush := (rfl)

@[simp] theorem State.dropAcc_hush (s : State) (id : Nat) : (State.dropAcc s id).hush = s.hush := (rfl)

@[simp] theorem State.finish_hush (s : State) (id : Nat) (r : AccResult) : (State.finish s id r).hush = s.hush := by
  unfold State.finish
  (repeat' split) <;> simp

@[simp] theorem State.fail_hush (s : State) (id : Nat) (st : Status) : (State.fail s id st).hush = s.hush := by simp [State.fail]

@[simp] theorem State.modAcc_hush (s : State) (id : Nat) (f : Access → Access) : (State.modAcc s id f).hush = s.hush := (rfl)

@[simp] theorem State.setStall_hush (s : State) (k : Nat) (v : Stall) : (State.setStall s k v).hush = s.hush := (rfl)

@[simp] theorem State.modStall_hush (s : State) (k : Nat) (f : Stall → Stall) : (State.modStall s k f).hush = s.hush := (rfl)

@[simp] theorem State.faultAcc_hush (s : State) (id : Nat) (cause : Cause) (level : Nat) (va : BitVec 64) (aux : BitVec 64) :
    (State.faultAcc s id cause level va aux).hush = s.hush := by
  unfold State.faultAcc
  (repeat' split) <;> simp [apply_ite State.hush]

@[simp] theorem State.newWalk_hush (s : State) (p : Nat) (va : BitVec 64) (who : Asker) (st : Nat) :
    (State.newWalk s p va who st).hush = s.hush := (rfl)

@[simp] theorem State.missTo_hush (s : State) (p : Nat) (va : BitVec 64) (who : Asker) (st : Nat) (since : Nat) :
    (State.missTo s p va who st since).hush = s.hush := by simp [State.missTo, apply_ite State.hush]

@[simp] theorem State.stallSettle_hush (s : State) (st : Nat) :
    (State.stallSettle s st).hush = s.hush := by simp [State.stallSettle, apply_ite State.hush]

@[simp] theorem State.stallDone_hush (s : State) (st : Nat) (id : Nat) :
    (State.stallDone s st id).hush = s.hush := by simp [State.stallDone, apply_ite State.hush]

@[simp] theorem State.splitWindow_hush (s : State) (id : Nat) : (State.splitWindow s id).hush = s.hush := by
  unfold State.splitWindow
  (repeat' split) <;> simp only [State.hush_mk, State.hush_eta, apply_ite State.hush, ite_self, eq_self]

@[simp] theorem State.useLeaf_hush (s : State) (id : Nat) (l : Leaf) (level : Nat) : (State.useLeaf s id l level).hush = s.hush := by
  unfold State.useLeaf
  (repeat' split) <;> simp

@[simp] theorem State.fillL1_hush (s : State) (ag : Agent) (l : Leaf) : (State.fillL1 s ag l).hush = s.hush := (rfl)

@[simp] theorem State.countL2_hush (s : State) (hit : Bool) :
    (State.countL2 s hit).hush = s.hush := by simp only [State.countL2, State.hush_mk, State.hush_eta, apply_ite State.hush, ite_self]

@[simp] theorem State.lookup_hush (s : State) (a : Access) (p : Nat) (va : BitVec 64) (since : Option Nat) :
    (State.lookup s a p va since).hush = s.hush := by
  unfold State.lookup
  (repeat' split) <;> simp

@[simp] theorem State.present_hush (id : Nat) (s : State) : (State.present id s).hush = s.hush := by
  unfold State.present
  (repeat' split) <;> simp

@[simp] theorem State.launch_hush (s : State) (a : Access) : (State.launch s a).hush = s.hush := (rfl)

@[simp] theorem State.launchVa_hush (s : State) (a : Access) (va : BitVec 64) :
    (State.launchVa s a va).hush = s.hush := by simp [State.launchVa]

/-! ### Engine ports, queues and the allocator -/

@[simp] theorem State.holdTake_hush (s : State) (q : Nat) (n : Nat) : (State.holdTake s q n).hush = s.hush := (rfl)

@[simp] theorem State.engAccess_hush (s : State) (r : EngReq) (kind : AccKind) (op : Option AtomicOp) :
    (State.engAccess s r kind op).hush = s.hush := by simp [State.engAccess, apply_ite State.hush]

@[simp] theorem State.modQueue_hush (s : State) (k : Nat) (f : Queue → Queue) : (State.modQueue s k f).hush = s.hush := (rfl)

@[simp] theorem State.ringUp_hush (s : State) (q : Nat) (v : BitVec 64) : (State.ringUp s q v).hush = s.hush := (rfl)

@[simp] theorem State.engineDoorbell_hush (s : State) (va : BitVec 57) (p : Nat) (v : BitVec 64) :
    (State.engineDoorbell s va p v).2.hush = s.hush := by
  unfold State.engineDoorbell
  dsimp only
  (repeat' split) <;> simp

@[simp] theorem State.pushEvent_hush (s : State) (e : Event) : (State.pushEvent s e).hush = s.hush := (rfl)

@[simp] theorem State.respond_hush (s : State) (seq : BitVec 32) (st : Status) (extra : Bytes) (length : Nat) :
    (State.respond s seq st extra length).hush = s.hush := (rfl)

@[simp] theorem State.engEnd_hush (s : State) (port : Nat) (tag : BitVec 8) (st : Status) (pa : BitVec 60) (attr : BitVec 8) :
    (State.engEnd s port tag st pa attr).hush = s.hush := by
  unfold State.engEnd
  split <;> simp

@[simp] theorem State.modChan_hush (s : State) (k : Nat) (f : Channel → Channel) : (State.modChan s k f).hush = s.hush := (rfl)

@[simp] theorem State.modRun_hush (s : State) (c : Nat) (f : Running → Running) : (State.modRun s c f).hush = s.hush := (rfl)

@[simp] theorem State.endEarly_hush (s : State) (c : Nat) (st : Status) : (State.endEarly s c st).hush = s.hush := (rfl)

@[simp] theorem State.setCursor_hush (s : State) (c : Nat) (q : Option Nat) (a : BitVec 64) : (State.setCursor s c q a).hush = s.hush := by
  unfold State.setCursor
  split <;> simp

@[simp] theorem State.markStart_hush (s : State) (c : Nat) : (State.markStart s c).hush = s.hush := by
  unfold State.markStart
  (repeat' split) <;> simp

@[simp] theorem State.workDone_hush (s : State) (c : Nat) : (State.workDone s c).hush = s.hush := by simp [State.workDone]

@[simp] theorem State.chanAccess_hush (s : State) (c : Nat) (a : Access) (addr : BitVec 64) :
    (State.chanAccess s c a addr).hush = s.hush := by simp [State.chanAccess, apply_ite State.hush]

@[simp] theorem State.allocWrite_hush (s : State) (c : Nat) (addr : Nat) (b : Bytes) :
    (State.allocWrite s c addr b).hush = s.hush := by simp [State.allocWrite, apply_ite State.hush]

@[simp] theorem State.allocWrites_hush (s : State) (c : Nat) (addr : Nat) (b : Bytes) :
    (State.allocWrites s c addr b).hush = s.hush := by simp [State.allocWrites]

@[simp] theorem State.jobEnd_hush (s : State) (j : AllocJob) (st : Status) : (State.jobEnd s j st).hush = s.hush := by
  unfold State.jobEnd
  dsimp only
  (repeat' split) <;> simp

@[simp] theorem State.reserve_hush (s : State) (n : Nat) : (State.reserve s n).hush = s.hush := (rfl)

@[simp] theorem State.modJob_hush (s : State) (id : Nat) (f : AllocJob → AllocJob) : (State.modJob s id f).hush = s.hush := (rfl)

@[simp] theorem State.freeCount_hush (s : State) (j : AllocJob) :
    (State.freeCount s j).hush = s.hush := by simp [State.freeCount, apply_ite State.hush]

@[simp] theorem State.unreserve_hush (s : State) (n : Nat) : (State.unreserve s n).hush = s.hush := (rfl)

@[simp] theorem State.jobFail_hush (s : State) (j : AllocJob) (st : Status) :
    (State.jobFail s j st).hush = s.hush := by simp [State.jobFail]

@[simp] theorem State.setPool_hush (s : State) (k : Nat) (v : Option Pool) : (State.setPool s k v).hush = s.hush := (rfl)

@[simp] theorem State.modBulk_hush (s : State) (id : Nat) (f : BulkJob → BulkJob) : (State.modBulk s id f).hush = s.hush := (rfl)

@[simp] theorem State.bulkIssue_hush (id n : Nat) (s : State) : (State.bulkIssue id n s).hush = s.hush := by
  induction n generalizing s with
  | zero => rfl
  | succ n ih =>
    unfold State.bulkIssue
    split
    · rfl
    · split
      · rfl
      · split
        · rfl
        · rw [ih]
          split <;> simp only [State.launchVa_hush, State.launch_hush, State.modBulk_hush]

@[simp] theorem State.bulkStart_hush (s : State) (agent : Agent) (part : Option Nat) (todo : List Chunk) (owner : BulkOwner) :
    (State.bulkStart s agent part todo owner).hush = s.hush := by simp [State.bulkStart]

@[simp] theorem State.allocPlace_hush (s : State) (j : AllocJob) : (State.allocPlace s j).hush = s.hush := by
  unfold State.allocPlace
  (repeat' split) <;> simp

@[simp] theorem State.jobGo_hush (s : State) (j : AllocJob) :
    (State.jobGo s j).hush = s.hush := by simp [State.jobGo, apply_ite State.hush]

@[simp] theorem State.jobStep1_hush (s : State) (j : AllocJob) : (State.jobStep1 s j).hush = s.hush := by
  unfold State.jobStep1
  (repeat' split) <;> simp

@[simp] theorem State.jobNew_hush (s : State) (asker : AllocAsker) (part : Nat) (isFree : Bool) (size : Nat) (flags : BitVec 8)
    (recVa : BitVec 64) (phys : Bool) (amount : Nat) (first : Nat) :
    (State.jobNew s asker part isFree size flags recVa phys amount first).hush = s.hush := by simp [State.jobNew, apply_ite State.hush]

@[simp] theorem State.allocNew_hush (s : State) (asker : AllocAsker) (part : Nat) (size : Nat) (flags : BitVec 8) :
    (State.allocNew s asker part size flags).hush = s.hush := by simp [State.allocNew]

@[simp] theorem State.engStart_hush (s : State) (r : EngReq) : (State.engStart s r).hush = s.hush := by
  unfold State.engStart
  (repeat' split) <;> simp [apply_ite State.hush]

@[simp] theorem State.engTry_hush (r : EngReq) (s : State) : (State.engTry r s).hush = s.hush := by
  unfold State.engTry
  split
  · split <;> simp
  · rfl

@[simp] theorem State.enginePump_hush (s : State) : (State.enginePump s).hush = s.hush := by simp [State.enginePump]

@[simp] theorem State.readBeat_hush (r : EngReq) (all : MarkedBytes) (i : Nat) (s : State) :
    (State.readBeat r all i s).hush = s.hush := (rfl)

@[simp] theorem State.engFinish_hush (s : State) (r : EngReq) (rs : List AccResult) : (State.engFinish s r rs).hush = s.hush := by
  unfold State.engFinish
  (repeat' split) <;> simp

@[simp] theorem State.engBack_hush (s : State) (port : Nat) (tag : Nat) (part : Nat) (res : AccResult) :
    (State.engBack s port tag part res).hush = s.hush := by
  unfold State.engBack
  (repeat' split) <;> simp [apply_ite State.hush]

@[simp] theorem State.xlateBack_hush (s : State) (port : Nat) (tag : Nat) (res : AccResult) :
    (State.xlateBack s port tag res).hush = s.hush := by simp [State.xlateBack, apply_ite State.hush]

@[simp] theorem State.fetchBack_hush (s : State) (c : Nat) (res : AccResult) : (State.fetchBack s c res).hush = s.hush := (rfl)

@[simp] theorem State.readBack_hush (s : State) (a : Access) (c : Nat) (b : Nat) (res : AccResult) :
    (State.readBack s a c b res).hush = s.hush := by
  unfold State.readBack
  dsimp only
  (repeat' split) <;> simp

/-! ### Channels -/

@[simp] theorem State.modTideVal_hush (s : State) (k : Nat) (f : BitVec 64 → BitVec 64) : (State.modTideVal s k f).hush = s.hush := (rfl)

@[simp] theorem State.tideRefuse_hush (s : State) : (State.tideRefuse s).hush = s.hush := (rfl)

@[simp] theorem State.tideAdd_hush (s : State) (n : Nat) (p : Option Nat) (amount : Nat) :
    (State.tideAdd s n p amount).2.hush = s.hush := by
  unfold State.tideAdd
  split <;> simp

@[simp] theorem State.tideCredit_hush (s : State) (n : Nat) (p : Option Nat) (bytes : Nat) :
    (State.tideCredit s n p bytes).2.hush = s.hush := by simp [State.tideCredit]

@[simp] theorem State.writeBack_hush (s : State) (a : Access) (c : Nat) (res : AccResult) : (State.writeBack s a c res).hush = s.hush := by
  unfold State.writeBack
  (repeat' split) <;> simp [apply_ite State.hush]

/-- Without a chart a channel's vector is 0. -/
theorem State.chanEntry_vector_of_armed {s : State} (h : s.armed = true) (c : Nat) : (s.chanEntry c).vector ≠ 5 := by
  obtain ⟨-, -, -, -, -, -, hchart, -⟩ := State.armed_parts h
  simp [State.chanEntry, State.theChart, hchart]

@[simp] theorem State.countDown_hush (s : State) (c : Nat) (fenceLost : Bool) : (s.countDown c fenceLost).hush = s.hush := by
  unfold State.countDown
  dsimp only
  split
  · exact State.modChan_hush ..
  · split
    · exact (State.raiseVector_hush _ fun h => State.chanEntry_vector_of_armed h c).trans (State.modChan_hush ..)
    · exact State.modChan_hush ..

@[simp] theorem State.endList_hush (s : State) (c : Nat) (q : Option Nat) : (State.endList s c q).hush = s.hush := by
  unfold State.endList
  split <;> simp

@[simp] theorem State.stopAfter_hush (s : State) (c : Nat) (q : Option Nat) : (State.stopAfter s c q).hush = s.hush := by
  unfold State.stopAfter
  (repeat' split) <;> simp

@[simp] theorem State.finishDesc_hush (s : State) (c : Nat) : (State.finishDesc s c).hush = s.hush := by
  unfold State.finishDesc
  (repeat' split) <;> simp

@[simp] theorem State.setPending_hush (s : State) (c : Nat) (q : Option Nat) (st : Status) :
    (State.setPending s c q st).hush = s.hush := by
  unfold State.setPending
  split <;> simp

@[simp] theorem State.attach_hush (s : State) (c : Nat) (q : Option Nat) (st : Status) :
    (State.attach_ s c q st).hush = s.hush := by simp [State.attach_, apply_ite State.hush]

@[simp] theorem State.fenceStep_hush (s : State) (c : Nat) : (State.fenceStep s c).hush = s.hush := by
  unfold State.fenceStep
  (repeat' split) <;> simp

@[simp] theorem State.fenceBack_hush (s : State) (c : Nat) (st : Status) : (State.fenceBack s c st).hush = s.hush := by
  unfold State.fenceBack
  (repeat' split) <;> simp

@[simp] theorem State.seqFailed_hush (s : State) (c : Nat) (st : Status) : (State.seqFailed s c st).hush = s.hush := (rfl)

@[simp] theorem State.seqHeaderBack_hush (s : State) (c : Nat) (dst : Bool) (res : AccResult) :
    (State.seqHeaderBack s c dst res).hush = s.hush := by
  unfold State.seqHeaderBack
  dsimp only
  (repeat' split) <;> simp

@[simp] theorem State.entryPoison_hush (s : State) (c : Nat) (pu : Purpose) (va : BitVec 64) :
    (State.entryPoison s c pu va).hush = s.hush := by simp [State.entryPoison, apply_ite State.hush]

@[simp] theorem State.modSeq_hush (s : State) (c : Nat) (dst : Bool) (f : SeqMap → SeqMap) :
    (State.modSeq s c dst f).hush = s.hush := (rfl)

@[simp] theorem State.seqEntryBack_hush (s : State) (c : Nat) (dst : Bool) (b : Nat) (res : AccResult) :
    (State.seqEntryBack s c dst b res).hush = s.hush := by
  unfold State.seqEntryBack
  (repeat' split) <;> simp

@[simp] theorem State.rangeBack_hush (s : State) (c : Nat) (res : AccResult) : (State.rangeBack s c res).hush = s.hush := by
  unfold State.rangeBack
  (repeat' split) <;> simp [apply_ite State.hush]

@[simp] theorem State.probeBack_hush (s : State) (c : Nat) (last : Bool) (res : AccResult) :
    (State.probeBack s c last res).hush = s.hush := by simp [State.probeBack, apply_ite State.hush]

@[simp] theorem State.entryBack_hush (s : State) (walk : Nat) (res : AccResult) : (State.entryBack s walk res).hush = s.hush := (rfl)

/-! ### Landings, events, the journal and result slots -/

/-- Without a chart no partition has an entry. -/
theorem State.armed_of_partEntry {s : State} {p : Nat} {e : PartEntry} (h : s.partEntry p = some e) : s.armed = false := by
  refine Bool.eq_false_iff.mpr fun ha => ?_
  obtain ⟨-, -, -, -, -, -, hchart, -⟩ := State.armed_parts ha
  simp [State.partEntry, State.theChart, hchart] at h

@[simp] theorem State.landingWritten_hush (s : State) (p : Nat) (st : Status) : (s.landingWritten p st).hush = s.hush := by
  unfold State.landingWritten
  dsimp only
  split
  · rfl
  · split
    · split
      · split
        · next h =>
          refine (State.raiseVector_hush _ fun ha => ?_).trans (State.setLanding_hush ..)
          rw [State.armed_of_partEntry h] at ha
          exact Bool.noConfusion ha
        · exact State.setLanding_hush ..
      · exact State.setLanding_hush ..
    · (repeat' split) <;> simp only [State.fail_hush, State.modStall_hush, State.setLanding_hush, State.stallSettle_hush]

@[simp] theorem State.mgmtIrq_hush (s : State) : s.mgmtIrq.hush = s.hush := by
  unfold State.mgmtIrq
  split
  · next h =>
    refine State.raiseVector_hush s fun ha => ?_
    obtain ⟨-, -, -, -, -, -, -, hmgmt, -⟩ := State.armed_parts ha
    rw [hmgmt] at h
    exact Bool.noConfusion h
  · rfl

@[simp] theorem State.dropEvent_hush (s : State) (tel : Bool) : (State.dropEvent s tel).hush = s.hush := (rfl)

@[simp] theorem State.eventBack_hush (s : State) (st : Status) :
    (State.eventBack s st).hush = s.hush := by simp [State.eventBack, apply_ite State.hush]

@[simp] theorem State.jnlWrite_hush (s : State) : (State.jnlWrite s).hush = s.hush := by
  unfold State.jnlWrite
  (repeat' split) <;> simp

@[simp] theorem State.zeroRecord_hush (s : State) (j : AllocJob) : (State.zeroRecord s j).hush = s.hush := by simp [State.zeroRecord]

/-- A vector raised only where the journal's is valid. -/
theorem State.jnlVector_hush (s : State) {b : Prop} [Decidable b] {v : Nat} (h : b → s.alloc.jnlVecOn = true) :
    (if b then s.raiseVector v else s).hush = s.hush := by
  split
  · next hb =>
    refine State.raiseVector_hush s fun ha => ?_
    obtain ⟨-, -, -, -, -, -, -, -, -, hjnl⟩ := State.armed_parts ha
    rw [h hb] at hjnl
    exact Bool.noConfusion hjnl
  · rfl

@[simp] theorem State.jnlBack_hush (s : State) (st : Status) : (s.jnlBack st).hush = s.hush := by
  unfold State.jnlBack
  dsimp only
  split
  · rfl
  · generalize ht : (if (st == Status.ok && s.alloc.jnlVecOn) = true then _ else _) = t
    have hhush : t.hush = s.hush := by
      rw [← ht]
      refine (State.jnlVector_hush _ ?_).trans ?_
      · exact fun h => (Bool.and_eq_true_iff.mp h).2
      · rw [State.hush_mk, State.hush_eta]
    (repeat' split) <;> simp only [State.jnlWrite_hush, State.jobEnd_hush, State.modJob_hush, State.zeroRecord_hush, hhush]

@[simp] theorem State.slotRecord_hush (s : State) (n : Nat) (st : Status) : (s.slotRecord n st).hush = s.hush :=
  (rfl : _ = State.hush (State.record _ _)).trans (State.record_hush _ (by exact Slice.noConfusion))

@[simp] theorem State.setSlot_hush (s : State) (k : Nat) (v : Slot) : (State.setSlot s k v).hush = s.hush := (rfl)

@[simp] theorem State.modSlot_hush (s : State) (k : Nat) (f : Slot → Slot) : (State.modSlot s k f).hush = s.hush := (rfl)

@[simp] theorem State.slotFree_hush (s : State) (n : Nat) : (State.slotFree s n).hush = s.hush := by simp [State.slotFree]

@[simp] theorem State.slotFail_hush (s : State) (n : Nat) (st : Status) : (State.slotFail s n st).hush = s.hush := by simp [State.slotFail]

@[simp] theorem State.slotDone_hush (s : State) (n : Nat) : (State.slotDone s n).hush = s.hush := by
  unfold State.slotDone
  dsimp only
  (repeat' split) <;> simp

@[simp] theorem State.resultBack_hush (s : State) (n : Nat) (st : Status) :
    (State.resultBack s n st).hush = s.hush := by simp [State.resultBack, apply_ite State.hush]

/-! ### Peer ports, and lines the home agent has read or written -/

@[simp] theorem State.setPeer_hush (s : State) (k : Nat) (v : PeerPort) : (State.setPeer s k v).hush = s.hush := (rfl)

@[simp] theorem State.modPeer_hush (s : State) (k : Nat) (f : PeerPort → PeerPort) : (State.modPeer s k f).hush = s.hush := (rfl)

@[simp] theorem State.sendFlit_hush (s : State) (p : Nat) (sl : List Bytes) (nak : Bool) :
    (State.sendFlit s p sl nak).hush = s.hush := by simp [State.sendFlit, apply_ite State.hush]

@[simp] theorem State.sendFlits_hush (p n : Nat) (l : List Bytes) (s : State) : (State.sendFlits p n l s).hush = s.hush := by
  induction n generalizing l s with
  | zero => rfl
  | succ n ih =>
    unfold State.sendFlits
    split
    · rfl
    · rw [ih, State.sendFlit_hush]

@[simp] theorem State.sendWaiting_hush (p n : Nat) (l : List Packet) (st : List PktClass) (s : State) :
    (State.sendWaiting p n l st s).hush = s.hush := by
  induction n generalizing l st s with
  | zero => rfl
  | succ n ih =>
    cases l with
    | nil => rfl
    | cons k rest =>
      unfold State.sendWaiting
      split
      · exact ih _ _ _
      · dsimp only; rw [ih, State.sendFlits_hush, State.modPeer_hush]

@[simp] theorem State.flushPort_hush (s : State) (p : Nat) : (State.flushPort s p).hush = s.hush := by simp [State.flushPort]

@[simp] theorem State.queueOn_hush (s : State) (p : Nat) (k : Packet) : (State.queueOn s p k).hush = s.hush := by simp [State.queueOn]

@[simp] theorem State.sendPacket_hush (s : State) (k : Packet) : (State.sendPacket s k).hush = s.hush := by
  unfold State.sendPacket
  split <;> simp

@[simp] theorem State.peerServed_hush (s : State) (a : Access) (tag : BitVec 16) (src : BitVec 12) (res : AccResult) :
    (State.peerServed s a tag src res).hush = s.hush := by
  unfold State.peerServed
  (repeat' split) <;> simp

@[simp] theorem State.modFilter_hush (s : State) (f : List FilterEntry → List FilterEntry) : (State.modFilter s f).hush = s.hush := (rfl)

@[simp] theorem State.dropTxn_hush (s : State) (id : Nat) : (State.dropTxn s id).hush = s.hush := (rfl)

@[simp] theorem State.grant_hush (s : State) (line : Nat) (mask : BitVec 8) (excl : Bool) :
    (State.grant s line mask excl).hush = s.hush := (rfl)

@[simp] theorem State.hostReadDone_hush (s : State) (t : HomeTxn) (n : Nat) (tag : Nat) (mv : MetaValue) (data : Bytes) (bad : Bool) :
    (State.hostReadDone s t n tag mv data bad).hush = s.hush := by
  unfold State.hostReadDone
  dsimp only
  (repeat' split) <;> simp

@[simp] theorem State.ownData_hush (s : State) (t : HomeTxn) (st : Status) (data : Bytes) (bad : Bool) :
    (State.ownData s t st data bad).hush = s.hush := by
  unfold State.ownData
  split <;> simp

@[simp] theorem State.lineDone_hush (s : State) (id : Nat) (i : Nat) (st : Status) (data : Bytes) (bad : Bool) :
    (State.lineDone s id i st data bad).hush = s.hush := by
  unfold State.lineDone
  (repeat' split) <;> simp [apply_ite State.hush]

@[simp] theorem State.homeMem_hush (s : State) (pu : Purpose) (part : Option Nat) (k : AccKind) (addr : Nat) (data : Bytes)
    (be : List Bool) (poison : Bool) :
    (State.homeMem s pu part k addr data be poison).hush = s.hush := (rfl)

@[simp] theorem State.modTxn_hush (s : State) (id : Nat) (f : HomeTxn → HomeTxn) : (State.modTxn s id f).hush = s.hush := (rfl)

@[simp] theorem State.atomicRead_hush (s : State) (t : HomeTxn) (a : Access) (op : AtomicOp) (res : AccResult) :
    (State.atomicRead s t a op res).hush = s.hush := by simp [State.atomicRead, apply_ite State.hush]

@[simp] theorem State.ackConflicts_hush (s : State) (n : Nat) (line : Nat) :
    (State.ackConflicts s n line).hush = s.hush := by simp [State.ackConflicts]

@[simp] theorem State.wbFree_hush (s : State) (n : Nat) : (State.wbFree s n).hush = s.hush := (rfl)

@[simp] theorem State.unhold_hush (s : State) (line : Nat) (i : Nat) : (State.unhold s line i).hush = s.hush := (rfl)

@[simp] theorem State.hostWriteFilter_hush (s : State) (line : Nat) (n : Nat) (mv : MetaValue) (owner : Bool) :
    (State.hostWriteFilter s line n mv owner).hush = s.hush := by
  unfold State.hostWriteFilter
  (repeat' split) <;> simp

@[simp] theorem State.homeBack_hush (s : State) (id : Nat) (res : AccResult) : (State.homeBack s id res).hush = s.hush := by
  unfold State.homeBack
  (repeat' split) <;> simp

@[simp] theorem State.wbBack_hush (s : State) (n : Nat) (tag : Nat) (line : Nat) :
    (State.wbBack s n tag line).hush = s.hush := by simp [State.wbBack, apply_ite State.hush]

@[simp] theorem State.hdmBack_hush (s : State) (n : Nat) (tag : Nat) (isRead : Bool) (res : AccResult) :
    (State.hdmBack s n tag isRead res).hush = s.hush := by simp [State.hdmBack, apply_ite State.hush]

@[simp] theorem State.nearGone_hush (s : State) (line : BitVec 60) (wb : Nat) : (State.nearGone s line wb).hush = s.hush := (rfl)

/-! ### Tables, bulk writes and releases; what an access was for -/

@[simp] theorem State.tablesFound_hush (s : State) (j : AllocJob) : (State.tablesFound s j).hush = s.hush := by
  unfold State.tablesFound
  (repeat' split) <;> simp

@[simp] theorem State.seekRead_hush (s : State) (id : Nat) (g : Nat) (level : Nat) (table : BitVec 60) :
    (State.seekRead s id g level table).hush = s.hush := (rfl)

@[simp] theorem State.seekNext_hush (s : State) (j : AllocJob) : (State.seekNext s j).hush = s.hush := by
  unfold State.seekNext
  (repeat' split) <;> simp

@[simp] theorem State.seekBack_hush (s : State) (id : Nat) (res : AccResult) : (State.seekBack s id res).hush = s.hush := by
  unfold State.seekBack
  dsimp only
  (repeat' split) <;> simp

@[simp] theorem State.bulkBack_hush (s : State) (id : Nat) (st : Status) :
    (State.bulkBack s id st).hush = s.hush := by simp [State.bulkBack]

@[simp] theorem State.recordRest_hush (s : State) (a : Access) (d : Bytes) : (State.recordRest s a d).hush = s.hush := by
  unfold State.recordRest
  split <;> simp

theorem State.freeNew_hush {s t : State} {a : AllocAsker} {w : Option Nat} {r : Bytes} {v : BitVec 64} {n : Nat}
    (h : s.freeNew a w r v n = .inr t) : t.hush = s.hush := by
  unfold State.freeNew at h
  dsimp only at h
  (repeat' split at h) <;> cases h
  exact State.jobNew_hush ..

@[simp] theorem State.freeBack_hush (s : State) (a : Access) (who : AllocAsker) (amount : Nat) (res : AccResult) :
    (State.freeBack s a who amount res).hush = s.hush := by
  unfold State.freeBack
  dsimp only
  split
  · next h =>
    split at h
    · cases h
    · split at h
      · cases h
      · split at h
        · rw [← Sum.inr.inj h, State.recordRest_hush]
        · exact State.freeNew_hush h
  · split <;> simp

@[simp] theorem State.seekStart_hush (s : State) (j : AllocJob) :
    (State.seekStart s j).hush = s.hush := by simp [State.seekStart, apply_ite State.hush]

@[simp] theorem State.countBack_hush (s : State) (id : Nat) (res : AccResult) : (State.countBack s id res).hush = s.hush := by
  unfold State.countBack
  dsimp only
  (repeat' split) <;> simp

@[simp] theorem State.pieceBack_hush (s : State) (c : Nat) (st : Status) (answered : Bool) :
    (State.pieceBack s c st answered).hush = s.hush := by
  unfold State.pieceBack
  dsimp only
  (repeat' split) <;> simp

@[simp] theorem State.signalBack_hush (s : State) (c : Nat) (st : Status) :
    (State.signalBack s c st).hush = s.hush := by simp [State.signalBack, apply_ite State.hush]

@[simp] theorem State.invVector_hush (s : State) : s.invVector.hush = s.hush := by
  unfold State.invVector
  split
  · next h =>
    refine State.raiseVector_hush s fun ha => ?_
    obtain ⟨-, -, -, -, -, -, -, -, hinv, -⟩ := State.armed_parts ha
    rw [hinv] at h
    exact Bool.noConfusion h
  · rfl

theorem State.tell_hush (s : State) (a : Access) (res : AccResult) (h : a.purpose ≠ .ras) : (s.tell a res).hush = s.hush := by
  unfold State.tell
  cases hp : a.purpose with
  | ras => exact absurd hp h
  | _ => simp [apply_ite State.hush]

theorem State.bulkDone_hush {s t : State} {b : BulkJob} (h : s.bulkDone = some (b, t)) : t.hush = s.hush := by
  unfold State.bulkDone at h
  split at h
  · cases h; rfl
  · cases h

@[simp] theorem State.modHost_hush (s : State) (k : Nat) (f : HostPort → HostPort) : (State.modHost s k f).hush = s.hush := (rfl)

@[simp] theorem State.invSubmit_hush (s : State) (c : InvCmd) : (State.invSubmit s c).hush = s.hush := by
  unfold State.invSubmit
  (repeat' split) <;> simp

@[simp] theorem State.jnlPush_hush (s : State) (j : AllocJob) (map : Bool) : (State.jnlPush s j map).hush = s.hush := by
  unfold State.jnlPush
  (repeat' split) <;> simp

@[simp] theorem State.jobWritten_hush (s : State) (id : Nat) (st : Status) : (State.jobWritten s id st).hush = s.hush := by
  unfold State.jobWritten
  (repeat' split) <;> simp

@[simp] theorem State.untorn_hush (s : State) (p : Nat) (all : Bool) : (State.untorn s p all).hush = s.hush := (rfl)

@[simp] theorem State.poolMend_hush (s : State) (seq : BitVec 32) (p : Nat) (k : Pool) (st : Status) :
    (State.poolMend s seq p k st).hush = s.hush := by simp [State.poolMend, apply_ite State.hush]

@[simp] theorem State.attachEnd_hush (s : State) (seq : BitVec 32) (p : Nat) (k : Pool) (st : Status) :
    (State.attachEnd s seq p k st).hush = s.hush := by simp [State.attachEnd, apply_ite State.hush]

@[simp] theorem State.scrubWritten_hush (s : State) (seq : BitVec 32) (st : Status) : (State.scrubWritten s seq st).hush = s.hush := (rfl)

@[simp] theorem State.saveWritten_hush (s : State) (seq : BitVec 32) (st : Status) :
    (State.saveWritten s seq st).hush = s.hush := by simp [State.saveWritten, apply_ite State.hush]

@[simp] theorem State.bulkOver_hush (s : State) (b : BulkJob) : (State.bulkOver s b).hush = s.hush := by
  unfold State.bulkOver
  (repeat' split) <;> simp

@[simp] theorem State.bulkEnds_hush (n : Nat) (s : State) : (State.bulkEnds n s).hush = s.hush := by
  induction n generalizing s with
  | zero => rfl
  | succ n ih =>
    unfold State.bulkEnds
    split
    · rename_i h
      rw [ih, State.bulkOver_hush, State.bulkDone_hush h]
    · rfl

/-! ### The secure engine and mode changes -/

@[simp] theorem State.setSealRange_hush (s : State) (k : Nat) (v : SealRange) : (State.setSealRange s k v).hush = s.hush := (rfl)

@[simp] theorem State.regionRsp_hush (s : State) (seq : BitVec 32) (st : Status) (num : BitVec 64) (flags : Nat) :
    (State.regionRsp s seq st num flags).hush = s.hush := (rfl)

@[simp] theorem State.setRegion_hush (s : State) (k : Nat) (v : Option Region) : (State.setRegion s k v).hush = s.hush := (rfl)

@[simp] theorem State.regionDrop_hush (s : State) (seq : BitVec 32) (k : Nat) (retire : Bool) :
    (State.regionDrop s seq k retire).hush = s.hush := by
  unfold State.regionDrop
  (repeat' split) <;> simp

@[simp] theorem State.putSeal_hush (s : State) (k : Nat) (base : Nat) (len : Nat) : (State.putSeal s k base len).hush = s.hush := (rfl)

@[simp] theorem State.clearIntact_hush (s : State) (a : Nat) (n : Nat) : (State.clearIntact s a n).hush = s.hush := (rfl)

@[simp] theorem State.jobBegin_hush (s : State) (j : SecJob) : (State.jobBegin s j).1.hush = s.hush := by
  unfold State.jobBegin
  (repeat' split) <;> simp

@[simp] theorem State.secNext_hush (n : Nat) (s : State) : (State.secNext n s).hush = s.hush := by
  induction n generalizing s with
  | zero => rfl
  | succ n ih =>
    unfold State.secNext
    split
    · rfl
    · split
      · rfl
      · simp [ih]
      · simp [ih]
      · dsimp only
        (repeat' split) <;> simp [ih]

@[simp] theorem State.secGo_hush (s : State) : (State.secGo s).hush = s.hush := by simp [State.secGo]

@[simp] theorem State.modeFence_hush (s : State) (m : ModeChange) (st : Status) :
    (State.modeFence s m st).hush = s.hush := by simp [State.modeFence, apply_ite State.hush]

@[simp] theorem State.pushUnsolicited_hush (s : State) (e : Event) : (State.pushUnsolicited s e).hush = s.hush := by
  unfold State.pushUnsolicited
  (repeat' split) <;> simp

@[simp] theorem State.modeResult_hush (s : State) (m : ModeChange) (outcome : Nat) (phase : Nat) (missing : List UnitRef) :
    (State.modeResult s m outcome phase missing).hush = s.hush := by simp [State.modeResult]

@[simp] theorem State.modMarginOf_hush (s : State) (k : Nat) (f : MarginState → MarginState) :
    (State.modMarginOf s k f).hush = s.hush := (rfl)

@[simp] theorem State.historyWrite_hush (s : State) (off : Nat) (b : Bytes) : (State.historyWrite s off b).hush = s.hush := (rfl)

@[simp] theorem State.historySave_hush (s : State) (k : Nat) :
    (State.historySave s k).hush = s.hush := by simp [State.historySave, apply_ite State.hush]

@[simp] theorem State.modeFinish_hush (s : State) (m : ModeChange) :
    (State.modeFinish s m).hush = s.hush := by simp [State.modeFinish, apply_ite State.hush]

@[simp] theorem State.supplyRestore_hush (sl : Slice) (s : State) :
    (State.supplyRestore sl s).hush = s.hush := by simp [State.supplyRestore, apply_ite State.hush]

@[simp] theorem State.supplyGo_hush (sl : Slice) (s : State) : (State.supplyGo sl s).hush = s.hush := by
  unfold State.supplyGo
  dsimp only
  (repeat' split) <;> simp

@[simp] theorem State.setBurstTear_hush (s : State) (k : Nat) (v : Bool) : (State.setBurstTear s k v).hush = s.hush := (rfl)

@[simp] theorem State.modPipe_hush (s : State) (k : Nat) (f : Pipeline → Pipeline) : (State.modPipe s k f).hush = s.hush := (rfl)

@[simp] theorem State.modClock_hush (s : State) (k : Slice) (f : ClockState → ClockState) (h : ∀ c, (f c).dead = c.dead) :
    (s.modClock k f).hush = s.hush := State.setClock_hush s k (h _)

@[simp] theorem State.unitSet_hush (m : ModeChange) (new : Bool) (u : UnitRef) (s : State) : (State.unitSet m new u s).hush = s.hush := by
  unfold State.unitSet
  (repeat' split) <;> simp

@[simp] theorem State.modeAdvance_hush (s : State) : (State.modeAdvance s).hush = s.hush := by
  unfold State.modeAdvance
  (repeat' split) <;> simp

@[simp] theorem State.modePump_hush (s : State) : (State.modePump s).hush = s.hush := by
  unfold State.modePump
  (repeat' split) <;> simp

/-! ### Stored packets, stalls, events and shedding -/

@[simp] theorem State.giveCredits_hush (s : State) (p : Nat) (cls : PktClass) (n : Nat) :
    (State.giveCredits s p cls n).hush = s.hush := by simp [State.giveCredits, apply_ite State.hush]

@[simp] theorem State.dropHeader_hush (s : State) (p : Nat) : (State.dropHeader s p).hush = s.hush := (rfl)

@[simp] theorem State.refusePacket_hush (s : State) (k : Packet) (st : Status) :
    (State.refusePacket s k st).hush = s.hush := by simp [State.refusePacket]

@[simp] theorem State.mgmtAnswer_hush (s : State) (p : Nat) (k : Packet) (st : Status) (reply : Bytes) :
    (State.mgmtAnswer s p k st reply).hush = s.hush := by
  unfold State.mgmtAnswer
  dsimp only
  (repeat' split) <;> simp

@[simp] theorem State.packetIn_hush (s : State) (p : Nat) (sl : List Bytes) : (s.packetIn p sl).hush = s.hush := by
  unfold State.packetIn
  simp only [apply_ite State.hush, ite_self, State.dropHeader_hush, State.giveCredits_hush, State.mgmtAnswer_hush, State.modPeer_hush,
    State.record_hush, State.refusePacket_hush, State.errRec, ne_eq, reduceCtorEq, not_false_eq_true]

@[simp] theorem State.storedIn_hush (p : Nat) (s : State) :
    (State.storedIn p s).hush = s.hush := by simp [State.storedIn, apply_ite State.hush]

@[simp] theorem State.stallGo_hush (st : Nat) (s : State) : (State.stallGo st s).hush = s.hush := by
  unfold State.stallGo
  (repeat' split) <;> simp

@[simp] theorem State.stallPump_hush (s : State) : (State.stallPump s).hush = s.hush := by simp [State.stallPump]

@[simp] theorem State.eventWrite_hush (s : State) : (State.eventWrite s).hush = s.hush := by
  unfold State.eventWrite
  simp only [apply_ite State.hush]
  (repeat' split) <;> simp

@[simp] theorem State.busyEvent_hush (s : State) (c : Nat) (level : Nat) :
    (State.busyEvent s c level).hush = s.hush := by simp [State.busyEvent]

@[simp] theorem State.modCore_hush (s : State) (k : Nat) (f : Core → Core) : (State.modCore s k f).hush = s.hush := (rfl)

@[simp] theorem State.shedOne_hush (c : Nat) (s : State) :
    (State.shedOne c s).hush = s.hush := by simp [State.shedOne, apply_ite State.hush]

@[simp] theorem State.shedCheck_hush (s : State) : (State.shedCheck s).hush = s.hush := by simp [State.shedCheck]

/-! ### Channels going on -/

@[simp] theorem State.headersIn_hush (s : State) (c : Nat) (r : Running) :
    (State.headersIn s c r).hush = s.hush := by simp [State.headersIn, apply_ite State.hush]

@[simp] theorem State.placeContribution_hush (s : State) (c : Nat) (r : Running) : (State.placeContribution s c r).hush = s.hush := by
  unfold State.placeContribution
  (repeat' split) <;> simp

@[simp] theorem State.sendPiece_hush (s : State) (c : Nat) (r : Running) (inst : Nat) (offset : Nat) (bs : MarkedBytes) :
    (State.sendPiece s c r inst offset bs).hush = s.hush := by simp [State.sendPiece, apply_ite State.hush]

@[simp] theorem State.cutPiece_hush (s : State) (c : Nat) : (State.cutPiece s c).hush = s.hush := by
  unfold State.cutPiece
  (repeat' split) <;> simp [apply_ite State.hush]

@[simp] theorem State.nextRange_hush (s : State) (c : Nat) (r : Running) :
    (State.nextRange s c r).hush = s.hush := by simp [State.nextRange, apply_ite State.hush]

@[simp] theorem State.lastBytes_hush (s : State) (c : Nat) (r : Running) :
    (State.lastBytes s c r).hush = s.hush := by simp [State.lastBytes, apply_ite State.hush]

@[simp] theorem State.resendHeader_hush (s : State) (c : Nat) (r : Running) : (State.resendHeader s c r).hush = s.hush := by
  unfold State.resendHeader
  (repeat' split) <;> simp

@[simp] theorem State.readSeqEntry_hush (s : State) (c : Nat) (dst : Bool) (m : SeqMap) (b : Nat) :
    (State.readSeqEntry s c dst m b).hush = s.hush := by simp [State.readSeqEntry]

@[simp] theorem State.seqFault_hush (s : State) (c : Nat) (dst : Bool) (va : BitVec 64) (cause : Cause) (b : Nat) (l : Int) :
    (State.seqFault s c dst va cause b l).hush = s.hush := by simp [State.seqFault, apply_ite State.hush]

@[simp] theorem State.resolveSide_hush (s : State) (c : Nat) (dst : Bool) (m : Option SeqMap) (l : Int) :
    (State.resolveSide s c dst m l).2.hush = s.hush := by
  unfold State.resolveSide
  (repeat' split) <;> simp

@[simp] theorem State.nextRead_hush (s : State) (c : Nat) (r : Running) : (State.nextRead s c r).2.hush = s.hush := by
  unfold State.nextRead
  dsimp only
  (repeat' split) <;> simp

theorem elim_hush {α : Type} (o : Option α) (s : State) (f : α → State) (h : ∀ x, (f x).hush = s.hush) : (o.elim s f).hush = s.hush := by
  cases o with
  | none => rfl
  | some x => exact h x

@[simp] theorem State.advanceChan_hush (c : Nat) (s : State) : (State.advanceChan c s).hush = s.hush := by
  unfold State.advanceChan
  split
  · rfl
  · split
    · dsimp only
      split <;> simp only [State.placeContribution_hush, State.headersIn_hush]
    · dsimp only
      refine (elim_hush _ _ _ (fun x => ?_)).trans ?_
      · split <;> simp only [State.modRun_hush]
      refine (elim_hush _ _ _ (fun x => ?_)).trans ?_
      · split
        · split <;> simp only [State.resolveSide_hush]
        · rfl
      refine (elim_hush _ _ _ (fun x => ?_)).trans ?_
      · split <;> simp only [State.nextRead_hush]
      refine (elim_hush _ _ _ (fun x => State.resendHeader_hush _ _ _)).trans ?_
      refine (elim_hush _ _ _ (fun x => State.lastBytes_hush _ _ _)).trans ?_
      refine (elim_hush _ _ _ (fun x => State.nextRange_hush _ _ _)).trans ?_
      refine (State.cutPiece_hush _ _).trans ?_
      refine (elim_hush _ _ _ (fun x => State.placeContribution_hush _ _ _)).trans ?_
      rw [State.modRun_hush]
    · rfl

@[simp] theorem State.sluiceNote_hush (s : State) (d : Words) (n : SluiceNote) :
    (State.sluiceNote s d n).hush = s.hush := by simp [State.sluiceNote, apply_ite State.hush]

@[simp] theorem State.takeReads_hush (c n : Nat) (s : State) : (State.takeReads c n s).hush = s.hush := by
  induction n generalizing s with
  | zero => rfl
  | succ n ih =>
    unfold State.takeReads
    split
    · split
      · split
        · dsimp only
          split
          · rfl
          · rw [ih]
            simp only [State.sluiceNote_hush, State.modRun_hush]
        · rfl
      · rfl
    · rfl

@[simp] theorem State.chanGo_hush (c : Nat) (s : State) : (State.chanGo c s).hush = s.hush := by simp [State.chanGo]

@[simp] theorem State.chansGo_hush (s : State) : (State.chansGo s).hush = s.hush := by simp [State.chansGo]

/-! ### Accesses going out -/

@[simp] theorem State.homeOpen_hush (a : Access) (i : Nat) (s : State) : (State.homeOpen a i s).hush = s.hush := (rfl)

@[simp] theorem State.issueCacheLine_hush (n : Nat) (hpa : Nat) (a : Access) (i : Nat) (s : State) :
    (State.issueCacheLine n hpa a i s).hush = s.hush := (rfl)

@[simp] theorem State.issueHost_hush (s : State) (a : Access) (w : HostWin) : (State.issueHost s a w).hush = s.hush := by
  unfold State.issueHost
  (repeat' split) <;> simp [apply_ite State.hush]

@[simp] theorem State.modStackState_hush (s : State) (k : Nat) (f : StackState → StackState) :
    (State.modStackState s k f).hush = s.hush := (rfl)

@[simp] theorem State.takeTokens_hush (s : State) (a : Access) :
    (State.takeTokens s a).hush = s.hush := by simp [State.takeTokens, apply_ite State.hush]

@[simp] theorem State.modMem_hush (s : State) (k : Nat) (f : MemPort → MemPort) : (State.modMem s k f).hush = s.hush := (rfl)

@[simp] theorem State.issueMem_hush (s : State) (a : Access) : (State.issueMem s a).hush = s.hush := by
  unfold State.issueMem
  (repeat' split) <;> simp

@[simp] theorem State.route_hush (s : State) (a : Access) : (State.route s a).hush = s.hush := by
  unfold State.route
  dsimp only
  (repeat' split) <;> simp

@[simp] theorem State.tryIssue_hush (id : Nat) (s : State) : (State.tryIssue id s).hush = s.hush := by
  unfold State.tryIssue
  (repeat' split) <;> simp

@[simp] theorem State.issueHeld_hush (s : State) : (State.issueHeld s).hush = s.hush := by simp [State.issueHeld]

/-! ### The home agent going on -/

@[simp] theorem State.track_hush (s : State) (access : Nat) (port : Nat) (op : BitVec 6) (dst : BitVec 12) (own : Bool) :
    (State.track s access port op dst own).2.hush = s.hush := (rfl)

@[simp] theorem State.sendSnoop_hush (id : Nat) (line : Nat) (i : Nat) (inv : Bool) (s : State) :
    (State.sendSnoop id line i inv s).hush = s.hush := by simp [State.sendSnoop, apply_ite State.hush]

@[simp] theorem State.sendSnoops_hush (s : State) (id : Nat) (line : Nat) (l : List (Prod Nat (Prod Bool Bool))) :
    (State.sendSnoops s id line l).hush = s.hush := by simp [State.sendSnoops]

@[simp] theorem State.serveTxn_hush (s : State) (t : HomeTxn) : (State.serveTxn s t).hush = s.hush := by
  unfold State.serveTxn
  (repeat' split) <;> simp

@[simp] theorem State.grantWay_hush (s : State) (t : HomeTxn) {go : State → State} (h : ∀ u, (go u).hush = u.hush) :
    (State.beginTxn.grantWay s t go).hush = s.hush := by
  unfold State.beginTxn.grantWay
  dsimp only
  (repeat' split) <;> simp only [h, State.modFilter_hush, State.sendSnoops_hush, State.modTxn_hush, State.hush_mk, State.hush_eta]

@[simp] theorem State.beginTxn_hush (s : State) (t : HomeTxn) : (s.beginTxn t).hush = s.hush := by
  have hg : ∀ (q : Bool) (l : List (Nat × Bool × Bool)) (u : State), (State.sendSnoops (u.modTxn t.id (fun t => { t with
      phase := .snooping, quiet := q })) t.id t.line.toNat l).hush = u.hush := fun q l u => by
    rw [State.sendSnoops_hush, State.modTxn_hush]
  unfold State.beginTxn
  dsimp only
  split
  · split
    · simp only [State.ownData_hush]
    · split
      · simp only [State.ownData_hush]
      · exact State.grantWay_hush _ _ (fun u => hg _ _ u)
  · split
    · split
      · simp only [State.sendPacket_hush, State.unhold_hush, State.dropTxn_hush]
      · rw [hg, State.clearIntact_hush]
    · simp only [State.sendPacket_hush, State.dropTxn_hush]
  · split
    · simp only [State.dropTxn_hush]
    · split
      · simp only [State.finish_hush, State.dropTxn_hush]
      · exact hg _ _ _
  · exact (State.grantWay_hush _ _ (fun u => hg _ _ u)).trans (State.modTxn_hush ..)
  · exact hg _ _ _
  · exact hg _ _ _
  · simp only [State.dropTxn_hush]

@[simp] theorem State.stepTxn_again_hush (id : Nat) (s : State) : (State.stepTxn.again id s).hush = s.hush := by
  unfold State.stepTxn.again
  dsimp only
  (repeat' split) <;> simp only [State.serveTxn_hush, State.sendSnoops_hush, State.modTxn_hush, State.modFilter_hush]

@[simp] theorem State.stepTxn_hush (id : Nat) (s : State) : (State.stepTxn id s).hush = s.hush := by
  unfold State.stepTxn
  (repeat' split) <;> simp only [State.stepTxn_again_hush, State.beginTxn_hush]

@[simp] theorem State.homePump_hush (s : State) : (State.homePump s).hush = s.hush := by simp [State.homePump]

/-! ### Requests of a host that waited -/

@[simp] theorem State.hostCut_hush (s : State) (n : Nat) (tag : Nat) (isRead : Bool) :
    (State.hostCut s n tag isRead).hush = s.hush := by simp [State.hostCut, apply_ite State.hush]

@[simp] theorem State.openTxn_hush (s : State) (line : Nat) (r : HomeReq) : (State.openTxn s line r).hush = s.hush := (rfl)

@[simp] theorem State.hostMemRd_hush (s : State) (n : Nat) (addr : Nat) (mv : MetaValue) (tag : Nat) :
    (State.hostMemRd s n addr mv tag).hush = s.hush := by simp [State.hostMemRd, apply_ite State.hush]

@[simp] theorem State.recordFor_hush (s : State) (ag : Agent) (r : ErrRec) (h : r.slice ≠ .en) : (s.recordFor ag r).hush = s.hush := by
  unfold State.recordFor
  split
  · dsimp only
    split
    · split <;> rfl
    · exact s.record_hush h
  · exact s.record_hush h

@[simp] theorem State.poisonLine_rec_hush (origin unit_ index : Nat) (p : Option Nat) (inst : Nat) (ag : Agent) (b : Bool) (s : State)
    (line now : BitVec 64) (k : Option Nat) (z : Bool) :
    (State.poisonLine.rec' origin unit_ index p inst ag b s line now k z).hush = s.hush := by
  unfold State.poisonLine.rec'
  refine (State.recordFor_hush _ _ _ ?_).trans rfl
  dsimp only [State.errRec]
  split <;> exact Slice.noConfusion

@[simp] theorem State.poisonLine_hush (s : State) (origin unit_ index : Nat) (pa : BitVec 60) (p : Option Nat) (inst : Nat) (ag : Agent)
    (b : Bool) : (s.poisonLine origin unit_ index pa p inst ag b).hush = s.hush := by
  unfold State.poisonLine
  dsimp only
  (repeat' split) <;> simp

@[simp] theorem State.hostMemWr_hush (s : State) (n : Nat) (addr : Nat) (mv : MetaValue) (partial_ : Bool) (tag : Nat) (data : Bytes)
    (be : BitVec 64) (bad : Bool) :
    (State.hostMemWr s n addr mv partial_ tag data be bad).hush = s.hush := by
  unfold State.hostMemWr
  simp only [apply_ite State.hush]
  (repeat' split) <;> simp

@[simp] theorem State.biConflict_hush (s : State) (n : Nat) (addr : BitVec 48) :
    (State.biConflict s n addr).hush = s.hush := by simp [State.biConflict, apply_ite State.hush]

@[simp] theorem State.unknownM2s_hush (s : State) (n : Nat) (isRead : Bool) (addr : Nat) (tag : Nat) :
    (s.unknownM2s n isRead addr tag).hush = s.hush := by
  simp only [State.unknownM2s, apply_ite State.hush, ite_self, State.drive_hush, ne_eq, reduceCtorEq, not_false_eq_true, implies_true,
    State.record_hush, State.errAt, State.errRec]

@[simp] theorem State.hdmH_hush (s : State) (n : Nat) (write : Bool) (addr : Nat) (tag : Nat) (data : Bytes) (be : BitVec 64) (bad : Bool) :
    (State.hdmH s n write addr tag data be bad).hush = s.hush := by simp [State.hdmH, apply_ite State.hush]

@[simp] theorem State.hostSnooped_hush (s : State) (n : Nat) (addr : BitVec 64) :
    (State.hostSnooped s n addr).hush = s.hush := by simp [State.hostSnooped]

@[simp] theorem State.countStale_hush (s : State) : (State.countStale s).hush = s.hush := (rfl)

@[simp] theorem State.snoopAnswered_hush (s : State) (t : HomeTxn) (line : Nat) (i : Nat) (keeps : Bool) :
    (State.snoopAnswered s t line i keeps).hush = s.hush := by simp [State.snoopAnswered, apply_ite State.hush]

@[simp] theorem State.biTake_hush (s : State) (n : Nat) (line : Nat) (st : BiRsp) : (State.biTake s n line st).hush = s.hush := by
  unfold State.biTake
  (repeat' split) <;> simp [apply_ite State.hush]

@[simp] theorem State.hostTake_hush (s : State) (n : Nat) (m : HostMsg) : (State.hostTake s n m).hush = s.hush := by
  unfold State.hostTake
  (repeat' split) <;> simp [apply_ite State.hush]

@[simp] theorem State.hostHeldGo_hush (s : State) :
    (State.hostHeldGo s).hush = s.hush := by simp [State.hostHeldGo, apply_ite State.hush]

/-! ### The near-atomic buffer, and a round -/

@[simp] theorem State.modNear_hush (s : State) (f : List NearLine → List NearLine) : (State.modNear s f).hush = s.hush := (rfl)

@[simp] theorem State.nearDo_hush (s : State) (a : Access) (op : AtomicOp) (l : NearLine) :
    (State.nearDo s a op l).hush = s.hush := by simp [State.nearDo, apply_ite State.hush]

@[simp] theorem State.nearEvict_hush (s : State) : (State.nearEvict s).hush = s.hush := by
  unfold State.nearEvict
  split <;> simp

@[simp] theorem State.nearTry_hush (id : Nat) (s : State) : (State.nearTry id s).hush = s.hush := by
  unfold State.nearTry
  dsimp only
  (repeat' split) <;> simp

@[simp] theorem State.nearPump_hush (s : State) : (State.nearPump s).hush = s.hush := by simp [State.nearPump]

@[simp] theorem State.presentAll_hush (s : State) : (State.presentAll s).hush = s.hush := by simp [State.presentAll]

@[simp] theorem State.round_hush (s : State) : (State.round s).hush = s.hush := by simp [State.round]

@[simp] theorem State.ungate_hush (s : State) : (State.ungate s).hush = s.hush := (rfl)

end Sys2Proof.Machine

/-! What follows a command by itself sends no message of vector 5 but by the end of the write of an error record, and a lost record sends
one (16 R393; 17 R418): the state that refutes O10. -/

namespace Sys2Proof.Machine

/-! ### What follows a command -/

theorem State.armed_eq_hush_isSome (s : State) : s.armed = s.hush.isSome := by
  cases h : s.armed with
  | true => rw [State.hush_armed h]; rfl
  | false => rw [State.hush_unarmed h]; rfl

theorem State.armed_of_hush {s t : State} (h : t.hush = s.hush) : t.armed = s.armed := by
  rw [State.armed_eq_hush_isSome, h, State.armed_eq_hush_isSome]

/-- From `s` on nothing of the quiet has changed, unless a record's write has ended. -/
def State.QuietTo (s t : State) : Prop :=
  t.armed = s.armed ∧ (s.armed = true → t.hush = s.hush ∨ t.ras.writing = none)

theorem State.QuietTo.of_hush {s t : State} (h : t.hush = s.hush) : s.QuietTo t := ⟨State.armed_of_hush h, fun _ => .inl h⟩

theorem State.writing_of_hush {s t : State} (ha : s.armed = true) (h : t.hush = s.hush) : t.ras.writing = s.ras.writing := by
  have hpair := h
  rw [State.hush_armed ((State.armed_of_hush h).trans ha), State.hush_armed ha] at hpair
  exact congrArg (·.1) (Option.some.inj hpair)

theorem State.QuietTo.trans {s t u : State} (h : s.QuietTo t) (h' : t.QuietTo u) : s.QuietTo u := by
  obtain ⟨ha, hq⟩ := h
  obtain ⟨ha', hq'⟩ := h'
  refine ⟨ha'.trans ha, fun hs => ?_⟩
  have ht : t.armed = true := ha.trans hs
  rcases hq' ht with hu | hu
  · rcases hq hs with htq | htq
    · exact .inl (hu.trans htq)
    · exact .inr ((State.writing_of_hush ht hu).trans htq)
  · exact .inr hu

theorem State.rasBack_quiet (s : State) (st : Status) : s.QuietTo (s.rasBack st) := by
  unfold State.rasBack
  split
  · exact .of_hush rfl
  · dsimp only
    split
    · exact ⟨(State.rasLose_armed _).trans rfl, fun _ => .inr (by rw [State.rasLose, State.shIrq_ras])⟩
    · split
      · exact ⟨(State.raiseVector_armed _ _).trans rfl, fun _ => .inr (by rw [State.raiseVector_ras])⟩
      · exact ⟨rfl, fun _ => .inr rfl⟩

theorem State.tell_quiet (s : State) (a : Access) (res : AccResult) : s.QuietTo (s.tell a res) := by
  by_cases h : a.purpose = .ras
  · have hseal : s.QuietTo (if res.status = .sealed ∧ a.va.isSome = true then s.sealedFault a else s) := by
      split
      · exact .of_hush (State.sealedFault_hush ..)
      · exact .of_hush rfl
    unfold State.tell
    rw [h]
    exact hseal.trans (State.rasBack_quiet ..)
  · exact .of_hush (State.tell_hush s a res h)

theorem State.settleFor_quiet (n : Nat) (s : State) : s.QuietTo (State.settleFor n s) := by
  induction n generalizing s with
  | zero => exact .of_hush rfl
  | succ n ih =>
    unfold State.settleFor
    split
    · next a r rest _ =>
      have hrest : s.QuietTo { s with ended := rest } := .of_hush rfl
      exact hrest.trans ((State.tell_quiet ..).trans (ih _))
    · have hround : s.QuietTo s.round.round := .of_hush ((State.round_hush _).trans (State.round_hush _))
      dsimp only
      split
      · exact hround.trans (.of_hush (State.ungate_hush _))
      · exact hround.trans (ih _)

theorem State.settle_quiet (s : State) : s.QuietTo s.settle := State.settleFor_quiet _ s

/-! ### The counterexample -/

/-- An error record of class SUPPLY. -/
def supplyRecord : ErrRec :=
  { seq := 0, cls := 6, status := .timeout, slice := .en, unit_ := 0x0E, index := 1, part := 0xFF, flags := 0, inst := 0, origin := 0,
    region := 0xFF, address := 0, cycles := 0, detail0 := 0, detail1 := 0 }

/-- EN awaits an acknowledgement of its supply step, 64 records wait behind the one being written, and SH_IRQ_STATUS has a vector, unmasked
at a host port in service, for a lost record alone. The CORE-CTRL crossings of SH and HD are out of service. -/
def fullBuffer : State :=
  { clocks := [(0, { dead := 0x100 }), (1, { supplyWait := true }), (2, { dead := 0x100 })],
    hosts := [(0, { readyOut := true })],
    irq := { msix := [(5, { mask := false })], enable := 0x80, vecValid := true, vector := 5 },
    ras := { writing := some supplyRecord, waiting := List.replicate 64 supplyRecord } }

def fullBufferMissed : State := fullBuffer.supplyMissed .en

theorem fullBufferMissed_armed : fullBufferMissed.armed = true := rfl

theorem fullBufferMissed_writing : fullBufferMissed.ras.writing = some supplyRecord := rfl

/-- The lost record's message follows the code on the outputs. -/
theorem fullBufferMissed_out : fullBufferMissed.out = [.msix 0 5 0 0, .supplyReq .en 0] := rfl

theorem State.settle_of_still {s : State} (he : s.ended = []) (hr : s.round.round.ended.isEmpty = true) : s.settle = s.round.round.ungate := by
  have hfuel : s.settle = State.settleFor (s.accesses.length + s.ended.length + 63 + 1) s := rfl
  rw [hfuel, State.settleFor, he]
  exact if_pos hr

/-- Nothing waits, so nothing follows. -/
theorem fullBufferMissed_settle_hush : fullBufferMissed.settle.hush = fullBufferMissed.hush := by
  rw [State.settle_of_still rfl (by decide +kernel), State.ungate_hush, State.round_hush, State.round_hush]

/-- A state that goes on to the same has sent the same messages of vector 5. -/
theorem hush_of_settle_fullBufferMissed {u : State} (h : fullBufferMissed.settle = u.settle) : u.hush = fullBufferMissed.hush := by
  obtain ⟨ha, hq⟩ := u.settle_quiet
  rw [← h] at ha hq
  have hu : u.armed = true := ha.symm.trans ((State.armed_of_hush fullBufferMissed_settle_hush).trans fullBufferMissed_armed)
  have hwriting : fullBufferMissed.settle.ras.writing = some supplyRecord :=
    (State.writing_of_hush fullBufferMissed_armed fullBufferMissed_settle_hush).trans fullBufferMissed_writing
  rcases hq hu with hsame | hnone
  · exact hsame.symm.trans fullBufferMissed_settle_hush
  · rw [hwriting] at hnone
    exact absurd hnone (Option.some_ne_none _)

/-- Refutes O10: SUPPLY_ACK_TIMEOUT's record is lost where 64 others wait, which raises bit 7 of SH_IRQ_STATUS; at `fullBuffer` that bit's
interrupt message goes out after the code, and the statement's clause has the code as the last output before waiting work goes on. Nothing
that waiting work does can send this message instead. -/
theorem not_supplyStepsAndStackTemperature : ¬ Obligations.SupplyStepsAndStackTemperature := by
  unfold Obligations.SupplyStepsAndStackTemperature
  intro h
  obtain ⟨-, -, hwait, -⟩ := h
  obtain ⟨-, -, -, hmissed⟩ := hwait fullBuffer .en rfl rfl
  obtain ⟨u, hexec, hcalm, -⟩ := hmissed rfl
  obtain ⟨hout, -⟩ := hcalm rfl
  have hsettle : fullBufferMissed.settle = u.settle := Host.Outcome.next.inj hexec
  have hhush := hush_of_settle_fullBufferMissed hsettle
  have hu : u.armed = true := (State.armed_of_hush hhush).trans fullBufferMissed_armed
  rw [State.hush_armed hu, State.hush_armed fullBufferMissed_armed, hout, fullBufferMissed_out] at hhush
  have hsent : [] = [Out.msix 0 5 0 0] := congrArg (·.2) (Option.some.inj hhush)
  cases hsent

end Sys2Proof.Machine

/-! SETTLED: O58, what follows a command by itself on a state where nothing waits, and what may change the configuration (03 R74). -/

namespace Sys2Proof.Machine

/-- What every listed entry of a table and the default have, every entry read has. -/
theorem tabGet_of_forall {α : Type} {P : α → Prop} {d : α} (hd : P d) {t : Tab α} (h : ∀ e ∈ t, P e.2) (k : Nat) : P (tabGet d t k) := by
  induction t with
  | nil => exact hd
  | cons e t ih =>
    simp only [tabGet]
    split
    · exact h e List.mem_cons_self
    · exact ih fun x hx => h x (List.mem_cons_of_mem _ hx)

/-- Nothing waits: no access is in flight or has just ended, no unit has work in hand, and HARBOUR does not run. -/
structure State.Still (s : State) : Prop where
  accesses : s.accesses = []
  ended : s.ended = []
  engReqs : s.engReqs = []
  runs : ∀ e ∈ s.chans, e.2.run = none
  bulks : s.alloc.bulks = []
  txns : s.home.txns = []
  hostHeld : s.home.hostHeld = []
  jobs : s.ident.jobs = []
  changes : s.mgmt.changes = []
  stalls : s.stalls = []
  stored : ∀ e ∈ s.peers, e.2.stored = []
  harbour : s.harbour = false

namespace State.Still

variable {s : State} (h : s.Still)
include h

theorem modePump : s.modePump = s := by
  rw [State.modePump, h.changes]
  cases s.mgmt.change <;> rfl

theorem secGo : s.secGo = s := by
  rw [State.secGo, h.jobs, List.length_nil, State.secNext, h.jobs, ite_self]

theorem bulkEnds (n : Nat) : State.bulkEnds n s = s := by
  cases n with
  | zero => rfl
  | succ n => rw [State.bulkEnds, State.bulkDone, h.bulks]; rfl

theorem storedIn (p : Nat) : s.storedIn p = s := by
  have hp : (s.peer p).stored = [] :=
    tabGet_of_forall (P := fun x : PeerPort => x.stored = []) rfl h.stored p
  rw [State.storedIn, hp, List.isEmpty_nil, Bool.or_true, if_pos rfl]

theorem enginePump : s.enginePump = s := by rw [State.enginePump, h.engReqs, eachOf]

theorem chansGo : s.chansGo = s := by
  have hnone : s.chans.filter (fun e => e.2.run.isSome) = [] :=
    List.filter_eq_nil_iff.mpr fun e he => by rw [h.runs e he]; exact Bool.false_ne_true
  rw [State.chansGo, hnone, List.map_nil, eachOf]

theorem shedCheck : s.shedCheck = s := by
  refine eachOf_id (fun c => ?_) _
  rw [State.shedOne, h.harbour, Bool.not_false, Bool.or_true, if_pos rfl]

theorem eventWrite : s.eventWrite = s := by
  rw [State.eventWrite, State.eventReady, h.harbour]; rfl

theorem stallPump : s.stallPump = s := by rw [State.stallPump, h.stalls, List.map_nil, eachOf]

theorem presentAll : s.presentAll = s := by rw [State.presentAll, h.accesses, List.filter_nil, List.map_nil, eachOf]

theorem nearPump : s.nearPump = s := by rw [State.nearPump, h.accesses, List.filter_nil, List.map_nil, eachOf]

theorem hostHeldGo : s.hostHeldGo = s := by
  have hsame : { s with home := { s.home with hostHeld := [] } } = s := by rw [← h.hostHeld]
  rw [State.hostHeldGo, hsame, h.hostHeld, eachOf, ite_self]

theorem homePump : s.homePump = s := by rw [State.homePump, h.txns, List.map_nil, eachOf]

theorem issueHeld : s.issueHeld = s := by rw [State.issueHeld, h.accesses, List.filter_nil, List.map_nil, eachOf]

theorem round : s.round = s := by
  rw [State.round, h.modePump, h.secGo, h.bulkEnds, eachOf_id h.storedIn, h.enginePump, h.chansGo, h.shedCheck, h.eventWrite, h.stallPump,
    h.presentAll, h.nearPump, h.hostHeldGo, h.homePump, h.issueHeld]

/-- What follows a command by itself where nothing waits: gated units that have work are clocked again. -/
theorem settle : s.settle = s.ungate := by
  rw [State.settle_of_still h.ended (by rw [h.round, h.round, h.ended]; rfl), h.round, h.round]

end State.Still

/-- Where a write does not reach its register it is only answered, and what follows by itself changes no configuration. -/
theorem State.registerWritten_conf_of_unreached {s : State} {w : Path} {a : Nat} (h : s.reach w a = false) (v : BitVec 32) :
    (s.registerWritten w a v).conf = s.conf := by
  have hpath : (s.onPath w a fun t => t.regWrite w a v).conf = s.conf := by
    rw [State.onPath, h, if_neg Bool.false_ne_true, State.unreached_conf]
  rw [State.registerWritten, apply_ite State.conf, State.settle_conf, hpath, ite_self]

/-- Settles O58: `exec_conf` says it of the commands outside `Instr.configures`, and where nothing waits `State.Still.settle` says what follows. -/
theorem configurationChangesOnlyByItsCommands : Obligations.ConfigurationChangesOnlyByItsCommands := by
  unfold Obligations.ConfigurationChangesOnlyByItsCommands
  refine ⟨fun c s t hexec hc => exec_conf hc hexec, fun w a v s t hexec hr => ?_, fun s t hp hstep => ?_, ?_⟩
  · exact State.conf_of_next hexec (State.registerWritten_conf_of_unreached hr v)
  · rw [step, hp] at hstep
    exact State.conf_of_next hstep (State.tick_conf s)
  · intro s ha he hq hr hb ht hh hj hc hs hp hm
    exact State.Still.settle ⟨ha, he, hq, hr, hb, ht, hh, hj, hc, hs, hp, hm⟩

end Sys2Proof.Machine

/-! SETTLED: O2, one root cycle, the step on an empty queue (03 R59, R69, R72, R76; 05 R107). -/

namespace Sys2Proof.Machine

/-! ### The clock block of one slice -/

theorem ClockState.tick_held {sl : Slice} {k : ClockState} (h : k.porN = false) : k.tick sl = k := by
  rw [ClockState.tick, h]; rfl

/-- STORE's part of a root cycle writes the STORE phase and its mode alone. -/
theorem ClockState.storeTick_eq (k : ClockState) : k.storeTick = { k with
    sPhase := k.storeTick.sPhase, sLow := k.storeTick.sLow, sEbb := k.storeTick.sEbb, sFb := k.storeTick.sFb } := by
  unfold ClockState.storeTick
  (repeat' split) <;> rfl

/-- CORE's part of a root cycle moves neither the pin nor the CTRL phase. -/
theorem ClockState.coreTick_ctrl (k : ClockState) : k.coreTick.porN = k.porN ∧ k.coreTick.ctrl = k.ctrl := by
  unfold ClockState.coreTick
  (repeat' split) <;> exact ⟨rfl, rfl⟩

/-- Out of cold reset a root cycle is one of CTRL, one of CORE and, in the hold slice, one of STORE. -/
theorem ClockState.tick_eq (sl : Slice) {k : ClockState} (h : k.porN = true) :
    ∃ p low ebb fb, k.tick sl = { { k with ctrl := (k.ctrl + 1) % 8 }.coreTick with sPhase := p, sLow := low, sEbb := ebb, sFb := fb } := by
  rw [ClockState.tick, h]
  cases sl with
  | hd => exact ⟨_, _, _, _, ClockState.storeTick_eq _⟩
  | sh => exact ⟨_, _, _, _, rfl⟩
  | en => exact ⟨_, _, _, _, rfl⟩

theorem ClockState.tick_porN (sl : Slice) (k : ClockState) : (k.tick sl).porN = k.porN := by
  cases h : k.porN with
  | false => rw [ClockState.tick_held h, h]
  | true =>
    obtain ⟨p, low, ebb, fb, ht⟩ := ClockState.tick_eq sl h
    rw [ht, (ClockState.coreTick_ctrl _).1, h]

theorem ClockState.tick_ctrl (sl : Slice) {k : ClockState} (h : k.porN = true) : (k.tick sl).ctrl = (k.ctrl + 1) % 8 := by
  obtain ⟨p, low, ebb, fb, ht⟩ := ClockState.tick_eq sl h
  rw [ht, (ClockState.coreTick_ctrl _).2]

/-- What a root cycle makes of CORE: the phase goes on, or the other one begins, with ebb as it is asked; after a low phase fallback too, and
CK_CYCLES counts. -/
def ClockState.CoreAfter (k k' : ClockState) : Prop :=
  if k.phase + 1 < corePhase k then
    k'.phase = k.phase + 1 ∧ k'.low = k.low ∧ k'.cycles = k.cycles ∧ k'.ebbNow = k.ebbNow ∧ k'.fbNow = k.fbNow
  else k'.phase = 0 ∧ k'.low = !k.low ∧ k'.ebbNow = k.inEbb ∧ k'.cycles = (if k.low then k.cycles + 1 else k.cycles) ∧
    k'.fbNow = (if k.low then k.fallback else k.fbNow)

theorem ClockState.coreTick_coreAfter (k : ClockState) : k.CoreAfter k.coreTick := by
  unfold ClockState.CoreAfter ClockState.coreTick
  split
  · exact ⟨rfl, rfl, rfl, rfl, rfl⟩
  · cases hlow : k.low <;> exact ⟨rfl, rfl, rfl, rfl, rfl⟩

theorem ClockState.tick_coreAfter (sl : Slice) {k : ClockState} (h : k.porN = true) : k.CoreAfter (k.tick sl) := by
  obtain ⟨p, low, ebb, fb, ht⟩ := ClockState.tick_eq sl h
  rw [ht]
  exact ClockState.coreTick_coreAfter { k with ctrl := (k.ctrl + 1) % 8 }

/-! ### The three slices and the watchdogs -/

/-- The clock blocks after a root cycle, before the watchdogs count. -/
def State.clocked (s : State) : State :=
  ((s.modClock .sh (ClockState.tick .sh)).modClock .en (ClockState.tick .en)).modClock .hd (ClockState.tick .hd)

theorem State.clocked_clock (s : State) (sl : Slice) : s.clocked.clock sl = (s.clock sl).tick sl := by
  cases sl <;> simp [State.clocked, State.clock_modClock]

theorem State.clocked_frame (s : State) : ∃ k, s.clocked = { s with clocks := k } := by
  simp only [State.clocked, State.modClock, State.setClock]
  exact ⟨_, rfl⟩

/-- The watchdogs of a slice count if a CTRL cycle of it begins. -/
def State.wdtBegin (s : State) (sl : Slice) : State := if s.ctrlStart sl then s.wdtTick sl else s

theorem State.count_eq (s : State) : s.count = (s.clocked.wdtBegin .sh).wdtBegin .hd := rfl

/-- A core whose watchdog counts one. -/
def Core.counted (k : Core) : Core := { k with wdt := k.wdt + 1 }

theorem Core.counted_ite (k : Core) (p : Prop) [Decidable p] :
    (if p then k.counted else k) = { k with wdt := if p then k.wdt + 1 else k.wdt } := by
  split <;> rfl

/-- The running cores of a slice count; a core that is not listed does not run. -/
theorem tabGet_map_counted (sl : Slice) (t : Tab Core) (c : Nat) :
    tabGet ({} : Core) (t.map fun e => if e.2.state = .running ∧ coreSlice e.1 = sl then (e.1, e.2.counted) else e) c =
      if (tabGet ({} : Core) t c).state = .running ∧ coreSlice c = sl then (tabGet ({} : Core) t c).counted else tabGet ({} : Core) t c := by
  induction t with
  | nil => simp
  | cons e t ih =>
    obtain ⟨i, v⟩ := e
    by_cases hi : i = c
    · subst hi; by_cases hv : v.state = .running ∧ coreSlice i = sl <;> simp [tabGet, hv]
    · by_cases hv : v.state = .running ∧ coreSlice i = sl <;> simpa [tabGet, hv, hi] using ih

theorem State.wdtTick_core (s : State) (sl : Slice) (c : Nat) : (s.wdtTick sl).core c =
    if (s.core c).state = .running ∧ coreSlice c = sl then (s.core c).counted else s.core c := tabGet_map_counted sl s.cores c

theorem State.wdtBegin_clocks (s : State) (sl : Slice) : (s.wdtBegin sl).clocks = s.clocks := by
  unfold State.wdtBegin; split <;> rfl

theorem State.wdtBegin_clock (s : State) (sl k : Slice) : (s.wdtBegin sl).clock k = s.clock k := by
  rw [State.clock, State.wdtBegin_clocks, ← State.clock]

theorem State.wdtBegin_frame (s : State) (sl : Slice) : ∃ c, s.wdtBegin sl = { s with cores := c } := by
  unfold State.wdtBegin
  split
  · exact ⟨_, rfl⟩
  · exact ⟨s.cores, rfl⟩

theorem State.wdtBegin_core (s : State) (sl : Slice) (c : Nat) : (s.wdtBegin sl).core c =
    if (s.core c).state = .running ∧ coreSlice c = sl ∧ s.ctrlStart sl = true then (s.core c).counted else s.core c := by
  unfold State.wdtBegin
  cases hc : s.ctrlStart sl with
  | false => simp
  | true => simp [State.wdtTick_core]

theorem State.count_clock (s : State) (sl : Slice) : s.count.clock sl = (s.clock sl).tick sl := by
  rw [State.count_eq, State.wdtBegin_clock, State.wdtBegin_clock, State.clocked_clock]

theorem State.count_frame (s : State) : s.count = { s with clocks := s.count.clocks, cores := s.count.cores } := by
  obtain ⟨k, hk⟩ := s.clocked_frame
  obtain ⟨c, hc⟩ := s.clocked.wdtBegin_frame .sh
  obtain ⟨d, hd⟩ := (s.clocked.wdtBegin .sh).wdtBegin_frame .hd
  rw [State.count_eq, hd, hc, hk]

/-- A slice begins a CTRL cycle with a root cycle. -/
theorem State.clocked_ctrlStart (s : State) (sl : Slice) :
    s.clocked.ctrlStart sl = true ↔ (s.clock sl).porN = true ∧ ((s.clock sl).ctrl + 1) % 8 = 0 := by
  rw [State.ctrlStart, State.clocked_clock, Bool.and_eq_true, beq_iff_eq, ClockState.tick_porN]
  exact and_congr_right fun h => by rw [ClockState.tick_ctrl sl h]

/-- A running core's watchdog counts the CTRL cycles of its slice (05 R107; 01 R14). -/
theorem State.count_core (s : State) (c : Nat) : s.count.core c = { s.core c with
    wdt := if (s.core c).state = .running ∧ (s.clock (coreSlice c)).porN = true ∧ ((s.clock (coreSlice c)).ctrl + 1) % 8 = 0
      then (s.core c).wdt + 1 else (s.core c).wdt } := by
  have hstart : (s.clocked.wdtBegin .sh).ctrlStart .hd = s.clocked.ctrlStart .hd := by
    rw [State.ctrlStart, State.wdtBegin_clock, ← State.ctrlStart]
  have hcore : s.clocked.core c = s.core c := rfl
  rw [← Core.counted_ite, State.count_eq, State.wdtBegin_core, State.wdtBegin_core, hstart, hcore]
  simp only [State.clocked_ctrlStart]
  cases hsl : coreSlice c with
  | sh => simp
  | en => exact absurd hsl (coreSlice_ne_en c)
  | hd => simp

/-- No watchdog reaches its limit in a root cycle while each running core's is more than one CTRL cycle short of it. -/
theorem State.count_wdtDue_nil {s : State}
    (h : ∀ c, c < 7 → (s.core c).state = .running → (s.core c).wdt + 1 < max (s.core c).period.toNat 0x00100000) : s.count.wdtDue = [] := by
  refine List.filter_eq_nil_iff.mpr fun c hc => ?_
  rw [State.count_core, Bool.and_eq_true, beq_iff_eq, decide_eq_true_eq, Core.wdtLimit]
  rintro ⟨hrun, hle⟩
  have hshort := h c (List.mem_range.mp hc) hrun
  dsimp only at hle
  split at hle <;> omega

theorem step_of_empty {s : State} (h : s.pending = []) : step s = .next s.tick := by rw [step, h]

theorem State.tick_of_none_due {s : State} (h : s.count.wdtDue = []) : s.tick = s.count := by
  simp only [State.tick, h, List.isEmpty_nil, if_true]

theorem State.tick_of_one_due {s : State} {c : Nat} (h : s.count.wdtDue = [c]) : s.tick = State.settle (s.count.wdtExpired c) := by
  simp only [State.tick, h, List.isEmpty_cons, Bool.false_eq_true, if_false, eachOf]

/-- Settles O2: the step is `State.count`, whose clock blocks and cores the lemmas above give, and an expiry where a watchdog is due. -/
theorem emptyQueueIsOneRootCycle : Obligations.EmptyQueueIsOneRootCycle := by
  unfold Obligations.EmptyQueueIsOneRootCycle
  intro s hq
  rw [step_of_empty hq]
  refine ⟨fun hshort => ⟨s.count, ?_, fun sl hsl => ?_, fun sl hsl => ?_, State.count_core s, State.count_frame s⟩, fun c hdue => ?_⟩
  · rw [State.tick_of_none_due (State.count_wdtDue_nil hshort)]
  · rw [State.count_clock, ClockState.tick_held hsl]
  · rw [State.count_clock]
    exact ⟨ClockState.tick_ctrl sl hsl, ClockState.tick_coreAfter sl hsl⟩
  · rw [State.tick_of_one_due hdue]

end Sys2Proof.Machine

/-! SETTLED: O7, the end of self-test (05 R100; 03 R62; 16 R397). -/

namespace Sys2Proof.Machine

/-! ### What is reported of a start -/

/-- What does not speak of records, interrupts, the start and messages to a manager is the same of a later state. -/
structure State.Reports (s t : State) : Prop where
  keeps : ∀ {β : Type} (g : State → β), (∀ (x : State) a b c d e f i j k,
    g { x with clocks := a, irq := b, ras := c, out := d, start := e, peers := f, rand := i, nextTag := j, relay := k } = g x) → g t = g s

theorem State.Reports.refl (s : State) : s.Reports s := ⟨fun _ _ => rfl⟩

theorem State.Reports.trans {s t u : State} (h : s.Reports t) (h' : t.Reports u) : s.Reports u :=
  ⟨fun g hg => (h'.keeps g hg).trans (h.keeps g hg)⟩

theorem State.reports_record (s : State) (r : ErrRec) : s.Reports (s.record r) :=
  ⟨fun g hg => (congrArg g (s.record_eq r)).trans (hg s _ _ _ _ s.start s.peers s.rand s.nextTag s.relay)⟩

theorem State.reports_setStart (s : State) (st : StartState) : s.Reports (s.setStart st) :=
  ⟨fun g hg => (congrArg g (s.setStart_eq st)).trans (hg s s.clocks _ s.ras _ _ s.peers s.rand s.nextTag s.relay)⟩

/-- A status that is sent upward writes the relay and one port. -/
theorem State.statusUp_keeps (s : State) (kind : Nat) {β : Type} (g : State → β)
    (hg : ∀ (x : State) a b c d e, g { x with peers := a, out := b, rand := c, nextTag := d, relay := e } = g x) :
    g (s.statusUp kind) = g s := by
  unfold State.statusUp State.reportUp
  split
  · exact (State.sendPacket_keeps _ _ g fun x a b c d => hg x a b c d x.relay).trans (hg s s.peers s.out s.rand _ _)
  · rfl

theorem State.startTold_keeps (s old : State) {β : Type} (g : State → β)
    (hg : ∀ (x : State) a b c d e, g { x with peers := a, out := b, rand := c, nextTag := d, relay := e } = g x) :
    g (s.startTold old) = g s := by
  unfold State.startTold
  split
  · exact s.statusUp_keeps 3 g hg
  · rfl

theorem State.reports_startTold (s old : State) : s.Reports (s.startTold old) :=
  ⟨fun g hg => s.startTold_keeps old g fun x a b c d e => hg x x.clocks x.irq x.ras b x.start a c d e⟩

/-! ### Fencing -/

/-- A core of a set of failed units is fenced. -/
def State.fenceCoreOf (p : Nat → Bool) (c : Nat) (t : State) : State :=
  if p c then t.modCore c (fun k => { k with state := .fenced }) else t

/-- A channel of a set of failed units is fenced. -/
def State.fenceChanOf (p : Nat → Bool) (c : Nat) (t : State) : State :=
  if p c then t.modChan c (fun k => { k with state := .fenced }) else t

theorem State.core_fenceCoreOf (p : Nat → Bool) (x c : Nat) (t : State) :
    ((State.fenceCoreOf p x t).core c).state = if x = c ∧ p c = true then .fenced else (t.core c).state := by
  unfold State.fenceCoreOf
  by_cases hx : x = c
  · subst hx; cases hp : p x <;> simp [State.modCore, State.core_setCore]
  · cases hp : p x <;> simp [State.modCore, State.core_setCore, hx, Ne.symm hx]

theorem State.chan_fenceChanOf (p : Nat → Bool) (x c : Nat) (t : State) :
    ((State.fenceChanOf p x t).chan c).state = if x = c ∧ p c = true then .fenced else (t.chan c).state := by
  unfold State.fenceChanOf
  by_cases hx : x = c
  · subst hx; cases hp : p x <;> simp [State.modChan, State.chan_setChan]
  · cases hp : p x <;> simp [State.modChan, State.chan_setChan, hx, Ne.symm hx]

/-- Where each operation of a list gives its own index a value and leaves the others, the list gives it to the indices it holds. -/
theorem eachOf_marks {β : Type} {f : Nat → State → State} {g : Nat → State → β} {p : Nat → Bool} {v : β}
    (h : ∀ x c t, g c (f x t) = if x = c ∧ p c = true then v else g c t) (l : List Nat) (s : State) (c : Nat) :
    g c (eachOf f l s) = if c ∈ l ∧ p c = true then v else g c s := by
  induction l generalizing s with
  | nil => simp [eachOf]
  | cons x l ih =>
    rw [eachOf, ih, h]
    by_cases hx : x = c <;> by_cases hl : c ∈ l <;> cases hp : p c <;> simp [hx, hl, eq_comm (a := c)]

/-! ### The end of self-test -/

/-- The units of a failed set are marked: the set in force, the gated units, and the cores and channels FENCED. -/
def State.testMarked (s : State) (f : UnitSet) : State :=
  eachOf (State.fenceChanOf f.channels.getLsbD) (List.range 64)
    (eachOf (State.fenceCoreOf f.cores.getLsbD) (List.range 7) { s with fenced := f, gated := gatedOf f })

/-- The failed units with the channels that a failed CTL core takes along. -/
def withClusters (f : UnitSet) : UnitSet := { f with channels := f.channels ||| ctlChannels f.cores }

/-- The units of a failed set are marked, with a record of each. -/
def State.testNoted (s : State) (f : UnitSet) : State := eachOf State.fenceRecord (unitsOf f) (s.testMarked (withClusters f))

theorem State.selfTest_eq {s : State} (h : s.coldAt 4 = true) (f : UnitSet) : s.selfTest f =
    if essentialFailed f then (s.testNoted f).stopStart 0x03 else (s.testNoted f).startGo 5 false := by
  rw [State.selfTest, h]; rfl

/-- What is said neither of cores and channels nor of the fenced and gated units is the same of a state whose units are marked. -/
theorem State.testMarked_keeps (s : State) (f : UnitSet) {β : Type} (g : State → β)
    (hg : ∀ (x : State) a b, g { x with cores := a, chans := b } = g x) : g (s.testMarked f) = g { s with fenced := f, gated := gatedOf f } := by
  refine (eachOf_keeps g (fun c t => ?_) _ _).trans (eachOf_keeps g (fun c t => ?_) _ _)
  · unfold State.fenceChanOf
    split
    · exact hg t t.cores _
    · rfl
  · unfold State.fenceCoreOf
    split
    · exact hg t _ t.chans
    · rfl

theorem State.testMarked_core (s : State) (f : UnitSet) {c : Nat} (hc : c < 7) (h : f.cores.getLsbD c = true) :
    ((s.testMarked f).core c).state = .fenced := by
  have hchans : ∀ (l : List Nat) (t : State), (eachOf (State.fenceChanOf f.channels.getLsbD) l t).cores = t.cores :=
    eachOf_keeps State.cores fun x t => by unfold State.fenceChanOf; split <;> rfl
  rw [State.testMarked, State.core, hchans, ← State.core]
  refine (eachOf_marks (g := fun c t => (State.core t c).state) (p := f.cores.getLsbD)
    (fun x c t => State.core_fenceCoreOf _ x c t) _ _ c).trans ?_
  exact if_pos ⟨List.mem_range.mpr hc, h⟩

theorem State.testMarked_chan (s : State) (f : UnitSet) {c : Nat} (hc : c < 64) (h : f.channels.getLsbD c = true) :
    ((s.testMarked f).chan c).state = .fenced := by
  refine (eachOf_marks (g := fun c t => (State.chan t c).state) (p := f.channels.getLsbD)
    (fun x c t => State.chan_fenceChanOf _ x c t) _ _ c).trans ?_
  exact if_pos ⟨List.mem_range.mpr hc, h⟩

theorem State.fenceRecord_start (u : Slice × Nat × Nat) (s : State) : (State.fenceRecord u s).start = s.start := State.record_start ..

theorem State.testNoted_start (s : State) (f : UnitSet) : (s.testNoted f).start = s.start :=
  (eachOf_keeps State.start State.fenceRecord_start _ _).trans (s.testMarked_keeps _ State.start fun _ _ _ => rfl)

/-- Past the marking of the units the command reports: a record of each unit, the start's progress, a status to the manager. -/
theorem State.reports_selfTest {s : State} (h : s.coldAt 4 = true) (f : UnitSet) :
    (s.testMarked (withClusters f)).Reports ((s.selfTest f).startTold s) := by
  have hnoted : (s.testMarked (withClusters f)).Reports (s.testNoted f) :=
    eachOf_relates (R := State.Reports) State.Reports.refl (fun _ _ _ h h' => h.trans h') (fun _ t => t.reports_record _) _ _
  have hend : (s.testNoted f).Reports (s.selfTest f) := by
    rw [State.selfTest_eq h]
    split
    · exact State.reports_setStart _ _
    · exact State.reports_setStart _ _
  exact (hnoted.trans hend).trans (State.reports_startTold _ _)

theorem State.selfTest_start {s : State} (h : s.coldAt 4 = true) (f : UnitSet) : ((s.selfTest f).startTold s).start =
    if essentialFailed f then { s.start with stopped := true, failure := 0x03 }
    else { s.start with step := 5, waiting := false, failure := 0 } := by
  rw [State.startTold_keeps _ _ State.start fun _ _ _ _ _ _ => rfl, State.selfTest_eq h]
  split
  · rw [State.stopStart, State.setStart_start, State.testNoted_start]
  · rw [State.startGo, State.setStart_start, State.testNoted_start]

theorem essentialFailed_iff (f : UnitSet) : essentialFailed f = true ↔
    f.banks ≠ 0 ∨ f.identity = true ∨ f.linkEnds ≠ 0 ∨ f.memory = 0xF ∨ f.cores.getLsbD 0 = true ∨ f.cores.getLsbD 2 = true := by
  simp only [essentialFailed, Bool.or_eq_true, bne_iff_ne, beq_iff_eq, or_assoc]

/-- Settles O7: the units are as `testMarked` leaves them, since the reports that follow do not write them, and `selfTest_start` gives the start. -/
theorem selfTestFencesFailedUnits : Obligations.SelfTestFencesFailedUnits := by
  unfold Obligations.SelfTestFencesFailedUnits
  intro s f hstop hwarm hstep
  have hcold : s.coldAt 4 = true := by rw [State.coldAt, hstep, hwarm, hstop]; rfl
  have hreports := State.reports_selfTest hcold f
  have hfenced : ((s.selfTest f).startTold s).fenced = withClusters f :=
    (hreports.keeps State.fenced fun _ _ _ _ _ _ _ _ _ _ => rfl).trans (s.testMarked_keeps _ State.fenced fun _ _ _ => rfl)
  refine ⟨(s.selfTest f).startTold s, rfl, hfenced, ?_, fun c hc hf => ?_, fun c hc hf => ?_, ?_, ?_, ?_, ?_⟩
  · rw [hfenced]
    exact (hreports.keeps State.gated fun _ _ _ _ _ _ _ _ _ _ => rfl).trans (s.testMarked_keeps _ State.gated fun _ _ _ => rfl)
  · exact (hreports.keeps (fun t => (t.core c).state) fun _ _ _ _ _ _ _ _ _ _ => rfl).trans (s.testMarked_core (withClusters f) hc hf)
  · exact (hreports.keeps (fun t => (t.chan c).state) fun _ _ _ _ _ _ _ _ _ _ => rfl).trans (s.testMarked_chan (withClusters f) hc hf)
  · have hstart := State.selfTest_start hcold f
    by_cases he : essentialFailed f = true
    · rw [if_pos ((essentialFailed_iff f).mp he), hstart, if_pos he]
    · rw [if_neg (mt (essentialFailed_iff f).mpr he), hstart, if_neg he]
  · exact (hreports.keeps State.fuses fun _ _ _ _ _ _ _ _ _ _ => rfl).trans (s.testMarked_keeps _ State.fuses fun _ _ _ => rfl)
  · exact (hreports.keeps State.chart fun _ _ _ _ _ _ _ _ _ _ => rfl).trans (s.testMarked_keeps _ State.chart fun _ _ _ => rfl)
  · exact (hreports.keeps State.tide fun _ _ _ _ _ _ _ _ _ _ => rfl).trans (s.testMarked_keeps _ State.tide fun _ _ _ => rfl)

end Sys2Proof.Machine

/-! SETTLED: O13, groups on a slice link (02 R28, R45, R46), the TAP (02 R54), gated units (03 R62) and the entropy test (15 R360). -/

namespace Sys2Proof.Machine

/-! ### A link's state and its faults -/

theorem State.linkFault_of_dead {s u : State} {l : Link} (hdead : ∀ sl, (u.clock sl).dead = (s.clock sl).dead)
    (hdown : (u.link l).down = (s.link l).down) : u.linkFault l = s.linkFault l := by
  have hend : u.endLost l = s.endLost l := funext fun sl => by rw [State.endLost, hdead]; rfl
  rw [State.linkFault, hend, hdown]
  rfl

theorem State.Recorded.dead_all {sl : Slice} {s t : State} (h : s.Recorded sl t) (k : Slice) : (t.clock k).dead = (s.clock k).dead := by
  by_cases hk : k = sl
  · rw [hk, h.dead]
  · rw [h.other k hk]

theorem State.Recorded.storeLost {sl : Slice} {s t : State} (h : s.Recorded sl t) : t.storeLost = s.storeLost := by
  rw [State.storeLost, h.dead_all, ← State.storeLost]

/-- A change of a link's state that leaves it up ends nothing beyond. -/
theorem State.afterLoss_setLink {s : State} {l : Link} {k : LinkState} (hdown : k.down = (s.link l).down) (o : Out) :
    ((s.setLink l k).drive o).afterLoss s = (s.setLink l k).drive o := by
  refine State.afterLoss_same (fun l' => State.linkFault_of_dead (fun _ => rfl) ?_) rfl
  have hlink : ((s.setLink l k).drive o).link l' = (s.setLink l k).link l' := rfl
  rw [hlink, State.link_setLink]
  split
  · next h => rw [h, hdown]
  · rfl

/-! ### Groups -/

/-- A slice link in service brings a group to one of its ends: its sender held a credit for it, or it is replayed. -/
structure State.GroupComes (s : State) (l : Link) (rx : Slice) : Prop where
  up : (s.link l).up = true
  inOrder : (s.link l).down = false
  sound : s.linkFault l = none
  mayCome : (s.link l).mayCome l rx = true

/-- The link's state once the sender has paid for a group: a replayed one costs nothing. -/
def LinkState.paid (k : LinkState) (l : Link) (rx : Slice) : LinkState := if k.failed then k else k.spend l rx

theorem LinkState.paid_replay {k : LinkState} (h : k.failed = true) (l : Link) (rx : Slice) : k.paid l rx = k := if_pos h

theorem LinkState.paid_first {k : LinkState} (h : k.failed = false) (l : Link) (rx : Slice) : k.paid l rx = k.spend l rx :=
  if_neg (by rw [h]; exact Bool.false_ne_true)

/-- The link's state after a good group. -/
def LinkState.taken (k : LinkState) : LinkState :=
  { k with failed := false, badReplays := 0, replays := if k.failed then sat32 k.replays else k.replays }

theorem LinkState.taken_paid (k : LinkState) (l : Link) (rx : Slice) : (k.paid l rx).taken = { k with
    failed := false, badReplays := 0, credits := if k.failed then k.credits else (k.spend l rx).credits,
    replays := if k.failed then sat32 k.replays else k.replays } := by
  cases hf : k.failed with
  | true => rw [LinkState.paid_replay hf, LinkState.taken, hf]; rfl
  | false =>
    have hspent : (k.spend l rx).failed = false := hf
    rw [LinkState.paid_first hf, LinkState.taken, hspent]; rfl

/-- The link's state after a damaged group that leaves it up. -/
def LinkState.damaged (k : LinkState) : LinkState := { k with failed := true, badReplays := if k.failed then k.badReplays + 1 else 0 }

section
variable {s : State} {l : Link} {rx : Slice} (h : s.GroupComes l rx)
include h

/-- Past the link's checks a group is paid for, and is taken, asked for again or the last that fails. -/
theorem State.GroupComes.linkGroup (damaged : Bool) : s.linkGroup l rx damaged =
    if damaged then
      if ((s.link l).paid l rx).failed && decide (7 ≤ ((s.link l).paid l rx).badReplays) then
        (s.setLink l { (s.link l).paid l rx with badReplays := 8 }).linkDown l rx
      else (s.setLink l ((s.link l).paid l rx).damaged).drive (.linkReplay l rx)
    else (s.setLink l ((s.link l).paid l rx).taken).drive (.linkCredit l rx) := by
  unfold State.linkGroup
  exact if_neg (by rw [h.up, h.inOrder, h.sound, h.mayCome]; exact Bool.false_ne_true)

theorem State.GroupComes.good_eq : (s.linkGroup l rx false).afterLoss s = (s.setLink l { s.link l with
    failed := false, badReplays := 0, credits := if (s.link l).failed then (s.link l).credits else ((s.link l).spend l rx).credits,
    replays := if (s.link l).failed then sat32 (s.link l).replays else (s.link l).replays }).drive (.linkCredit l rx) := by
  rw [h.linkGroup, if_neg Bool.false_ne_true, LinkState.taken_paid]
  exact State.afterLoss_setLink (by rfl) _

theorem State.GroupComes.damaged_first (hf : (s.link l).failed = false) : (s.linkGroup l rx true).afterLoss s =
    (s.setLink l { (s.link l).spend l rx with failed := true, badReplays := 0 }).drive (.linkReplay l rx) := by
  have hspent : ((s.link l).spend l rx).failed = false := hf
  have hdamaged : ((s.link l).spend l rx).damaged = { (s.link l).spend l rx with failed := true, badReplays := 0 } := by
    rw [LinkState.damaged, hspent]; rfl
  rw [h.linkGroup, if_pos rfl, LinkState.paid_first hf, hspent, Bool.false_and, if_neg Bool.false_ne_true, hdamaged]
  exact State.afterLoss_setLink (by rfl) _

theorem State.GroupComes.damaged_again (hf : (s.link l).failed = true) (hn : (s.link l).badReplays < 7) :
    (s.linkGroup l rx true).afterLoss s =
      (s.setLink l { s.link l with badReplays := (s.link l).badReplays + 1 }).drive (.linkReplay l rx) := by
  have hdamaged : (s.link l).damaged = { s.link l with badReplays := (s.link l).badReplays + 1 } := by
    rw [LinkState.damaged, if_pos hf, ← hf]
  rw [h.linkGroup, if_pos rfl, LinkState.paid_replay hf, decide_eq_false (Nat.not_le.mpr hn), Bool.and_false, if_neg Bool.false_ne_true,
    hdamaged]
  exact State.afterLoss_setLink (by rfl) _

theorem State.GroupComes.damaged_last (hf : (s.link l).failed = true) (hn : 7 ≤ (s.link l).badReplays) :
    s.linkGroup l rx true = (s.setLink l { s.link l with badReplays := 8 }).linkDown l rx := by
  rw [h.linkGroup, if_pos rfl, LinkState.paid_replay hf, hf, decide_eq_true hn, Bool.true_and, if_pos rfl]

end

/-- A group costs one of the sending end's credits, and none of the other's. -/
theorem LinkState.spend_credits (k : LinkState) {l : Link} {rx : Slice} (h : rx ∈ linkEnds l) :
    (k.spend l rx).credits.getD (1 - endIx l rx) 0 = k.credits.getD (1 - endIx l rx) 0 - 1 ∧
      (k.spend l rx).credits.getD (endIx l rx) 0 = k.credits.getD (endIx l rx) 0 := by
  have hix : endIx l rx ≠ 1 - endIx l rx := by revert h; cases l <;> cases rx <;> decide
  simp only [LinkState.spend, List.getD_eq_getElem?_getD, List.getElem?_set, if_true, if_neg hix.symm, and_true]
  split
  · rfl
  · next hlen => rw [List.getElem?_eq_none (Nat.not_lt.mp hlen)]; rfl

/-! ### A link declared down -/

/-- The link is marked down. -/
def State.linkMarked (s : State) (l : Link) : State := s.modLink l (fun k => { k with down := true })

/-- The record of a link declared down at an end. -/
def State.downRecord (s : State) (l : Link) (rx : Slice) : ErrRec :=
  { s.errRec 4 .busError rx 5 (linkIx l) with detail0 := BitVec.ofNat 64 (statusCode .busError) }

/-- The link is marked down, with its record. -/
def State.downNoted (s : State) (l : Link) (rx : Slice) : State := (s.linkMarked l).record ((s.linkMarked l).downRecord l rx)

theorem State.linkDown_eq (s : State) (l : Link) (rx : Slice) :
    s.linkDown l rx = ((s.downNoted l rx).failWhere (needsLink l) .busError).shIrq 6 := rfl

theorem State.recorded_linkDown (s : State) (l : Link) (rx : Slice) : s.Recorded rx (s.linkDown l rx) := by
  have hmarked : s.Recorded rx (s.linkMarked l) := ⟨fun _ _ => rfl, rfl, rfl, State.modLink_conf .., fun _ => id⟩
  have hnoted := hmarked.trans ((s.linkMarked l).recorded_record ((s.linkMarked l).downRecord l rx))
  exact (hnoted.trans (State.beside_failWhere _ (needsLink l) .busError).recorded).trans (State.recorded_shIrq _ 6)

/-- Of the links' states only that of the link declared down changes. -/
theorem State.linkDown_link (s : State) (l : Link) (rx : Slice) (l' : Link) :
    (s.linkDown l rx).link l' = if l' = l then { s.link l with down := true } else s.link l' := by
  have hlinks : (s.linkDown l rx).links = (s.linkMarked l).links := by
    rw [State.linkDown_eq, State.shIrq_links, (State.beside_failWhere _ _ _).links, State.downNoted, State.record_links]
  rw [State.link, hlinks]
  exact s.link_setLink l l' _

theorem State.linkDown_freed (s : State) (l : Link) (rx : Slice) : (s.linkDown l rx).Freed l :=
  State.Freed.ofAccesses (fun _ ha => .inl (State.mem_failWhere ha).2) (State.shIrq_accesses _ 6)

theorem State.linkDown_bit (s : State) (l : Link) (rx : Slice) : (s.linkDown l rx).irq.status.getLsbD 6 = true := State.shIrq_bit _ (by decide)

/-- The engine requests that end with a link newly out of service. -/
def State.engLoss (t s : State) : State :=
  if (t.linkFault .slA).isSome && (s.linkFault .slA).isNone || (t.linkFault .slB).isSome && (s.linkFault .slB).isNone then t.endEngines else t

theorem State.beside_engLoss (t s : State) : t.Beside (t.engLoss s) := by
  unfold State.engLoss
  split
  · exact t.beside_endEngines
  · exact .refl

theorem State.Freed.engLoss {l : Link} {t : State} (h : t.Freed l) (s : State) : (t.engLoss s).Freed l := by
  unfold State.engLoss
  split
  · exact h.endEngines
  · exact h

/-- A link out of service ends nothing OK or SEALED. -/
theorem State.linkFault_status {s : State} {l : Link} {st : Status} (h : s.linkFault l = some st) : st ≠ .ok ∧ st ≠ .sealed := by
  unfold State.linkFault at h
  split at h
  · obtain rfl := Option.some.inj h; decide
  · split at h
    · obtain rfl := Option.some.inj h; decide
    · cases h

/-- Where the hold's store stays in reach, a loss ends engine requests and, with SL-A newly lost, what crossed it and the open rounds. -/
theorem State.afterLoss_of_store {s t : State} (h : t.storeLost = s.storeLost) : t.afterLoss s =
    match s.linkFault .slA, t.linkFault .slA with
    | none, some st => ((t.engLoss s).cutHome st).endRounds st [.open_]
    | _, _ => t.engLoss s := by
  have heng := t.beside_engLoss s
  have hstage {x : State} (hx : t.Recorded .hd x) : (if (x.storeLost && !s.storeLost) = true then
      (x.failWhere (fun a => a.agent != .block) .clockLost).endRounds .clockLost [.open_, .writing] else x) = x := by
    rw [hx.storeLost, h, Bool.and_not_self]
    exact if_neg Bool.false_ne_true
  have hunfold : t.afterLoss s = (fun u => if (u.storeLost && !s.storeLost) = true then
      (u.failWhere (fun a => a.agent != .block) .clockLost).endRounds .clockLost [.open_, .writing] else u)
      (match s.linkFault .slA, (t.engLoss s).linkFault .slA with
      | none, some st => ((t.engLoss s).cutHome st).endRounds st [.open_]
      | _, _ => t.engLoss s) := rfl
  rw [hunfold, heng.linkFault]
  refine hstage ?_
  split
  · exact (heng.trans (State.beside_cutHome _ _)).recorded.trans (State.recorded_endRounds _ _ _)
  · exact heng.recorded

/-- What a link out of service ends, up to the rounds' results that go on by themselves: clocks, links, interrupts and the configuration stay,
and no access comes to need the link. -/
theorem State.afterLoss_settles {s t : State} {l : Link} (hstore : t.storeLost = s.storeLost) (hfree : t.Freed l) :
    ∃ u, t.Beside u ∧ u.Freed l ∧ u.settle = (t.afterLoss s).settle := by
  rw [State.afterLoss_of_store hstore]
  split
  · next st _ hst =>
    obtain ⟨hok, hs⟩ := State.linkFault_status hst
    obtain ⟨c, e, hce⟩ := State.endRounds_settle hok hs ((t.engLoss s).cutHome st)
    have hbeside := ((t.beside_engLoss s).trans (State.beside_cutHome _ st)).trans (State.beside_over _ c e)
    exact ⟨((t.engLoss s).cutHome st).over c e, hbeside, ((hfree.engLoss s).cutHome st).ofAccesses rfl, hce⟩
  · exact ⟨t.engLoss s, t.beside_engLoss s, hfree.engLoss s, rfl⟩

/-- The eighth failed replay of a group: what settles is the link declared down, with what the loss ends. -/
theorem State.GroupComes.declared_down {s : State} {l : Link} {rx : Slice} (h : s.GroupComes l rx) (hf : (s.link l).failed = true)
    (hn : 7 ≤ (s.link l).badReplays) : ∃ u : State, exec (.sliceLinkGroupReceive l rx true) s = .next u.settle ∧ (u.link l).down = true ∧
      (∀ l', l' ≠ l → u.link l' = s.link l') ∧ u.irq.status.getLsbD 6 = true ∧ u.conf = s.conf ∧
      ∀ a, a ∈ u.accesses → needsLink l a = false ∨ a.purpose = .none := by
  have hrec := (s.setLink l { s.link l with badReplays := 8 }).recorded_linkDown l rx
  have hlink := (s.setLink l { s.link l with badReplays := 8 }).linkDown_link l rx
  obtain ⟨u, hu, hufree, hsettle⟩ := State.afterLoss_settles (s := s) hrec.storeLost (State.linkDown_freed _ l rx)
  refine ⟨u, ?_, ?_, fun l' hl => ?_, by rw [hu.irq, State.linkDown_bit], ?_, hufree⟩
  · rw [hsettle, ← h.damaged_last hf hn]; rfl
  · rw [hu.link, hlink, if_pos rfl]
  · rw [hu.link, hlink, if_neg hl, State.link_setLink, if_neg hl]
  · rw [hu.conf, hrec.conf, State.setLink_conf]

/-! ### The TAP -/

/-- What a TAP instruction leaves of the last one. -/
def State.tapTaken (s : State) (sl : Slice) (i : TapInstr) : State :=
  { s with tap := if i = .testReset then tabErase s.tap (sliceIx sl) else tabPut s.tap (sliceIx sl) i }

theorem idcode_eq (sl : Slice) : idcode sl = match sl with | .sh => 0x20CA10F3 | .en => 0x20CA20F3 | .hd => 0x20CA30F3 := by
  cases sl <;> decide

theorem sliceIx_inj {a b : Slice} (h : sliceIx a = sliceIx b) : a = b := by
  revert h; cases a <;> cases b <;> decide

/-- What is written into an instrument of an unlocked network stays in it, and others keep theirs. -/
theorem State.instrumentData_write (s : State) (sl : Slice) (k : Nat) (v : BitVec 32) (sl' : Slice) (j : Nat) :
    State.instrumentData { s with tapData := tabSet [] s.tapData (sliceIx sl) (tabSet 0 (tabGet [] s.tapData (sliceIx sl)) k v) } sl' j =
      if sl' = sl ∧ j = k then v else s.instrumentData sl' j := by
  simp only [State.instrumentData, tabGet_tabSet]
  by_cases hsl : sl' = sl
  · subst hsl
    rw [if_pos rfl, tabGet_tabSet]
    simp
  · rw [if_neg fun hc => hsl (sliceIx_inj hc), if_neg fun hc => hsl hc.1]

theorem State.tapDo_unlocked {s : State} (h : s.tapUnlock = true) (sl : Slice) (k : Nat) (v : BitVec 32) :
    s.tapDo sl (.instrument k true v) = { s.tapTaken sl (.instrument k true v) with
      tapData := tabSet [] s.tapData (sliceIx sl) (tabSet 0 (tabGet [] s.tapData (sliceIx sl)) k v) } := if_pos h

theorem State.tapDo_locked_write {s : State} (h : s.tapUnlock = false) (sl : Slice) (k : Nat) (v : BitVec 32) :
    s.tapDo sl (.instrument k true v) = s.tapTaken sl (.instrument k true v) := if_neg (by rw [h]; exact Bool.false_ne_true)

theorem State.tapDo_locked_read {s : State} (h : s.tapUnlock = false) (sl : Slice) (k : Nat) (v : BitVec 32) :
    s.tapDo sl (.instrument k false v) = (s.tapTaken sl (.instrument k false v)).drive (.tdo sl 0) :=
  congrArg (fun x => (s.tapTaken sl (.instrument k false v)).drive (.tdo sl x)) (if_neg (by rw [h]; exact Bool.false_ne_true))

/-! ### Gated units and the entropy test -/

theorem State.gateUnit_idle {s : State} {r : UnitRef} (hidle : s.unitIdle r = true) (hr : r ∉ s.gated) :
    s.gateUnit r = { s with gated := s.gated ++ [r] } := by
  have hnew : s.gated.contains r = false := by simpa using hr
  rw [State.gateUnit, hidle, hnew]; rfl

/-- The state with the entropy failure noted, before its record. -/
def State.entropyNoted (s : State) : State := { s with fresh := s.fresh + 1, ident := { s.ident with entropyFail := true } }

/-- The record of a failed entropy test. -/
def State.entropyRecord (s : State) : ErrRec :=
  { s.entropyNoted.errRec 7 .checkFail .sh 0x11 0 with detail0 := BitVec.ofNat 64 ((Config.freeValue s.fresh).toNat % 256) }

theorem State.entropyFailed_eq {s : State} (hready : s.start.ready = true) (hok : s.ident.entropyFail = false) :
    s.entropyFailed = (s.entropyNoted.record s.entropyRecord).shIrq 8 := by
  rw [State.entropyFailed, hready, hok]; rfl

/-- Settles O13: each command is one operation, whose outcome under the clause's conditions the lemmas above give. -/
theorem gatingLinkGroupsTapAndEntropy : Obligations.GatingLinkGroupsTapAndEntropy := by
  unfold Obligations.GatingLinkGroupsTapAndEntropy
  intro s
  refine ⟨fun r hidle hr => ?_, fun l rx hup hdown hfault hrx hcredit => ?_, fun sl => ?_, fun sl => ?_, fun hlock sl k v => ⟨?_, ?_⟩,
    fun hopen sl k v => ?_, fun sl => ?_, fun sl => ?_, fun hready hok hsh => ?_⟩
  · exact next_congr (State.gateUnit_idle hidle hr)
  · have hcomes : s.GroupComes l rx := ⟨hup, hdown, hfault, by simpa [LinkState.mayCome, hrx] using hcredit⟩
    exact ⟨next_settle_congr hcomes.good_eq, LinkState.spend_credits _ hrx, fun hf => next_settle_congr (hcomes.damaged_first hf),
      fun hf hn => next_settle_congr (hcomes.damaged_again hf hn), fun hf hn => hcomes.declared_down hf hn⟩
  · exact ⟨(s.tapTaken sl .idcode).drive (.tdo sl (idcode sl)), rfl,
      congrArg (fun x => Out.tdo sl x :: s.out) (idcode_eq sl), rfl⟩
  · exact ⟨(s.tapTaken sl .bypass).drive (.tdo sl 0), rfl, rfl, rfl⟩
  · exact ⟨_, next_congr (State.tapDo_locked_read hlock sl k v), rfl, rfl⟩
  · exact ⟨_, next_congr (State.tapDo_locked_write hlock sl k v), rfl⟩
  · have hdata := State.instrumentData_write (s.tapTaken sl (.instrument k true v)) sl k v
    refine ⟨_, next_congr (State.tapDo_unlocked hopen sl k v), (hdata sl k).trans (if_pos ⟨rfl, rfl⟩), fun sl' j hne => ?_, rfl⟩
    exact (hdata sl' j).trans (if_neg fun hc => hne.elim (· hc.1) (· hc.2))
  · exact ⟨s.tapDo sl .extest, rfl, rfl, ⟨_, List.mem_cons_self⟩, rfl⟩
  · exact ⟨s.tapTaken sl .testReset, rfl, fun i => (tabGet_tabErase i s.tap _ _).trans (if_pos rfl), rfl⟩
  · have hcross : s.entropyNoted.ctrlLost s.entropyRecord.slice = false := hsh
    refine ⟨_, next_congr (State.entropyFailed_eq hready hok), ?_, State.shIrq_bit _ (by decide), ?_, ?_, ?_, ?_⟩
    · rw [State.shIrq_ident, State.record_ident]; rfl
    · rw [State.shIrq_ras, State.record_nextSeq hcross]; rfl
    · rw [State.shIrq_conf, State.record_conf]; rfl
    · rw [State.shIrq_accesses, State.record_accesses]; rfl
    · rw [State.shIrq_tide, State.record_tide]; rfl

end Sys2Proof.Machine

/-! SETTLED: O34, a chart's delivery through the registers (04 R91; 17 R417). -/

namespace Sys2Proof.Machine

/-- A write that reaches its register is one operation on the state, and its response. -/
theorem next_onPath {s t : State} {path : Path} {a : Nat} {f : State → State} (ha : s.reach path a = true) (hf : f s = t) :
    (Host.Outcome.next (s.onPath path a f) : Host.Outcome State Fault Refusal) = .next (t.written path) :=
  next_congr ((State.onPath_reached ha f).trans (congrArg (State.written · path) hf))

/-! ### Begin -/

theorem State.chartMayBegin_iff {s : State} : s.chartMayBegin = true ↔
    6 ≤ s.start.step ∧ s.start.stopped = false ∧ (s.chart.state = .empty ∨ s.chart.state = .seed ∨ s.chart.state = .rejected) := by
  simp only [State.chartMayBegin, Bool.and_eq_true, Bool.or_eq_true, decide_eq_true_eq, Bool.not_eq_true', beq_iff_eq, and_assoc, or_assoc]

theorem State.chartBeginReg_of_allowed {s : State} (h : s.chartMayBegin = true) : s.chartBeginReg = s.chartBegin 1 := if_pos h

theorem State.chartBeginReg_of_barred {s : State} (h : ¬ s.chartMayBegin = true) : s.chartBeginReg = s := if_neg h

theorem State.chart_barred {s : State} (h : s.start.step < 6 ∨ s.start.stopped = true ∨ s.chart.state = .loading ∨ s.chart.state = .checking ∨
    s.chart.state = .accepted) : ¬ s.chartMayBegin = true := by
  rw [State.chartMayBegin_iff]
  rintro ⟨hstep, hstop, hstate⟩
  rcases h with h | h | h | h | h
  · omega
  · exact absurd (h.symm.trans hstop) (by decide)
  all_goals
    rw [h] at hstate
    revert hstate
    decide

/-! ### Data and commit -/

section
variable {s : State} (hstate : s.chart.state = .loading) (hsource : s.chart.source = 1)
include hstate hsource

theorem State.chartData_of_loading (v : BitVec 32) : s.chartData v =
    if s.chart.staged.length + 4 ≤ 65536 then { s with chart := { s.chart with staged := s.chart.staged ++ leBytes 4 v.toNat } }
    else { s with chart := { s.chart with overLong := true } } := by
  rw [State.chartData, hstate, hsource]; rfl

theorem State.chartCommit_of_loading : s.chartCommit 1 = { s with chart := { s.chart with state := .checking } } := by
  rw [State.chartCommit, hstate, hsource]; rfl

end

theorem State.chartData_idle {s : State} (h : s.chart.state ≠ .loading) (v : BitVec 32) : s.chartData v = s := by
  unfold State.chartData
  exact if_neg (by simp [h])

theorem State.chartCommit_idle {s : State} (h : s.chart.state ≠ .loading) (src : BitVec 2) : s.chartCommit src = s := by
  unfold State.chartCommit
  exact if_neg (by simp [h])

/-- Settles O34: each write is one operation of the staging unit on a path that reaches its register, with one outcome under the clause's
conditions. -/
theorem chartDeliveryFillsStaging : Obligations.ChartDeliveryFillsStaging := by
  unfold Obligations.ChartDeliveryFillsStaging
  intro s path hctrl hdata wr
  refine ⟨fun hstep hstop hstate => ?_, fun hbar => ?_, fun hstate hsource => ⟨fun v hroom => ?_, fun v hfull => ?_, ?_⟩,
    fun hstate v => ⟨?_, ?_⟩⟩
  · exact next_onPath hctrl (State.chartBeginReg_of_allowed (State.chartMayBegin_iff.mpr ⟨hstep, hstop, hstate⟩))
  · exact next_onPath hctrl (State.chartBeginReg_of_barred (State.chart_barred hbar))
  · exact next_onPath hdata ((State.chartData_of_loading hstate hsource v).trans (if_pos hroom))
  · exact next_onPath hdata ((State.chartData_of_loading hstate hsource v).trans (if_neg (Nat.not_le.mpr hfull)))
  · exact next_onPath hctrl (State.chartCommit_of_loading hstate hsource)
  · exact next_onPath hdata (State.chartData_idle hstate v)
  · exact next_onPath hctrl (State.chartCommit_idle hstate 1)

end Sys2Proof.Machine

/-! SETTLED: O35, the checks of a delivered chart end: it is accepted whole or rejected (04 R78, R87; 05 R97; 17 R417, R419). -/

namespace Sys2Proof.Machine

/-! ### Where the start stands -/

theorem State.warmReset_of_wrstN {s t : State} (h : ∀ sl, (t.clock sl).wrstN = (s.clock sl).wrstN) : t.warmReset = s.warmReset := by
  simp only [State.warmReset, h]

theorem State.startAt_congr {s t : State} (hstart : t.start = s.start) (hwarm : t.warmReset = s.warmReset) (n : Nat) :
    t.startAt n = s.startAt n := by
  rw [State.startAt, State.startAt, hstart, hwarm]

theorem State.startAt_of_step {s : State} {n : Nat} (hstep : s.start.step = n) (hstop : s.start.stopped = false)
    (hwarm : s.warmReset = false) : s.startAt n = true := by
  rw [State.startAt, hstep, hstop, hwarm, beq_self_eq_true]; rfl

theorem State.startAt_elsewhere {s : State} {n : Nat} (h : s.start.step ≠ n) : s.startAt n = false := by
  rw [State.startAt, beq_eq_false_iff_ne.mpr h, Bool.false_and, Bool.false_and]

/-- An event lost in a crossing is counted there, in a clock block whose warm reset it leaves. -/
theorem State.eventLost_wrstN (s : State) (sl : Slice) (i : Nat) (k : Slice) : ((s.eventLost sl i).clock k).wrstN = (s.clock k).wrstN := by
  have hset (v : ClockState) (hv : v.wrstN = (s.clock sl).wrstN) : ((s.setClock sl v).clock k).wrstN = (s.clock k).wrstN := by
    rw [State.clock_setClock]
    split
    next hk => rw [hk, hv]
    next => rfl
  unfold State.eventLost
  dsimp only
  split
  · exact hset _ rfl
  · rw [State.shIrq_clock]
    exact hset _ rfl

theorem State.record_warmReset (s : State) (r : ErrRec) : (s.record r).warmReset = s.warmReset := by
  rcases s.record_cases r with ⟨-, h⟩ | ⟨hcross, -⟩
  · rw [h]
    exact State.warmReset_of_wrstN (s.eventLost_wrstN r.slice 0)
  · exact State.warmReset_of_wrstN fun sl => by rw [State.clock, State.record_kept hcross]; rfl

theorem State.shIrq_warmReset (s : State) (i : Nat) : (s.shIrq i).warmReset = s.warmReset :=
  State.warmReset_of_wrstN fun sl => by rw [State.shIrq_clock]

theorem State.setStart_bit {s : State} {st : StartState} {i : Nat} (h : s.irq.status.getLsbD i = true) :
    (s.setStart st).irq.status.getLsbD i = true := by
  unfold State.setStart
  dsimp only
  split
  · exact State.shIrq_bit_kept h
  · exact h

/-! ### What the manager above is told -/

theorem State.chartTold_keeps (s old : State) {β : Type} (g : State → β)
    (hg : ∀ (x : State) a b c d e, g { x with peers := a, out := b, rand := c, nextTag := d, relay := e } = g x) :
    g (s.chartTold old) = g s := by
  unfold State.chartTold
  split
  · exact s.statusUp_keeps 1 g hg
  · rfl

/-- The messages that end the command change the ports to peers and the relay alone. -/
theorem State.chartReports_keep (s old : State) {β : Type} (g : State → β)
    (hg : ∀ (x : State) a b c d e, g { x with peers := a, out := b, rand := c, nextTag := d, relay := e } = g x) :
    g ((s.startTold old).chartTold old) = g s :=
  ((s.startTold old).chartTold_keeps old g hg).trans (s.startTold_keeps old g hg)

theorem State.chartTold_unchecked {s : State} (h : s.chart.state ≠ .checking) (t : State) : t.chartTold s = t := by
  unfold State.chartTold
  exact if_neg (by simp [h])

/-! ### The outcome of the checks -/

/-- The first of the checks that fails, with its section and offset. -/
def State.chartFails (s : State) : Option (Nat × Nat × Nat) :=
  (chartSpoilt s.chart.staged s.chart.stagedBad).or <| firstCheck (chartChecks s.chart.staged s.chart.overLong s.fuses.keyHash
    (s.fuses.policy.getLsbD 0) s.fenced (if s.inSeed then some s.chart.image else none))

theorem State.chartCheck_unchecked {s : State} (h : s.chart.state ≠ .checking) : s.chartCheck = s := if_pos h

theorem State.chartCheck_fails {s : State} (h : s.chart.state = .checking) {code sec off : Nat}
    (hfails : s.chartFails = some (code, sec, off)) : s.chartCheck = s.chartReject code sec off := by
  rw [State.chartFails] at hfails
  rw [State.chartCheck, if_neg (not_not.mpr h)]
  dsimp only
  rw [hfails]

theorem State.chartCheck_passes {s : State} (h : s.chart.state = .checking) (hpass : s.chartFails = none) :
    s.chartCheck = s.chartAccept (chartOf s.chart.staged) s.chart.staged := by
  rw [State.chartFails] at hpass
  rw [State.chartCheck, if_neg (not_not.mpr h)]
  dsimp only
  rw [hpass]

/-! ### Rejection -/

/-- The state with the failing check shown and the staging unit empty. -/
def State.rejectShown (s : State) (code sec off : Nat) : State :=
  { s with chart := { s.chart with
    state := .rejected, code := BitVec.ofNat 8 code, section_ := BitVec.ofNat 8 sec, offset := BitVec.ofNat 17 off,
    staged := [], stagedBad := [] } }

/-- The record of a rejected chart. -/
def State.rejectRecord (s : State) (code sec off : Nat) : ErrRec :=
  { s.errRec 5 (chartStatus code) .sh 0x0C 0 with detail0 := BitVec.ofNat 64 (code + sec * 2 ^ 8 + off * 2 ^ 16) }

/-- A rejection before the start hears of it: what is shown, its record and its interrupt. -/
def State.rejectNoted (s : State) (code sec off : Nat) : State :=
  ((s.rejectShown code sec off).record ((s.rejectShown code sec off).rejectRecord code sec off)).shIrq 1

section
variable (s : State) (code sec off : Nat)

theorem State.chartReject_eq : s.chartReject code sec off =
    if (s.rejectNoted code sec off).startAt 6 || (s.rejectNoted code sec off).startAt 10 then
      (s.rejectNoted code sec off).setStart { (s.rejectNoted code sec off).start with failure := 0x04, waiting := true }
    else s.rejectNoted code sec off := rfl

theorem State.rejectNoted_start : (s.rejectNoted code sec off).start = s.start := by
  rw [State.rejectNoted, State.shIrq_start, State.record_start]; rfl

theorem State.rejectNoted_startAt (n : Nat) : (s.rejectNoted code sec off).startAt n = s.startAt n := by
  refine State.startAt_congr (s.rejectNoted_start ..) ?_ n
  rw [State.rejectNoted, State.shIrq_warmReset, State.record_warmReset]; rfl

/-- Past the rejection itself the start at most takes a failure. -/
theorem State.chartReject_keeps {β : Type} (g : State → β) (hg : ∀ (x : State) a b c, g { x with start := a, irq := b, out := c } = g x) :
    g (s.chartReject code sec off) = g (s.rejectNoted code sec off) := by
  rw [State.chartReject_eq]
  split
  · rw [State.setStart_eq]; exact hg ..
  · rfl

theorem State.chartReject_chart : (s.chartReject code sec off).chart = (s.rejectShown code sec off).chart := by
  rw [State.chartReject_keeps s code sec off State.chart fun _ _ _ _ => rfl, State.rejectNoted, State.shIrq_chart, State.record_chart]

theorem State.chartReject_tide : (s.chartReject code sec off).tide = s.tide := by
  rw [State.chartReject_keeps s code sec off State.tide fun _ _ _ _ => rfl, State.rejectNoted, State.shIrq_tide, State.record_tide]; rfl

theorem State.chartReject_nextSeq (h : s.ctrlLost .sh = false) : (s.chartReject code sec off).ras.nextSeq = s.ras.nextSeq + 1 := by
  have hcross : (s.rejectShown code sec off).ctrlLost ((s.rejectShown code sec off).rejectRecord code sec off).slice = false := h
  rw [State.chartReject_keeps s code sec off State.ras fun _ _ _ _ => rfl, State.rejectNoted, State.shIrq_ras, State.record_nextSeq hcross]
  rfl

theorem State.chartReject_bit : (s.chartReject code sec off).irq.status.getLsbD 1 = true := by
  have hbit : (s.rejectNoted code sec off).irq.status.getLsbD 1 = true := State.shIrq_bit _ (by decide)
  rw [State.chartReject_eq]
  split
  · exact State.setStart_bit hbit
  · exact hbit

theorem State.chartReject_start : (s.chartReject code sec off).start =
    if s.startAt 6 || s.startAt 10 then { s.start with failure := 0x04, waiting := true } else s.start := by
  rw [State.chartReject_eq, State.rejectNoted_startAt, State.rejectNoted_startAt]
  split
  · rw [State.setStart_start, State.rejectNoted_start]
  · exact s.rejectNoted_start ..

end

/-! ### Acceptance -/

/-- The state with a chart in force, before clocks, partitions and pipelines take its values. -/
def State.chartInForce (s : State) (c : Chart) (image : Bytes) : State :=
  { s with chart := { s.chart with
    chart := some c, image := image, staged := [], stagedBad := [], imageBad := false, pipesBad := false,
    state := if c.seed then .seed else .accepted } }

theorem State.loadChart_keeps (s : State) (c : Chart) (image : Bytes) {β : Type} (g : State → β)
    (hclock : ∀ (x : State) sl v, g (x.modClock sl fun k => { k with crossTimeout := v }) = g x)
    (hrest : ∀ (x : State) a b d, g { x with parts := a, tearBurst := b, sluice := d } = g x) :
    g (s.loadChart c image) = g (s.chartInForce c image) :=
  ((eachOf_keeps g (fun _ t => hrest t t.parts t.tearBurst _) _ _).trans (eachOf_keeps g (fun _ t => hrest t _ _ t.sluice) _ _)).trans
    (eachOf_keeps g (fun sl t => hclock t sl _) _ _)

theorem State.modClock_crossTimeout_warmReset (s : State) (sl : Slice) (v : BitVec 17) :
    (s.modClock sl fun k => { k with crossTimeout := v }).warmReset = s.warmReset := by
  refine State.warmReset_of_wrstN fun k => ?_
  rw [State.clock_modClock]
  split
  next hk => rw [hk]
  next => rfl

/-- An acceptance before the start hears of it: the chart's values are in force, and its interrupt is raised. -/
def State.acceptNoted (s : State) (c : Chart) (image : Bytes) : State := (s.loadChart c image).shIrq 1

theorem State.acceptNoted_start (s : State) (c : Chart) (image : Bytes) : (s.acceptNoted c image).start = s.start :=
  (State.shIrq_start ..).trans (s.loadChart_keeps c image State.start (fun _ _ _ => rfl) fun _ _ _ _ => rfl)

theorem State.acceptNoted_startAt (s : State) (c : Chart) (image : Bytes) (n : Nat) : (s.acceptNoted c image).startAt n = s.startAt n :=
  State.startAt_congr (s.acceptNoted_start c image) ((State.shIrq_warmReset ..).trans
    (s.loadChart_keeps c image State.warmReset State.modClock_crossTimeout_warmReset fun _ _ _ _ => rfl)) n

theorem State.acceptNoted_chart (s : State) (c : Chart) (image : Bytes) : (s.acceptNoted c image).chart = (s.chartInForce c image).chart :=
  (State.shIrq_chart ..).trans (s.loadChart_keeps c image State.chart (fun _ _ _ => rfl) fun _ _ _ _ => rfl)

theorem State.acceptNoted_tide (s : State) (c : Chart) (image : Bytes) : (s.acceptNoted c image).tide = s.tide :=
  (State.shIrq_tide ..).trans (s.loadChart_keeps c image State.tide (fun _ _ _ => rfl) fun _ _ _ _ => rfl)

theorem State.acceptNoted_conf (s : State) (c : Chart) (image : Bytes) : (s.acceptNoted c image).conf = { s.conf with chart := some c } :=
  (State.shIrq_conf ..).trans (s.loadChart_keeps c image State.conf (fun _ _ _ => State.modClock_conf ..) fun _ _ _ _ => rfl)

theorem State.acceptNoted_bit (s : State) (c : Chart) (image : Bytes) : (s.acceptNoted c image).irq.status.getLsbD 1 = true :=
  State.shIrq_bit _ (by decide)

/-- `t` is `s` with its start gone on: the chart, the tide counters and the configuration are the same, and interrupt status bits stay set. -/
structure State.GoesOn (s t : State) : Prop where
  chart : t.chart.chart = s.chart.chart
  state : t.chart.state = s.chart.state
  tide : t.tide = s.tide
  conf : t.conf = s.conf
  bits : ∀ i, s.irq.status.getLsbD i = true → t.irq.status.getLsbD i = true

theorem State.GoesOn.refl (s : State) : s.GoesOn s := ⟨rfl, rfl, rfl, rfl, fun _ => id⟩

theorem State.GoesOn.trans {s t u : State} (h : s.GoesOn t) (h' : t.GoesOn u) : s.GoesOn u :=
  ⟨h'.chart.trans h.chart, h'.state.trans h.state, h'.tide.trans h.tide, h'.conf.trans h.conf, fun i hi => h'.bits i (h.bits i hi)⟩

theorem State.goesOn_startGo (s : State) (step : Nat) (waiting : Bool) : s.GoesOn (s.startGo step waiting) :=
  ⟨by rw [State.startGo, State.setStart_chart], by rw [State.startGo, State.setStart_chart], State.setStart_tide .., State.startGo_conf ..,
    fun _ => State.setStart_bit⟩

theorem State.goesOn_noteImage (s : State) : s.GoesOn s.noteImage := by
  unfold State.noteImage
  split
  · exact ⟨by rw [State.record_chart], by rw [State.record_chart], State.record_tide .., State.record_conf .., (s.recorded_record _).bits⟩
  · exact .refl s

theorem State.goesOn_enter11 (s : State) : s.GoesOn s.enter11 := by
  have hdigests (t : State) : t.GoesOn t.takeDigests := ⟨rfl, rfl, rfl, State.takeDigests_conf _, fun _ => id⟩
  exact (s.goesOn_noteImage.trans (hdigests _)).trans (State.goesOn_startGo _ 11 true)

theorem State.chartAccept_eq (s : State) (c : Chart) (image : Bytes) : s.chartAccept c image =
    if s.startAt 6 then (s.acceptNoted c image).startGo 7 false
    else if s.startAt 10 && !c.seed then (s.acceptNoted c image).enter11 else s.acceptNoted c image := by
  rw [← s.acceptNoted_startAt c image 6, ← s.acceptNoted_startAt c image 10]; rfl

theorem State.goesOn_chartAccept (s : State) (c : Chart) (image : Bytes) : (s.acceptNoted c image).GoesOn (s.chartAccept c image) := by
  rw [State.chartAccept_eq]
  split
  · exact State.goesOn_startGo _ 7 false
  · split
    · exact State.goesOn_enter11 _
    · exact .refl _

theorem State.goesOn_chartReports (s old : State) : s.GoesOn ((s.startTold old).chartTold old) := by
  have hkeep {β : Type} (g : State → β)
      (hg : ∀ (x : State) a b c d e, g { x with peers := a, out := b, rand := c, nextTag := d, relay := e } = g x) :=
    s.chartReports_keep old g hg
  refine ⟨by rw [hkeep State.chart fun _ _ _ _ _ _ => rfl], by rw [hkeep State.chart fun _ _ _ _ _ _ => rfl],
    hkeep State.tide fun _ _ _ _ _ _ => rfl, hkeep State.conf fun _ _ _ _ _ _ => rfl, fun i hi => ?_⟩
  rwa [hkeep State.irq fun _ _ _ _ _ _ => rfl]

theorem State.chartAccept_start {s : State} (h : s.startAt 6 = true) (c : Chart) (image : Bytes) :
    (s.chartAccept c image).start = { s.start with step := 7, waiting := false, failure := 0 } := by
  rw [State.chartAccept_eq, if_pos h, State.startGo, State.setStart_start, State.acceptNoted_start]

/-- Settles O35: `State.chartCheck` is a rejection or an acceptance, which the lemmas above follow to the reports that end the command. -/
theorem chartIsAcceptedWholeOrRejected : Obligations.ChartIsAcceptedWholeOrRejected := by
  unfold Obligations.ChartIsAcceptedWholeOrRejected
  intro s
  refine ⟨fun hidle => ⟨_, rfl, ?_⟩, fun hcheck => ⟨fun code sec off hfails => ⟨_, rfl, ?_⟩, fun hpass => ⟨_, rfl, ?_⟩⟩⟩
  · rw [State.chartTold_unchecked hidle, State.chartCheck_unchecked hidle]
    exact State.startTold_quiet id id
  · have hout : s.chartCheck = s.chartReject code sec off := State.chartCheck_fails hcheck hfails
    rw [hout]
    have hkeep {β : Type} (g : State → β)
        (hg : ∀ (x : State) a b c d e, g { x with peers := a, out := b, rand := c, nextTag := d, relay := e } = g x) :=
      (s.chartReject code sec off).chartReports_keep s g hg
    have hstart := (hkeep State.start fun _ _ _ _ _ _ => rfl).trans (s.chartReject_start code sec off)
    refine ⟨?_, ?_, ?_, fun hcross => ?_, ?_, fun hstep hstop hwarm => ?_, fun hsix hten => ?_⟩
    · exact (hkeep State.chart fun _ _ _ _ _ _ => rfl).trans (s.chartReject_chart code sec off)
    · exact (hkeep State.conf fun _ _ _ _ _ _ => rfl).trans (State.chartReject_conf ..)
    · exact (hkeep State.tide fun _ _ _ _ _ _ => rfl).trans (s.chartReject_tide code sec off)
    · exact (hkeep (fun t => t.ras.nextSeq) fun _ _ _ _ _ _ => rfl).trans (s.chartReject_nextSeq code sec off hcross)
    · exact (hkeep (fun t => t.irq.status.getLsbD 1) fun _ _ _ _ _ _ => rfl).trans (s.chartReject_bit code sec off)
    · rw [hstart, State.startAt_of_step hstep hstop hwarm]; rfl
    · rw [hstart, State.startAt_elsewhere hsix, State.startAt_elsewhere hten]; rfl
  · have hout : s.chartCheck = s.chartAccept (chartOf s.chart.staged) s.chart.staged := State.chartCheck_passes hcheck hpass
    rw [hout]
    obtain ⟨hchart, hstate, htide, hconf, hbits⟩ :=
      (s.goesOn_chartAccept (chartOf s.chart.staged) s.chart.staged).trans (State.goesOn_chartReports _ s)
    rw [State.acceptNoted_chart] at hchart hstate
    rw [State.acceptNoted_conf] at hconf
    rw [State.acceptNoted_tide] at htide
    refine ⟨hchart, hstate, hbits 1 (State.acceptNoted_bit ..), congrArg Conf.fuses hconf, congrArg Conf.fenced hconf,
      congrArg Conf.devKey hconf, congrArg Conf.msix hconf, congrArg (fun x => x.rings.1) hconf, congrArg TideUnit.values htide,
      fun hstep hstop hwarm => ?_⟩
    exact (State.chartReports_keep _ s State.start fun _ _ _ _ _ _ => rfl).trans
      (State.chartAccept_start (State.startAt_of_step hstep hstop hwarm) _ _)

end Sys2Proof.Machine

/-! SETTLED: O37, kicks and expiries of the cores' watchdogs (05 R107, R108, R122). -/

namespace Sys2Proof.Machine

theorem State.core_modCore (s : State) (k j : Nat) (f : Core → Core) :
    (s.modCore k f).core j = if j = k then f (s.core k) else s.core j := s.core_setCore k j _

/-! ### Kicks -/

/-- The core whose watchdog counts anew. -/
def Core.kicked (k : Core) : Core := { k with wdt := 0 }

theorem State.kick_self (s : State) (c : Fin 7) {v : BitVec 32} (h : v.toNat % 256 = 0xA5) :
    s.kick (.core c) c.val v = s.modCore c.val Core.kicked := if_pos ⟨rfl, h⟩

theorem State.kick_otherValue (s : State) (path : Path) (c : Nat) {v : BitVec 32} (h : v.toNat % 256 ≠ 0xA5) : s.kick path c v = s := by
  unfold State.kick
  split
  · exact if_neg fun hk => h hk.2
  · rfl

theorem State.kick_otherPath (s : State) {path : Path} {c : Fin 7} (h : path ≠ .core c) (v : BitVec 32) : s.kick path c.val v = s := by
  unfold State.kick
  split
  next k => exact if_neg fun hk => h (congrArg Path.core (Fin.ext hk.1))
  next => rfl

/-- A register access writes, beside its effect on a register it reaches, only what is driven. -/
theorem State.onPath_keeps {β : Type} (g : State → β) (hout : ∀ (t : State) o, g { t with out := o } = g t) {f : State → State}
    (s : State) (hf : g (f s) = g s) (path : Path) (a : Nat) : g (s.onPath path a f) = g s := by
  unfold State.onPath
  split
  · rw [State.written_eq, hout, hf]
  · rw [State.unreached_eq, hout]

/-! ### Expiries -/

theorem State.mgmtIrq_keeps {β : Type} (g : State → β) (hg : ∀ (t : State) a b, g { t with irq := a, out := b } = g t) (s : State) :
    g s.mgmtIrq = g s := by
  unfold State.mgmtIrq
  split
  · rw [State.raiseVector_eq, hg]
  · rfl

/-- The core whose watchdog has expired: held, its count cleared, one expiry more. -/
def Core.expired (k : Core) : Core :=
  { k with state := .watchdog, wdt := 0, expiries := if k.expiries = 0xFFFF then 0xFFFF else k.expiries + 1 }

theorem saturated_succ (v : BitVec 16) : BitVec.ofNat 16 (min 0xFFFF (v.toNat + 1)) = if v = 0xFFFF then 0xFFFF else v + 1 := by
  split
  next h => subst h; rfl
  next h =>
    have hlt : v.toNat ≠ 0xFFFF := fun e => h (BitVec.eq_of_toNat_eq e)
    rw [Nat.min_eq_right (by have := v.isLt; omega)]
    exact BitVec.eq_of_toNat_eq (by simp)

/-- What an expiry of a core that SEC's session or HARBOUR's rings stand on takes with it. -/
def State.expiryLoss (s : State) (c : Nat) : State :=
  if c = 0 then { s with ident := { s.ident with session := .none, missed := 0 } } else if c = 2 then s.loseHarbour else s

theorem State.wdtExpired_running {s : State} {c : Nat} (h : (s.core c).state = .running) :
    s.wdtExpired c = ((s.modCore c Core.expired).expiryLoss c).mgmtIrq := by
  have hmod : s.modCore c Core.expired = s.modCore c (fun k => { k with
      state := .watchdog, wdt := 0, expiries := BitVec.ofNat 16 (min 0xFFFF (k.expiries.toNat + 1)) }) := by
    simp only [saturated_succ]; rfl
  rw [hmod]
  exact if_neg (not_not.mpr h)

theorem State.wdtExpired_stopped {s : State} {c : Nat} (h : (s.core c).state ≠ .running) : s.wdtExpired c = s := if_pos h

theorem State.expiryLoss_keeps {β : Type} (g : State → β) (hg : ∀ (t : State) a b c, g { t with mgmt := a, accesses := b, ident := c } = g t)
    (s : State) (c : Nat) : g (s.expiryLoss c) = g s := by
  unfold State.expiryLoss
  split
  · exact hg s s.mgmt s.accesses _
  · split
    · exact hg s _ _ s.ident
    · rfl

theorem State.expiryLoss_spdm (s : State) (c : Nat) :
    (s.expiryLoss c).ident.session = if c = 0 then .none else s.ident.session := by
  unfold State.expiryLoss
  split
  · rfl
  · split <;> rfl

theorem State.expiryLoss_mgmt (s : State) (c : Nat) :
    (s.expiryLoss c).mgmt.session = if c = 2 then false else s.mgmt.session := by
  unfold State.expiryLoss
  by_cases h0 : c = 0
  · subst h0; rfl
  · by_cases h2 : c = 2
    · subst h2; rfl
    · rw [if_neg h0, if_neg h2, if_neg h2]

/-- Settles O37: a kick that counts is one write of the core's count, and an expiry marks the core before it closes what stood on it. -/
theorem watchdogsKickAndExpire : Obligations.WatchdogsKickAndExpire := by
  unfold Obligations.WatchdogsKickAndExpire
  intro s c
  refine ⟨fun hr v => ⟨fun hv => ?_, fun hv => ?_⟩, fun path v hpath => ?_, fun hrun => ?_, fun hstop => ?_⟩
  · have hcore (j : Nat) := s.core_modCore c.val j Core.kicked
    exact ⟨s.modCore c.val Core.kicked, next_onPath hr (s.kick_self c hv), (hcore _).trans (if_pos rfl),
      fun j hj => (hcore j).trans (if_neg hj), rfl⟩
  · exact next_onPath hr (s.kick_otherValue _ _ hv)
  · exact ⟨_, rfl, State.onPath_keeps State.cores (fun _ _ => rfl) s (congrArg _ (s.kick_otherPath hpath v)) ..⟩
  · have hexp := State.wdtExpired_running hrun
    have hcore (j : Nat) : (s.wdtExpired c).core j = (s.modCore c.val Core.expired).core j := by
      rw [hexp, State.mgmtIrq_keeps (fun t => t.core j) fun _ _ _ => rfl]
      exact State.expiryLoss_keeps (fun t => t.core j) (fun _ _ _ _ => rfl) _ _
    have hident : (s.wdtExpired c).ident.session = if c.val = 0 then .none else s.ident.session := by
      rw [hexp, State.mgmtIrq_keeps State.ident fun _ _ _ => rfl, State.expiryLoss_spdm]; rfl
    have hmgmt : (s.wdtExpired c).mgmt.session = if c.val = 2 then false else s.mgmt.session := by
      rw [hexp, State.mgmtIrq_keeps State.mgmt fun _ _ _ => rfl, State.expiryLoss_mgmt]; rfl
    refine ⟨s.wdtExpired c, rfl, ?_, fun j hj => ?_, fun h => ?_, fun h => ?_, fun h => ?_, fun h => ?_, s.wdtExpired_conf c, ?_⟩
    · rw [hcore, State.core_modCore, if_pos rfl]; rfl
    · rw [hcore, State.core_modCore, if_neg hj]
    · rw [hident, if_pos h]
    · rw [hmgmt, if_pos h]
    · rw [hident, if_neg h]
    · rw [hmgmt, if_neg h]
    · rw [hexp, State.mgmtIrq_keeps State.tide fun _ _ _ => rfl]
      exact State.expiryLoss_keeps State.tide (fun _ _ _ _ => rfl) _ _
  · exact next_settle_congr (State.wdtExpired_stopped hstop)

end Sys2Proof.Machine

/-! SETTLED: O38, the checks that every command of the ring passes first (05 R111, R112, R114). -/

namespace Sys2Proof.Machine

/-- What the checks of a command answer, in order: `t` is the state where they do not pass, for an opcode and the length of its payload. -/
structure State.RingChecked (s : State) (e : CmdEntry) (op len : Nat) (t : State) : Prop where
  idle : s.ringReady = false → t = s
  closed : s.ringReady = true → s.mgmt.session = false → op ≠ 0x01 → op ≠ 0x03 → t = s.ringTake.respond e.seq .permission
  order : s.ringReady = true → s.mgmt.session = true → e.seq ≠ s.mgmt.prevSeq + 1 → t = s.ringTake.respond e.seq .malformed
  payload : s.ringReady = true → s.mgmt.session = true → e.seq = s.mgmt.prevSeq + 1 →
    (e.length.toNat ≠ len ∨ allZero ((cmdBytes e).drop len) = false) → t = (s.ringTaken e).respond e.seq .malformed

section
variable (s : State) (e : CmdEntry) (op len : Nat)

theorem State.ringCmd_checked (f : State → State) : s.RingChecked e op len (s.ringCmd e op len f) := by
  have hprev : s.ringTake.mgmt.prevSeq = s.mgmt.prevSeq := rfl
  have hsame : s.ringTake.mgmt.session = s.mgmt.session := rfl
  refine ⟨fun hr => ?_, fun hr hs h1 h3 => ?_, fun hr hs hseq => ?_, fun hr hs hseq hpay => ?_⟩
  · rw [State.ringCmd, hr]; rfl
  · simp [State.ringCmd, hr, hsame, hs, h1, h3]
  · simp only [State.ringCmd, hr, hsame, hs, hprev, bne_iff_ne.mpr hseq, Bool.not_true, Bool.false_and, Bool.and_self, Bool.false_eq_true,
      if_false, if_true]
  · have hbad : (e.length.toNat != len || !allZero ((cmdBytes e).drop len)) = true := by simpa using hpay
    simp only [State.ringCmd, hr, hsame, hs, hprev, ← hseq, hbad, bne_self_eq_false, Bool.not_true, Bool.false_and, Bool.and_false,
      Bool.false_eq_true, if_false, if_true]
    rfl

/-- The effect of a row of the ring's table on a state: a row of another action has none, and each other one passes the checks first. -/
def State.RingRow (own : Bool) (t : State) : Prop := (own = false → t = s) ∧ (own = true → s.RingChecked e op len t)

theorem State.ringCmd_row (f : State → State) : s.RingRow e op len true (s.ringCmd e op len f) :=
  ⟨nofun, fun _ => s.ringCmd_checked e op len f⟩

/-- A row of one of `n` actions is the command's own where its action byte is the row's or none's. -/
theorem State.ringAct_row (off a n : Nat) (f : State → State) :
    s.RingRow e op len (cmdFld e off 1 == a || decide (n ≤ cmdFld e off 1)) (s.ringAct e off op len a n f) := by
  have hown : (cmdFld e off 1 == a || decide (n ≤ cmdFld e off 1)) = true ↔ ¬ (cmdFld e off 1 ≠ a ∧ cmdFld e off 1 < n) := by
    simp only [Bool.or_eq_true, beq_iff_eq, decide_eq_true_eq]; omega
  refine ⟨fun h => if_pos (not_not.mp (mt hown.mpr (Bool.eq_false_iff.mp h))), fun h => ?_⟩
  rw [State.ringAct, if_neg (hown.mp h)]
  exact s.ringCmd_checked e op len _

end

/-- Settles O38: each command is a row of the ring's table, and the rows answer by the checks they share. -/
theorem ringCommandsAreChecked : Obligations.RingCommandsAreChecked := by
  unfold Obligations.RingCommandsAreChecked
  intro s e x l m c op len own act hmem
  have hrow : ∃ t : State, exec c s = .next t.settle ∧ s.RingRow e op len own t := by
    simp only [List.mem_cons, Prod.mk.injEq, List.not_mem_nil, or_false] at hmem
    rcases hmem with ⟨rfl, rfl, rfl, rfl⟩ | ⟨rfl, rfl, rfl, rfl⟩ | ⟨rfl, rfl, rfl, rfl⟩ | ⟨rfl, rfl, rfl, rfl⟩ | ⟨rfl, rfl, rfl, rfl⟩ |
      ⟨rfl, rfl, rfl, rfl⟩ | ⟨rfl, rfl, rfl, rfl⟩ | ⟨rfl, rfl, rfl, rfl⟩ | ⟨rfl, rfl, rfl, rfl⟩ | ⟨rfl, rfl, rfl, rfl⟩ |
      ⟨rfl, rfl, rfl, rfl⟩ | ⟨rfl, rfl, rfl, rfl⟩ | ⟨rfl, rfl, rfl, rfl⟩ | ⟨rfl, rfl, rfl, rfl⟩ | ⟨rfl, rfl, rfl, rfl⟩ |
      ⟨rfl, rfl, rfl, rfl⟩ | ⟨rfl, rfl, rfl, rfl⟩ | ⟨rfl, rfl, rfl, rfl⟩ | ⟨rfl, rfl, rfl, rfl⟩ | ⟨rfl, rfl, rfl, rfl⟩ | ⟨rfl, rfl, rfl, rfl⟩
    iterate 8 exact ⟨_, rfl, s.ringCmd_row ..⟩
    iterate 8 exact ⟨_, rfl, s.ringAct_row ..⟩
    iterate 3 exact ⟨_, rfl, s.ringCmd_row ..⟩
    iterate 2 exact ⟨_, rfl, s.ringAct_row ..⟩
  obtain ⟨t, hexec, hother, hchecked⟩ := hrow
  rw [hexec]
  refine ⟨fun h => next_settle_congr (hother h), fun h => ⟨fun hr => next_settle_congr ((hchecked h).idle hr), fun hr => ?_⟩⟩
  exact ⟨fun hs h1 h3 => next_settle_congr ((hchecked h).closed hr hs h1 h3),
    fun hs hseq => next_settle_congr ((hchecked h).order hr hs hseq),
    fun hs hseq hpay => next_settle_congr ((hchecked h).payload hr hs hseq hpay)⟩

end Sys2Proof.Machine

/-! SETTLED: O39, the rings' indices, sessions, NOP and entries that could not be read (05 R110, R111, R114, R115). -/

namespace Sys2Proof.Machine

/-- The RESPONSE event of eight bytes that a command's sequence and status make (05, RESPONSE payload). -/
def answerEvent (seq : BitVec 32) (code : Byte) : Event :=
  { opcode := 0x8001, length := 8, payload := leBytes 4 seq.toNat ++ [code] ++ zeros 47 }

theorem State.respond_short (s : State) (seq : BitVec 32) (st : Status) : s.respond seq st =
    { s with mgmt := { s.mgmt with queue := s.mgmt.queue ++ [answerEvent seq (BitVec.ofNat 8 (statusCode st))] } } := rfl

/-! ### Indices -/

section
variable {s : State} {v : BitVec 32}

theorem State.cmdProdWrite_within (h : (v - s.mgmt.cmdCons).toNat ≤ s.theChart.limits.cmdRing) :
    s.cmdProdWrite v = { s with mgmt := { s.mgmt with cmdProd := v } } := by
  unfold State.cmdProdWrite
  split
  next hv => rw [hv]
  next => exact if_neg (Nat.not_lt.mpr h)

theorem State.cmdProdWrite_beyond (h : s.theChart.limits.cmdRing < (v - s.mgmt.cmdCons).toNat) (hv : v ≠ s.mgmt.cmdProd) :
    s.cmdProdWrite v = { s with mgmt := { s.mgmt with overrun := sat32 s.mgmt.overrun } } := (if_neg hv).trans (if_pos h)

end

/-! ### Entries that could not be read -/

section
variable {s : State} (h : s.ringReady = true)
include h

theorem State.unknownCmd_unread (op : BitVec 16) (seq : BitVec 32) {r : EntryRead} {st : Status}
    (hr : (r, st) ∈ [(EntryRead.crcFail, Status.checkFail), (.poison, .checkFail), (.busError, .busError), (.timeout, .timeout)]) :
    s.unknownCmd op seq r = s.ringBad st := by
  simp only [List.mem_cons, Prod.mk.injEq, List.not_mem_nil, or_false] at hr
  rcases hr with ⟨rfl, rfl⟩ | ⟨rfl, rfl⟩ | ⟨rfl, rfl⟩ | ⟨rfl, rfl⟩ <;> exact if_neg (by rw [h]; exact Bool.false_ne_true)

theorem State.unknownCmd_unknown {op : BitVec 16} (hop : knownCommand op.toNat = false) (hs : s.mgmt.session = true) (n : BitVec 16)
    (b : Bytes) : s.unknownCmd op (s.mgmt.prevSeq + 1) (.good n b) =
      (s.ringTake.setPrev (s.mgmt.prevSeq + 1)).respond (s.mgmt.prevSeq + 1) .malformed := by
  have hsession : s.ringTake.mgmt.session = true := hs
  have hprev : s.ringTake.mgmt.prevSeq = s.mgmt.prevSeq := rfl
  simp [State.unknownCmd, h, hop, hsession, hprev]

end

/-! ### HELLO -/

/-- A command that needs no session runs outside one where its length and its padding are right. -/
theorem State.ringCmd_sessionless {s : State} {e : CmdEntry} {n op : Nat} (hr : s.ringReady = true) (hs : s.mgmt.session = false)
    (hop : op = 1 ∨ op = 3) (hlen : e.length.toNat = n) (hpad : allZero ((cmdBytes e).drop n) = true) (f : State → State) :
    s.ringCmd e op n f = f (s.ringTaken e) := by
  have hsession : s.ringTake.mgmt.session = false := hs
  have hfree : (op != 1 && op != 3) = false := by rcases hop with rfl | rfl <;> rfl
  simp only [State.ringCmd, hr, hsession, hlen, hpad, bne_self_eq_false, Bool.not_true, Bool.not_false, Bool.true_and, Bool.false_and,
    Bool.or_self, Bool.false_eq_true, if_false, hfree]
  rfl

/-- The state with a session open under an agreed word, before the margins hear of it. -/
def State.sessionOpened (s : State) (word : BitVec 128) : State :=
  { s with mgmt := { s.mgmt with session := true, sessionNo := s.mgmt.sessionNo + 1, agreed := word } }

theorem State.openSession_eq (s : State) (word : BitVec 128) : ∃ h, s.openSession word = { s.sessionOpened word with health := h } := by
  refine eachOf_relates (R := fun a b => ∃ h, b = { a with health := h }) (fun a => ⟨a.health, rfl⟩) ?_ (fun _ _ => ⟨_, rfl⟩) _ _
  rintro a _ _ ⟨h, rfl⟩ ⟨k, rfl⟩
  exact ⟨k, rfl⟩

/-- The feature word both sides agree on. -/
def agreedWord (e : CmdEntry) : BitVec 128 := BitVec.ofNat 128 (cmdFld e 0x10 16) &&& offeredWord

/-- A session has been opened and answered, before the start hears of it. -/
def State.helloed (s : State) (e : CmdEntry) : State :=
  let t := s.openSession (agreedWord e)
  t.respond e.seq .ok (t.helloPart t.mgmt.sessionNo (agreedWord e)) 48

/-- Opening a session writes the margins' state, and of the rings the session and one event. -/
theorem State.helloed_eq (s : State) (e : CmdEntry) : ∃ h ev, s.helloed e = { s with health := h, mgmt := { s.mgmt with
    session := true, sessionNo := s.mgmt.sessionNo + 1, agreed := agreedWord e, queue := s.mgmt.queue ++ [ev] } } := by
  obtain ⟨h, hopen⟩ := s.openSession_eq (agreedWord e)
  rw [State.helloed, hopen]
  exact ⟨h, _, rfl⟩

section
variable {s : State} {e : CmdEntry} (hs : s.mgmt.session = false) (hrsv : allZero (cut (cmdBytes e) 2 6) = true) (habi : cmdFld e 8 1 = 1)
  (hword : agreedWord e = s.mgmt.agreed ∨ ∀ q, q ∈ s.queues → q.2.enable = false)
include hs hrsv habi hword

theorem State.helloCmd_opens : State.helloCmd e s = if (s.helloed e).startAt 13 then (s.helloed e).startGo 14 false else s.helloed e := by
  have hfree : ¬ (agreedWord e ≠ s.mgmt.agreed ∧ s.queues.any (fun x => x.2.enable) = true) := by
    rintro ⟨hne, hany⟩
    obtain ⟨q, hq, hon⟩ := List.any_eq_true.mp hany
    exact Bool.false_ne_true (((hword.resolve_left hne) q hq).symm.trans hon)
  unfold State.helloCmd
  rw [hs, hrsv]
  exact (if_neg (not_not.mpr habi)).trans (if_neg hfree)

/-- HELLO writes, beside the session, its answer and the margins, only the start that waits for it. -/
theorem State.helloCmd_eq : ∃ x ev st irq out, State.helloCmd e s = { s with
      health := x, start := st, irq := irq, out := out, mgmt := { s.mgmt with
        session := true, sessionNo := s.mgmt.sessionNo + 1, agreed := agreedWord e, queue := s.mgmt.queue ++ [ev] } } ∧
    st = if s.startAt 13 then { s.start with step := 14, waiting := false, failure := 0 } else s.start := by
  obtain ⟨x, ev, heq⟩ := s.helloed_eq e
  have hat : (s.helloed e).startAt 13 = s.startAt 13 := by rw [heq]; rfl
  rw [State.helloCmd_opens hs hrsv habi hword, hat]
  split
  · rw [State.startGo_eq, State.startGo, State.setStart_start, heq]
    exact ⟨x, ev, _, _, _, rfl, rfl⟩
  · rw [heq]
    exact ⟨x, ev, s.start, s.irq, s.out, rfl, rfl⟩

end

/-- Settles O39: the indices are written where they fit, and each command, once it passes the ring's checks, is one answer; HELLO opens
the session before it. -/
theorem ringSessionsAndIndices : Obligations.RingSessionsAndIndices := by
  unfold Obligations.RingSessionsAndIndices
  intro s
  refine ⟨fun path v hprod hcons => ⟨fun h => ?_, fun h hv => ?_, ?_⟩, fun hr => ?_⟩
  · exact next_settle_congr ((State.onPath_reached hprod _).trans (congrArg (State.written · path) (State.cmdProdWrite_within h)))
  · exact next_settle_congr ((State.onPath_reached hprod _).trans (congrArg (State.written · path) (State.cmdProdWrite_beyond h hv)))
  · exact next_settle_congr (State.onPath_reached hcons _)
  intro event
  refine ⟨fun e hs hseq hlen hpad => ?_, fun e hs hlen hpad habi hrsv hword => ?_, fun op seq r code hcode => ?_,
    fun op n b hop hs => ?_⟩
  · have ha : s.Accepts e 0 := ⟨hr, hs, hseq, by rw [hlen]; rfl, hpad⟩
    exact ⟨next_settle_congr (ha.ringCmd 3 _), next_settle_congr (ha.ringCmd 2 _)⟩
  · have hrun : s.hello e = State.helloCmd e (s.ringTaken e) := State.ringCmd_sessionless hr hs (.inl rfl) (by rw [hlen]; rfl) hpad _
    obtain ⟨x, ev, st, irq, out, heq, hst⟩ := State.helloCmd_eq (s := s.ringTaken e) hs hrsv habi hword
    have hat : (s.ringTaken e).startAt 13 = s.startAt 13 := rfl
    rw [hat] at hst
    refine ⟨_, next_settle_congr (hrun.trans heq), rfl, rfl, rfl, rfl, rfl, List.length_append, ?_, rfl, rfl, fun hstep hstop hwarm => ?_,
      fun hstep => ?_⟩
    · exact (congrArg State.conf (hrun.trans heq)).symm.trans (s.hello_conf e)
    · rw [State.startAt_of_step hstep hstop hwarm] at hst; exact hst
    · rw [State.startAt_elsewhere hstep] at hst; exact hst
  · simp only [List.mem_cons, Prod.mk.injEq, List.not_mem_nil, or_false] at hcode
    rcases hcode with ⟨rfl, rfl⟩ | ⟨rfl, rfl⟩ | ⟨rfl, rfl⟩ | ⟨rfl, rfl⟩
    · exact next_settle_congr (State.unknownCmd_unread hr op seq (st := .checkFail) (by simp))
    · exact next_settle_congr (State.unknownCmd_unread hr op seq (st := .checkFail) (by simp))
    · exact next_settle_congr (State.unknownCmd_unread hr op seq (st := .busError) (by simp))
    · exact next_settle_congr (State.unknownCmd_unread hr op seq (st := .timeout) (by simp))
  · exact next_settle_congr (State.unknownCmd_unknown hr hop hs n b)

end Sys2Proof.Machine

/-! SETTLED: O36, loads and reloads of firmware images, and the end of their checks (05 R102 to R106). -/

namespace Sys2Proof.Machine

theorem mem_coresOf {cores : BitVec 7} {c : Nat} : c ∈ coresOf cores ↔ c < 7 ∧ cores.getLsbD c = true := by
  rw [coresOf, List.mem_filter, List.mem_range]

theorem nodup_coresOf (cores : BitVec 7) : (coresOf cores).Nodup := List.nodup_range.filter _

/-- A change of each core of a list without repeats is made once. -/
theorem State.core_eachOf_modCore (f : Core → Core) {l : List Nat} (hl : l.Nodup) (s : State) (j : Nat) :
    (eachOf (fun c t => State.modCore t c f) l s).core j = if j ∈ l then f (s.core j) else s.core j := by
  induction l generalizing s with
  | nil => rfl
  | cons c l ih =>
    obtain ⟨hc, hl⟩ := List.nodup_cons.mp hl
    rw [eachOf, ih hl, State.core_modCore]
    by_cases hj : j = c
    · subst hj; simp [hc]
    · simp [hj]

/-! ### Loads begin -/

section
variable {s : State} {cores : BitVec 7}

theorem State.fwLoadGo_begins (hat : s.startAt 11 = true) (hbusy : s.fw.busy = false) : s.fwLoadGo cores =
    { s with fw := { s.fw with busy := true, reload := false, cores := cores }, start := { s.start with waiting := false } } := by
  unfold State.fwLoadGo
  rw [hat, hbusy]
  exact State.setStart_quiet id id nofun

theorem State.fwReloadGo_begins (hready : s.start.ready = true) (hbusy : s.fw.busy = false) (hsome : cores ≠ 0)
    (hsec : cores.getLsbD 0 = false) (hheld : ∀ c, c < 7 → cores.getLsbD c = true → (s.core c).state = .watchdog) :
    s.fwReloadGo cores = { s with fw := { s.fw with busy := true, reload := true, cores := cores } } := by
  have hall : (coresOf cores).all (fun c => (s.core c).state == .watchdog) = true :=
    List.all_eq_true.mpr fun c hc => beq_iff_eq.mpr (hheld c (mem_coresOf.mp hc).1 (mem_coresOf.mp hc).2)
  unfold State.fwReloadGo
  rw [hready, hbusy, hsec, hall, bne_iff_ne.mpr hsome]
  rfl

theorem State.fwReloadGo_refused (h : cores.getLsbD 0 = true ∨ s.start.ready = false) : s.fwReloadGo cores = s := by
  unfold State.fwReloadGo
  refine if_neg ?_
  rcases h with h | h
  · simp only [h, Bool.not_true, Bool.and_false, Bool.false_and, Bool.false_eq_true, not_false_iff]
  · simp only [h, Bool.false_and, Bool.false_eq_true, not_false_iff]

end

/-! ### The end of the checks -/

/-- A load has ended with a status, before the cores hear of it. -/
def State.loadEnded (s : State) (st : Status) : State := { s with fw := { s.fw with busy := false, result := st } }

/-- The core that a load with a status leaves. -/
def Core.loaded (st : Status) (b : Bytes) (k : Core) : Core :=
  if k.state = .fenced then { k with result := st }
  else if st = .ok then
    { k with result := st, state := .verified, measured := some (sha384 (imageBody b)), release := BitVec.ofNat 32 (fld b 8 4),
             sram := (imageBody b).drop 192, entry := BitVec.ofNat 32 (fld b 0x18 4) }
  else { k with result := st, state := .held, measured := none }

/-- A load is told to its cores, and its interrupt is raised. -/
def State.loadNoted (s : State) (st : Status) (b : Bytes) : State :=
  (eachOf (fun c t => State.modCore t c (Core.loaded st b)) (coresOf s.fw.cores) (s.loadEnded st)).shIrq 2

/-- The outcome of a load, before the manager above hears of it: the start goes on where every core is verified. -/
def State.loadOutcome (s : State) (st : Status) (b : Bytes) : State :=
  let t := s.loadNoted st b
  if st = .ok ∧ t.allVerified = true then t.startGo 12 false
  else t.setStart { t.start with waiting := true, failure := if st = .ok then t.start.failure else 0x05 }

/-- The cores of a reload are told its status. -/
def State.reloadTold (s : State) (st : Status) : State :=
  eachOf (fun c t => State.modCore t c (fun k => { k with result := st })) (coresOf s.fw.cores) (s.loadEnded st)

/-- The outcome of a reload, before the manager above hears of it: its cores run again where it passes. -/
def State.reloadOutcome (s : State) (st : Status) : State :=
  (if st = .ok then eachOf State.coreReloaded (coresOf s.fw.cores) (s.reloadTold st) else s.reloadTold st).shIrq 2

/-- Every core of the load has measured this image. -/
def State.measuredSame (s : State) (b : Bytes) : Bool :=
  (coresOf s.fw.cores).all (fun c => (s.core c).measured == some (sha384 (imageBody b)))

/-- The status of an image that was read: its own checks, and for a reload that it is the one measured (05 R104, R106). -/
def State.imageVerdict (s : State) (b : Bytes) : Status :=
  let r := imageCheck b false s.fw.cores s.fenced.cores
  if r = .ok ∧ s.fw.reload = true ∧ s.measuredSame b = false then .checkFail else r

theorem State.imageVerified_ok {s : State} (hbusy : s.fw.busy = true) (hfree : ∀ a, a ∈ s.accesses → a.purpose ≠ .image) (b : Bytes) :
    s.imageVerified (.ok b) =
      if s.fw.reload then s.reloadOutcome (s.imageVerdict b) else s.loadOutcome (s.imageVerdict b) b := by
  have hthere : ¬ (!s.fw.busy || s.accesses.any (fun a => a.purpose == .image)) = true := by simpa [hbusy] using hfree
  exact if_neg hthere

theorem State.imageVerdict_load {s : State} (h : s.fw.reload = false) (b : Bytes) :
    s.imageVerdict b = imageCheck b false s.fw.cores s.fenced.cores :=
  if_neg fun hv => Bool.false_ne_true (h.symm.trans hv.2.1)

/-- A reload of another image than the one measured fails, whatever its own checks say. -/
theorem State.imageVerdict_otherImage {s : State} (h : s.fw.reload = true) {b : Bytes}
    (hother : ∃ c, c < 7 ∧ s.fw.cores.getLsbD c = true ∧ (s.core c).measured ≠ some (sha384 (imageBody b))) :
    s.imageVerdict b = (if imageCheck b false s.fw.cores s.fenced.cores = .ok then .checkFail
      else imageCheck b false s.fw.cores s.fenced.cores) ∧ s.imageVerdict b ≠ .ok := by
  obtain ⟨c, hc, hin, hne⟩ := hother
  have hsame : s.measuredSame b = false := List.all_eq_false.mpr ⟨c, mem_coresOf.mpr ⟨hc, hin⟩, by simpa using hne⟩
  have hverdict : s.imageVerdict b = (if imageCheck b false s.fw.cores s.fenced.cores = .ok then .checkFail
      else imageCheck b false s.fw.cores s.fenced.cores) := by
    simp only [State.imageVerdict, h, hsame, and_true]
  refine ⟨hverdict, ?_⟩
  rw [hverdict]
  split
  · decide
  · assumption

theorem State.imageTold_keeps (s old : State) {β : Type} (g : State → β)
    (hg : ∀ (x : State) a b c d e, g { x with peers := a, out := b, rand := c, nextTag := d, relay := e } = g x) :
    g (s.imageTold old) = g s := by
  unfold State.imageTold
  split
  · exact s.statusUp_keeps 2 g hg
  · rfl

/-- The messages that end the command change the ports to peers and the relay alone. -/
theorem State.imageReports_keep (s old : State) {β : Type} (g : State → β)
    (hg : ∀ (x : State) a b c d e, g { x with peers := a, out := b, rand := c, nextTag := d, relay := e } = g x) :
    g ((s.startTold old).imageTold old) = g s :=
  ((s.startTold old).imageTold_keeps old g hg).trans (s.startTold_keeps old g hg)

section
variable (s : State) (st : Status) (b : Bytes)

/-- Past the cores and the interrupt a load's outcome writes the start alone. -/
theorem State.loadOutcome_keeps {β : Type} (g : State → β) (hg : ∀ (x : State) a c d, g { x with start := a, irq := c, out := d } = g x) :
    g (s.loadOutcome st b) = g (s.loadNoted st b) := by
  unfold State.loadOutcome
  dsimp only
  split
  · rw [State.startGo_eq, hg]
  · rw [State.setStart_eq, hg]

theorem State.loadOutcome_bit : (s.loadOutcome st b).irq.status.getLsbD 2 = true := by
  have hbit : (s.loadNoted st b).irq.status.getLsbD 2 = true := State.shIrq_bit _ (by decide)
  unfold State.loadOutcome
  dsimp only
  split
  · exact State.setStart_bit hbit
  · exact State.setStart_bit hbit

theorem State.loadNoted_keeps {β : Type} (g : State → β) (hg : ∀ (x : State) a c d, g { x with cores := a, irq := c, out := d } = g x) :
    g (s.loadNoted st b) = g (s.loadEnded st) := by
  rw [State.loadNoted, State.shIrq_eq]
  exact (hg _ _ _ _).trans (eachOf_keeps g (fun _ t => hg t _ t.irq t.out) _ _)

theorem State.loadNoted_core (c : Nat) :
    (s.loadNoted st b).core c = if c < 7 ∧ s.fw.cores.getLsbD c = true then (s.core c).loaded st b else s.core c := by
  rw [State.loadNoted, State.core, State.shIrq_cores, ← State.core, State.core_eachOf_modCore _ (nodup_coresOf _)]
  simp only [mem_coresOf]; rfl

/-- A reload that does not pass writes its cores' results, and tells of its end. -/
theorem State.reloadOutcome_keeps (h : st ≠ .ok) {β : Type} (g : State → β)
    (hcore : ∀ (x : State) c, g (x.modCore c fun k => { k with result := st }) = g x)
    (hirq : ∀ (x : State) c d, g { x with irq := c, out := d } = g x) : g (s.reloadOutcome st) = g (s.loadEnded st) := by
  rw [State.reloadOutcome, if_neg h, State.shIrq_eq]
  exact (hirq _ _ _).trans (eachOf_keeps g (fun c t => hcore t c) _ _)

end

theorem Core.loaded_unfenced {k : Core} (h : k.state ≠ .fenced) (st : Status) (b : Bytes) : k.loaded st b =
    if st = .ok then
      { k with result := st, state := .verified, measured := some (sha384 (imageBody b)), release := BitVec.ofNat 32 (fld b 8 4),
               sram := (imageBody b).drop 192, entry := BitVec.ofNat 32 (fld b 0x18 4) }
    else { k with result := st, state := .held, measured := none } := if_neg h

/-- What a change of cores' results leaves of each core, every core keeps. -/
theorem State.modCore_reads {β : Type} (g : Core → β) {f : Core → Core} (hf : ∀ k, g (f k) = g k) (s : State) (c j : Nat) :
    g ((s.modCore c f).core j) = g (s.core j) := by
  rw [State.core_modCore]
  split
  next h => rw [h, hf]
  next => rfl

/-- Settles O36: loads and reloads begin where their conditions hold, and the end of the checks is `State.loadOutcome` or a reload refused. -/
theorem firmwareImagesAreVerified : Obligations.FirmwareImagesAreVerified := by
  unfold Obligations.FirmwareImagesAreVerified
  intro s
  refine ⟨fun path cores hr => ⟨fun hstep hstop hwarm hbusy => ?_, fun hready hbusy hsome hsec hheld => ?_, fun h => ?_⟩,
    fun hbusy hfree b => ⟨fun hload => ?_, fun hreload hother => ?_⟩⟩
  · exact next_onPath hr (State.fwLoadGo_begins (State.startAt_of_step hstep hstop hwarm) hbusy)
  · exact next_onPath hr (State.fwReloadGo_begins hready hbusy hsome hsec hheld)
  · exact next_onPath hr (State.fwReloadGo_refused h)
  · have hout : s.imageVerified (.ok b) = s.loadOutcome (imageCheck b false s.fw.cores s.fenced.cores) b := by
      rw [State.imageVerified_ok hbusy hfree, hload, State.imageVerdict_load hload]; rfl
    generalize imageCheck b false s.fw.cores s.fenced.cores = st at hout ⊢
    have htold {β : Type} (g : State → β)
        (hg : ∀ (x : State) a b c d e, g { x with peers := a, out := b, rand := c, nextTag := d, relay := e } = g x) :
        g (((s.imageVerified (.ok b)).startTold s).imageTold s) = g (s.loadOutcome st b) :=
      hout ▸ State.imageReports_keep _ s g hg
    have hcore (c : Nat) : (((s.imageVerified (.ok b)).startTold s).imageTold s).core c = (s.loadNoted st b).core c :=
      (htold (fun t => t.core c) fun _ _ _ _ _ _ => rfl).trans (s.loadOutcome_keeps st b (fun t => t.core c) fun _ _ _ _ => rfl)
    refine ⟨((s.imageVerified (.ok b)).startTold s).imageTold s, rfl, ?_, fun c hc => ?_, fun c hc hin hcut => ?_, ?_, ?_, ?_⟩
    · rw [htold State.fw fun _ _ _ _ _ _ => rfl, s.loadOutcome_keeps st b State.fw fun _ _ _ _ => rfl,
        s.loadNoted_keeps st b State.fw fun _ _ _ _ => rfl]; rfl
    · rw [hcore, State.loadNoted_core, if_neg fun h => Bool.false_ne_true ((hc h.1).symm.trans h.2)]
    · rw [hcore, State.loadNoted_core, if_pos ⟨hc, hin⟩, Core.loaded_unfenced hcut]
    · rw [htold State.irq fun _ _ _ _ _ _ => rfl, State.loadOutcome_bit]
    · exact (State.imageTold_conf ..).trans ((State.startTold_conf ..).trans (State.imageVerified_conf ..))
    · rw [htold State.tide fun _ _ _ _ _ _ => rfl, s.loadOutcome_keeps st b State.tide fun _ _ _ _ => rfl,
        s.loadNoted_keeps st b State.tide fun _ _ _ _ => rfl]; rfl
  · obtain ⟨hverdict, hbad⟩ := State.imageVerdict_otherImage hreload hother
    have hout : s.imageVerified (.ok b) = s.reloadOutcome (s.imageVerdict b) := by
      rw [State.imageVerified_ok hbusy hfree, hreload]; rfl
    have htold {β : Type} (g : State → β)
        (hcore : ∀ (x : State) c, g (x.modCore c fun k => { k with result := s.imageVerdict b }) = g x)
        (hg : ∀ (x : State) a b c d e f, g { x with peers := a, out := b, rand := c, nextTag := d, relay := e, irq := f } = g x) :
        g (((s.imageVerified (.ok b)).startTold s).imageTold s) = g (s.loadEnded (s.imageVerdict b)) :=
      (State.imageReports_keep _ s g fun x a b c d e => hg x a b c d e x.irq).trans
        (hout ▸ s.reloadOutcome_keeps _ hbad g hcore fun x c d => hg x x.peers d x.rand x.nextTag x.relay c)
    have hfw : (((s.imageVerified (.ok b)).startTold s).imageTold s).fw = (s.loadEnded (s.imageVerdict b)).fw :=
      htold State.fw (fun _ _ => rfl) fun _ _ _ _ _ _ _ => rfl
    have hcore {β : Type} (g : Core → β) (hg : ∀ k : Core, g { k with result := s.imageVerdict b } = g k) (c : Nat) :
        g ((((s.imageVerified (.ok b)).startTold s).imageTold s).core c) = g (s.core c) :=
      htold (fun t => g (t.core c)) (fun x k => State.modCore_reads g hg x k c) fun _ _ _ _ _ _ _ => rfl
    refine ⟨((s.imageVerified (.ok b)).startTold s).imageTold s, rfl, congrArg FwLoad.busy hfw,
      (congrArg FwLoad.result hfw).trans hverdict, fun c => ⟨hcore Core.state (fun _ => rfl) c, hcore Core.measured (fun _ => rfl) c⟩, ?_⟩
    exact (State.imageTold_conf ..).trans ((State.startTold_conf ..).trans (State.imageVerified_conf ..))

end Sys2Proof.Machine

/-! SETTLED: O9, steps 8 to 16 of the start (05 R97, R98, R105, R125; 15 R358, R360, R364). -/

namespace Sys2Proof.Machine

/-- Where each operation of a list without repeats changes its own index alone, every index of the list is changed once. `P` is what the
operations keep of the state. -/
theorem eachOf_once {β : Type} {step : Nat → State → State} {g : Nat → State → β} {f : Nat → β → β} {P : State → Prop}
    (hkeep : ∀ c t, P t → P (step c t)) (h : ∀ c t, P t → ∀ j, g j (step c t) = if j = c then f c (g c t) else g j t)
    {l : List Nat} (hl : l.Nodup) {s : State} (hs : P s) (j : Nat) : g j (eachOf step l s) = if j ∈ l then f j (g j s) else g j s := by
  induction l generalizing s with
  | nil => rfl
  | cons c l ih =>
    obtain ⟨hc, hl⟩ := List.nodup_cons.mp hl
    rw [eachOf, ih hl (hkeep c s hs), h c s hs]
    by_cases hj : j = c
    · subst hj; simp [hc]
    · simp [hj]

theorem State.coldAt_of_step {s : State} {n : Nat} (hstep : s.start.step = n) (hcold : s.start.warm = false)
    (hstop : s.start.stopped = false) : s.coldAt n = true := by
  rw [State.coldAt, hstep, hcold, hstop, beq_self_eq_true]; rfl

/-- A start that goes on without waiting is written and no more. -/
theorem State.startGo_quiet (s : State) (n : Nat) :
    s.startGo n false = { s with start := { s.start with step := n, waiting := false, failure := 0 } } :=
  State.setStart_quiet id id nofun

/-- Nothing is told upward of a start that only takes another step. -/
theorem State.startTold_of_step {u s : State} {n : Nat} {waiting : Bool}
    (h : u.start = { s.start with step := n, waiting := waiting, failure := 0 }) : u.startTold s = u :=
  State.startTold_quiet (fun hr => by rw [h] at hr; exact hr) fun hs => by rw [h] at hs; exact hs

/-! ### Step 8: ports -/

section
variable (s : State) (n : Nat)

/-- A host port that has risen. -/
def HostPort.risen (h : HostPort) : HostPort := { h with readyOut := true, rxCredits := 64 }

theorem State.hostRise_host (j : Nat) :
    (State.hostRise n s).host j = if j = n ∧ s.hostMayRise n = true then (s.host n).risen else s.host j := by
  unfold State.hostRise
  cases s.hostMayRise n with
  | false => simp
  | true =>
    rw [if_pos rfl]
    simp only [and_true]
    exact s.host_modHost n j HostPort.risen

/-- A port that rises says nothing of whether another may. -/
theorem State.hostRise_mayRise {j : Nat} (h : j ≠ n) : (State.hostRise n s).hostMayRise j = s.hostMayRise j := by
  have hrest : ∃ a b, State.hostRise n s = { s with hosts := a, out := b } := by
    unfold State.hostRise
    split
    · exact ⟨_, _, rfl⟩
    · exact ⟨s.hosts, s.out, rfl⟩
  have hhost : (State.hostRise n s).host j = s.host j := by rw [State.hostRise_host, if_neg (fun e => h e.1)]
  obtain ⟨a, b, heq⟩ := hrest
  rw [State.hostMayRise, hhost, heq]; rfl

theorem State.raisePorts_host {n : Nat} (h : n < 2) :
    s.raisePorts.host n = if s.hostMayRise n then (s.host n).risen else s.host n := by
  have hpeers : s.raisePorts.host n = (State.hostRise 1 (State.hostRise 0 s)).host n := by
    refine eachOf_keeps (fun t => t.host n) (fun p t => ?_) _ _
    split
    · exact (State.onPort_peerRise p t).keeps (fun t => t.host n) fun _ _ _ _ _ => rfl
    · rfl
  rw [hpeers, State.hostRise_host, State.hostRise_host, State.hostRise_host, State.hostRise_mayRise s 0 (by decide)]
  obtain rfl | rfl : n = 0 ∨ n = 1 := by omega
  · simp
  · simp

end

/-! ### Steps 9 and 11: keys of the peers, images -/

theorem State.noteImage_start (s : State) : s.noteImage.start = s.start := by
  unfold State.noteImage
  split
  · exact State.record_start ..
  · rfl

theorem State.enter11_start (s : State) : s.enter11.start = { s.start with step := 11, waiting := true, failure := 0 } := by
  rw [State.enter11, State.startGo, State.setStart_start]
  exact congrArg (fun st : StartState => { st with step := 11, waiting := true, failure := 0 }) s.noteImage_start

theorem State.peersReady_eq {s : State} (hat : s.coldAt 9 = true) (h : ∀ p, p < 4 → s.peerSettled p = true) :
    s.peersReady = if s.inSeed then s.startGo 10 true else s.enter11 := by
  have hall : [0, 1, 2, 3].all s.peerSettled = true :=
    List.all_eq_true.mpr fun p hp => h p (by simp only [List.mem_cons, List.not_mem_nil, or_false] at hp; omega)
  rw [State.peersReady, hat, hall]; rfl

/-! ### Steps 12 and 13: the ALIAS key and SEC -/

/-- The compound identifier of the ALIAS key (15 R358). -/
def State.aliasCdi (s : State) : Bytes := hmac384 (s.ident.cdiDev.getD []) (ascii "CAERN-ALIAS" ++ s.measures)

/-- The ALIAS certificate, signed with the DeviceID key and the next random value (15 R362). -/
def State.aliasCert (s : State) : Bytes :=
  let pub := pubOf (keypair s.aliasCdi)
  let h := sha384 pub
  let tbs := aliasTbs pub s.ident.devPub (BitVec.ofNat 8 (byteAt h 0 % 128) :: (h.take 20).tail) (m1 ++ s.measures)
  derCert tbs (ecdsaSign s.ident.devKey (s.draw.1.toNat % (p384N - 1) + 1) (sha384 tbs))

/-- The part of a read that the driver gave as its chain. -/
def State.givenChain (s : State) : ReadResult → Bytes
  | .ok b => b.take s.ident.chainLen.toNat
  | _ => []

/-- The state with an ALIAS key, its certificate and the driver's chain, before SEC runs. -/
def State.aliasMade (s : State) (chain : ReadResult) : State :=
  { s with
    rand := if s.ident.entropyFail then s.rand else s.rand + 1
    ident := { s.ident with
      cdiAlias := some s.aliasCdi, aliasKey := keypair s.aliasCdi, aliasPub := pubOf (keypair s.aliasCdi),
      cert := if s.ident.entropyFail then [] else s.aliasCert,
      chain := if chainEnds (s.givenChain chain) s.ident.devPub then s.givenChain chain else [],
      chainOk := chainEnds (s.givenChain chain) s.ident.devPub } }

/-- A core that is released runs, its watchdog counting anew. -/
def Core.started (k : Core) : Core := { k with state := .running, wdt := 0 }

theorem State.deriveAlias_eq {s : State} (hat : s.startAt 12 = true) (chain : ReadResult) :
    s.deriveAlias chain = ((s.aliasMade chain).modCore 0 Core.started).startGo 13 false := by
  refine (if_neg (by rw [hat]; exact Bool.false_ne_true)).trans ?_
  unfold State.aliasMade
  cases chain <;> cases s.ident.entropyFail <;> rfl

/-! ### Supplies -/

/-- A later state differs from an earlier one at most in the clock blocks, the margins and what has been driven. -/
def State.OnClocks (s t : State) : Prop := ∃ a h o, t = { s with clocks := a, health := h, out := o }

theorem State.OnClocks.refl (s : State) : s.OnClocks s := ⟨s.clocks, s.health, s.out, rfl⟩

theorem State.OnClocks.trans {s t u : State} (h : s.OnClocks t) (h' : t.OnClocks u) : s.OnClocks u := by
  obtain ⟨a, x, o, rfl⟩ := h
  obtain ⟨b, y, p, rfl⟩ := h'
  exact ⟨b, y, p, rfl⟩

theorem State.OnClocks.each {α : Type} {f : α → State → State} (h : ∀ x t, State.OnClocks t (f x t)) (l : List α) (s : State) :
    s.OnClocks (eachOf f l s) :=
  eachOf_relates (R := State.OnClocks) .refl (fun _ _ _ h h' => h.trans h') h l s

theorem State.OnClocks.keeps {s t : State} (h : s.OnClocks t) {β : Type} (g : State → β)
    (hg : ∀ (x : State) a b c, g { x with clocks := a, health := b, out := c } = g x) : g t = g s := by
  obtain ⟨a, x, o, rfl⟩ := h
  exact hg ..

theorem State.onClocks_setClock (s : State) (sl : Slice) (k : ClockState) : s.OnClocks (s.setClock sl k) := ⟨_, s.health, s.out, rfl⟩

theorem State.onClocks_drive (s : State) (o : Out) : s.OnClocks (s.drive o) := ⟨s.clocks, s.health, _, rfl⟩

theorem State.onClocks_supplyRestore (sl : Slice) (s : State) : s.OnClocks (State.supplyRestore sl s) := by
  unfold State.supplyRestore
  dsimp only
  split
  · exact .refl s
  · exact (s.onClocks_setClock sl _).trans (State.onClocks_drive _ _)

theorem State.onClocks_supplyGo (sl : Slice) (s : State) : s.OnClocks (State.supplyGo sl s) := by
  refine (s.onClocks_supplyRestore sl).trans ?_
  unfold State.supplyGo
  dsimp only
  split
  · exact .refl _
  · split
    · exact .refl _
    · split
      · exact State.onClocks_setClock _ sl _
      · exact (State.onClocks_setClock _ sl _).trans (State.onClocks_drive _ _)

theorem State.onClocks_pwrStart (s : State) : s.OnClocks s.pwrStart :=
  .each (fun _ t =>
    (State.OnClocks.trans ⟨t.clocks, _, t.out, rfl⟩ (State.onClocks_setClock _ _ _)).trans (State.onClocks_supplyGo _ _)) _ s

/-! ### Step 13: SEC is ready -/

/-- A verified core is released. -/
def State.releaseCore (c : Nat) (t : State) : State := if (t.core c).state == .verified then t.modCore c Core.started else t

/-- Every verified core is released. -/
@[irreducible] def State.coresReleased (s : State) : State := eachOf State.releaseCore [1, 2, 3, 4, 5, 6] s

/-- SEC is marked ready and every verified core released. -/
def State.secMarked (s : State) : State :=
  { s.coresReleased with
    tapUnlock := s.coresReleased.tapUnlock || Config.secUnlocks ((s.coresReleased.core 0).measured.getD [])
    ident := { s.coresReleased.ident with secReady := true } }

/-- The start waits for HELLO. -/
def State.secWaits (s : State) : State := s.secMarked.setStart { s.secMarked.start with waiting := true }

theorem State.secReadyGo_eq {s : State} (hat : s.startAt 13 = true) (hnew : s.ident.secReady = false)
    (hrun : (s.core 0).state = .running) : s.secReadyGo = if s.secWaits.pwr then s.secWaits.pwrStart else s.secWaits := by
  have hgo : (!s.startAt 13 || s.ident.secReady || (s.core 0).state != .running) = false := by rw [hat, hnew, hrun]; rfl
  unfold State.secReadyGo
  rw [hgo, if_neg Bool.false_ne_true]
  unfold State.secWaits State.secMarked State.coresReleased State.releaseCore Core.started
  with_reducible rfl

theorem State.onClocks_secReadyGo {s : State} (hat : s.startAt 13 = true) (hnew : s.ident.secReady = false)
    (hrun : (s.core 0).state = .running) : s.secWaits.OnClocks s.secReadyGo := by
  rw [State.secReadyGo_eq hat hnew hrun]
  split
  · exact State.onClocks_pwrStart _
  · exact .refl _

theorem State.coresReleased_keeps {β : Type} (g : State → β) (hg : ∀ (t : State) a, g { t with cores := a } = g t) (s : State) :
    g s.coresReleased = g s := by
  unfold State.coresReleased
  refine eachOf_keeps g (fun c t => ?_) _ s
  unfold State.releaseCore
  split
  · exact hg t _
  · rfl

theorem State.secMarked_start (s : State) : s.secMarked.start = s.start := s.coresReleased_keeps State.start fun _ _ => rfl

theorem State.core_releaseCore (c j : Nat) (t : State) : (State.releaseCore c t).core j =
    if j = c then (if (t.core c).state = .verified then (t.core c).started else t.core c) else t.core j := by
  unfold State.releaseCore
  by_cases hv : (t.core c).state = .verified
  · rw [if_pos (beq_iff_eq.mpr hv), State.core_modCore, if_pos hv]
  · rw [if_neg (by simpa using hv), if_neg hv]
    split
    next h => rw [h]
    next => rfl

theorem State.coresReleased_core (s : State) {c : Nat} (hc : c ∈ [1, 2, 3, 4, 5, 6]) (hv : (s.core c).state = .verified) :
    s.coresReleased.core c = (s.core c).started := by
  have honce := eachOf_once (g := fun j t => State.core t j) (P := fun _ => True)
    (f := fun _ k => if k.state = .verified then k.started else k) (fun _ _ _ => trivial)
    (fun x t _ j => State.core_releaseCore x j t) (l := [1, 2, 3, 4, 5, 6]) (by decide) (s := s) trivial c
  unfold State.coresReleased
  rw [honce, if_pos hc, if_pos hv]

theorem State.secWaits_core (s : State) (c : Nat) : s.secWaits.core c = s.coresReleased.core c := by
  rw [State.secWaits, State.core, State.setStart_cores]; rfl

/-! ### Steps 14 to 16 -/

theorem State.startReset_warm {s : State} (hat : s.startAt 15 = true) (hwarm : s.start.warm = true) :
    s.startReset = s.resetWork.startGo 16 false := by
  rw [State.startReset, hat, if_neg (by decide), hwarm, if_pos rfl]

theorem State.startReset_cold {s : State} (hat : s.startAt 15 = true) (hwarm : s.start.warm = false) :
    s.startReset = s.resetWork.goReady 0 := by
  rw [State.startReset, hat, if_neg (by decide), hwarm, if_neg Bool.false_ne_true]

/-- A channel of the chart takes its state at READY. -/
def State.readyChan (c : Nat) (t : State) : State :=
  if (t.chanEntry c).inUse && !t.fenced.channels.getLsbD c then
    t.modChan c (fun k => { k with state := if 60 ≤ c then .disabled else .enabled, enable := decide (c < 60) }) else t

/-- An engine port of the chart takes its state at READY. -/
def State.readyPort (e : Nat) (t : State) : State :=
  t.setPortOn e (t.theChart.ports.engineEnable.getLsbD e && !t.fenced.engine.getLsbD e)

/-- The state with channels and engine ports ready. -/
def State.readied (s : State) : State := eachOf State.readyPort (List.range 8) (eachOf State.readyChan (List.range 64) s)

theorem State.goReady_eq (s : State) (code : BitVec 8) : s.goReady code =
    s.readied.setStart { s.readied.start with step := 0x11, ready := true, waiting := false, failure := code, lost := false } := by
  unfold State.goReady State.readied State.readyPort State.readyChan
  with_reducible rfl

theorem State.readied_keeps {β : Type} (g : State → β) (hg : ∀ (x : State) a b, g { x with chans := a, portEnable := b } = g x)
    (s : State) : g s.readied = g s := by
  have hport (e : Nat) (t : State) : g (State.readyPort e t) = g t := hg t t.chans _
  have hchan (c : Nat) (t : State) : g (State.readyChan c t) = g t := by
    unfold State.readyChan
    split
    · exact hg t _ t.portEnable
    · rfl
  rw [State.readied, eachOf_keeps g hport, eachOf_keeps g hchan]

/-- READY puts channels and engine ports into their states, and the start at its end. -/
theorem State.goReady_keeps {β : Type} (g : State → β)
    (hg : ∀ (x : State) a b c d e, g { x with chans := a, portEnable := b, start := c, irq := d, out := e } = g x) (s : State)
    (code : BitVec 8) : g (s.goReady code) = g s := by
  rw [State.goReady_eq, State.setStart_eq, hg s.readied s.readied.chans s.readied.portEnable,
    State.readied_keeps g fun x a b => hg x a b x.start x.irq x.out]

theorem State.goReady_start (s : State) (code : BitVec 8) : (s.goReady code).start =
    { s.start with step := 0x11, ready := true, waiting := false, failure := code, lost := false } := by
  rw [State.goReady_eq, State.setStart_start, State.readied_keeps State.start fun _ _ _ => rfl]

theorem State.resetWork_start (s : State) : s.resetWork.start = s.start := State.resetWork_reads State.start (fun _ _ => rfl) (fun _ _ => rfl) s

/-- A save area that does not serve ends the start with failure 0x06. -/
theorem State.queueRecover_lost {s : State} (hat : s.startAt 16 = true) {area : ReadResult}
    (hbad : ∀ b, area = .ok b → (s.mgmt.saveValid && s.saveOk b) = false) : s.queueRecover area = s.goReady 0x06 := by
  unfold State.queueRecover
  rw [hat, if_neg (by decide)]
  cases area with
  | ok b => dsimp only; rw [hbad b rfl, if_neg Bool.false_ne_true]
  | poison b => with_reducible rfl
  | busError => with_reducible rfl
  | timeout => with_reducible rfl

theorem State.queueRecover_restored {s : State} (hat : s.startAt 16 = true) {b : Bytes} (hok : (s.mgmt.saveValid && s.saveOk b) = true) :
    s.queueRecover (.ok b) = (eachOf (State.restoreQueue b) (List.range 4096) s).goReady 0 := by
  unfold State.queueRecover
  rw [hat, if_neg (by decide)]
  dsimp only
  rw [hok, if_pos rfl]

/-- The queue-table entry that a saved entry restores. -/
def restoredQueue (b : Bytes) (q : Nat) : Queue :=
  let o := 64 + 32 * q
  let cfg := fld b (o + 8) 4
  { base := BitVec.ofNat 57 (fld b o 8 / 128 * 128), dbEnable := bit cfg 27, enable := false, priority := BitVec.ofNat 2 (bits cfg 25 24),
    channel := BitVec.ofNat 8 (bits cfg 23 16), sizeLog2 := BitVec.ofNat 8 (bits cfg 7 0),
    pending := statusOf (byteAt b (o + 0x0E)), state := .disabled, prod := BitVec.ofNat 32 (fld b (o + 0x10) 4),
    cons := BitVec.ofNat 32 (fld b (o + 0x14) 4), cursor := BitVec.ofNat 64 (fld b (o + 0x18) 8 / 128 * 128 % 2 ^ 57) }

/-- The saved entry of a queue names the partition that owns it. -/
def State.restores (s : State) (b : Bytes) (q : Nat) : Bool := s.queueOwner q == some (bits (fld b (64 + 32 * q + 8) 4) 15 8)

theorem State.restoreQueue_owned {s : State} {b : Bytes} {q : Nat} (h : s.restores b q = true) :
    State.restoreQueue b q s = s.setQueue q (restoredQueue b q) := by
  have howner := beq_iff_eq.mp h
  unfold State.restoreQueue
  rw [howner]
  exact if_neg (not_not.mpr rfl)

theorem State.restoreQueue_other {s : State} {b : Bytes} {q : Nat} (h : s.restores b q = false) :
    ∃ st, State.restoreQueue b q s = { s with start := st } := by
  unfold State.restoreQueue
  dsimp only
  split
  · exact ⟨_, rfl⟩
  next heq =>
    cases howner : s.queueOwner q with
    | none => exact ⟨s.start, rfl⟩
    | some p =>
      rw [howner] at heq
      rw [State.restores, howner, not_not.mp heq] at h
      exact absurd h (by simp)

theorem State.restoreQueue_queue (s : State) (b : Bytes) (q j : Nat) : (State.restoreQueue b q s).queue j =
    if j = q then (if s.restores b q then restoredQueue b q else s.queue q) else s.queue j := by
  cases h : s.restores b q with
  | true => rw [State.restoreQueue_owned h, State.queue_setQueue]; rfl
  | false =>
    obtain ⟨st, heq⟩ := State.restoreQueue_other h
    rw [heq]
    split
    next hj => rw [hj]; rfl
    next => rfl

theorem State.restoreQueue_chart (s : State) (b : Bytes) (q : Nat) : (State.restoreQueue b q s).chart = s.chart := by
  cases h : s.restores b q with
  | true => rw [State.restoreQueue_owned h]; rfl
  | false =>
    obtain ⟨st, heq⟩ := State.restoreQueue_other h
    rw [heq]

/-- Every queue whose saved entry names its owner is restored. -/
theorem State.restoreQueues_queue (s : State) (b : Bytes) (n q : Nat) (h : s.restores b q = true) (hq : q < n) :
    (eachOf (State.restoreQueue b) (List.range n) s).queue q = restoredQueue b q := by
  have honce := eachOf_once (g := fun j t => State.queue t j) (P := fun t => t.chart = s.chart)
    (f := fun j k => if s.restores b j then restoredQueue b j else k) (fun c t ht => (t.restoreQueue_chart b c).trans ht)
    (fun c t ht j => by
      have howner : t.restores b c = s.restores b c := by
        simp only [State.restores, State.queueOwner, State.theChart, ht]
      exact howner ▸ t.restoreQueue_queue b c j) (List.nodup_range (n := n)) (s := s) rfl q
  rw [honce, if_pos (List.mem_range.mpr hq), if_pos h]

/-- Settles O9: each step is one operation whose outcome under the clause's conditions the lemmas above give, and a start that only goes
on tells nothing upward. -/
theorem lateStartStepsAdvance : Obligations.LateStartStepsAdvance := by
  unfold Obligations.LateStartStepsAdvance
  intro s hstop hreset
  refine ⟨fun hcold hstep => ?_, fun hcold hstep hpeers hseed => ?_, fun hcold hstep hpeers hseed => ?_, fun hstep chain => ?_,
    fun hstep hnew hrun => ?_, fun hstep => ?_, fun hstep hwarm => ?_, fun hstep hcold => ?_, fun hstep area hbad => ?_,
    fun hstep b hok => ?_⟩
  · have hat := State.coldAt_of_step hstep hcold hstop
    have heq : s.portsReady = (s.startGo 9 false).raisePorts := if_pos hat
    have hstart : s.portsReady.start = { s.start with step := 9, waiting := false, failure := 0 } := by
      rw [heq, State.raisePorts_start, State.startGo_quiet]
    refine ⟨s.portsReady, next_congr (State.startTold_of_step hstart), hstart, s.portsReady_conf, fun n hn => ?_⟩
    rw [heq, State.raisePorts_host _ hn, State.startGo_quiet]; rfl
  · have hat := State.coldAt_of_step hstep hcold hstop
    have heq : s.peersReady = s.startGo 10 true := by rw [State.peersReady_eq hat hpeers, hseed]; rfl
    have hstart : s.peersReady.start = { s.start with step := 10, waiting := true, failure := 0 } := by
      rw [heq, State.startGo, State.setStart_start]
    refine ⟨s.peersReady, next_congr (State.startTold_of_step hstart), hstart, ?_⟩
    rw [heq]
    exact State.startGo_eq ..
  · have hat := State.coldAt_of_step hstep hcold hstop
    have heq : s.peersReady = s.enter11 := by rw [State.peersReady_eq hat hpeers, hseed]; rfl
    have hstart : s.peersReady.start = { s.start with step := 11, waiting := true, failure := 0 } := by
      rw [heq, State.enter11_start]
    exact ⟨s.peersReady, next_congr (State.startTold_of_step hstart), hstart, s.peersReady_conf⟩
  · have heq := State.deriveAlias_eq (State.startAt_of_step hstep hstop hreset) chain
    rw [State.startGo_quiet] at heq
    have hstart : (s.deriveAlias chain).start = { s.start with step := 13, waiting := false, failure := 0 } := by rw [heq]; rfl
    have hcore (j : Nat) : (s.deriveAlias chain).core j = if j = 0 then (s.core 0).started else s.core j := by
      rw [heq]; exact (s.aliasMade chain).core_modCore 0 j Core.started
    refine ⟨s.deriveAlias chain, next_congr (State.startTold_of_step hstart), hstart, ?_, ?_, ?_, fun hfail => ?_, fun hgood => ?_, ?_,
      fun c hc => ?_, s.deriveAlias_conf chain⟩
    · rw [heq]; rfl
    · rw [heq]; rfl
    · rw [heq]; rfl
    · rw [heq]; exact ⟨if_pos hfail, if_pos hfail⟩
    · rw [heq]; exact if_neg (Bool.eq_false_iff.mp hgood)
    · rw [hcore, if_pos rfl]; rfl
    · rw [hcore, if_neg hc]
  · have hat := State.startAt_of_step hstep hstop hreset
    have hclocks := State.onClocks_secReadyGo hat hnew hrun
    have hstart : s.secReadyGo.start = { s.start with waiting := true } := by
      rw [hclocks.keeps State.start fun _ _ _ _ => rfl, State.secWaits, State.setStart_start, State.secMarked_start]
    have htold : s.secReadyGo.startTold s = s.secReadyGo :=
      State.startTold_quiet (fun h => by rw [hstart] at h; exact h) fun h => by rw [hstart] at h; exact h
    refine ⟨s.secReadyGo, next_settle_congr htold, ?_, hstart, s.secReadyGo_conf, fun c h1 h6 hv => ?_⟩
    · rw [hclocks.keeps State.ident fun _ _ _ _ => rfl, State.secWaits, State.setStart_ident]; rfl
    · rw [hclocks.keeps (fun t => t.core c) fun _ _ _ _ => rfl]
      rw [s.secWaits_core, s.coresReleased_core (by simp only [List.mem_cons, List.not_mem_nil, or_false]; omega) hv]; rfl
  · have heq : s.startInvalidate = s.dropTranslations.startGo 15 false := if_pos (State.startAt_of_step hstep hstop hreset)
    rw [State.startGo_quiet] at heq
    exact next_settle_congr ((State.startTold_of_step (by rw [heq]; rfl)).trans heq)
  · have heq := State.startReset_warm (State.startAt_of_step hstep hstop hreset) hwarm
    rw [State.startGo_quiet] at heq
    have hstart : s.startReset.start = { s.start with step := 16, waiting := false, failure := 0 } := by
      rw [heq]
      exact congrArg (fun st : StartState => { st with step := 16, waiting := false, failure := 0 }) s.resetWork_start
    have hread {β : Type} (g : State → β) (hp : ∀ (t : State) p, g { t with parts := p } = g t)
        (hc : ∀ (t : State) c, g { t with chans := c } = g t) (hs : ∀ (t : State) st, g { t with start := st } = g t) :
        g s.startReset = g s.workReset := by rw [heq, hs, State.resetWork_reads g hp hc]
    refine ⟨s.startReset, next_settle_congr (State.startTold_of_step hstart), hstart, ?_, ?_, ?_, s.startReset_conf⟩
    · exact hread State.queues (fun _ _ => rfl) (fun _ _ => rfl) fun _ _ => rfl
    · exact hread State.cmb (fun _ _ => rfl) (fun _ _ => rfl) fun _ _ => rfl
    · exact hread State.engReqs (fun _ _ => rfl) (fun _ _ => rfl) fun _ _ => rfl
  · have heq := State.startReset_cold (State.startAt_of_step hstep hstop hreset) hcold
    refine ⟨s.startReset.startTold s, rfl, ?_, ?_, ?_, (State.startTold_conf ..).trans s.startReset_conf⟩
    · rw [State.startTold_keeps _ _ State.start fun _ _ _ _ _ _ => rfl, heq, State.goReady_start, State.resetWork_start]
    · rw [State.startTold_keeps _ _ State.queues fun _ _ _ _ _ _ => rfl, heq, State.goReady_keeps State.queues fun _ _ _ _ _ _ => rfl]
      exact State.resetWork_reads State.queues (fun _ _ => rfl) (fun _ _ => rfl) s
    · rw [State.startTold_keeps _ _ State.cmb fun _ _ _ _ _ _ => rfl, heq, State.goReady_keeps State.cmb fun _ _ _ _ _ _ => rfl]
      exact State.resetWork_reads State.cmb (fun _ _ => rfl) (fun _ _ => rfl) s
  · have heq := State.queueRecover_lost (State.startAt_of_step hstep hstop hreset) hbad
    refine ⟨(s.queueRecover area).startTold s, rfl, ?_, (State.startTold_conf ..).trans (s.queueRecover_conf area), ?_⟩
    · rw [State.startTold_keeps _ _ State.queues fun _ _ _ _ _ _ => rfl, heq, State.goReady_keeps State.queues fun _ _ _ _ _ _ => rfl]
    · rw [State.startTold_keeps _ _ State.start fun _ _ _ _ _ _ => rfl, heq, State.goReady_start]
  · have heq := State.queueRecover_restored (State.startAt_of_step hstep hstop hreset) hok
    have hstart : ((s.queueRecover (.ok b)).startTold s).start = ((eachOf (State.restoreQueue b) (List.range 4096) s).goReady 0).start := by
      rw [State.startTold_keeps _ _ State.start fun _ _ _ _ _ _ => rfl, heq]
    refine ⟨(s.queueRecover (.ok b)).startTold s, rfl, ?_, ?_, (State.startTold_conf ..).trans (s.queueRecover_conf _),
      fun q p hq howner hp => ?_⟩
    · rw [hstart, State.goReady_start]
    · rw [hstart, State.goReady_start]
    · have hqueue : ((s.queueRecover (.ok b)).startTold s).queue q = restoredQueue b q := by
        rw [State.startTold_keeps _ _ (fun t => t.queue q) fun _ _ _ _ _ _ => rfl, heq,
          State.goReady_keeps (fun t => t.queue q) fun _ _ _ _ _ _ => rfl]
        exact s.restoreQueues_queue b 4096 q (beq_iff_eq.mpr (howner.trans (congrArg some hp.symm))) hq
      rw [hqueue]
      exact ⟨rfl, rfl, rfl, rfl⟩

end Sys2Proof.Machine

/-! SETTLED: O40, a mode change's two phases and the way back (05 R117 to R121). -/

namespace Sys2Proof.Machine

/-! ### Units take a value -/

/-- What the operation of one element of a list makes true, and every element's keeps, is true after the list. -/
theorem eachOf_reaches {α : Type} {f : α → State → State} {x : α} {P : State → Prop} (h : ∀ y t, P t ∨ y = x → P (f y t))
    {l : List α} (hx : x ∈ l) (s : State) : P (eachOf f l s) := by
  suffices hgen : ∀ t, P t ∨ x ∈ l → P (eachOf f l t) from hgen s (.inr hx)
  clear hx
  induction l with
  | nil => exact fun t ht => ht.elim id (fun hm => absurd hm List.not_mem_nil)
  | cons y l ih =>
    refine fun t ht => ih (f y t) ?_
    rcases ht with ht | hm
    · exact .inl (h y t (.inl ht))
    · rcases List.mem_cons.mp hm with hy | hm
      · exact .inl (h y t (.inr hy.symm))
      · exact .inr hm

section
variable (m : ModeChange) (new : Bool) (u : UnitRef) (s : State)

theorem State.unitSet_ebb (hk : m.kind.toNat = 4) (sl : Slice) : ((State.unitSet m new u s).clock sl).ebbOrdered =
    if u = .clockUnit sl then (if new then m.value else m.old) == 1 else (s.clock sl).ebbOrdered := by
  unfold State.unitSet
  rw [hk]
  cases u with
  | clockUnit k => simp only [State.clock_modClock, UnitRef.clockUnit.injEq, eq_comm (a := k)]; split <;> simp [*]
  | _ => rfl

theorem State.unitSet_ebb_other (hk : m.kind.toNat = 4) {sl k : Slice} (h : k ≠ sl) :
    (State.unitSet m new (.clockUnit sl) s).clock k = s.clock k := by
  unfold State.unitSet
  rw [hk]
  exact s.clock_modClock_other _ h

theorem State.unitSet_supply (hk : m.kind.toNat = 4) (sl : Slice) :
    ((State.unitSet m new u s).clock sl).supplyGoal = (s.clock sl).supplyGoal ∧
      ((State.unitSet m new u s).clock sl).supplyBack = (s.clock sl).supplyBack := by
  unfold State.unitSet
  rw [hk]
  cases u with
  | clockUnit k => simp only [State.clock_modClock]; split <;> simp [*]
  | _ => exact ⟨rfl, rfl⟩

theorem State.unitSet_fallback (hk : m.kind.toNat = 3) (sl : Slice) : ((State.unitSet m new u s).clock sl).fallback =
    if u = .clockUnit sl then new || m.old == 1 else (s.clock sl).fallback := by
  unfold State.unitSet
  rw [hk]
  cases u with
  | clockUnit k => simp only [State.clock_modClock, UnitRef.clockUnit.injEq, eq_comm (a := k)]; split <;> simp [*]
  | supply k => simp only [State.clock_modClock]; split <;> simp [*]
  | _ => rfl

theorem State.unitSet_goal (hk : m.kind.toNat = 3) (sl : Slice) : ((State.unitSet m new u s).clock sl).supplyGoal =
    if u = .supply sl then some ((if new then m.value else m.old).truncate 4) else (s.clock sl).supplyGoal := by
  unfold State.unitSet
  rw [hk]
  cases u with
  | supply k => simp only [State.clock_modClock, UnitRef.supply.injEq, eq_comm (a := k)]; split <;> simp [*]
  | clockUnit k => simp only [State.clock_modClock]; split <;> simp [*]
  | _ => rfl

theorem State.unitSet_tear (hk : m.kind.toNat = 1) : (State.unitSet m new u s).burstTear m.target.toNat =
    if u = .hold then (if new then m.value else m.old) == 1 else s.burstTear m.target.toNat := by
  unfold State.unitSet
  rw [hk]
  cases u with
  | hold => exact (s.burstTear_setBurstTear _ _ _).trans (if_pos rfl)
  | _ => rfl

/-- The pipeline of a change after a cell has taken the operation word of a list. -/
def ModeChange.cellSet (p : Pipeline) (n : Fin 32) (words : List (BitVec 32)) : Pipeline :=
  { p with ops := p.ops.set (p.route.idxOf n.val) (words.getD (p.route.idxOf n.val) 0) }

theorem State.unitSet_pipe (hk : m.kind.toNat = 2) : (State.unitSet m new u s).pipe m.target.toNat =
    match u with
    | .cell n => ModeChange.cellSet (s.pipe m.target.toNat) n (if new then m.words else m.oldWords)
    | _ => s.pipe m.target.toNat := by
  unfold State.unitSet
  rw [hk]
  cases u with
  | cell n => exact (s.pipe_setPipe _ _ _).trans (if_pos rfl)
  | _ => rfl

end

/-! ### Going back -/

/-- The operation word of a cell is the old one, where the route has the cell. -/
def ModeChange.CellBack (m : ModeChange) (n : Fin 32) (p : Pipeline) : Prop :=
  p.route.idxOf n.val < p.ops.length → p.ops.getD (p.route.idxOf n.val) 0 = m.oldWords.getD (p.route.idxOf n.val) 0

theorem ModeChange.cellBack_cellSet (m : ModeChange) (n k : Fin 32) {p : Pipeline} (h : m.CellBack n p ∨ k = n) :
    m.CellBack n (ModeChange.cellSet p k m.oldWords) := by
  intro hlt
  simp only [ModeChange.cellSet, List.length_set] at hlt ⊢
  simp only [List.getD_eq_getElem?_getD, List.getElem?_set]
  by_cases hi : p.route.idxOf k.val = p.route.idxOf n.val
  · simp [hi, hlt]
  · have hp := h.resolve_right (fun e => hi (by rw [e])) hlt
    simpa [hi, List.getD_eq_getElem?_getD] using hp

/-- A unit of a change stands at the old value; a supply has the old code as its goal. -/
structure State.UnitBack (t : State) (m : ModeChange) (r : UnitRef) : Prop where
  ebb : ∀ sl, r = .clockUnit sl → m.kind.toNat = 4 → (t.clock sl).ebbOrdered = (m.old == 1)
  fallback : ∀ sl, r = .clockUnit sl → m.kind.toNat = 3 → (t.clock sl).fallback = (m.old == 1)
  goal : ∀ sl, r = .supply sl → m.kind.toNat = 3 → (t.clock sl).supplyGoal = some (m.old.truncate 4)
  tear : r = .hold → m.kind.toNat = 1 → t.burstTear m.target.toNat = (m.old == 1)
  word : ∀ n : Fin 32, r = .cell n → m.kind.toNat = 2 → m.CellBack n (t.pipe m.target.toNat)

/-- A unit that goes back stands at the old value, and so does one that stood there when another goes back. -/
theorem State.unitSet_back (m : ModeChange) (r u : UnitRef) (t : State) (h : t.UnitBack m r ∨ u = r) :
    (State.unitSet m false u t).UnitBack m r := by
  refine ⟨fun sl hr hk => ?_, fun sl hr hk => ?_, fun sl hr hk => ?_, fun hr hk => ?_, fun n hr hk => ?_⟩
  · rw [State.unitSet_ebb m false u t hk, ← hr]
    split
    · rfl
    next hu => exact (h.resolve_right hu).ebb sl hr hk
  · rw [State.unitSet_fallback m false u t hk, ← hr]
    split
    · rfl
    next hu => exact (h.resolve_right hu).fallback sl hr hk
  · rw [State.unitSet_goal m false u t hk, ← hr]
    split
    · rfl
    next hu => exact (h.resolve_right hu).goal sl hr hk
  · rw [State.unitSet_tear m false u t hk, ← hr]
    split
    · rfl
    next hu => exact (h.resolve_right hu).tear hr hk
  · have hword : m.CellBack n (t.pipe m.target.toNat) ∨ u = .cell n := h.imp (fun hb => hb.word n hr hk) (fun hu => hu.trans hr)
    rw [State.unitSet_pipe m false u t hk]
    cases u with
    | cell k => exact m.cellBack_cellSet n k (hword.imp id UnitRef.cell.inj)
    | _ => exact hword.resolve_right nofun

/-- Every unit of a change that goes back stands at the old value. -/
theorem State.modeOld_back (s : State) (m : ModeChange) {r : UnitRef} (h : r ∈ m.units) : (s.modeOld m).UnitBack m r :=
  eachOf_reaches (P := fun t => t.UnitBack m r) (fun u t ht => t.unitSet_back m r u ht) h s

/-- A unit that takes a value keeps the pipelines' routes and lengths. -/
theorem State.unitSet_route (m : ModeChange) (new : Bool) (u : UnitRef) (s : State) (k : Nat) :
    ((State.unitSet m new u s).pipe k).route = (s.pipe k).route ∧ ((State.unitSet m new u s).pipe k).ops.length = (s.pipe k).ops.length := by
  unfold State.unitSet
  generalize (if new = true then m.value else m.old) = v
  split
  · exact ⟨rfl, rfl⟩
  · rw [State.modPipe, State.pipe_setPipe]
    split
    next h => rw [h]; exact ⟨rfl, List.length_set⟩
    next => exact ⟨rfl, rfl⟩
  iterate 4 exact ⟨rfl, rfl⟩

theorem State.modeOld_route (s : State) (m : ModeChange) (k : Nat) :
    ((s.modeOld m).pipe k).route = (s.pipe k).route ∧ ((s.modeOld m).pipe k).ops.length = (s.pipe k).ops.length :=
  ⟨eachOf_keeps (fun t => (t.pipe k).route) (fun u t => (t.unitSet_route m false u k).1) m.units s,
    eachOf_keeps (fun t => (t.pipe k).ops.length) (fun u t => (t.unitSet_route m false u k).2) m.units s⟩

/-! ### Supply steps -/

/-- Two clock blocks differ at most in their supply. -/
def ClockState.sameButSupply (k k' : ClockState) : Prop :=
  k' = { k with
    supplyReq := k'.supplyReq, supplyOld := k'.supplyOld, supplyWait := k'.supplyWait, supplyGoal := k'.supplyGoal
    supplyBack := k'.supplyBack }

theorem ClockState.sameButSupply.dead {k k' : ClockState} (h : k.sameButSupply k') : k'.dead = k.dead := by rw [h]

theorem ClockState.sameButModes.dead {k k' : ClockState} (h : k.sameButModes k') : k'.dead = k.dead := by rw [h]

/-- A later state differs in one slice's supply alone, as far as the clock blocks go. -/
structure State.SupplyOf (sl : Slice) (s t : State) : Prop where
  own : (s.clock sl).sameButSupply (t.clock sl)
  other : ∀ k, k ≠ sl → t.clock k = s.clock k

theorem State.SupplyOf.refl (sl : Slice) (s : State) : s.SupplyOf sl s := ⟨rfl, fun _ _ => rfl⟩

theorem State.SupplyOf.trans {sl : Slice} {s t u : State} (h : s.SupplyOf sl t) (h' : t.SupplyOf sl u) : s.SupplyOf sl u := by
  refine ⟨?_, fun k hk => (h'.other k hk).trans (h.other k hk)⟩
  have hown := h'.own
  unfold ClockState.sameButSupply at *
  rw [hown, h.own]

theorem State.supplyOf_setClock (sl : Slice) (s : State) (req old : BitVec 4) (wait : Bool) (goal : Option (BitVec 4)) (back : Bool) :
    s.SupplyOf sl (s.setClock sl { s.clock sl with
      supplyReq := req, supplyOld := old, supplyWait := wait, supplyGoal := goal, supplyBack := back }) :=
  ⟨by rw [State.clock_setClock, if_pos rfl]; rfl, fun j hj => (s.clock_setClock sl j _).trans (if_neg hj)⟩

theorem State.SupplyOf.drive {sl : Slice} {s t : State} (h : s.SupplyOf sl t) (o : Out) : s.SupplyOf sl (t.drive o) := ⟨h.own, h.other⟩

section
variable (sl : Slice) (s : State)

theorem State.supplyOf_supplyRestore : s.SupplyOf sl (State.supplyRestore sl s) := by
  unfold State.supplyRestore
  dsimp only
  split
  · exact .refl sl s
  · exact (s.supplyOf_setClock sl _ _ _ _ _).drive _

theorem State.supplyOf_supplyGo : s.SupplyOf sl (State.supplyGo sl s) := by
  refine (s.supplyOf_supplyRestore sl).trans ?_
  unfold State.supplyGo
  dsimp only
  split
  · exact .refl sl _
  · split
    · exact .refl sl _
    · split
      · exact State.supplyOf_setClock sl _ _ _ _ _ _
      · exact (State.supplyOf_setClock sl _ _ _ _ _ _).drive _

/-- A supply with a goal keeps it until it stands there. -/
theorem State.supplyGo_goal {g : BitVec 4} (h : (s.clock sl).supplyGoal = some g) :
    ((State.supplyGo sl s).clock sl).supplyGoal = some g ∨
      ((State.supplyGo sl s).clock sl).supplyGoal = none ∧ ((State.supplyGo sl s).clock sl).supplyReq = g := by
  have hrestore : ((State.supplyRestore sl s).clock sl).supplyGoal = some g := by
    unfold State.supplyRestore
    dsimp only
    split
    · exact h
    · exact (congrArg ClockState.supplyGoal ((s.clock_setClock sl sl _).trans (if_pos rfl))).trans h
  unfold State.supplyGo
  generalize State.supplyRestore sl s = t at hrestore ⊢
  dsimp only
  rw [hrestore]
  dsimp only
  split
  · exact .inl hrestore
  · split
    next hg =>
      right
      rw [State.clock_setClock, if_pos rfl]
      exact ⟨rfl, hg.symm⟩
    next => exact .inl (congrArg ClockState.supplyGoal ((t.clock_setClock sl sl _).trans (if_pos rfl)))

/-- With no goal and no code to be taken back a supply stays as it is. -/
theorem State.supplyGo_still {sl : Slice} {s : State} (h : (s.clock sl).supplyGoal = none ∧ (s.clock sl).supplyBack = false) :
    State.supplyGo sl s = s := by
  obtain ⟨hgoal, hback⟩ := h
  have hrestore : State.supplyRestore sl s = s := by
    unfold State.supplyRestore
    exact if_pos (by rw [hback]; rfl)
  unfold State.supplyGo
  dsimp only
  rw [hrestore, hgoal]

end

/-- The supplies of all slices take their next steps. -/
def State.suppliesGo (s : State) : State := eachOf State.supplyGo [Slice.sh, .en, .hd] s

theorem State.onClocks_suppliesGo (s : State) : s.OnClocks s.suppliesGo := .each State.onClocks_supplyGo _ s

theorem State.suppliesGo_still {s : State} (h : ∀ sl, (s.clock sl).supplyGoal = none ∧ (s.clock sl).supplyBack = false) :
    s.suppliesGo = s := by
  rw [State.suppliesGo, eachOf, eachOf, eachOf, eachOf, State.supplyGo_still (h .sh), State.supplyGo_still (h .en),
    State.supplyGo_still (h .hd)]

/-- Each slice's supply takes its step once, in a state where its clock block is still the first one. -/
theorem State.suppliesGo_clock (s : State) (sl : Slice) :
    ∃ t : State, t.clock sl = s.clock sl ∧ s.suppliesGo.clock sl = (State.supplyGo sl t).clock sl := by
  have hother {j k : Slice} (h : k ≠ j) (x : State) : (State.supplyGo j x).clock k = x.clock k := (x.supplyOf_supplyGo j).other k h
  have hgo : s.suppliesGo = State.supplyGo .hd (State.supplyGo .en (State.supplyGo .sh s)) := rfl
  rw [hgo]
  cases sl with
  | sh => exact ⟨s, rfl, by rw [hother (by decide), hother (by decide)]⟩
  | en => exact ⟨State.supplyGo .sh s, hother (by decide) s, hother (by decide) _⟩
  | hd => exact ⟨State.supplyGo .en (State.supplyGo .sh s), by rw [hother (by decide), hother (by decide)], rfl⟩

theorem State.suppliesGo_modes (s : State) (sl : Slice) : (s.clock sl).sameButSupply (s.suppliesGo.clock sl) := by
  obtain ⟨t, ht, hgo⟩ := s.suppliesGo_clock sl
  rw [hgo, ← ht]
  exact (t.supplyOf_supplyGo sl).own

theorem State.suppliesGo_goal (s : State) {sl : Slice} {g : BitVec 4} (h : (s.clock sl).supplyGoal = some g) :
    (s.suppliesGo.clock sl).supplyGoal = some g ∨ (s.suppliesGo.clock sl).supplyGoal = none ∧ (s.suppliesGo.clock sl).supplyReq = g := by
  obtain ⟨t, ht, hgo⟩ := s.suppliesGo_clock sl
  rw [hgo]
  exact State.supplyGo_goal sl t (ht ▸ h)

/-! ### The end of a change -/

/-- The event that tells of a change's end. -/
def ModeChange.result (m : ModeChange) (outcome phase : Nat) (missing : List UnitRef) : Event :=
  let sum (f : Nat × Nat × Nat × Nat → Nat) : Nat := (missing.map (fun u => f (unitMask u))).sum
  { opcode := 0x8010, length := 32,
    payload := padTo (leBytes 4 m.seq.toNat ++ [BitVec.ofNat 8 outcome, m.kind, m.target, BitVec.ofNat 8 phase] ++ leBytes 4 m.value.toNat
      ++ leBytes 4 (sum (·.1)) ++ leBytes 8 (sum (·.2.1)) ++ leBytes 1 (sum (·.2.2.1)) ++ leBytes 1 (sum (·.2.2.2))) 52 }

theorem ModeChange.result_head (m : ModeChange) (outcome phase : Nat) (missing : List UnitRef) :
    (m.result outcome phase missing).payload.take 8 =
      leBytes 4 m.seq.toNat ++ [BitVec.ofNat 8 outcome, m.kind, m.target, BitVec.ofNat 8 phase] := rfl

/-- The fence of a change is written and its end told. -/
def State.modeTold (s : State) (m : ModeChange) (st : Status) (outcome phase : Nat) (missing : List UnitRef) : State :=
  (s.modeFence m st).modeResult m outcome phase missing

/-- A later state differs at most in the accesses, HARBOUR's work, what is measured and the margins, and where the event ring has room the
events of `l` wait more. -/
structure State.Told (s t : State) (l : List Event) : Prop where
  frame : ∃ ac n mg ch he, t = { s with accesses := ac, nextId := n, mgmt := mg, chart := ch, health := he }
  full : t.evtFull = s.evtFull
  queue : s.evtFull = false → t.mgmt.queue = s.mgmt.queue ++ l

theorem State.Told.trans {s t u : State} {l l' : List Event} (h : s.Told t l) (h' : t.Told u l') : s.Told u (l ++ l') := by
  obtain ⟨ac, n, mg, ch, he, ht⟩ := h.frame
  obtain ⟨ac', n', mg', ch', he', hu⟩ := h'.frame
  refine ⟨⟨ac', n', mg', ch', he', by rw [hu, ht]⟩, h'.full.trans h.full, fun hroom => ?_⟩
  rw [h'.queue (h.full.trans hroom), h.queue hroom, List.append_assoc]

theorem State.Told.keeps {s t : State} {l : List Event} (h : s.Told t l) {β : Type} (g : State → β)
    (hg : ∀ (x : State) a b c d e, g { x with accesses := a, nextId := b, mgmt := c, chart := d, health := e } = g x) : g t = g s := by
  obtain ⟨ac, n, mg, ch, he, ht⟩ := h.frame
  rw [ht]
  exact hg ..

section
variable (s : State) (m : ModeChange)

theorem State.told_refl : s.Told s [] := ⟨⟨_, _, _, _, _, rfl⟩, rfl, fun _ => (List.append_nil _).symm⟩

theorem State.told_change (c : Option ModeChange) (cs : List ModeChange) :
    s.Told { s with mgmt := { s.mgmt with change := c, changes := cs } } [] :=
  ⟨⟨s.accesses, s.nextId, _, s.chart, s.health, rfl⟩, rfl, fun _ => (List.append_nil _).symm⟩

theorem State.told_launch (a : Access) : s.Told (s.launch a) [] :=
  ⟨⟨_, _, s.mgmt, s.chart, s.health, rfl⟩, rfl, fun _ => (List.append_nil _).symm⟩

theorem State.told_margins (he : HealthUnit) : s.Told { s with health := he } [] :=
  ⟨⟨s.accesses, s.nextId, s.mgmt, s.chart, he, rfl⟩, rfl, fun _ => (List.append_nil _).symm⟩

theorem State.told_measured (b : Option Bytes) : s.Told { s with chart := { s.chart with m10 := b } } [] :=
  ⟨⟨s.accesses, s.nextId, s.mgmt, _, s.health, rfl⟩, rfl, fun _ => (List.append_nil _).symm⟩

theorem State.told_modeFence (st : Status) : s.Told (s.modeFence m st) [] := by
  unfold State.modeFence
  split
  · exact s.told_refl
  · exact s.told_launch _

theorem State.told_pushUnsolicited (e : Event) : s.Told (s.pushUnsolicited e) [e] := by
  unfold State.pushUnsolicited
  split
  next h =>
    have hfull : s.evtFull ≠ false := fun hf => by rw [hf, Bool.false_and] at h; exact Bool.false_ne_true h
    split
    · exact ⟨⟨s.accesses, s.nextId, _, s.chart, s.health, rfl⟩, rfl, fun hf => absurd hf hfull⟩
    · exact ⟨⟨s.accesses, s.nextId, _, s.chart, s.health, rfl⟩, rfl, fun hf => absurd hf hfull⟩
  · exact ⟨⟨s.accesses, s.nextId, _, s.chart, s.health, rfl⟩, rfl, fun _ => rfl⟩

theorem State.told_modeTold (st : Status) (outcome phase : Nat) (missing : List UnitRef) :
    s.Told (s.modeTold m st outcome phase missing) [m.result outcome phase missing] :=
  (s.told_modeFence m st).trans (State.told_pushUnsolicited _ _)

theorem State.told_historySave (k : Nat) : s.Told (s.historySave k) [] := by
  unfold State.historySave
  split
  · exact (s.told_launch _).trans (State.told_launch _ _)
  · exact s.told_refl

/-- A change that is over leaves none in hand and is told with MODE_RESULT. -/
theorem State.told_modeFinish : s.Told (s.modeFinish m) [m.result 1 0 []] := by
  have htold := (s.told_change none s.mgmt.changes).trans (State.told_modeTold _ m .ok 1 0 [])
  unfold State.modeFinish
  dsimp only
  split
  · split
    · exact htold
    · exact htold.trans (State.told_measured _ _)
  · split
    · split
      · split
        · exact (htold.trans (State.told_margins _ _)).trans (State.told_historySave _ _)
        · exact htold.trans (State.told_margins _ _)
      · split
        · exact htold.trans (State.told_historySave _ _)
        · exact htold
    · exact htold

/-- Telling of a change's end writes accesses and events and no more. -/
theorem State.modeTold_frame (st : Status) (outcome phase : Nat) (missing : List UnitRef) :
    ∃ ac n q d v, s.modeTold m st outcome phase missing =
      { s with accesses := ac, nextId := n, mgmt := { s.mgmt with queue := q, dropped := d, droppedTel := v } } := by
  have hpush (t : State) (e : Event) :
      ∃ q d v, t.pushUnsolicited e = { t with mgmt := { t.mgmt with queue := q, dropped := d, droppedTel := v } } := by
    unfold State.pushUnsolicited
    split
    · split
      · exact ⟨_, _, _, rfl⟩
      · exact ⟨t.mgmt.queue, _, _, rfl⟩
    · exact ⟨_, t.mgmt.dropped, t.mgmt.droppedTel, rfl⟩
  have hfence : ∃ ac n, s.modeFence m st = { s with accesses := ac, nextId := n } := by
    unfold State.modeFence
    split
    · exact ⟨s.accesses, s.nextId, rfl⟩
    · exact ⟨_, _, rfl⟩
  obtain ⟨ac, n, hf⟩ := hfence
  obtain ⟨q, d, v, hp⟩ := hpush (s.modeFence m st) (m.result outcome phase missing)
  exact ⟨ac, n, q, d, v, hp.trans (by rw [hf])⟩

theorem State.modeTold_changes (st : Status) (outcome phase : Nat) (missing : List UnitRef) :
    (s.modeTold m st outcome phase missing).mgmt.change = s.mgmt.change ∧
      (s.modeTold m st outcome phase missing).mgmt.changes = s.mgmt.changes := by
  obtain ⟨ac, n, q, d, v, h⟩ := s.modeTold_frame m st outcome phase missing
  rw [h]
  exact ⟨rfl, rfl⟩

theorem State.modeTold_chart (st : Status) (outcome phase : Nat) (missing : List UnitRef) :
    (s.modeTold m st outcome phase missing).chart = s.chart := by
  obtain ⟨ac, n, q, d, v, h⟩ := s.modeTold_frame m st outcome phase missing
  rw [h]

theorem State.modeFinish_changes : (s.modeFinish m).mgmt.change = none ∧ (s.modeFinish m).mgmt.changes = s.mgmt.changes := by
  have hsave (t : State) (k : Nat) : (t.historySave k).mgmt = t.mgmt := by
    unfold State.historySave
    split <;> rfl
  have hfinish : (s.modeFinish m).mgmt = (State.modeTold { s with mgmt := { s.mgmt with change := none } } m .ok 1 0 []).mgmt := by
    unfold State.modeFinish
    dsimp only
    split
    · split <;> rfl
    · split
      · split
        · split
          · exact hsave _ _
          · rfl
        · split
          · exact hsave _ _
          · rfl
      · rfl
  rw [hfinish]
  exact State.modeTold_changes _ m .ok 1 0 []

end

/-! ### The next change -/

section
variable {s : State} {m : ModeChange}

theorem State.modePump_busy (h : s.mgmt.change = some m) : s.modePump = s := by rw [State.modePump, h]

theorem State.modePump_idle (h : s.mgmt.changes = []) : s.modePump = s := by
  rw [State.modePump, h]
  cases s.mgmt.change <;> rfl

theorem State.modeAdvance_orphan (h : s.mgmt.change = some m) (ho : m.orphan = true) : s.modeAdvance = s := by
  rw [State.modeAdvance, h]
  exact if_pos (by rw [ho]; rfl)

/-- A change that still waits for a unit does not go on. -/
theorem State.modeAdvance_waits (h : s.mgmt.change = some m) (hw : m.waitFor ≠ []) : s.modeAdvance = s := by
  rw [State.modeAdvance, h]
  refine if_pos ?_
  rw [List.isEmpty_eq_false_iff.mpr hw]
  exact Bool.or_true _

theorem State.modeAdvance_commit (h : s.mgmt.change = some m) (ho : m.orphan = false) (hw : m.waitFor = []) (hp : m.phase = .prepare)
    (hu : m.units ≠ []) (hk : m.kind ≠ 3) : s.modeAdvance =
      { s with mgmt := { s.mgmt with change := some { m with phase := .commit, waitFor := m.units } } } := by
  rw [State.modeAdvance, h]
  dsimp only
  rw [ho, hw, if_neg (by decide), hp, List.isEmpty_eq_false_iff.mpr hu]
  exact if_neg fun hstep : m.kind = 3 ∧ _ => hk hstep.1

theorem State.modeAdvance_finish (h : s.mgmt.change = some m) (ho : m.orphan = false) (hw : m.waitFor = [])
    (hp : m.phase = .commit ∨ m.units = []) : s.modeAdvance = s.modeFinish m := by
  rw [State.modeAdvance, h]
  dsimp only
  rw [ho, hw, if_neg (by decide)]
  cases hphase : m.phase with
  | commit => rfl
  | prepare => exact if_pos (by rw [hp.resolve_left (fun e => nomatch e.symm.trans hphase)]; rfl)

end

/-- A change in hand, its units known and all asked. -/
def State.begun (s : State) (n : ModeChange) : ModeChange :=
  { n with
    units := s.modeUnits n.kind.toNat n.target.toNat n.fallback, waitFor := s.modeUnits n.kind.toNat n.target.toNat n.fallback,
    old := s.modeNow n.kind.toNat n.target.toNat n.fallback, oldWords := (s.pipe n.target.toNat).ops }

/-- The next change taken in hand. -/
def State.pumped (s : State) (n : ModeChange) (rest : List ModeChange) : State :=
  { s with mgmt := { s.mgmt with change := some (s.begun n), changes := rest } }

theorem State.modePump_next {s : State} {n : ModeChange} {rest : List ModeChange} (hnone : s.mgmt.change = none)
    (hc : s.mgmt.changes = n :: rest) (hh : s.harbour = true) : s.modePump = (s.pumped n rest).modeAdvance := by
  rw [State.modePump, hnone, hc, hh]; rfl

/-- A change with units waits for them. -/
theorem State.pumped_waits (s : State) {n : ModeChange} (rest : List ModeChange)
    (h : s.modeUnits n.kind.toNat n.target.toNat n.fallback ≠ []) : (s.pumped n rest).modeAdvance = s.pumped n rest :=
  State.modeAdvance_waits rfl h

/-- What the next change may tell, where none waits nothing. -/
theorem State.told_modePump {s : State} (hnone : s.mgmt.change = none) : ∃ l, s.Told s.modePump l ∧ (s.mgmt.changes = [] → l = []) := by
  cases hc : s.mgmt.changes with
  | nil =>
    rw [State.modePump_idle hc]
    exact ⟨[], s.told_refl, fun _ => rfl⟩
  | cons n rest =>
    cases hh : s.harbour with
    | false =>
      have hidle : s.modePump = s := by rw [State.modePump, hnone, hc, hh]; rfl
      rw [hidle]
      exact ⟨[], s.told_refl, nofun⟩
    | true =>
      rw [State.modePump_next hnone hc hh]
      have hpumped : s.Told (s.pumped n rest) [] := s.told_change _ _
      by_cases hu : s.modeUnits n.kind.toNat n.target.toNat n.fallback = []
      · cases ho : n.orphan with
        | true =>
          rw [State.modeAdvance_orphan (m := s.begun n) rfl ho]
          exact ⟨[], hpumped, nofun⟩
        | false =>
          rw [State.modeAdvance_finish (m := s.begun n) rfl ho hu (.inr hu)]
          exact ⟨_, hpumped.trans (State.told_modeFinish _ _), nofun⟩
      · rw [s.pumped_waits rest hu]
        exact ⟨[], hpumped, nofun⟩

/-! ### A change goes back -/

/-- The traffic that a change in the old mode held back ends: accesses and channels are written and no more. -/
theorem State.dropModeTraffic_keeps {β : Type} (g : State → β)
    (hg : ∀ (x : State) us ac en ch, g { x with hold := { x.hold with used := us }, accesses := ac, ended := en, chans := ch } = g x)
    (s : State) (m : ModeChange) : g (s.dropModeTraffic m) = g s := by
  have hend (c : Nat) (t : State) : g (t.endEarly c .modeRollback) = g t := hg t t.hold.used t.accesses t.ended _
  have hfail (id : Nat) (t : State) : g (t.fail id .modeRollback) = g t :=
    t.fail_keeps id .modeRollback g fun x us ac en => hg x us ac en x.chans
  unfold State.dropModeTraffic
  dsimp only
  rw [eachOf_keeps g hend, eachOf_keeps g hfail]

/-- The state with no change in hand, units set back and the supplies' next steps taken. -/
def State.backFrom (s : State) (c : Option ModeChange) : State := State.suppliesGo { s with mgmt := { s.mgmt with change := c } }

/-- The state in which MODE_ROLLBACK has set every unit back, and no change is in hand. -/
def State.rolledBack (s : State) (m : ModeChange) : State := ((s.dropModeTraffic m).modeOld m).backFrom none

/-- What MODE_ROLLBACK comes to when its end has been told, before the next change. -/
def State.rollbackTold (s : State) (m : ModeChange) : State :=
  (s.rolledBack m).modeTold m .modeRollback 2 (if m.phase = .prepare then 1 else 2) m.waitFor

theorem State.modeRevert_eq {s : State} {m : ModeChange} (hm : s.mgmt.change = some m) (ho : m.orphan = false) (hh : s.harbour = true)
    (hw : m.waitFor ≠ []) : s.modeRevert = (s.rollbackTold m).modePump := by
  rw [State.modeRevert, hm]
  refine if_neg ?_
  rw [ho, hh, List.isEmpty_eq_false_iff.mpr hw]
  decide

/-- A unit of a change that has lost HARBOUR is gone. -/
def ModeChange.goneOn (m : ModeChange) (r : UnitRef) : Option ModeChange :=
  if m.units.all (m.gone ++ [r]).contains then none else some { m with gone := m.gone ++ [r], heldBy := [] }

theorem State.unitAlone_eq {s : State} {m : ModeChange} {r : UnitRef} (hm : s.mgmt.change = some m) (ho : m.orphan = true) (hr : r ∈ m.units)
    (hgone : r ∉ m.gone) : s.unitAlone r = ((State.unitSet m false r (s.dropModeTraffic m)).backFrom (m.goneOn r)).modePump := by
  rw [State.unitAlone, hm]
  refine if_pos ?_
  rw [ho, List.contains_iff_mem.mpr hr]
  simpa using hgone

section
variable (s : State) (m : ModeChange)

/-- What speaks of no clocks, no outputs and none of HARBOUR's work does not see units go back. -/
theorem State.backFrom_keeps (c : Option ModeChange) {β : Type} (g : State → β)
    (hg : ∀ (x : State) a h o mg, g { x with clocks := a, health := h, out := o, mgmt := mg } = g x) : g (s.backFrom c) = g s := by
  unfold State.backFrom
  rw [(State.onClocks_suppliesGo _).keeps g fun x a h o => hg x a h o x.mgmt]
  exact hg s s.clocks s.health s.out _

theorem State.backFrom_modes (c : Option ModeChange) (sl : Slice) : (s.clock sl).sameButSupply ((s.backFrom c).clock sl) :=
  State.suppliesGo_modes { s with mgmt := { s.mgmt with change := c } } sl

theorem State.backFrom_mgmt (c : Option ModeChange) : (s.backFrom c).mgmt = { s.mgmt with change := c } :=
  (State.onClocks_suppliesGo _).keeps State.mgmt fun _ _ _ _ => rfl

theorem State.backFrom_evtFull (c : Option ModeChange) : (s.backFrom c).evtFull = s.evtFull :=
  (State.onClocks_suppliesGo _).keeps State.evtFull fun _ _ _ _ => rfl

/-- A unit of a change stands at the old value, as far as its supply could step there. -/
def State.Reverted (r : UnitRef) (u : State) : Prop :=
  (∀ sl, r = .clockUnit sl → m.kind = 4 → (u.clock sl).ebbOrdered = (m.old == 1)) ∧
  (∀ sl, r = .clockUnit sl → m.kind = 3 → (u.clock sl).fallback = (m.old == 1)) ∧
  (∀ sl, r = .supply sl → m.kind = 3 → (u.clock sl).supplyGoal = some (m.old.truncate 4) ∨
    (u.clock sl).supplyGoal = none ∧ (u.clock sl).supplyReq = m.old.truncate 4) ∧
  (r = .hold → m.kind = 1 → u.burstTear m.target.toNat = (m.old == 1)) ∧
  (∀ n : Fin 32, r = .cell n → m.kind = 2 → (s.pipe m.target.toNat).route.idxOf n.val < (s.pipe m.target.toNat).ops.length →
    (u.pipe m.target.toNat).ops.getD ((s.pipe m.target.toNat).route.idxOf n.val) 0 =
      m.oldWords.getD ((s.pipe m.target.toNat).route.idxOf n.val) 0)

/-- A unit set back stands there when the supplies have taken their steps and what is kept of the clock blocks, the tear modes and the
pipelines has come to a later state. -/
theorem State.UnitBack.reverted {s t u : State} {m : ModeChange} {r : UnitRef} (h : t.UnitBack m r) (c : Option ModeChange)
    (hroute : (t.pipe m.target.toNat).route = (s.pipe m.target.toNat).route ∧
      (t.pipe m.target.toNat).ops.length = (s.pipe m.target.toNat).ops.length)
    (hclocks : u.clocks = (t.backFrom c).clocks) (htear : u.tearBurst = (t.backFrom c).tearBurst)
    (hsluice : u.sluice = (t.backFrom c).sluice) : s.Reverted m r u := by
  have hclock (sl : Slice) : u.clock sl = (t.backFrom c).clock sl := by rw [State.clock, hclocks]; rfl
  have hmodes (sl : Slice) : (t.clock sl).sameButSupply (u.clock sl) := by
    rw [hclock]
    exact t.backFrom_modes c sl
  have hpipe (k : Nat) : u.pipe k = t.pipe k := by
    rw [State.pipe, hsluice, t.backFrom_keeps c State.sluice fun _ _ _ _ _ => rfl]; rfl
  obtain ⟨hr, hl⟩ := hroute
  refine ⟨fun sl hu hk => ?_, fun sl hu hk => ?_, fun sl hu hk => ?_, fun hu hk => ?_, fun n hu hk hlt => ?_⟩
  · rw [hmodes sl]
    exact h.ebb sl hu (by rw [hk]; rfl)
  · rw [hmodes sl]
    exact h.fallback sl hu (by rw [hk]; rfl)
  · rw [hclock]
    exact State.suppliesGo_goal { t with mgmt := { t.mgmt with change := c } } (h.goal sl hu (by rw [hk]; rfl))
  · rw [State.burstTear, htear, t.backFrom_keeps c State.tearBurst fun _ _ _ _ _ => rfl]
    exact h.tear hu (by rw [hk]; rfl)
  · rw [← hr, ← hl] at hlt
    rw [← hr, hpipe]
    exact h.word n hu (by rw [hk]; rfl) hlt

end

/-! ### MODE_ROLLBACK and UNIT_SELF_REVERT -/

section
variable (s : State) (m : ModeChange)

theorem State.rolledBack_keeps {β : Type} (g : State → β)
    (hg : ∀ (x : State) us ac en ch cl he ou mg te sl, g { x with
      hold := { x.hold with used := us }, accesses := ac, ended := en, chans := ch, clocks := cl, health := he, out := ou, mgmt := mg,
      tearBurst := te, sluice := sl } = g x) : g (s.rolledBack m) = g s := by
  have hold (x : State) us ac en ch : g { x with hold := { x.hold with used := us }, accesses := ac, ended := en, chans := ch } = g x :=
    hg x us ac en ch x.clocks x.health x.out x.mgmt x.tearBurst x.sluice
  have hmodes (x : State) a b c : g { x with clocks := a, tearBurst := b, sluice := c } = g x :=
    hg x x.hold.used x.accesses x.ended x.chans a x.health x.out x.mgmt b c
  have hback (x : State) a h o mg : g { x with clocks := a, health := h, out := o, mgmt := mg } = g x :=
    hg x x.hold.used x.accesses x.ended x.chans a h o mg x.tearBurst x.sluice
  rw [State.rolledBack, State.backFrom_keeps _ none g hback, State.modeOld_keeps g hmodes, State.dropModeTraffic_keeps g hold]

theorem State.rolledBack_mgmt : (s.rolledBack m).mgmt = { s.mgmt with change := none } := by
  have hm : ((s.dropModeTraffic m).modeOld m).mgmt = s.mgmt :=
    (State.modeOld_keeps State.mgmt (fun _ _ _ _ => rfl) m _).trans (State.dropModeTraffic_keeps State.mgmt (fun _ _ _ _ _ => rfl) s m)
  rw [State.rolledBack, State.backFrom_mgmt, hm]

theorem State.rolledBack_evtFull : (s.rolledBack m).evtFull = s.evtFull := by
  rw [State.rolledBack, State.backFrom_evtFull, State.modeOld_keeps State.evtFull fun _ _ _ _ => rfl,
    State.dropModeTraffic_keeps State.evtFull fun _ _ _ _ _ => rfl]

theorem State.dropModeTraffic_pipe (k : Nat) : (s.dropModeTraffic m).pipe k = s.pipe k :=
  s.dropModeTraffic_keeps (fun t => t.pipe k) (fun _ _ _ _ _ => rfl) m

theorem State.rolledBack_route (k : Nat) : ((s.rolledBack m).pipe k).route = (s.pipe k).route := by
  rw [State.rolledBack, State.pipe, State.backFrom_keeps _ none State.sluice fun _ _ _ _ _ => rfl]
  exact (State.modeOld_route _ m k).1.trans (congrArg Pipeline.route (s.dropModeTraffic_pipe m k))

theorem State.rolledBack_harbour : (s.rolledBack m).harbour = s.harbour := by
  have hcore : (s.rolledBack m).core 2 = s.core 2 := s.rolledBack_keeps m (fun t => t.core 2) fun _ _ _ _ _ _ _ _ _ _ _ => rfl
  have hdrop : (s.dropModeTraffic m).clock .sh = s.clock .sh := s.dropModeTraffic_keeps (fun t => t.clock .sh) (fun _ _ _ _ _ => rfl) m
  have hmodes : (((s.dropModeTraffic m).modeOld m).clock .sh).dead = ((s.dropModeTraffic m).clock .sh).dead :=
    (State.modeOld_clock m (s.dropModeTraffic m) .sh).dead
  have hgo : ((s.rolledBack m).clock .sh).dead = (((s.dropModeTraffic m).modeOld m).clock .sh).dead :=
    (((s.dropModeTraffic m).modeOld m).backFrom_modes none .sh).dead
  have hdead : ((s.rolledBack m).clock .sh).dead = (s.clock .sh).dead := by rw [hgo, hmodes, hdrop]
  rw [State.harbour, State.ctrlLost, hcore, hdead]; rfl

end

/-- The units of a change are the chart's and the route's. -/
theorem State.modeUnits_congr {s t : State} (hchart : t.chart = s.chart) {target : Nat} (hroute : (t.pipe target).route = (s.pipe target).route)
    (kind : Nat) (fallback : Bool) : t.modeUnits kind target fallback = s.modeUnits kind target fallback := by
  unfold State.modeUnits State.partStreams State.streamUse State.streamPart State.chanEntry State.theChart
  rw [hchart, hroute]

theorem State.told_rollback (s : State) (m : ModeChange) : (s.rolledBack m).Told (s.rollbackTold m)
    [m.result 2 (if m.phase = .prepare then 1 else 2) m.waitFor] := State.told_modeTold _ _ _ _ _ _

theorem State.rollbackTold_changes (s : State) (m : ModeChange) :
    (s.rollbackTold m).mgmt.change = none ∧ (s.rollbackTold m).mgmt.changes = s.mgmt.changes := by
  have h := State.modeTold_changes (s.rolledBack m) m .modeRollback 2 (if m.phase = .prepare then 1 else 2) m.waitFor
  rw [s.rolledBack_mgmt m] at h
  exact h

theorem State.rollbackTold_units (s : State) (m : ModeChange) (kind target : Nat) (fallback : Bool) :
    (s.rollbackTold m).modeUnits kind target fallback = s.modeUnits kind target fallback := by
  refine State.modeUnits_congr ?_ ?_ kind fallback
  · exact (State.modeTold_chart ..).trans (s.rolledBack_keeps m State.chart fun _ _ _ _ _ _ _ _ _ _ _ => rfl)
  · rw [State.pipe, (s.told_rollback m).keeps State.sluice fun _ _ _ _ _ _ => rfl]
    exact s.rolledBack_route m target

/-! ### HARBOUR's steps -/

/-- The change that MODE_CHANGE to ebb asks for. -/
def ebbChange (e : CmdEntry) : ModeChange :=
  { mkChange e.seq 4 (cmdFld e 9 1) (BitVec.ofNat 32 (cmdFld e 0x0C 4)) with
    fence := BitVec.ofNat 48 (cmdFld e 0x18 8), fenceVal := BitVec.ofNat 64 (cmdFld e 0x20 8) }

theorem State.Accepts.modeChange_ebb {s : State} {e : CmdEntry} (ha : s.Accepts e 32) (hfields : s.modeFieldsOk e = true)
    (hkind : cmdFld e 8 1 = 4) (x : ReadResult) :
    s.modeChange e x = ((s.ringTaken e).respond e.seq .ok).modeQueue (ebbChange e) := by
  have hok : (s.ringTaken e).modeFieldsOk e = true := hfields
  rw [State.modeChange, ha.ringCmd, State.modeCmd, hok, hkind]
  rfl

section
variable {s : State} {m : ModeChange} {r : UnitRef}

theorem State.unitAck_eq (hm : s.mgmt.change = some m) (hp : m.phase = .prepare) (hr : r ∈ m.waitFor) (hgone : r ∉ m.gone)
    (hready : s.unitReady m r = true) : s.unitAck r =
      (State.modeAdvance { s with mgmt := { s.mgmt with change := some { m with waitFor := m.waitFor.erase r } } }).modePump := by
  rw [State.unitAck, hm]
  refine if_pos ?_
  rw [hp, List.contains_iff_mem.mpr hr, hready]
  simpa using hgone

/-- The change when a unit has confirmed. -/
def ModeChange.confirmed (m : ModeChange) (r : UnitRef) : ModeChange := { m with waitFor := m.waitFor.erase r, switched := m.switched ++ [r] }

/-- The state in which a clock unit has switched. -/
def State.switched (s : State) (m : ModeChange) (r : UnitRef) : State :=
  State.suppliesGo (State.unitSet m true r { s with mgmt := { s.mgmt with change := some (m.confirmed r) } })

theorem State.unitConfirm_eq {sl : Slice} (hm : s.mgmt.change = some m) (hp : m.phase = .commit) (hr : .clockUnit sl ∈ m.waitFor)
    (hgone : .clockUnit sl ∉ m.gone) : s.unitConfirm (.clockUnit sl) = (s.switched m (.clockUnit sl)).modeAdvance.modePump := by
  rw [State.unitConfirm, hm]
  refine if_pos ?_
  rw [hp, List.contains_iff_mem.mpr hr]
  simpa [State.unitThere] using hgone

theorem State.switched_mgmt (s : State) (m : ModeChange) (r : UnitRef) :
    (s.switched m r).mgmt = { s.mgmt with change := some (m.confirmed r) } :=
  ((State.onClocks_suppliesGo _).keeps State.mgmt fun _ _ _ _ => rfl).trans (State.unitSet_keeps State.mgmt (fun _ _ _ _ => rfl) m true r _)

theorem State.switched_evtFull (s : State) (m : ModeChange) (r : UnitRef) : (s.switched m r).evtFull = s.evtFull :=
  ((State.onClocks_suppliesGo _).keeps State.evtFull fun _ _ _ _ => rfl).trans
    (State.unitSet_keeps State.evtFull (fun _ _ _ _ => rfl) m true r _)

/-- The slice of a clock unit that switches orders ebb as the value says, and the other clock blocks stay where no supply has a step to take. -/
theorem State.switched_clock (s : State) {m : ModeChange} (hk : m.kind = 4) (sl : Slice) :
    ((s.switched m (.clockUnit sl)).clock sl).ebbOrdered = (m.value == 1) ∧
      ((∀ j, (s.clock j).supplyGoal = none ∧ (s.clock j).supplyBack = false) →
        ∀ k, k ≠ sl → (s.switched m (.clockUnit sl)).clock k = s.clock k) := by
  have hkind : m.kind.toNat = 4 := by rw [hk]; rfl
  let t : State := { s with mgmt := { s.mgmt with change := some (m.confirmed (.clockUnit sl)) } }
  refine ⟨?_, fun hstill k hne => ?_⟩
  · rw [State.switched, State.suppliesGo_modes _ sl]
    exact (State.unitSet_ebb m true (.clockUnit sl) t hkind sl).trans (if_pos rfl)
  · have hother : (State.unitSet m true (.clockUnit sl) t).clock k = s.clock k := State.unitSet_ebb_other m true t hkind hne
    have hgo : (State.unitSet m true (.clockUnit sl) t).suppliesGo = State.unitSet m true (.clockUnit sl) t := by
      refine State.suppliesGo_still fun j => ?_
      have hsame := State.unitSet_supply m true (.clockUnit sl) t hkind j
      rw [hsame.1, hsame.2]
      exact hstill j
    exact (congrArg (fun x : State => x.clock k) hgo).trans hother

theorem State.unitConfirm_waits {sl : Slice} (hm : s.mgmt.change = some m) (hp : m.phase = .commit) (hr : .clockUnit sl ∈ m.waitFor)
    (hgone : .clockUnit sl ∉ m.gone) (hw : m.waitFor.erase (.clockUnit sl) ≠ []) :
    s.unitConfirm (.clockUnit sl) = s.switched m (.clockUnit sl) := by
  have hchange : (s.switched m (.clockUnit sl)).mgmt.change = some (m.confirmed (.clockUnit sl)) := by rw [State.switched_mgmt]
  rw [State.unitConfirm_eq hm hp hr hgone, State.modeAdvance_waits hchange hw, State.modePump_busy hchange]

/-- With the last confirmation the change is over; none waits. -/
theorem State.unitConfirm_last {sl : Slice} (hm : s.mgmt.change = some m) (ho : m.orphan = false) (hp : m.phase = .commit)
    (hr : .clockUnit sl ∈ m.waitFor) (hgone : .clockUnit sl ∉ m.gone) (hw : m.waitFor = [.clockUnit sl]) (hcs : s.mgmt.changes = []) :
    s.unitConfirm (.clockUnit sl) = (s.switched m (.clockUnit sl)).modeFinish (m.confirmed (.clockUnit sl)) := by
  have hmgmt := s.switched_mgmt m (.clockUnit sl)
  have hidle : ((s.switched m (.clockUnit sl)).modeFinish (m.confirmed (.clockUnit sl))).mgmt.changes = [] := by
    rw [(State.modeFinish_changes _ _).2, hmgmt]
    exact hcs
  have hwait : (m.confirmed (.clockUnit sl)).waitFor = [] := by
    rw [ModeChange.confirmed, hw]
    exact List.erase_cons_head ..
  rw [State.unitConfirm_eq hm hp hr hgone, State.modeAdvance_finish (m := m.confirmed (.clockUnit sl)) (by rw [hmgmt]) ho hwait (.inl hp),
    State.modePump_idle hidle]

end

/-! ### What HARBOUR's steps back come to -/

section
variable {s : State} {m : ModeChange}

/-- MODE_ROLLBACK sets every unit back, tells of it, and may go on to the next change. -/
theorem State.told_modeRevert (hm : s.mgmt.change = some m) (ho : m.orphan = false) (hh : s.harbour = true) (hw : m.waitFor ≠ []) :
    ∃ l, (s.rolledBack m).Told s.modeRevert (m.result 2 (if m.phase = .prepare then 1 else 2) m.waitFor :: l) ∧
      (s.mgmt.changes = [] → l = []) := by
  obtain ⟨hnone, hchanges⟩ := s.rollbackTold_changes m
  obtain ⟨l, hpump, hl⟩ := State.told_modePump hnone
  rw [State.modeRevert_eq hm ho hh hw]
  exact ⟨l, (s.told_rollback m).trans hpump, fun hcs => hl (hchanges.trans hcs)⟩

theorem State.modeRevert_idle (hm : s.mgmt.change = some m) (ho : m.orphan = false) (hh : s.harbour = true) (hw : m.waitFor ≠ [])
    (hcs : s.mgmt.changes = []) : s.modeRevert.mgmt.change = none := by
  obtain ⟨hnone, hchanges⟩ := s.rollbackTold_changes m
  rw [State.modeRevert_eq hm ho hh hw, State.modePump_idle (hchanges.trans hcs)]
  exact hnone

theorem State.modeRevert_next (hm : s.mgmt.change = some m) (ho : m.orphan = false) (hh : s.harbour = true) (hw : m.waitFor ≠ [])
    {n : ModeChange} {rest : List ModeChange} (hc : s.mgmt.changes = n :: rest)
    (hu : s.modeUnits n.kind.toNat n.target.toNat n.fallback ≠ []) : s.modeRevert = (s.rollbackTold m).pumped n rest := by
  obtain ⟨hnone, hchanges⟩ := s.rollbackTold_changes m
  have hharbour : (s.rollbackTold m).harbour = true :=
    ((s.told_rollback m).keeps State.harbour fun _ _ _ _ _ _ => rfl).trans ((s.rolledBack_harbour m).trans hh)
  rw [State.modeRevert_eq hm ho hh hw, State.modePump_next hnone (hchanges.trans hc) hharbour,
    State.pumped_waits _ rest ((s.rollbackTold_units m _ _ _).symm ▸ hu)]

/-- UNIT_SELF_REVERT sets one unit back and counts it as gone; no change waits. -/
theorem State.unitAlone_back {r : UnitRef} (hm : s.mgmt.change = some m) (ho : m.orphan = true) (hcs : s.mgmt.changes = []) (hr : r ∈ m.units)
    (hgone : r ∉ m.gone) : s.unitAlone r = (State.unitSet m false r (s.dropModeTraffic m)).backFrom (m.goneOn r) ∧
      (s.unitAlone r).mgmt.change = m.goneOn r := by
  have hmgmt : ((State.unitSet m false r (s.dropModeTraffic m)).backFrom (m.goneOn r)).mgmt = { s.mgmt with change := m.goneOn r } := by
    rw [State.backFrom_mgmt, State.unitSet_keeps State.mgmt fun _ _ _ _ => rfl, State.dropModeTraffic_keeps State.mgmt fun _ _ _ _ _ => rfl]
  rw [State.unitAlone_eq hm ho hr hgone, State.modePump_idle (by rw [hmgmt]; exact hcs), hmgmt]
  exact ⟨rfl, rfl⟩

end

/-- Settles O40: a change's steps are those of HARBOUR's two phases, and what goes back is set unit by unit. -/
theorem modeChangesAreTwoPhase : Obligations.ModeChangesAreTwoPhase := by
  unfold Obligations.ModeChangesAreTwoPhase
  intro s back tells still
  refine ⟨fun e x hring hsession hseq hlen hpad hfields hkind => ?_, fun m r hm ho hr hgone => ⟨fun hp hready hw => ?_,
    fun hp hready hw hu hk => ?_, fun sl hsl hp hk hw => ?_, fun sl hsl hp hk hw hcs => ?_, fun hh => ?_⟩, fun m r hm ho hcs hr hgone => ?_⟩
  · have ha : s.Accepts e 32 := ⟨hring, hsession, hseq, by rw [hlen]; rfl, hpad⟩
    have hrun := ha.modeChange_ebb hfields hkind x
    let t := (s.ringTaken e).respond e.seq .ok
    refine ⟨fun c hc => ⟨s.modeChange e x, rfl, ?_⟩, fun hc hcs => ⟨s.modeChange e x, t.begun (ebbChange e), rfl, ?_⟩⟩
    · have hq : s.modeChange e x = { t with mgmt := { t.mgmt with changes := s.mgmt.changes ++ [ebbChange e] } } :=
        hrun.trans (State.modePump_busy hc)
      rw [← s.modeChange_conf e x, hq]
      exact ⟨rfl, rfl, State.respond_queue_length (s.ringTaken e) e.seq .ok, rfl, rfl⟩
    · have hharbour : s.harbour = true := by
        rw [State.ringReady, Bool.and_assoc] at hring
        exact (Bool.and_eq_true_iff.mp hring).1
      have hq : s.modeChange e x = { t with mgmt := { t.mgmt with change := some (t.begun (ebbChange e)), changes := [] } } := by
        let w : State := { t with mgmt := { t.mgmt with changes := s.mgmt.changes ++ [ebbChange e] } }
        have hnext : w.mgmt.changes = [ebbChange e] := by
          change s.mgmt.changes ++ [ebbChange e] = _
          rw [hcs, List.nil_append]
        have hunits : w.modeUnits 4 (ebbChange e).target.toNat false ≠ [] := List.cons_ne_nil _ _
        have hrun' : s.modeChange e x = w.modePump := hrun
        rw [hrun', State.modePump_next (s := w) hc hnext hharbour, State.pumped_waits w (n := ebbChange e) [] hunits]
        rfl
      rw [← s.modeChange_conf e x, hq]
      exact ⟨rfl, rfl, rfl, rfl, rfl, rfl, rfl, rfl, rfl⟩
  · refine next_settle_congr ?_
    rw [State.unitAck_eq hm hp hr hgone hready, State.modeAdvance_waits rfl hw]
    exact State.modePump_busy rfl
  · refine next_settle_congr ?_
    rw [State.unitAck_eq hm hp hr hgone hready, State.modeAdvance_commit (m := { m with waitFor := m.waitFor.erase r }) rfl ho
      (by rw [hw]; exact List.erase_cons_head ..) hp hu hk]
    exact State.modePump_busy rfl
  · subst hsl
    have hq := State.unitConfirm_waits hm hp hr hgone hw
    obtain ⟨hebb, hothers⟩ := s.switched_clock hk sl
    exact ⟨s.unitConfirm (.clockUnit sl), rfl, hq ▸ congrArg MgmtUnit.change (s.switched_mgmt m _), hq ▸ hebb, hq ▸ hothers,
      s.unitConfirm_conf _⟩
  · subst hsl
    have hq := State.unitConfirm_last hm ho hp hr hgone hw hcs
    have htold := State.told_modeFinish (s.switched m (.clockUnit sl)) (m.confirmed (.clockUnit sl))
    rw [← hq] at htold
    have hclock (k : Slice) : (s.unitConfirm (.clockUnit sl)).clock k = (s.switched m (.clockUnit sl)).clock k :=
      htold.keeps (fun t => t.clock k) fun _ _ _ _ _ _ => rfl
    obtain ⟨hebb, hothers⟩ := s.switched_clock hk sl
    refine ⟨s.unitConfirm (.clockUnit sl), rfl, hq ▸ (State.modeFinish_changes _ _).1, fun hroom => ?_, (hclock sl).symm ▸ hebb,
      fun hst k hne => (hclock k).trans (hothers hst k hne), s.unitConfirm_conf _⟩
    refine ⟨(m.confirmed (.clockUnit sl)).result 1 0 [], [], ?_, fun _ => rfl, rfl, rfl, ModeChange.result_head ..⟩
    rw [htold.queue ((s.switched_evtFull m _).trans hroom), s.switched_mgmt m]
  · have hw := List.ne_nil_of_mem hr
    obtain ⟨l, htold, hl⟩ := State.told_modeRevert hm ho hh hw
    refine ⟨s.modeRevert, rfl, fun x hx => ?_, fun hroom => ?_, State.modeRevert_idle hm ho hh hw, fun n rest hc hu => ?_,
      s.modeRevert_conf, ?_, ?_⟩
    · have hroute := (s.dropModeTraffic m).modeOld_route m m.target.toNat
      rw [s.dropModeTraffic_pipe m] at hroute
      exact ((s.dropModeTraffic m).modeOld_back m hx).reverted none hroute (htold.keeps State.clocks fun _ _ _ _ _ _ => rfl)
        (htold.keeps State.tearBurst fun _ _ _ _ _ _ => rfl) (htold.keeps State.sluice fun _ _ _ _ _ _ => rfl)
    · refine ⟨m.result 2 (if m.phase = .prepare then 1 else 2) m.waitFor, l, ?_, hl, rfl, rfl, (ModeChange.result_head ..).trans ?_⟩
      · exact (htold.queue ((s.rolledBack_evtFull m).trans hroom)).trans (by rw [s.rolledBack_mgmt m])
      · split <;> rfl
    · rw [State.modeRevert_next hm ho hh hw hc hu]
      exact ⟨(s.rollbackTold m).begun n, rfl, rfl, s.rollbackTold_units m _ _ _, rfl, rfl⟩
    · exact (htold.keeps State.tide fun _ _ _ _ _ _ => rfl).trans (s.rolledBack_keeps m State.tide fun _ _ _ _ _ _ _ _ _ _ _ => rfl)
    · exact (htold.keeps State.queues fun _ _ _ _ _ _ => rfl).trans (s.rolledBack_keeps m State.queues fun _ _ _ _ _ _ _ _ _ _ _ => rfl)
  · obtain ⟨hq, hchange⟩ := State.unitAlone_back hm ho hcs hr hgone
    refine ⟨s.unitAlone r, rfl, ?_, ?_, s.unitAlone_conf r, ?_⟩
    · rw [hchange]
      simp only [ModeChange.goneOn, List.all_eq_true, List.contains_iff_mem]
    · have hroute := (s.dropModeTraffic m).unitSet_route m false r m.target.toNat
      rw [s.dropModeTraffic_pipe m] at hroute
      exact ((s.dropModeTraffic m).unitSet_back m r r (.inr rfl)).reverted (m.goneOn r) hroute (by rw [hq]) (by rw [hq]) (by rw [hq])
    · rw [hq, State.backFrom_keeps _ _ State.tide fun _ _ _ _ _ => rfl, State.unitSet_keeps State.tide fun _ _ _ _ => rfl,
        State.dropModeTraffic_keeps State.tide fun _ _ _ _ _ => rfl]

end Sys2Proof.Machine

/-! SETTLED: O42, allocator pools, QUEUE_SAVE and the release of a partition (05 R116, R124; 06 R146, R155; 14 R356). -/

namespace Sys2Proof.Machine

/-! ### What starting accesses writes -/

/-- A later state differs at most in accesses, their translation and stalls, the engine ports' requests, the quotas in use and the bulk
jobs. -/
def State.Issues (s t : State) : Prop := ∃ ac en ni tr la st eg us bu an, t = { s with
  accesses := ac, ended := en, nextId := ni, trans := tr, landings := la, stalls := st, engReqs := eg, hold := { s.hold with used := us },
  alloc := { s.alloc with bulks := bu, nextId := an } }

theorem State.issues_parts {s : State} {ac : List Access} {en : List (Access × AccResult)} {ni : Nat} {tr : TransUnit} {la : Tab Landing}
    {st : Tab Stall} {eg : List EngReq} {us : Tab Nat} {bu : List BulkJob} {an : Nat} : s.Issues { s with
      accesses := ac, ended := en, nextId := ni, trans := tr, landings := la, stalls := st, engReqs := eg, hold := { s.hold with used := us },
      alloc := { s.alloc with bulks := bu, nextId := an } } := ⟨ac, en, ni, tr, la, st, eg, us, bu, an, rfl⟩

theorem State.Issues.trans {s t u : State} (h : s.Issues t) (h' : t.Issues u) : s.Issues u := by
  obtain ⟨ac, en, ni, tr, la, st, eg, us, bu, an, rfl⟩ := h
  obtain ⟨ac', en', ni', tr', la', st', eg', us', bu', an', rfl⟩ := h'
  exact ⟨ac', en', ni', tr', la', st', eg', us', bu', an', rfl⟩

theorem State.Issues.keeps {s t : State} (h : s.Issues t) {β : Type} (g : State → β)
    (hg : ∀ (x : State) ac en ni tr la st eg us bu an, g { x with
      accesses := ac, ended := en, nextId := ni, trans := tr, landings := la, stalls := st, engReqs := eg, hold := { x.hold with used := us },
      alloc := { x.alloc with bulks := bu, nextId := an } } = g x) : g t = g s := by
  obtain ⟨ac, en, ni, tr, la, st, eg, us, bu, an, rfl⟩ := h
  exact hg ..

theorem State.Issues.ite {s t u : State} {c : Prop} [Decidable c] (h : s.Issues t) (h' : s.Issues u) : s.Issues (if c then t else u) := by
  split
  · exact h
  · exact h'

section
variable (s : State)

theorem State.Issues.refl : s.Issues s := s.issues_parts

theorem State.issues_launch (a : Access) : s.Issues (s.launch a) := s.issues_parts

theorem State.issues_modAcc (id : Nat) (f : Access → Access) : s.Issues (s.modAcc id f) := s.issues_parts

theorem State.issues_setStall (k : Nat) (v : Stall) : s.Issues (s.setStall k v) := s.issues_parts

theorem State.issues_setLanding (k : Nat) (v : Landing) : s.Issues (s.setLanding k v) := s.issues_parts

theorem State.issues_finish (id : Nat) (r : AccResult) : s.Issues (s.finish id r) := by
  obtain ⟨us, ac, en, h, -⟩ := s.finish_frame id r
  rw [h]
  exact s.issues_parts

theorem State.issues_faultAcc (id : Nat) (cause : Cause) (level : Nat) (va aux : BitVec 64) :
    s.Issues (s.faultAcc id cause level va aux) := by
  unfold State.faultAcc
  split
  · exact .refl s
  · have hlost : ∀ k v st, s.Issues ((s.setLanding k v).fail id st) := fun _ v _ =>
      (s.issues_setLanding _ v).trans (State.issues_finish _ _ _)
    refine .ite (s.issues_finish _ _) (.ite (hlost _ _ _) (.ite (hlost _ _ _) ?_))
    exact ((s.issues_setLanding _ _).trans (State.issues_modAcc _ _ _)).trans (State.issues_setStall _ _ _)

theorem State.issues_stallDone (st id : Nat) : s.Issues (s.stallDone st id) := by
  unfold State.stallDone State.stallSettle
  split
  · split
    · exact (s.issues_setStall _ _).trans (State.issues_setStall _ _ _)
    · exact s.issues_setStall _ _
  · exact .refl s

theorem State.issues_splitWindow (id : Nat) : s.Issues (s.splitWindow id) := by
  unfold State.splitWindow
  split
  · exact .refl s
  · split
    · dsimp only
      split
      · exact .refl s
      · exact s.issues_parts
    · exact .refl s

theorem State.issues_useLeaf (id : Nat) (l : Leaf) (level : Nat) : s.Issues (s.useLeaf id l level) := by
  unfold State.useLeaf
  split
  · exact .refl s
  · split
    · exact .refl s
    · split
      · dsimp only
        split
        · exact (s.issues_stallDone _ _).trans (State.issues_finish _ _ _)
        · exact (s.issues_stallDone _ _).trans (State.issues_finish _ _ _)
        · exact ((s.issues_stallDone _ _).trans (State.issues_modAcc _ _ _)).trans (State.issues_splitWindow _ _)
      · exact s.issues_faultAcc _ _ _ _ _

theorem State.issues_missTo (p : Nat) (va : BitVec 64) (who : Asker) (st since : Nat) : s.Issues (s.missTo p va who st since) := by
  unfold State.missTo
  split
  · exact s.issues_parts
  · exact s.issues_parts

theorem State.issues_countL2 (hit : Bool) : s.Issues (s.countL2 hit) := by
  unfold State.countL2
  split
  · exact s.issues_parts
  · exact s.issues_parts

theorem State.issues_lookup (a : Access) (p : Nat) (va : BitVec 64) (since : Option Nat) : s.Issues (s.lookup a p va since) := by
  unfold State.lookup
  split
  · exact s.issues_faultAcc _ _ _ _ _
  · split
    · exact s.issues_faultAcc _ _ _ _ _
    · split
      · exact s.issues_missTo _ _ _ _ _
      · split
        · exact s.issues_useLeaf _ _ _
        · split
          · exact s.issues_finish _ _
          · split
            · exact ((s.issues_countL2 true).trans State.issues_parts).trans (State.issues_useLeaf _ _ _ _)
            · exact (s.issues_countL2 false).trans (State.issues_missTo _ _ _ _ _ _)

theorem State.issues_present (id : Nat) : s.Issues (State.present id s) := by
  unfold State.present
  split
  · exact .refl s
  · split
    · split
      · exact .refl s
      · split
        · exact s.issues_finish _ _
        · split
          · exact .refl s
          · exact s.issues_lookup _ _ _ _
    · exact .refl s

theorem State.issues_launchVa (a : Access) (va : BitVec 64) : s.Issues (s.launchVa a va) :=
  (s.issues_launch _).trans (State.issues_present _ _)

end

theorem State.issues_bulkIssue (id n : Nat) (s : State) : s.Issues (State.bulkIssue id n s) := by
  induction n generalizing s with
  | zero => exact .refl s
  | succ n ih =>
    unfold State.bulkIssue
    split
    · exact .refl s
    next b hb =>
      split
      · exact .refl s
      · split
        · exact .refl s
        · refine State.Issues.trans ?_ (ih _)
          have hjob : ∀ f, s.Issues (s.modBulk id f) := fun f => s.issues_parts
          split
          · exact (hjob _).trans (State.issues_launchVa _ _ _)
          · exact (hjob _).trans (State.issues_launch _ _)

/-- A bulk job that starts writes its bulk job and the accesses of its first writes. -/
theorem State.issues_bulkStart (s : State) (agent : Agent) (part : Option Nat) (todo : List Chunk) (owner : BulkOwner) :
    s.Issues (s.bulkStart agent part todo owner) := by
  refine State.Issues.trans ?_ (State.issues_bulkIssue _ _ _)
  exact s.issues_parts

theorem State.bulkStart_pool (s : State) (agent : Agent) (part : Option Nat) (todo : List Chunk) (owner : BulkOwner) (j : Nat) :
    (s.bulkStart agent part todo owner).pool j = s.pool j :=
  (s.issues_bulkStart agent part todo owner).keeps (fun t => t.pool j) fun _ _ _ _ _ _ _ _ _ _ _ => rfl

theorem State.bulkStart_tide (s : State) (agent : Agent) (part : Option Nat) (todo : List Chunk) (owner : BulkOwner) :
    (s.bulkStart agent part todo owner).tide = s.tide :=
  (s.issues_bulkStart agent part todo owner).keeps State.tide fun _ _ _ _ _ _ _ _ _ _ _ => rfl

/-! ### The commands' checks -/

section
variable {s : State} {e : CmdEntry}

/-- A command of an action runs on the state that has taken it. -/
theorem State.Accepts.ringAct {n off a : Nat} (h : s.Accepts e n) (ha : cmdFld e off 1 = a) (opcode actions : Nat) (f : State → State) :
    s.ringAct e off opcode n a actions f = f (s.ringTaken e) := by
  rw [State.ringAct, if_neg (fun hother => hother.1 ha), h.ringCmd, if_pos ha]

/-- The checks that every action of ALLOC_POOL shares pass, for an action of it (06 R146; 05 R116). -/
structure State.PoolTaken (s : State) (e : CmdEntry) (action : Nat) : Prop where
  accepts : s.Accepts e 40
  feature : s.feature 8 = true
  part : s.partExists (byteAt (padTo e.payload 52) 0) = true
  fields : poolFieldsOk (padTo e.payload 52) = true
  own : byteAt (padTo e.payload 52) 1 = action
  byte : cmdFld e 9 1 = action

/-- What an action of ALLOC_POOL does behind its checks. -/
def State.poolAction (s : State) (e : CmdEntry) (x : ReadResult) : Nat → State
  | 0 => s.poolPages e.seq (padTo e.payload 52) false x
  | 1 => s.poolPages e.seq (padTo e.payload 52) true x
  | 2 => s.poolAttach e.seq (padTo e.payload 52) x
  | _ => s.poolDetach e.seq (padTo e.payload 52)

theorem State.PoolTaken.allocPool {action : Nat} (h : s.PoolTaken e action) (x : ReadResult) :
    s.ringAct e 9 0x40 40 action 4 (State.allocPool · e action x) = (s.ringTaken e).poolAction e x action := by
  have hfeature : (s.ringTaken e).feature 8 = true := h.feature
  have hpart : (s.ringTaken e).partExists (byteAt (padTo e.payload 52) 0) = true := h.part
  rw [h.accepts.ringAct h.byte]
  unfold State.allocPool
  dsimp only
  rw [hfeature, hpart, h.fields, h.own, bne_self_eq_false, Bool.not_true, Bool.or_false, Bool.or_false, Bool.or_false,
    if_neg Bool.false_ne_true]
  rfl

end

/-! ### ALLOC_POOL's actions -/

/-- The zero writes over the leaves of interrupted operations' slots. -/
def tornLeaves (ts : List (AllocJob × Pool)) (k : Pool) : List Chunk :=
  ts.flatMap (fun x => (tornSlots x).filterMap (fun u => (x.1.leafAt k u).map (fun a => Chunk.data a (zeros 8))))

theorem mem_tornLeaves {ts : List (AllocJob × Pool)} {k : Pool} {x : AllocJob × Pool} (hx : x ∈ ts) {i v : Nat} (hi : i ∈ tornSlots x)
    (hv : x.1.leafAt k i = some v) : Chunk.data v (zeros 8) ∈ tornLeaves ts k :=
  List.mem_flatMap.mpr ⟨x, hx, List.mem_filterMap.mpr ⟨i, hi, by rw [hv]; rfl⟩⟩

section
variable (s : State) (seq : BitVec 32) (b arr : Bytes)

/-- The pages of CREATE and ADD. -/
def givenPages : List (BitVec 60) := pagesOf (arr.take (8 * fld b 0x20 4))

/-- A pool as CREATE makes it. -/
def poolMade : Pool :=
  { arenaBase := BitVec.ofNat 64 (fld b 8 8), metaBase := BitVec.ofNat 64 (fld b 0x10 8), slots := fld b 4 4,
    stack := (givenPages b arr).reverse, pages := [], used := [], start := 0 }

/-- A pool with the pages of ADD on its stack. -/
def poolGrown (k : Pool) : Pool := { k with stack := (givenPages b arr).reverse ++ k.stack }

theorem State.poolPages_create (hnone : s.pool (byteAt b 0) = none) (hok : s.pagesOk (arr.take (8 * fld b 0x20 4)) = true)
    (hfit : (givenPages b arr).length ≤ fld b 4 4) : s.poolPages seq b false (.ok arr) =
      (s.untorn (byteAt b 0) true).bulkStart .block (some (byteAt b 0))
        [.zero (poolMade b arr).bitmapAt ((poolMade b arr).stackAt - (poolMade b arr).bitmapAt),
          (poolMade b arr).pushChunk (givenPages b arr).length, (poolMade b arr).headerChunk (byteAt b 0)]
        (.create seq (byteAt b 0) (poolMade b arr)) := by
  have hbad : (!s.pagesOk (arr.take (8 * fld b 0x20 4)) || decide (fld b 4 4 < (givenPages b arr).length)) = false := by
    rw [hok, decide_eq_false (Nat.not_lt.mpr hfit)]; rfl
  unfold State.poolPages
  dsimp only
  rw [hnone]
  exact if_neg (Bool.eq_false_iff.mp hbad)

theorem State.poolPages_add {k : Pool} (hk : s.pool (byteAt b 0) = some k) (hok : s.pagesOk (arr.take (8 * fld b 0x20 4)) = true)
    (hfit : k.stack.length + (givenPages b arr).length ≤ k.slots) : s.poolPages seq b true (.ok arr) =
      (s.setPool (byteAt b 0) (some (poolGrown b arr k))).bulkStart .block (some (byteAt b 0))
        [(poolGrown b arr k).pushChunk (givenPages b arr).length, (poolGrown b arr k).headerChunk (byteAt b 0)] (.add seq) := by
  have hbad : (!s.pagesOk (arr.take (8 * fld b 0x20 4)) || decide (k.slots < k.stack.length + (givenPages b arr).length)) = false := by
    rw [hok, decide_eq_false (Nat.not_lt.mpr hfit)]; rfl
  unfold State.poolPages
  dsimp only
  rw [hk]
  exact if_neg (Bool.eq_false_iff.mp hbad)

/-- A metadata region that ATTACH takes for one of the command's pool. -/
structure RegionOk (b r : Bytes) : Prop where
  crc : crc32c (r.take 60) = fld r 60 4
  magic : fld r 0 4 = 0x4C4F4F50
  part : byteAt r 4 = byteAt b 0
  slots : fld r 8 4 = fld b 4 4

section
variable {s b} {r : Bytes} (hnone : s.pool (byteAt b 0) = none)
include hnone

theorem State.poolAttach_bad
    (h : crc32c (r.take 60) ≠ fld r 60 4 ∨ fld r 0 4 ≠ 0x4C4F4F50 ∨ byteAt r 4 ≠ byteAt b 0 ∨ fld r 8 4 ≠ fld b 4 4) :
    s.poolAttach seq b (.ok r) = s.respond seq .checkFail := by
  unfold State.poolAttach
  dsimp only
  rw [hnone]
  exact if_pos h

/-- ATTACH of a region that checks. -/
theorem State.poolAttach_region (h : RegionOk b r) : s.poolAttach seq b (.ok r) =
    if !allZero (cut r 5 3) || !allZero (cut r 0x18 36) then s.respond seq .malformed
    else if s.tornOf (byteAt b 0) = [] then s.attachEnd seq (byteAt b 0) (poolOf b r) .ok
    else s.bulkStart .block none (tornLeaves (s.tornOf (byteAt b 0)) (poolOf b r))
      (.mend seq (byteAt b 0) ((s.tornOf (byteAt b 0)).foldl Pool.lose (poolOf b r))) := by
  have hgood : ¬ (crc32c (r.take 60) ≠ fld r 60 4 ∨ fld r 0 4 ≠ 0x4C4F4F50 ∨ byteAt r 4 ≠ byteAt b 0 ∨ fld r 8 4 ≠ fld b 4 4) :=
    not_or.mpr ⟨not_not.mpr h.crc, not_or.mpr ⟨not_not.mpr h.magic, not_or.mpr ⟨not_not.mpr h.part, not_not.mpr h.slots⟩⟩⟩
  unfold State.poolAttach
  dsimp only
  rw [hnone]
  exact if_neg hgood

end

end

theorem State.attachEnd_done (s : State) (seq : BitVec 32) {p : Nat} (k : Pool) (h : s.resumable p = []) :
    s.attachEnd seq p k .ok = ((s.setPool p (some k)).untorn p true).respond seq .ok := by
  unfold State.attachEnd
  rw [if_neg (not_not.mpr rfl)]
  exact if_pos h

theorem State.attachEnd_resumes (s : State) (seq : BitVec 32) {p : Nat} (k : Pool) (h : s.resumable p ≠ []) :
    s.attachEnd seq p k .ok = eachOf (fun (j : AllocJob) t => State.jobNew t (.attach seq) p true j.size 0 j.recVa j.phys 0 j.first)
      (s.resumable p) ((s.setPool p (some k)).untorn p true) := by
  unfold State.attachEnd
  rw [if_neg (not_not.mpr rfl)]
  exact if_neg h

theorem State.poolDetach_pool (s : State) (seq : BitVec 32) {b : Bytes} {k : Pool} (hk : s.pool (byteAt b 0) = some k) :
    s.poolDetach seq b = if k.used = [] then ((s.untorn (byteAt b 0) true).setPool (byteAt b 0) none).respond seq .ok
      else s.respond seq .permission := by
  unfold State.poolDetach
  dsimp only
  rw [hk]
  cases hu : k.used with
  | nil => simp [hu]
  | cons i l => simp [hu]

/-! ### The release of a partition -/

section
variable (s : State)

/-- An invalidation of the block's own is held while fewer than 16 are, and waits behind the others else. -/
theorem State.invSubmit_own {c : InvCmd} (h : c.source.atsPort = none) : ∃ v : InvUnit, s.invSubmit c = { s with inv := v } ∧
    v.held ++ v.atsWait = if s.inv.held.length < 16 then s.inv.held ++ [c] ++ s.inv.atsWait else s.inv.held ++ s.inv.atsWait ++ [c] := by
  have hroom : s.invRoom c = decide (s.inv.held.length < 16) := by
    rw [State.invRoom, h]
    exact Bool.and_true _
  unfold State.invSubmit
  rw [hroom, h]
  by_cases hlt : s.inv.held.length < 16
  · rw [decide_eq_true hlt, if_pos rfl, if_pos hlt]
    exact ⟨_, rfl, rfl⟩
  · rw [decide_eq_false hlt, if_neg Bool.false_ne_true, if_neg hlt]
    exact ⟨_, rfl, (List.append_assoc ..).symm⟩

variable (p : Nat)

/-- What SEC leaves of a partition, behind its counters, slots and queues. -/
def State.scrubLast (x : PartEntry) : State :=
  let t := eachOf (fun (v : Nat) t => (State.modMsixEntry t v (fun x => { x with mask := true })).setPendingBit v false)
    ((List.range x.msixCount).map (· + x.msixFirst)) s
  ((t.setLanding p {}).setRoot p {}).setHoldUsed p 0

/-- What SEC zeroes first: counters, combine slots and queues. -/
def State.scrubFirst (x : PartEntry) : State :=
  let t := eachOf (fun (n : Nat) t => t.resetSlot n) ((List.range x.combineCount).map (· + x.combineFirst))
    { s with tide := { s.tide with values := s.tide.values.filter (fun y => !inRange y.1 x.tideFirst x.tideCount) } }
  { t with queues := t.queues.filter (fun y => !inRange y.1 x.queueFirst x.queueCount) }

theorem State.releaseScrub_eq {x : PartEntry} (hx : s.partEntry p = some x) : s.releaseScrub p = (s.scrubFirst x).scrubLast p x := by
  unfold State.releaseScrub
  rw [hx]
  rfl

theorem State.scrubLast_keeps (x : PartEntry) {β : Type} (g : State → β)
    (hg : ∀ (t : State) i l tr us, g { t with irq := i, landings := l, trans := tr, hold := { t.hold with used := us } } = g t) :
    g (s.scrubLast p x) = g s := by
  have hmask (v : Nat) (t : State) : g ((t.modMsixEntry v (fun x => { x with mask := true })).setPendingBit v false) = g t :=
    hg t _ t.landings t.trans t.hold.used
  have hlast (t : State) : g (((t.setLanding p {}).setRoot p {}).setHoldUsed p 0) = g t := hg t t.irq _ _ _
  exact (hlast _).trans (eachOf_keeps g hmask _ s)

theorem State.resetSlot_frame (n : Nat) : ∃ cm us, s.resetSlot n = { s with cmb := cm, hold := { s.hold with used := us } } := by
  have hfree : ∃ cm us, s.slotFree n = { s with cmb := cm, hold := { s.hold with used := us } } := ⟨_, _, rfl⟩
  obtain ⟨cm, us, h⟩ := hfree
  rw [State.resetSlot, h]
  exact ⟨_, us, rfl⟩

theorem State.scrubFirst_keeps (x : PartEntry) {β : Type} (g : State → β)
    (hg : ∀ (t : State) cm us ti qu, g { t with cmb := cm, hold := { t.hold with used := us }, tide := ti, queues := qu } = g t) :
    g (s.scrubFirst x) = g s := by
  have hslot (n : Nat) (t : State) : g (t.resetSlot n) = g t := by
    obtain ⟨cm, us, h⟩ := t.resetSlot_frame n
    rw [h]
    exact hg t cm us t.tide t.queues
  have hqueues (t : State) (qu : Tab Queue) : g { t with queues := qu } = g t := hg t t.cmb t.hold.used t.tide qu
  exact (hqueues _ _).trans ((eachOf_keeps g hslot _ _).trans (hg s s.cmb s.hold.used _ s.queues))

theorem State.scrubFirst_tide (x : PartEntry) : (s.scrubFirst x).tide =
    { s.tide with values := s.tide.values.filter (fun y => !inRange y.1 x.tideFirst x.tideCount) } := by
  refine eachOf_keeps (f := fun (n : Nat) t => State.resetSlot t n) State.tide (fun n t => ?_) _ _
  obtain ⟨cm, us, h⟩ := t.resetSlot_frame n
  rw [h]

theorem State.scrubFirst_queues (x : PartEntry) : (s.scrubFirst x).queues =
    s.queues.filter (fun y => !inRange y.1 x.queueFirst x.queueCount) := by
  refine congrArg (List.filter _) (eachOf_keeps (f := fun (n : Nat) t => State.resetSlot t n) State.queues (fun n t => ?_) _ _)
  obtain ⟨cm, us, h⟩ := t.resetSlot_frame n
  rw [h]

end

/-- What the scrub of a partition with an entry in the chart leaves: no hold units, no counters and no queues of its own. -/
structure State.Scrubbed (s : State) (p : Nat) (x : PartEntry) (t : State) : Prop where
  hold : t.holdUsed p = 0
  inside : ∀ n, inRange n x.tideFirst x.tideCount = true → tabGet 0 t.tide.values n = 0
  outside : ∀ n, inRange n x.tideFirst x.tideCount = false → tabGet 0 t.tide.values n = tabGet 0 s.tide.values n
  queues : ∀ y ∈ t.queues, inRange y.1 x.queueFirst x.queueCount = false

theorem State.releaseScrub_scrubbed (s : State) {p : Nat} {x : PartEntry} (hx : s.partEntry p = some x) :
    s.Scrubbed p x (s.releaseScrub p) := by
  rw [s.releaseScrub_eq p hx]
  have htide : ((s.scrubFirst x).scrubLast p x).tide.values = s.tide.values.filter (fun y => !inRange y.1 x.tideFirst x.tideCount) := by
    rw [State.scrubLast_keeps _ p x State.tide fun _ _ _ _ _ => rfl, s.scrubFirst_tide x]
  have hget (n : Nat) : tabGet 0 ((s.scrubFirst x).scrubLast p x).tide.values n =
      if !inRange n x.tideFirst x.tideCount then tabGet 0 s.tide.values n else 0 := by
    rw [htide]
    exact tabGet_filter 0 (fun k => !inRange k x.tideFirst x.tideCount) s.tide.values n
  refine ⟨(State.holdUsed_setHoldUsed _ p p 0).trans (if_pos rfl), fun n hn => ?_, fun n hn => ?_, fun y hy => ?_⟩
  · rw [hget, hn]; rfl
  · rw [hget, hn]; rfl
  · rw [State.scrubLast_keeps _ p x State.queues fun _ _ _ _ _ => rfl, s.scrubFirst_queues x] at hy
    exact Bool.not_eq_true' _ ▸ (List.mem_filter.mp hy).2

theorem State.releaseScrub_keeps (s : State) {p : Nat} {x : PartEntry} (hx : s.partEntry p = some x) {β : Type} (g : State → β)
    (hfirst : ∀ (t : State) cm us ti qu, g { t with cmb := cm, hold := { t.hold with used := us }, tide := ti, queues := qu } = g t)
    (hlast : ∀ (t : State) i l tr us, g { t with irq := i, landings := l, trans := tr, hold := { t.hold with used := us } } = g t) :
    g (s.releaseScrub p) = g s := by
  rw [s.releaseScrub_eq p hx, State.scrubLast_keeps _ p x g hlast, State.scrubFirst_keeps s x g hfirst]

theorem State.releaseEnd_one {s : State} {j : ReleaseJob} (hsec : s.sec = true) (hj : s.releases = [j]) (hready : s.releaseReady j.part = true) :
    s.releaseEnd = (State.setPart { s.releaseScrub j.part with releases := (s.releaseScrub j.part).releases.erase j } j.part .disabled).respond
      j.seq .ok := by
  have hfind : s.releases.find? (fun j => s.releaseReady j.part) = some j := by rw [hj]; exact List.find?_cons_of_pos hready
  rw [State.releaseEnd, hsec, hfind]
  rfl

theorem State.releaseCmd_refused {s : State} {e : CmdEntry} (ha : s.Accepts e 1)
    (h : s.part (cmdFld e 8 1) ≠ .disabled ∨ s.pool (cmdFld e 8 1) ≠ none) : s.releaseCmd e = (s.ringTaken e).respond e.seq .permission := by
  rw [State.releaseCmd, ha.ringCmd]
  exact if_pos (.inr (h.imp id (fun hp => Option.isSome_iff_ne_none.mpr hp)))

/-- PARTITION_RELEASE of a partition that may be released. -/
theorem State.releaseCmd_begins {s : State} {e : CmdEntry} (ha : s.Accepts e 1) (hp : cmdFld e 8 1 ≤ 15)
    (hpart : s.part (cmdFld e 8 1) = .disabled) (hpool : s.pool (cmdFld e 8 1) = none) (hlines : s.partLines (cmdFld e 8 1) = []) :
    ∃ v : InvUnit, s.releaseCmd e = { State.setPart (s.ringTaken e) (cmdFld e 8 1) .releasing with
        releases := s.releases ++ [{ part := cmdFld e 8 1, seq := e.seq }], inv := v } ∧
      v.held ++ v.atsWait = if s.inv.held.length < 16 then s.inv.held ++ [otherInv .release .partition (cmdFld e 8 1) 0 0] ++ s.inv.atsWait
        else s.inv.held ++ s.inv.atsWait ++ [otherInv .release .partition (cmdFld e 8 1) 0 0] := by
  have hnone : (s.ringTaken e).pool (cmdFld e 8 1) = none := hpool
  have hdisabled : (s.ringTaken e).part (cmdFld e 8 1) = .disabled := hpart
  have hmay : ¬ (15 < cmdFld e 8 1 ∨ (s.ringTaken e).part (cmdFld e 8 1) ≠ .disabled ∨
      ((s.ringTaken e).pool (cmdFld e 8 1)).isSome = true) := by
    rw [hnone, hdisabled]
    simpa using hp
  have hrecall (t : State) (hhome : t.home = s.home) (hchart : t.chart = s.chart) : t.recall (cmdFld e 8 1) = t := by
    have hl : t.partLines (cmdFld e 8 1) = s.partLines (cmdFld e 8 1) := by
      simp only [State.partLines, State.linePartition, State.windowAt, State.theChart, hhome, hchart]
    rw [State.recall, hl, hlines, eachOf]
  rw [State.releaseCmd, ha.ringCmd]
  obtain ⟨v, hsubmit, hv⟩ := State.invSubmit_own
    (State.setPart { s.ringTaken e with releases := s.releases ++ [{ part := cmdFld e 8 1, seq := e.seq }] } (cmdFld e 8 1) .releasing)
    (c := otherInv .release .partition (cmdFld e 8 1) 0 0) rfl
  refine ⟨v, (if_neg hmay).trans ?_, hv⟩
  exact (congrArg (fun t : State => t.recall (cmdFld e 8 1)) hsubmit).trans (hrecall _ rfl rfl)

/-- Settles O42: each command passes its checks and then does what its action says; what only starts accesses keeps pools and counters. -/
theorem poolsQueueSaveAndRelease : Obligations.PoolsQueueSaveAndRelease := by
  unfold Obligations.PoolsQueueSaveAndRelease
  intro s
  refine ⟨fun e hring hsession hseq => ⟨fun hlen hpad => ?_, fun hlen hpad hp => ⟨fun hno => ?_, fun hp15 hpart hpool hlines => ?_⟩,
    fun hlen hpad hfeature hexists hfields hbyte => ?_⟩, fun hsec j hj hready x hx => ?_⟩
  · have ha : s.Accepts e 0 := ⟨hring, hsession, hseq, by rw [hlen]; rfl, hpad⟩
    refine next_settle_congr ?_
    rw [State.queueSave, ha.ringCmd]
    rfl
  · have ha : s.Accepts e 1 := ⟨hring, hsession, hseq, by rw [hlen]; rfl, hpad⟩
    rw [hp] at hno
    exact next_settle_congr (State.releaseCmd_refused ha hno)
  · have ha : s.Accepts e 1 := ⟨hring, hsession, hseq, by rw [hlen]; rfl, hpad⟩
    rw [hp] at hp15 hpart hpool hlines
    obtain ⟨v, hrun, hv⟩ := State.releaseCmd_begins ha hp15 hpart hpool hlines
    have hparts (j : Nat) : (s.releaseCmd e).part j = if j = cmdFld e 8 1 then .releasing else s.part j := by
      rw [hrun]
      exact (s.ringTaken e).part_setPart (cmdFld e 8 1) j .releasing
    rw [hp]
    refine ⟨s.releaseCmd e, rfl, (hparts _).trans (if_pos rfl), fun j hj => (hparts j).trans (if_neg hj), ?_, ?_, s.releaseCmd_conf e, ?_⟩
    · rw [hrun]
    · rw [hrun]; exact hv
    · rw [hrun]; rfl
  · have htaken (a : Nat) (hact : byteAt (padTo e.payload 52) 1 = a) : s.PoolTaken e a :=
      ⟨⟨hring, hsession, hseq, by rw [hlen]; rfl, hpad⟩, hfeature, hexists, hfields, hact, hbyte.symm.trans hact⟩
    refine ⟨fun hact arr hnone hok hfit => ?_, fun hact arr k hk hok hfit => ?_, fun hact r hnone => ?_, fun hact k hk => ?_⟩
    · refine ⟨poolMade (padTo e.payload 52) arr, rfl, rfl, rfl, rfl, rfl, rfl, next_settle_congr ?_⟩
      rw [(htaken 0 hact).allocPool]
      exact State.poolPages_create _ e.seq _ arr hnone hok hfit
    · have hrun := ((htaken 1 hact).allocPool (.ok arr)).trans (State.poolPages_add (s.ringTaken e) e.seq _ arr hk hok hfit)
      exact ⟨_, next_settle_congr hrun, (State.bulkStart_pool ..).trans ((State.pool_setPool ..).trans (if_pos rfl)),
        fun j hj => (State.bulkStart_pool ..).trans ((State.pool_setPool ..).trans (if_neg hj)), State.bulkStart_conf ..,
        State.bulkStart_tide ..⟩
    · have hpool : (s.ringTaken e).pool (byteAt (padTo e.payload 52) 0) = none := hnone
      refine ⟨fun hbad => next_settle_congr (((htaken 2 hact).allocPool (.ok r)).trans (State.poolAttach_bad e.seq hpool hbad)),
        fun hcrc hmagic hpart hslots => ?_⟩
      have hrun := ((htaken 2 hact).allocPool (.ok r)).trans (State.poolAttach_region e.seq hpool ⟨hcrc, hmagic, hpart, hslots⟩)
      refine ⟨fun hrsv => next_settle_congr (hrun.trans (if_pos ?_)), fun h5 h18 => ?_⟩
      · rcases hrsv with h | h
        · rw [h]; rfl
        · rw [h]; exact Bool.or_true _
      rw [h5, h18, if_neg (by decide)] at hrun
      refine ⟨fun htorn hres => next_settle_congr (hrun.trans ((if_pos htorn).trans (State.attachEnd_done _ _ _ hres))),
        fun htorn hres => next_settle_congr (hrun.trans ((if_pos htorn).trans (State.attachEnd_resumes _ _ _ hres))), fun htorn => ?_⟩
      have hmend := hrun.trans (if_neg htorn)
      exact ⟨_, _, next_settle_congr hmend, rfl, fun x hx i hi v hv => mem_tornLeaves hx hi hv, (State.bulkStart_pool ..).trans hnone,
        State.bulkStart_conf .., State.bulkStart_tide ..⟩
    · refine next_settle_congr ?_
      rw [(htaken 3 hact).allocPool]
      exact State.poolDetach_pool (s.ringTaken e) e.seq hk
  · have hrun := State.releaseEnd_one hsec hj hready
    have hscrub := s.releaseScrub_scrubbed hx
    have hkept {β : Type} (g : State → β) := s.releaseScrub_keeps hx g
    have hreleases : (s.releaseScrub j.part).releases = [j] := (hkept State.releases (fun _ _ _ _ _ => rfl) fun _ _ _ _ _ => rfl).trans hj
    have hparts (i : Nat) : s.releaseEnd.part i = if i = j.part then .disabled else s.part i := by
      rw [hrun, ← hkept (fun t => t.part i) (fun _ _ _ _ _ => rfl) fun _ _ _ _ _ => rfl]
      exact (s.releaseScrub j.part).part_setPart j.part i .disabled
    refine ⟨s.releaseEnd, rfl, (hparts _).trans (if_pos rfl), ?_, ?_, fun n hn => ?_, fun n hn => ?_, fun y hy => ?_,
      fun i hi => (hparts i).trans (if_neg hi), ?_⟩
    · rw [hrun, hreleases]
      exact List.erase_cons_head ..
    · rw [hrun]; exact hscrub.hold
    · rw [hrun]; exact hscrub.inside n hn
    · rw [hrun]; exact hscrub.outside n hn
    · rw [hrun] at hy; exact hscrub.queues y hy
    · rw [hrun, ← hkept (fun t => t.mgmt.queue.length) (fun _ _ _ _ _ => rfl) fun _ _ _ _ _ => rfl]
      exact State.respond_queue_length ..

end Sys2Proof.Machine
